-- ==== Sys2Proof/Word.lean ====
section
/-! DEFINITION. Bytes, words, byte order, bit fields, sparse maps: the plainest data the model is built of.
Byte order follows R4, R5 and R580 of spec/00_scope.md. -/

namespace Sys2Proof

/-- One byte of a frame, a packet or a memory. -/
abbrev Byte := BitVec 8
/-- A 32-bit word (a parse register, a time base half). -/
abbrev Word := BitVec 32

/-- Little-endian value of a byte string (R4). -/
def leVal : List Byte → Nat
  | [] => 0
  | b :: bs => b.toNat + 256 * leVal bs

/-- Big-endian value of a byte string (R8: published standards, CTS, ZSP). -/
def beVal (bs : List Byte) : Nat := leVal bs.reverse

/-- The low `n` bytes of `v`, little-endian (R4). -/
def leBytes : Nat → Nat → List Byte
  | 0, _ => []
  | n + 1, v => BitVec.ofNat 8 v :: leBytes n (v / 256)

/-- The low `n` bytes of `v`, big-endian. -/
def beBytes (n v : Nat) : List Byte := (leBytes n v).reverse

def zeros (n : Nat) : List Byte := List.replicate n 0

/-- `len` bytes of `bs` from `off`. -/
def slice (bs : List Byte) (off len : Nat) : List Byte := (bs.drop off).take len

/-- Little-endian field of `len` bytes at `off`; bytes beyond the end read as 0 (R27: absent appended fields hold
their defaults). -/
def leAt (bs : List Byte) (off len : Nat) : Nat := leVal (slice bs off len)

def beAt (bs : List Byte) (off len : Nat) : Nat := beVal (slice bs off len)

def u8 (v : Nat) : List Byte := leBytes 1 v
def u16 (v : Nat) : List Byte := leBytes 2 v
def u32 (v : Nat) : List Byte := leBytes 4 v
def u64 (v : Nat) : List Byte := leBytes 8 v

/-- Two's complement encoding of an integer in `bits` bits. -/
def twos (bits : Nat) (i : Int) : Nat := (i % (2 ^ bits : Nat)).toNat

/-- Two's complement value of the low `bits` bits of `v`. -/
def signed (bits v : Nat) : Int :=
  let w := v % 2 ^ bits
  if w < 2 ^ (bits - 1) then (w : Int) else (w : Int) - (2 ^ bits : Nat)

def s32 (i : Int) : List Byte := u32 (twos 32 i)
def s64 (i : Int) : List Byte := u64 (twos 64 i)

/-- Saturate an integer to a signed range of `bits` bits. -/
def satS (bits : Nat) (i : Int) : Int :=
  max (-(2 ^ (bits - 1) : Nat)) (min i ((2 ^ (bits - 1) : Nat) - 1))

/-- Bits `[lo + len - 1 : lo]` of `v` (R5). -/
def fld (v lo len : Nat) : Nat := v / 2 ^ lo % 2 ^ len

/-- Bit `i` of `v` as a Boolean. -/
def bit (v i : Nat) : Bool := v / 2 ^ i % 2 == 1

/-- `v` with bits `[lo + len - 1 : lo]` replaced by the low bits of `x`. -/
def setFld (v lo len x : Nat) : Nat :=
  v - fld v lo len * 2 ^ lo + (x % 2 ^ len) * 2 ^ lo

def b2n (b : Bool) : Nat := if b then 1 else 0

/-- Addition that saturates at the top of an unsigned field of `bits` bits. -/
def satAdd (bits a b : Nat) : Nat := min (a + b) (2 ^ bits - 1)

/-- A 24- or 16-bit string of characters, padded with 0x00 to `n` bytes. -/
def ascii (n : Nat) (s : String) : List Byte :=
  let bs := s.toList.map (fun c => BitVec.ofNat 8 c.toNat)
  (bs ++ zeros n).take n

/-- The indices `0 … n-1` whose bit is set in `mask`. -/
def bitsOf (n mask : Nat) : List Nat := (List.range n).filter (fun i => bit mask i)

/-- A mask with the bits of `l` set. -/
def maskOf (l : List Nat) : Nat := l.foldl (fun m i => if bit m i then m else m + 2 ^ i) 0

/-! ### CRC-32C (R21): polynomial 0x1EDC_6F41, reflected, initial value and final XOR all ones. -/

def crcStep (c : BitVec 32) : BitVec 32 :=
  if c.getLsbD 0 then (c >>> 1) ^^^ 0x82F63B78#32 else c >>> 1

def crcByte (c : BitVec 32) (b : Byte) : BitVec 32 :=
  let c0 := c ^^^ b.setWidth 32
  crcStep (crcStep (crcStep (crcStep (crcStep (crcStep (crcStep (crcStep c0)))))))

/-- The running value over a byte string, without initial value or final XOR. -/
def crcRun (c : BitVec 32) (bs : List Byte) : BitVec 32 := bs.foldl crcByte c

def crc32c (bs : List Byte) : Nat := (crcRun 0xFFFFFFFF#32 bs ^^^ 0xFFFFFFFF#32).toNat

/-! ### Sparse maps: lists of pairs in one canonical form (keys strictly rising, no default listed). -/

abbrev SMap (α : Type) := List (Nat × α)

namespace SMap
variable {α : Type}

def get? : SMap α → Nat → Option α
  | [], _ => none
  | (k, v) :: r, i => if k = i then some v else if i < k then none else get? r i

def getD (m : SMap α) (i : Nat) (d : α) : α := (m.get? i).getD d

def put : SMap α → Nat → α → SMap α
  | [], i, x => [(i, x)]
  | (k, v) :: r, i, x =>
    if i < k then (i, x) :: (k, v) :: r
    else if i = k then (i, x) :: r
    else (k, v) :: put r i x

def erase : SMap α → Nat → SMap α
  | [], _ => []
  | (k, v) :: r, i => if i = k then r else if i < k then (k, v) :: r else (k, v) :: erase r i

/-- Store `x` at `i`; the default `d` is never listed. -/
def set [DecidableEq α] (m : SMap α) (d : α) (i : Nat) (x : α) : SMap α :=
  if x = d then m.erase i else m.put i x

def keys (m : SMap α) : List Nat := m.map Prod.fst

/-- The canonical form: keys strictly rising and no entry holding the default. -/
def wf [DecidableEq α] (d : α) : SMap α → Bool
  | [] => true
  | [(_, v)] => decide (v ≠ d)
  | (k, v) :: (k', v') :: r => decide (v ≠ d) && decide (k < k') && wf d ((k', v') :: r)

end SMap

/-- Replace element `i` of a list (no effect beyond its end). -/
def upd {α : Type} (l : List α) (i : Nat) (f : α → α) : List α := l.modify i f

def at? {α : Type} (l : List α) (i : Nat) : Option α := l[i]?

def atD {α : Type} (l : List α) (i : Nat) (d : α) : α := (l[i]?).getD d

end Sys2Proof
end

