-- ==== Sys2Proof/Syntax.lean ====
section
/-! DEFINITION. The commands of the module: one constructor of `Instr` per row of spec/opcode_table.json, and the
data their operands carry (packets, frames, samples). Which operands a row has is the model's choice
(notes/assumptions/2.md). -/

namespace Sys2Proof

/-- Where a Borul packet came from or goes to (R15, R19): a UDP datagram with the port it crossed, its VLAN
(0 untagged), addresses and UDP ports, or an ISO 15765-2 message on one of the two identifier pairs. -/
inductive Source where
  | udp (port vlan : Nat) (v6 : Bool) (srcIp srcPort dstIp dstPort : Nat)
  | isotp (pair : Nat)
  deriving DecidableEq, Repr

/-- A received Borul packet, field by field as Table 02-1 lays it out. The opcode is the command's own; a packet whose
opcode no table of spec/ gives comes under any request's name, with that opcode in `other` (R26). -/
structure Request where
  src : Source
  magic : Nat
  major : Nat
  minor : Nat
  tagByte : Byte
  flags : Byte
  payloadLength : Nat
  status : Nat
  sessionId : Nat
  sequence : Nat
  payload : List Byte
  trailer : List Byte
  other : Option Nat := none
  deriving DecidableEq, Repr

/-- Header word of a CAN frame, or the first bytes of an Ethernet frame (R84, R91). -/
structure FrameHead where
  /-- Format code of Table 04-4; 8 stands for Ethernet. -/
  fmt : Nat
  id : Nat
  len : Nat
  sdt : Nat := 0
  vcid : Nat := 0
  af : Nat := 0
  sec : Bool := false
  brs : Bool := false
  ide : Bool := false
  bytes : List Byte := []
  /-- What the compare unit of lanes A and B will find (R254): 0 agreement, 1 different decisions, 2 different data; a twin
  pair that fails in one lane alone (R125): 3 signpost in A, 4 port mask in A, 5 signpost in B, 6 port mask in B. -/
  lanes : Nat := 0
  deriving DecidableEq, Repr

/-- Why a CAN reception or transmission attempt failed (R317, Table 10-7 order). -/
inductive CanError where
  | stuff | form | ack | bit1 | bit0 | crc
  deriving DecidableEq, Repr

/-- How the reception of a CAN frame ended. `early` is an error before the sixth EOF bit (R258); `dominant` says a
dominant bit followed this receiver's own error flag (the +8 case of ISO 11898-1). -/
inductive CanEnd where
  | good
  | bad (e : CanError) (early dominant : Bool) (bitPos : Nat)
  deriving DecidableEq, Repr

/-- A CAN frame as its controller received it. -/
structure CanRx where
  fmt : Nat
  id : Nat
  /-- For a remote frame: the identifier is extended. -/
  ide : Bool := false
  dlc : Nat := 0
  data : List Byte
  brs : Bool := false
  esi : Bool := false
  sdt : Nat := 0
  vcid : Nat := 0
  af : Nat := 0
  sec : Bool := false
  /-- The management receive ring takes nothing (R208). -/
  ringFull : Bool := false
  ending : CanEnd := .good
  /-- Further raises of the receive error counter by 8: bit errors in this receiver's error or overload flag, and runs of 8
  dominant bits after it (R317). -/
  flagErrors : Nat := 0
  deriving DecidableEq, Repr

/-- An Ethernet frame as its MAC received it: from the destination address to the byte before the FCS. -/
structure EthRx where
  data : List Byte
  fcsOk : Bool := true
  /-- The cut-through source marked the frame bad with a stomped FCS (R245). -/
  stomped : Bool := false
  /-- Fragments of IEEE 802.3br in which it came (R243), none when whole. -/
  fragments : Nat := 0
  /-- The management receive ring takes nothing (R208). -/
  ringFull : Bool := false
  deriving DecidableEq, Repr

/-- What a tile read meets (R195): the tile, and cause 0 CRC, 1 uncorrectable SECDED error, 4 a single-bit error, which is
corrected. Event 0x0703 gives a poisoned tile cause 2. For FRAME_ENQUEUE cause 3 stands for an uncorrectable error in
queue descriptor or link memory, at this address (R538). -/
structure TileFault where
  tile : Nat
  cause : Nat
  deriving DecidableEq, Repr

/-- Memory errors that have come about before CLASSIFY: uncorrectable ones of table entries, each 2^24 × table + index, and
those of tiles, with cause 4 for a single-bit error (R152, R195). -/
structure ReadErrors where
  entries : List Nat := []
  tiles : List TileFault := []
  deriving DecidableEq, Repr

/-- What FRAME_ENQUEUE meets: a tile read that fails, and a management receive ring that takes nothing (R208). -/
structure EnqueueMet where
  fault : Option TileFault := none
  ringFull : Bool := false
  deriving DecidableEq, Repr

/-- A posted write by its target: 0 LIN, 1 power die, 2 journal; the channel or die; and the identifier, switch channel or
field (R290, R299). -/
structure PostedRef where
  target : Nat
  inst : Nat
  id : Nat
  deriving DecidableEq, Repr

/-- Slots that one requester asked of one resource in the period just ended (R216): index as in fabric.allot, and the cycle of
the period from which on they were asked. -/
structure Demand where
  index : Nat
  slots : Nat
  at_ : Nat := 0
  deriving DecidableEq, Repr

/-- A gPTP Sync with its Follow_Up (R375): grandmaster identity, and the master time of the Sync's timestamp point, in
ns. The command stands at the instant of the Sync's receive capture. -/
structure GptpSync where
  port : Nat
  domain : Nat
  gm : Nat
  master : Nat
  /-- cumulativeScaledRateOffset of the Follow_Up, in ppb. -/
  rate : Int := 0
  deriving DecidableEq, Repr

/-- How an attempt of a CAN controller ended (R315): `dataField` says the bit error lay in the data field after a whole
arbitration field (R319); `exempt` names the exceptions of ISO 11898-1 in which the transmit error counter stays; `more`
counts the further raises by 8 of an error or overload flag that followed: bit errors in it, and runs of 8 dominant bits
after it (R317). -/
inductive CanTxEnd where
  | sent (more : Nat := 0)
  | lost
  | failed (e : CanError) (dataField exempt : Bool) (more : Nat := 0)
  deriving DecidableEq, Repr

/-- What a channel's current sense reports (R416, R417): the last on-phase sample in mA, and for how long the on-phase
samples, accumulated in µs, have met the condition. -/
structure ChanSample where
  mA : Nat
  us : Nat := 0
  deriving DecidableEq, Repr

/-- What the samples of a discrete input, one every ms, show (R557, R558): the voltage at the pin in mV, and for how many
consecutive samples it has stood at that level. -/
structure Level where
  mv : Int
  samples : Nat
  deriving DecidableEq, Repr

/-- A pulse that ends at a frequency input (R559): the input, whether its end is a rising edge, and how long it lasted. -/
structure Pulse where
  input : Nat
  rising : Bool := true
  us : Nat := 1000000
  deriving DecidableEq, Repr

/-- What the supply monitor has sampled (R476): the mean over 10 ms and the last sample in mV, and for how long in µs every
sample has met the condition of the transition. -/
structure VbatSamples where
  mean : Nat
  sample : Nat
  us : Nat
  deriving DecidableEq, Repr

/-- A latched wake source (Table 13-1): code, instance (255 none), and for code 2 the frame the transceiver decoded;
`fd` marks a frame with FDF set. -/
structure WakeSource where
  code : Nat
  inst : Nat := 255
  fd : Bool := false
  ide : Bool := false
  id : Nat := 0
  dlc : Nat := 0
  data : List (BitVec 8) := []
  deriving DecidableEq, Repr

/-- How a LIN response ended (R329). -/
inductive LinEnd where
  | good | checksum | framing | bit
  deriving DecidableEq, Repr


/-- How a frame left an Ethernet transmitter (R245, R246): whole, stopped by a failed tile read, or by an underrun. -/
inductive EthTxEnd where
  | good
  | tile (t : TileFault)
  | underrun
  deriving DecidableEq, Repr

/-- What MKA has agreed with the peers of a port since its last MKPDU (R351): live peers, the elected key server, and a
newly distributed SAK with its association number and the peers' SCIs. -/
structure MkaReport where
  port : Nat
  peers : Nat
  keyServer : Bool := false
  an : Nat := 0
  sak : Option (List Byte) := none
  scis : List Nat := []
  deriving DecidableEq, Repr

/-- What the hardware finds during a bring-up (R495-R501, R536, R466): four samples of POS_A and POS_B in ‰, locked
clocks, fuse status, whether MRAM responds, key records, footpath copies and
counters that fail their check, a disagreement of the
journal (first sequence, cause), the measured hold-up in µs, whether the chosen firmware image reports itself running
before the deadline, and the times to FOOTPATH and to RUN in µs. -/
structure BringUp where
  posA : List Nat
  posB : List Nat
  clocks : Nat := 0x3F
  fuses : Nat := 0xF
  mramOk : Bool := true
  badKeys : List Nat := []
  /-- Key records that fail their authentication at their next use only (R443). -/
  wornKeys : List Nat := []
  badCopies : List Nat := []
  badCounters : List Nat := []
  journal : Option (Nat × Nat) := none
  holdup : Nat := 100
  starts : Bool := true
  footUs : Nat := 3000
  runUs : Nat := 150000
  deriving DecidableEq, Repr


/-- The commands of the module, in the order of spec/opcode_table.json. -/
inductive Instr where
  /-- SESSION_HELLO (R36). -/
  | sessionHello (r : Request)
  /-- SESSION_AUTH (R34). -/
  | sessionAuth (r : Request)
  /-- AUTH_LOCKOUT_END (R35). -/
  | authLockoutEnd (role : Nat)
  /-- SESSION_PING (R53). -/
  | sessionPing (r : Request)
  /-- SESSION_CLOSE (R38). -/
  | sessionClose (r : Request)
  /-- SESSION_LIST (R53). -/
  | sessionList (r : Request)
  /-- SESSION_EVICT (R53). -/
  | sessionEvict (r : Request)
  /-- SESSION_REKEY (R53). -/
  | sessionRekey (r : Request)
  /-- AUTH_WINDOW_EXPIRY (R34). -/
  | authWindowExpiry (slot : Nat)
  /-- SESSION_IDLE_TIMEOUT (R38). -/
  | sessionIdleTimeout (slot : Nat)
  /-- IP_REASSEMBLY_TIMEOUT (R17). -/
  | ipReassemblyTimeout (k : Nat)
  /-- ISOTP_TIMEOUT (R18). -/
  | isotpTimeout (k : Nat)
  /-- FRAGMENT_TIMEOUT (R44). -/
  | fragmentTimeout (slot tag : Nat)
  /-- COMMAND_COMPLETE (R46). -/
  | commandComplete (sid tag : Nat)
  /-- EVENT_DELIVERY (R52). -/
  | eventDelivery (slot : Nat)
  /-- CRITICAL_RESEND (R51). -/
  | criticalResend
  /-- EVENT_SUBSCRIBE (R51). -/
  | eventSubscribe (r : Request)
  /-- EVENT_ACK (R48). -/
  | eventAck (r : Request)
  /-- EVENT_STATUS (R53). -/
  | eventStatus (r : Request)
  /-- EVENT_READ (R53). -/
  | eventRead (r : Request)
  /-- INFO_IDENTITY (R74). -/
  | infoIdentity (r : Request)
  /-- INFO_VERSIONS (R75). -/
  | infoVersions (r : Request)
  /-- INFO_STATE (R74). -/
  | infoState (r : Request)
  /-- INFO_BLOCKS (R74). -/
  | infoBlocks (r : Request)
  /-- PARAM_READ (R76). -/
  | paramRead (r : Request)
  /-- PARAM_WRITE (R64). -/
  | paramWrite (r : Request)
  /-- PARSE_ENTRY_DRAIN_COMPLETE (R99). -/
  | parseEntryDrainComplete (port : Nat)
  /-- PARAM_HOLD (R68). -/
  | paramHold (r : Request)
  /-- HOLD_DRAIN_COMPLETE (R72). -/
  | holdDrainComplete (block unit : Nat)
  /-- PARAM_RELEASE (R71). -/
  | paramRelease (r : Request)
  /-- HOLD_EXPIRY (R71). -/
  | holdExpiry (block unit : Nat)
  /-- PARAM_DESCRIBE (R74). -/
  | paramDescribe (r : Request)
  /-- PARAM_CHANGED (R74). -/
  | paramChanged (r : Request)
  /-- TWIN_PAIR_REWRITE (R537). -/
  | twinPairRewrite (id : Nat)
  /-- ETH_FRAME_RECEIVE (R340). -/
  | ethFrameReceive (port : Nat) (f : EthRx)
  /-- CAN_FRAME_RECEIVE (R84). -/
  | canFrameReceive (ch : Nat) (f : CanRx)
  /-- PRECLASSIFY (R91). -/
  | preclassify (port : Nat) (h : FrameHead)
  /-- FASTLANE_CAN_SOF (R256). -/
  | fastlaneCanSof (ch : Nat)
  /-- FASTLANE_ETH_START (R261). -/
  | fastlaneEthStart (port : Nat)
  /-- PARSE_ACCEPT (R94). -/
  | parseAccept
  /-- NOP (R102). -/
  | nop (ctx : Nat)
  /-- JMP (R102). -/
  | jmp (ctx : Nat)
  /-- BZ (R102). -/
  | bz (ctx : Nat)
  /-- BNZ (R102). -/
  | bnz (ctx : Nat)
  /-- BC (R102). -/
  | bc (ctx : Nat)
  /-- BNC (R102). -/
  | bnc (ctx : Nat)
  /-- BS (R102). -/
  | bs (ctx : Nat)
  /-- CALL (R102). -/
  | call (ctx : Nat)
  /-- RET (R102). -/
  | ret (ctx : Nat)
  /-- DONE (R102). -/
  | parseDone (ctx : Nat)
  /-- DROP (R102). -/
  | dropFrame (ctx : Nat)
  /-- JTAB (R102). -/
  | jtab (ctx : Nat)
  /-- LDB (R103). -/
  | ldb (ctx : Nat)
  /-- LDH (R103). -/
  | ldh (ctx : Nat)
  /-- LDW (R103). -/
  | ldw (ctx : Nat)
  /-- LDHL (R103). -/
  | ldhl (ctx : Nat)
  /-- LDWL (R103). -/
  | ldwl (ctx : Nat)
  /-- LDM (R104). -/
  | ldm (ctx : Nat)
  /-- ADVI (R102). -/
  | advi (ctx : Nat)
  /-- ADVR (R102). -/
  | advr (ctx : Nat)
  /-- SETC (R102). -/
  | setc (ctx : Nat)
  /-- GETC (R102). -/
  | getc (ctx : Nat)
  /-- MOVI (R102). -/
  | movi (ctx : Nat)
  /-- MOVHI (R102). -/
  | movhi (ctx : Nat)
  /-- MOV (R102). -/
  | mov (ctx : Nat)
  /-- ADD (R103). -/
  | add (ctx : Nat)
  /-- ADDI (R103). -/
  | addi (ctx : Nat)
  /-- SUB (R103). -/
  | sub (ctx : Nat)
  /-- AND (R103). -/
  | andR (ctx : Nat)
  /-- ANDI (R103). -/
  | andi (ctx : Nat)
  /-- OR (R103). -/
  | orR (ctx : Nat)
  /-- ORI (R103). -/
  | ori (ctx : Nat)
  /-- XOR (R103). -/
  | xor (ctx : Nat)
  /-- SHLI (R103). -/
  | shli (ctx : Nat)
  /-- SHRI (R103). -/
  | shri (ctx : Nat)
  /-- EXT (R102). -/
  | ext (ctx : Nat)
  /-- CMP (R103). -/
  | cmp (ctx : Nat)
  /-- CMPI (R103). -/
  | cmpi (ctx : Nat)
  /-- KEYW (R102). -/
  | keyw (ctx : Nat)
  /-- KEYI (R102). -/
  | keyi (ctx : Nat)
  /-- HASH (R102). -/
  | hash (ctx : Nat)
  /-- NAME (R110). -/
  | nameRef (ctx : Nat)
  /-- NAME_WAIT_RESUME (R110). -/
  | nameWaitResume (ctx : Nat)
  /-- TPSUB (R111). -/
  | tpsub (ctx : Nat)
  /-- J1939_TP_TIMEOUT (R115). -/
  | j1939TpTimeout (k : Nat)
  /-- ACSUB (R108). -/
  | acsub (ctx : Nat)
  /-- MARK (R102). -/
  | mark (ctx : Nat)
  /-- PARSE_OVERRUN (R97). -/
  | parseOverrun (ctx : Nat)
  /-- CLASSIFY (R126). -/
  | classify (errors : ReadErrors)
  /-- LEARN_INSERT (R138). -/
  | learnInsert
  /-- AGE_SWEEP (R140). -/
  | ageSweep
  /-- TABLE_INFO (R154). -/
  | tableInfo (r : Request)
  /-- TABLE_READ (R155). -/
  | tableRead (r : Request)
  /-- TABLE_WRITE (R156). -/
  | tableWrite (r : Request)
  /-- TABLE_INSERT (R145). -/
  | tableInsert (r : Request)
  /-- TABLE_DELETE (R154). -/
  | tableDelete (r : Request)
  /-- TABLE_SEARCH (R154). -/
  | tableSearch (r : Request)
  /-- TABLE_COMMIT (R149). -/
  | tableCommit (r : Request)
  /-- COMMIT_APPLY (R149). -/
  | commitApply
  /-- TABLE_FLUSH (R154). -/
  | tableFlush (r : Request)
  /-- TABLE_DISCARD (R150). -/
  | tableDiscard (r : Request)
  /-- WAYPOINT_EVALUATE (R165). -/
  | waypointEvaluate
  /-- PROFILE_SWEEP (R168). -/
  | profileSweep
  /-- LAYBY_EXPIRY (R182). -/
  | laybyExpiry (id : Nat)
  /-- FLOW_READ (R186). -/
  | flowRead (r : Request)
  /-- FLOW_LEARN (R167). -/
  | flowLearn (r : Request)
  /-- FLOW_WATCH (R168). -/
  | flowWatch (r : Request)
  /-- FLOW_FREEZE (R185). -/
  | flowFreeze (r : Request)
  /-- FLOW_QUARANTINE_CLEAR (R176). -/
  | flowQuarantineClear (r : Request)
  /-- FLOW_LAYBY_LIST (R183). -/
  | flowLaybyList (r : Request)
  /-- FLOW_LAYBY_READ (R183). -/
  | flowLaybyRead (r : Request)
  /-- FLOW_LAYBY_DISPOSE (R184). -/
  | flowLaybyDispose (r : Request)
  /-- FLOW_KINDS_ACK (R185). -/
  | flowKindsAck (r : Request)
  /-- FRAME_ENQUEUE (R204). -/
  | frameEnqueue (t : EnqueueMet)
  /-- ENQUEUE_HOLD_EXPIRY (R206). -/
  | enqueueHoldExpiry
  /-- BP_CEILING (R209). -/
  | bpCeiling (port queue : Nat)
  /-- DROP_OLDEST_REMOVE (R210). -/
  | dropOldestRemove (port queue : Nat)
  /-- ALLOTMENT_MILESTONE (R217). -/
  | allotmentMilestone (d : List Demand)
  /-- CLOSURE_WATCHDOG (R225). -/
  | closureWatchdog (resource requester : Nat) (addrs : List Nat)
  /-- TILE_AUDIT (R538). -/
  | tileAudit (lost : Nat)
  /-- ETH_TX_START (R235). -/
  | ethTxStart (port : Nat) (t : Option TileFault)
  /-- ETH_TX_COMPLETE (R204). -/
  | ethTxComplete (port : Nat) (e : EthTxEnd)
  /-- GATE_ENTRY_CHANGE (R237). -/
  | gateEntryChange (port : Nat)
  /-- GATE_LIST_ACTIVATED (R239). -/
  | gateListActivated (port : Nat)
  /-- PAUSE_QUANTA_EXPIRY (R343). -/
  | pauseQuantaExpiry (port : Nat)
  /-- PAUSE_RESEND (R342). -/
  | pauseResend (port : Nat)
  /-- CAN_OBJECT_LOAD (R249). -/
  | canObjectLoad (ch q : Nat) (t : Option TileFault)
  /-- CAN_TX_ATTEMPT_START (R315). -/
  | canTxAttemptStart (ch : Nat)
  /-- CAN_TX_ATTEMPT_END (R315). -/
  | canTxAttemptEnd (ch : Nat) (e : CanTxEnd)
  /-- COLLISION_HOLD_EXPIRY (R320). -/
  | collisionHoldExpiry (ch n : Nat)
  /-- BUS_OFF_RECOVERED (R318). -/
  | busOffRecovered (ch : Nat)
  /-- RATE_DETECT_TIMEOUT (R309). -/
  | rateDetectTimeout (ch : Nat)
  /-- TRAILER_LINE (R325). -/
  | trailerLine (ch lines : Nat)
  /-- OBJECT_STATUS (R331). -/
  | objectStatus (r : Request)
  /-- OBJECT_CONFIG (R311). -/
  | objectConfig (r : Request)
  /-- OBJECT_READ (R313). -/
  | objectRead (r : Request)
  /-- OBJECT_ACK (R313). -/
  | objectAck (r : Request)
  /-- OBJECT_SEND (R314). -/
  | objectSend (r : Request)
  /-- OBJECT_CANCEL (R315). -/
  | objectCancel (r : Request)
  /-- OBJECT_RETRY (R320). -/
  | objectRetry (r : Request)
  /-- OBJECT_RECOVER (R318). -/
  | objectRecover (r : Request)
  /-- OBJECT_RATE_DETECT (R309). -/
  | objectRateDetect (r : Request)
  /-- OBJECT_COLLISIONS (R321). -/
  | objectCollisions (r : Request)
  /-- OBJECT_LIN_SCHEDULE_WRITE (R327). -/
  | objectLinScheduleWrite (r : Request)
  /-- OBJECT_LIN_SCHEDULE_SELECT (R330). -/
  | objectLinScheduleSelect (r : Request)
  /-- OBJECT_LIN_BUFFER_READ (R331). -/
  | objectLinBufferRead (r : Request)
  /-- ADDRESS_CLAIM_CONFIRM (R322). -/
  | addressClaimConfirm (ch : Nat)
  /-- CANNOT_CLAIM_SEND (R323). -/
  | cannotClaimSend (ch : Nat)
  /-- LIN_SLOT_START (R328). -/
  | linSlotStart (n : Nat)
  /-- LIN_RESPONSE_RECEIVE (R329). -/
  | linResponseReceive (n : Nat) (data : List Byte) (e : LinEnd)
  /-- LIN_RESPONSE_TIMEOUT (R329). -/
  | linResponseTimeout (n : Nat)
  /-- JUNCTION_PROCESS (R274). -/
  | junctionProcess (t : Option TileFault) (bad : List Nat)
  /-- PDU_TIMEOUT (R284). -/
  | pduTimeout (entry : Nat)
  /-- TEMPLATE_GRID_SEND (R287). -/
  | templateGridSend (t : Nat)
  /-- TEMPLATE_DEFERRED_SEND (R288). -/
  | templateDeferredSend (t : Nat)
  /-- TUNNEL_FLUSH (R292). -/
  | tunnelFlush (k : Nat)
  /-- POSTED_WRITE_FAIL (R290). -/
  | postedWriteFail (p : PostedRef)
  /-- JUNCTION_STATUS (R296). -/
  | junctionStatus (r : Request)
  /-- JUNCTION_MAP_STATUS (R296). -/
  | junctionMapStatus (r : Request)
  /-- JUNCTION_TEMPLATE_READ (R296). -/
  | junctionTemplateRead (r : Request)
  /-- JUNCTION_SIGNAL_READ (R296). -/
  | junctionSignalRead (r : Request)
  /-- JUNCTION_SIGNAL_WRITE (R296). -/
  | junctionSignalWrite (r : Request)
  /-- JUNCTION_TEMPLATE_SEND (R296). -/
  | junctionTemplateSend (r : Request)
  /-- JUNCTION_TEMPLATE_RESTORE (R296). -/
  | junctionTemplateRestore (r : Request)
  /-- JUNCTION_GROUP_READ (R296). -/
  | junctionGroupRead (r : Request)
  /-- LINK_CHANGE (R338). -/
  | linkChange (port : Nat) (up : Bool) (rate : Nat) (master : Bool) (sqi : Nat)
  /-- PLCA_BEACON_LOSS (R345). -/
  | plcaBeaconLoss (port : Nat) (present : Bool)
  /-- MKA_LIFE_TIMEOUT (R352). -/
  | mkaLifeTimeout (port : Nat)
  /-- TC10_SLEEP_REQUEST (R353). -/
  | tc10SleepRequest (port : Nat)
  /-- TC10_WAKE (R353). -/
  | tc10Wake (port ticks : Nat)
  /-- DOIP_ACTIVATION_CHANGE (R355). -/
  | doipActivationChange (x : Level)
  /-- DOIP_DEACTIVATION (R355). -/
  | doipDeactivation
  /-- VEHICLE_ANNOUNCEMENT (R355). -/
  | vehicleAnnouncement
  /-- VEHICLE_IDENTIFICATION_REQUEST (R356). -/
  | vehicleIdentificationRequest (type : Nat) (payload : List Byte)
  /-- ENTITY_STATUS_REQUEST (R356). -/
  | entityStatusRequest
  /-- POWER_MODE_REQUEST (R356). -/
  | powerModeRequest
  /-- ALIVE_CHECK_REQUEST (R356). -/
  | aliveCheckRequest (conn : Nat)
  /-- ROUTING_ACTIVATION_REQUEST (R356). -/
  | routingActivationRequest (conn sa type : Nat)
  /-- DIAGNOSTIC_MESSAGE (R357). -/
  | diagnosticMessage (conn sa ta : Nat) (data : List Byte)
  /-- DOIP_INACTIVITY_TIMEOUT (R356). -/
  | doipInactivityTimeout
  /-- DOIP_CONNECTION_CLOSE (R356). -/
  | doipConnectionClose (conn : Nat)
  /-- MILESTONE_WRAP (R363). -/
  | milestoneWrap (tb : Nat)
  /-- SYNC_RECEIVE (R377). -/
  | syncReceive (g : GptpSync)
  /-- GPTP_SYNC_SEND (R376). -/
  | gptpSyncSend
  /-- GPTP_PDELAY_EXCHANGE (R374). -/
  | gptpPdelayExchange (port : Nat) (answer : Option (Nat × Int))
  /-- SYNC_RECEIPT_TIMEOUT (R379). -/
  | syncReceiptTimeout (tb : Nat)
  /-- HOLDOVER_LIMIT (R380). -/
  | holdoverLimit (tb : Nat)
  /-- TB3_CHECKPOINT (R372). -/
  | tb3Checkpoint
  /-- CTS_SYNC_SEND (R382). -/
  | ctsSyncSend (ch : Nat)
  /-- CTS_FUP_SEND (R382). -/
  | ctsFupSend (ch : Nat)
  /-- CTS_SYNC_CANCEL (R382). -/
  | ctsSyncCancel (ch : Nat)
  /-- CTS_PAIR_RECEIVE (R383). -/
  | ctsPairReceive
  /-- CTS_FUP_TIMEOUT (R383). -/
  | ctsFupTimeout
  /-- TIME_READ (R366). -/
  | timeRead (r : Request)
  /-- TIME_ADJUST (R385). -/
  | timeAdjust (r : Request)
  /-- TIME_SET_RATE (R385). -/
  | timeSetRate (r : Request)
  /-- TIME_TB3_ADVANCE (R372). -/
  | timeTb3Advance (r : Request)
  /-- TIME_PORT_STATUS (R385). -/
  | timePortStatus (r : Request)
  /-- WAKE_SOURCE_LATCH (R389). -/
  | wakeSourceLatch (l : List WakeSource) (ticks : Nat)
  /-- NM_TIMEOUT (R395). -/
  | nmTimeout (port node : Nat)
  /-- MIN_AWAKE_EXPIRY (R395). -/
  | minAwakeExpiry (group : Nat)
  /-- KEEP_AWAKE_EXPIRY (R395). -/
  | keepAwakeExpiry
  /-- NM_SEND (R396). -/
  | nmSend (group : Nat)
  /-- LIN_WAKE_START (R397). -/
  | linWakeStart (n : Nat)
  /-- SLEEP_PREP_ENTRY (R398). -/
  | sleepPrepEntry
  /-- SLEEP_COMMIT (R399). -/
  | sleepCommit
  /-- SAFE_SLEEP (R399). -/
  | safeSleep
  /-- FALSE_WAKE (R400). -/
  | falseWake
  /-- LEDGER_ACCRUE (R401). -/
  | ledgerAccrue
  /-- SLEEP_STATUS (R403). -/
  | sleepStatus (r : Request)
  /-- SLEEP_KEEP_AWAKE (R403). -/
  | sleepKeepAwake (r : Request)
  /-- SLEEP_WAKE_RECORDS (R403). -/
  | sleepWakeRecords (r : Request)
  /-- SLEEP_FILTER_WRITE (R403). -/
  | sleepFilterWrite (r : Request)
  /-- SLEEP_FILTER_READ (R403). -/
  | sleepFilterRead (r : Request)
  /-- SLEEP_LEDGER_READ (R403). -/
  | sleepLedgerRead (r : Request)
  /-- SLEEP_LEDGER_CLEAR (R401). -/
  | sleepLedgerClear (r : Request)
  /-- HEARTBEAT_FRAME (R410). -/
  | heartbeatFrame (die : Nat) (bad : Option (List Nat))
  /-- HEARTBEAT_ACK (R426). -/
  | heartbeatAck (die : Nat)
  /-- HEARTBEAT_TIMEOUT (R421). -/
  | heartbeatTimeout (die : Nat)
  /-- INRUSH_WINDOW_END (R415). -/
  | inrushWindowEnd (ch : Nat)
  /-- FAST_TRIP (R416). -/
  | fastTrip (ch : Nat) (current : ChanSample) (temp : Int)
  /-- OVERLOAD_TRIP (R417). -/
  | overloadTrip (ch : Nat) (current : ChanSample) (temp : Int)
  /-- THERMAL_SHUTDOWN (R418). -/
  | thermalShutdown (ch current : Nat) (temp : Int)
  /-- SYMPATHETIC_RETRY (R418). -/
  | sympatheticRetry (ch : Nat)
  /-- CHANNEL_RETRY (R419). -/
  | channelRetry (ch : Nat)
  /-- TRIP_COUNT_RESET (R419). -/
  | tripCountReset (ch : Nat)
  /-- OPEN_LOAD (R417). -/
  | openLoad (ch : Nat) (current : ChanSample)
  /-- SUPPLY_INHIBIT_RELEASE (R423). -/
  | supplyInhibitRelease (die : Nat)
  /-- CHANNEL_STATUS (R425). -/
  | channelStatus (r : Request)
  /-- CHANNEL_SET (R426). -/
  | channelSet (r : Request)
  /-- CHANNEL_CLEAR (R425). -/
  | channelClear (r : Request)
  /-- CHANNEL_ALL_OFF (R425). -/
  | channelAllOff (r : Request)
  /-- CHANNEL_TRIP_LOG (R427). -/
  | channelTripLog (r : Request)
  /-- KEY_STATUS (R452). -/
  | keyStatus (r : Request)
  /-- KEY_UPDATE (R439). -/
  | keyUpdate (r : Request)
  /-- KEY_CERT_READ (R452). -/
  | keyCertRead (r : Request)
  /-- KEY_ATTEST (R452). -/
  | keyAttest (r : Request)
  /-- ORPHAN_SWEEP (R437). -/
  | orphanSweep
  /-- ZSP_VERIFY (R445). -/
  | zspVerify
  /-- ZSP_SIGN (R447). -/
  | zspSign
  /-- ZSP_COUNTER_FRAME (R446). -/
  | zspCounterFrame (ch : Nat) (f : CanRx)
  /-- ZSP_COUNTER_SEND (R446). -/
  | zspCounterSend (flow : Nat)
  /-- FREQ_EDGE (R559). -/
  | freqEdge (p : Pulse)
  /-- JOURNAL_SAMPLE (R457). -/
  | journalSample
  /-- MINUTE_RECORD (R458). -/
  | minuteRecord
  /-- JOURNAL_STATUS (R471). -/
  | journalStatus (r : Request)
  /-- JOURNAL_READ (R471). -/
  | journalRead (r : Request)
  /-- JOURNAL_GNSS (R456). -/
  | journalGnss (r : Request)
  /-- JOURNAL_ANNOTATE (R463). -/
  | journalAnnotate (r : Request)
  /-- JOURNAL_SEAL_NOW (R465). -/
  | journalSealNow (r : Request)
  /-- SUPPLY_VALID (R476). -/
  | supplyValid (deep : Bool) (mv ticks : Nat)
  /-- SUPPLY_RANGE_CHANGE (R476). -/
  | supplyRangeChange (range : Nat) (x : VbatSamples)
  /-- VBAT_WARNING (R491). -/
  | vbatWarning (mv : Nat)
  /-- BROWN_OUT (R480). -/
  | brownOut
  /-- GROUND_LOSS (R483). -/
  | groundLoss (offset : Int)
  /-- THERMAL_SHED (R488). -/
  | thermalShed (temp : Int)
  /-- DIE_OVERTEMP (R488). -/
  | dieOvertemp (temp : Int)
  /-- BASE_PLATE_WARNING (R491). -/
  | basePlateWarning (temp : Int)
  /-- CHANNEL_POWER_LIMIT (R487). -/
  | channelPowerLimit (mw : Nat)
  /-- BRING_UP (R495). -/
  | bringUp (b : BringUp)
  /-- BRING_UP_DEADLINE (R510). -/
  | bringUpDeadline (starts : Bool)
  /-- SEQUENCER_WATCHDOG (R510). -/
  | sequencerWatchdog
  /-- MGMT_WATCHDOG_EXPIRY (R510). -/
  | mgmtWatchdogExpiry
  /-- LOCKSTEP_FAULT (R510). -/
  | lockstepFault
  /-- MGMT_MEMORY_ERROR (R536). -/
  | mgmtMemoryError (correctable : Bool) (addr : Nat)
  /-- FIRMWARE_RUNNING (R505). -/
  | firmwareRunning
  /-- UNMANAGED_LIMIT (R508). -/
  | unmanagedLimit
  /-- MRAM_TIMEOUT (R539). -/
  | mramTimeout
  /-- ROUTEBOOK_STATUS (R527). -/
  | routebookStatus (r : Request)
  /-- ROUTEBOOK_WRITE (R526). -/
  | routebookWrite (r : Request)
  /-- ROUTEBOOK_VERIFY (R523). -/
  | routebookVerify (r : Request)
  /-- ROUTEBOOK_ACTIVATE (R524). -/
  | routebookActivate (r : Request)
  /-- ROUTEBOOK_HEADER_READ (R527). -/
  | routebookHeaderRead (r : Request)
  /-- UPDATE_STATUS (R527). -/
  | updateStatus (r : Request)
  /-- UPDATE_BEGIN (R515). -/
  | updateBegin (r : Request)
  /-- UPDATE_CHUNK (R516). -/
  | updateChunk (r : Request)
  /-- UPDATE_FINISH (R517). -/
  | updateFinish (r : Request)
  /-- UPDATE_ACTIVATE (R519). -/
  | updateActivate (r : Request)
  /-- UPDATE_CONFIRM (R521). -/
  | updateConfirm (r : Request)
  /-- UPDATE_ABORT (R527). -/
  | updateAbort (r : Request)
  /-- SELF_CONFIRM (R521). -/
  | selfConfirm
  /-- TRIAL_WINDOW_EXPIRY (R522). -/
  | trialWindowExpiry
  /-- COUNTER_READ (R535). -/
  | counterRead (r : Request)
  /-- COUNTER_CLEAR (R531). -/
  | counterClear (r : Request)
  /-- COUNTER_DESCRIBE (R535). -/
  | counterDescribe (r : Request)
  /-- TEST_STATUS (R545). -/
  | testStatus (r : Request)
  /-- TEST_RESTART (R545). -/
  | testRestart (r : Request)
  /-- TEST_FULL_RESET (R545). -/
  | testFullReset (r : Request)
  /-- TEST_SAFE_EXIT (R545). -/
  | testSafeExit (r : Request)
  /-- TEST_INJECT (R546). -/
  | testInject (r : Request)
  /-- DISCRETE_INPUT_CHANGE (R558). -/
  | discreteInputChange (n : Nat) (x : Level)
  /-- SENSOR_SUPPLY_TRIP (R561). -/
  | sensorSupplyTrip (battery : Bool) (mv : Nat)
  /-- SENSOR_SUPPLY_RETRY (R561). -/
  | sensorSupplyRetry (battery : Bool) (mv : Nat)
  /-- PREEMPTION_VERIFICATION (R243). -/
  | preemptionVerification (port status : Nat)
  /-- MKA_HELLO (R351). -/
  | mkaHello (l : List MkaReport)
  /-- TIME_SLEW_END (R385). -/
  | timeSlewEnd (tb : Nat)
  /-- TIME_BASE_PARITY_ERROR (R538). -/
  | timeBaseParityError (tb : Nat)
  /-- OPEN_LOAD_CLEAR (R417). -/
  | openLoadClear (ch current : Nat)
  /-- PWM_PERIOD_START (R411). -/
  | pwmPeriodStart (ch : Nat)
  /-- ANALOGUE_INPUT_SAMPLE (R560). -/
  | analogueInputSample (n : Nat) (mv : Int)
  /-- ISOTP_STMIN_EXPIRY (R18). -/
  | isotpStminExpiry (k : Nat)
  deriving DecidableEq, Repr

end Sys2Proof
end

