-- ==== Sys2Proof/Decode.lean ====
section
/-! DEFINITION. The commands of the module arrive as packets, frames and events, not as words: no row of
spec/opcode_table.json gives bits, so no word spells a command. -/

namespace Sys2Proof

/-- The command that a word of the table spells: none, for the table gives no row bits. -/
def decodeTableWord (_nbits _w : Nat) : Option Instr := none

end Sys2Proof
end

