-- ==== Sys2Proof/Config.lean ====
section
/-! DEFINITION. What one unit or one run fixes and spec/ does not: free values and the primitives of published
standards, each without a body, so that every claim holds whatever they are. -/

namespace Sys2Proof.Config

/-- A value spec/ leaves free, by the number of draws made so far (State's field `fresh`); see
notes/assumptions/5.md. -/
opaque freeValue : Nat → Nat

/-- Random bytes of the module: nonces, session identifiers, delays (R33, R37, R323), by draw. -/
opaque random : Nat → BitVec 128

/-- AES-CMAC of NIST SP 800-38B: key bytes, message. -/
opaque aesCmac : List Byte → List Byte → BitVec 128

/-- SHA-256. -/
opaque sha256 : List Byte → BitVec 256

/-- ECDSA P-256 signature (r, s) under a private key. -/
opaque ecdsaSign : List Byte → List Byte → BitVec 512

/-- ECDSA P-256 verification: public key, message, signature. -/
opaque ecdsaVerify : List Byte → List Byte → List Byte → Bool

/-- A key record encrypted and authenticated under the storage key: key, record (R440); spec/ does not give the form. -/
opaque recordSeal : List Byte → List Byte → List Byte

/-- AES key unwrap of RFC 3394: key-encryption key, wrapped bytes; none when the integrity check fails. -/
opaque keyUnwrap : List Byte → List Byte → Option (List Byte)

/-- What the parse engines read at a word address whose entry of table 0x08 is poisoned, by the address and the stored
entry: its content cannot be trusted, and spec/ names no result (R127, R152). -/
opaque poisonedWord : Nat → Nat → BitVec 32

/-- The SECDED check bits of a 64-bit word of a tile (R194). -/
opaque secded : BitVec 64 → BitVec 8

/-- AES-GCM of IEEE 802.1AE: cipher suite as macsec_cipher codes it (GCM-AES-128, -256, -XPN-128, -XPN-256, which form
their nonces differently), key, SCI, packet number, associated data, plain text. The result carries the ICV. -/
opaque gcmSeal : Nat → List Byte → Nat → Nat → List Byte → List Byte → List Byte

/-- AES-GCM opening: cipher suite, key, SCI, packet number, associated data, cipher text with ICV. -/
opaque gcmOpen : Nat → List Byte → Nat → Nat → List Byte → List Byte → Option (List Byte)

/-- Whether 64 bytes are a point of the P-256 curve (x, then y). -/
opaque onCurve : List Byte → Bool

/-! What a route book's content holds, by its format and its bytes. The layout is fixed by the format and produced by
the route compiler (R523); spec/ does not give it. -/

/-- Parameters it sets: identifier and stored value. -/
opaque bookParams : Nat → List Byte → List (Nat × Nat)

/-- Table entries it sets: table, index and entry bytes as a little-endian number. -/
opaque bookTables : Nat → List Byte → List (Nat × Nat × Nat)

/-- Message objects it configures, as OBJECT_CONFIG payloads. -/
opaque bookObjects : Nat → List Byte → List (List Byte)

/-- LIN schedule tables it loads, as OBJECT_LIN_SCHEDULE_WRITE payloads. -/
opaque bookSchedules : Nat → List Byte → List (List Byte)

/-- Wake filters it loads, as SLEEP_FILTER_WRITE payloads. -/
opaque bookFilters : Nat → List Byte → List (List Byte)

/-- Its footpath table: bytes 64 to 8,703 of a copy (Tables 18-5 and 18-6). -/
opaque bookFoot : Nat → List Byte → List Byte

end Sys2Proof.Config
end

