-- ==== Sys2Proof/Machine/State.lean ====
section
/-! DEFINITION. The whole state of the module as plain data: what spec/ gives it, chapter by chapter, and the
model's own fields (`out`, `fresh`, the queue of commands, and the fields INVENTORY.md marks as the model's). -/

namespace Sys2Proof.Machine

/-- Why a command stops. -/
inductive Fault where
  /-- Raised by any command whose operand names a unit the module does not have (a port, channel, context, slot or
  table number outside its range). Safe: the command has no effect and no claim can rest on one. -/
  | noSuchUnit
  deriving DecidableEq, Repr

/-- Why a command is turned away. -/
inductive Refusal where
  /-- Raised by the dispatch arm of a command that has no meaning yet. Safe: nothing happens. -/
  | notModelled (mnemonic : String)
  deriving DecidableEq, Repr

/-! ### Time base unit (spec/12, R362-R365) -/

structure TimeBase where
  m : BitVec 32 := 0
  n : BitVec 32 := 0
  frac : BitVec 32 := 0
  incr : BitVec 40 := 0x0400000000
  deriving DecidableEq, Repr

structure TimeUnit where
  tb0 : TimeBase := {}
  tb1 : TimeBase := {}
  tb2 : TimeBase := {}
  tb3 : TimeBase := {}
  deriving DecidableEq, Repr

/-! ### Event queue (R48-R51) -/

structure Event where
  code : Nat
  severity : Nat
  timeBase : Nat
  timestamp : Nat
  milestoneLow : Nat
  rep : Nat := 1
  seq : Nat
  detail : List Byte
  deriving DecidableEq, Repr

structure EventQ where
  /-- Oldest first. -/
  entries : List Event := []
  /-- event_sequence of the next entry. -/
  next : Nat := 1
  /-- event_sequence last assigned since the data-plane reset; 0 none. -/
  last : Nat := 0
  /-- TB2 full time of the last occurrence of a rate-limited event, by code and source. -/
  lastAt : SMap Nat := []
  /-- Occurrences not yet reported by a rate-limited event. -/
  held : SMap Nat := []
  deriving DecidableEq, Repr

/-! ### What leaves the module -/

/-- A Borul packet the module sends (Table 02-1). -/
structure Packet where
  major : Nat
  minor : Nat
  opcode : Nat
  tag : Nat
  reply : Bool
  posted : Bool := false
  more : Bool := false
  event : Bool := false
  status : Nat := 0
  sessionId : Nat := 0
  sequence : Nat := 0
  payload : List Byte := []
  trailer : List Byte := []
  deriving DecidableEq, Repr

/-- What a CAN frame carries beside its format, identifier and data. -/
structure CanMore where
  ide : Bool := false
  dlc : Nat := 0
  brs : Bool := false
  esi : Bool := false
  sdt : Nat := 0
  vcid : Nat := 0
  af : Nat := 0
  sec : Bool := false
  deriving DecidableEq, Repr

/-- One thing that left the module at a connector, or was handed to its management processor. -/
inductive Output where
  /-- A Borul packet; the IP fragments it leaves in by the bytes each carries, none when it leaves whole (R17). -/
  | borul (dst : Source) (p : Packet) (frags : List Nat)
  /-- A whole Borul packet crossed I0 or an ISO 15765-2 pair and waits to be presented as a request command. -/
  | delivered (src : Source) (bytes : List Byte)
  | eth (port : Nat) (bytes : List Byte)
  /-- An Ethernet frame ended early: the bytes sent and its stomped FCS (R245). -/
  | ethAbort (port : Nat) (bytes fcs : List Byte)
  | can (ch fmt id : Nat) (data : List Byte) (more : CanMore := {})
  /-- An error flag; `fast`: in an XL data phase in FAST mode, so that the transceiver first goes back to SIC mode (R305). -/
  | canErrorFlag (ch : Nat) (fast : Bool := false)
  /-- The dominant ACK bit of a controller in NORMAL mode (R301). -/
  | canAck (ch : Nat)
  /-- The data phase of an attempt: the secondary sample point, as whether the measured loop delay counts and the clock
  cycles on top of it (R304), and the PWM symbols of FAST mode (R305). -/
  | canDataPhase (ch : Nat) (ssp : Option (Bool × Nat)) (pwm : Option (Nat × Nat × Nat))
  /-- A LIN frame of the master, with its checksum byte (R328). -/
  | lin (ch id : Nat) (data : List Byte) (checksum : Byte)
  | heartbeat (die : Nat) (bytes : List Byte)
  | doip (conn : Nat) (bytes : List Byte)
  /-- A DoIP message in a UDP datagram on E10 (R355, R356). -/
  | doipUdp (bytes : List Byte)
  /-- An MKPDU of the CAK in this key slot, with the key server priority and a SAK it distributes (R351). -/
  | mkpdu (port cak priority : Nat) (sak : Option (Nat × List Byte))
  /-- A PLCA beacon of the coordinator (R344). -/
  | plcaBeacon (port : Nat)
  | mirror (port : Nat) (bytes : List Byte)
  /-- A LIN wake pulse of this length in µs (R397). -/
  | linWake (n us : Nat)
  /-- A TC10 sleep request, or a wake-up (R353). -/
  | tc10 (port : Nat) (sleep : Bool)
  /-- A gPTP message: kind 0 Sync with its time, 1 Pdelay_Req, with its transmit capture of TB0, TB1 and TB2 (R370); a
  grandmaster's Sync carries its clock quality (R376). -/
  | gptp (port domain kind : Nat) (time : Int) (capture : Nat × Nat × Nat) (quality : List Nat := [])
  deriving DecidableEq, Repr

/-- What the time bases, event queue, counters and output record are: written only by `applyEff` (Ops.lean). -/
structure Base where
  time : TimeUnit := {}
  ev : EventQ := {}
  /-- Counter values by counter ID (Table 20-1). -/
  cnt : SMap Nat := []
  /-- MRAM counters whose copy failed its check (Table 20-4, invalid). -/
  cntBad : List Nat := []
  /-- Queues of the internal bridge (Table 07-6, in its order 0 to 5): the fabric cycle in which each entry leaves. -/
  bridge : SMap (List Nat) := []
  /-- The model's own: everything that left the module, oldest first. -/
  out : List Output := []
  /-- The model's own: how many free values have been drawn. -/
  fresh : Nat := 0
  deriving DecidableEq, Repr

/-! ### Borul (spec/02) -/

/-- A slot is FREE, PENDING or OPEN. -/
inductive SlotState where
  | free | pending | opened
  deriving DecidableEq, Repr

/-- An accepted request in the duplicate cache of R39; `reply` is none while it still executes. -/
structure DupEntry where
  seq : Nat
  tag : Nat
  opcode : Nat
  cmac : List Byte
  reply : Option (Nat × Bool × List Byte) := none
  deriving DecidableEq, Repr

/-- A fragment train in reassembly (R43, R44). -/
structure Train where
  tag : Nat
  opcode : Nat
  count : Nat
  data : List Byte
  deadline : Nat
  deriving DecidableEq, Repr

/-- An event subscription (R51): filter and delivery position. -/
structure Subscription where
  minSeverity : Nat
  chapterMask : Nat
  /-- event_sequence of the first entry not yet delivered. -/
  next : Nat
  deriving DecidableEq, Repr

/-- One operation of a session's staged set (R148). -/
inductive StagedOp where
  | write (table index : Nat) (entry : Nat)
  | insert (table : Nat) (entry : Nat)
  | delete (table : Nat) (key : Nat)
  deriving DecidableEq, Repr

/-- A staged operation with the closures its plan needed when it was staged: its recorded cost (R148). -/
structure Staged where
  op : StagedOp
  closures : Nat
  deriving DecidableEq, Repr

/-- An ISO 15765-2 pair as configured (R15, R18): CAN channel, frame format, identifiers from and to the host, and the
flow control it sends. -/
structure Pair where
  ch : Nat := 255
  fmt : Nat := 0
  rxId : Nat := 0
  txId : Nat := 0
  bs : Nat := 0
  stmin : Nat := 0
  deriving DecidableEq, Repr

/-- Transport settings a session was opened under (R54): port mask, VLAN, own addresses, UDP port, allowed hosts; or
its ISO 15765-2 pair. -/
structure Transport where
  service : Bool := false
  portMask : Nat := 0
  vlan : Nat := 0
  v4 : Nat := 0
  v6 : Nat := 0
  udpPort : Nat := 0
  allow : List Nat := []
  pair : Pair := {}
  deriving DecidableEq, Repr

structure Session where
  st : SlotState := .free
  id : Nat := 0
  role : Nat := 0
  major : Nat := 0
  minor : Nat := 0
  /-- Endpoint and most recent source (R19). -/
  src : Source := .isotp 0
  via : Transport := {}
  key : List Byte := []
  /-- The module nonce that SESSION_AUTH must echo (R34). -/
  nonce : List Byte := []
  /-- The key that SESSION_REKEY puts in force after its reply (R53). -/
  nextKey : Option (List Byte) := none
  /-- End of the auth window or of the idle timeout, TB2 full time. -/
  deadline : Nat := 0
  rxHigh : Nat := 0
  txSeq : Nat := 0
  dup : List DupEntry := []
  tags : List Nat := []
  trains : List Train := []
  sub : Option Subscription := none
  staged : List Staged := []
  deriving DecidableEq, Repr

/-- What an accepted operation waits for. -/
inductive OpKind where
  /-- A posted operation, executed when COMMAND_COMPLETE runs. -/
  | posted
  /-- PARAM_WRITE waiting for the parse contexts of these ports (R99). -/
  | drain (ports : List Nat)
  /-- PARAM_HOLD waiting for the ports of its scope (R72). -/
  | hold (block inst : Nat)
  /-- CHANNEL_SET waiting for its heartbeat (R426). -/
  | heartbeat (dies : List Nat)
  /-- ROUTEBOOK_ACTIVATE of this slot waiting for the contexts of the old program (R99). -/
  | book (slot : Nat)
  /-- TABLE_COMMIT waiting for its application to the session's staged set (R149). -/
  | commit (generation : Option Nat)
  deriving DecidableEq, Repr

/-- An accepted operation whose reply or completion event is still to come. -/
structure Op where
  sid : Nat
  tag : Nat
  opcode : Nat
  seq : Nat
  posted : Bool
  payload : List Byte
  kind : OpKind
  /-- Slot and role of the session that asked. -/
  slot : Nat := 0
  role : Nat := 0
  /-- The reply it will carry, and the source of the request, to which it goes (R19). -/
  answer : List Byte := []
  src : Source := .isotp 0
  deriving DecidableEq, Repr

/-- A partially reassembled IP datagram (R17). -/
structure IpPartial where
  port : Nat
  key : Nat
  first : Nat
  pieces : List (Nat × List Byte)
  total : Option Nat
  deriving DecidableEq, Repr

/-- Which connection an ISO 15765-2 transfer belongs to: a Borul pair (R18) or a DoIP diagnostic channel (R357). -/
inductive TpOwner where
  | pair (n : Nat)
  | diag (n : Nat)
  deriving DecidableEq, Repr

/-- One ISO 15765-2 transfer (R18). -/
structure IsoTp where
  owner : TpOwner
  sending : Bool
  ch : Nat
  fmt : Nat
  txId : Nat
  rxId : Nat
  /-- The whole message when sending; the bytes so far when receiving. -/
  data : List Byte
  total : Nat
  done : Nat
  nextSn : Nat
  /-- Block size and STmin of the flow control that the module sends. -/
  ownBs : Nat := 0
  ownSt : Nat := 0
  /-- Frames left in the current block (0: no limit). -/
  block : Nat
  stmin : Nat
  /-- A flow control is awaited (sending). -/
  waitFc : Bool
  deadline : Nat
  /-- A frame of the transfer is loaded and not yet sent; end of the STmin wait before the next one. -/
  inFlight : Bool := false
  gap : Option Nat := none
  deriving DecidableEq, Repr

/-- A posted operation that a restart of cause 1 or 4 interrupted, and what its completion event will say (R507). -/
structure Interrupted where
  op : Op
  status : Nat
  detail : List Byte
  deriving DecidableEq, Repr

structure Borul where
  slots : List Session := [{}, {}, {}, {}]
  /-- Consecutive AUTH_FAIL results and end of lockout per role (R35). -/
  fails : List Nat := [0, 0, 0]
  lockUntil : List (Option Nat) := [none, none, none]
  ops : List Op := []
  /-- Posted operations that a restart of cause 1 or 4 interrupted (R507). -/
  interrupted : List Interrupted := []
  partials : List IpPartial := []
  isotp : List IsoTp := []
  /-- Messages waiting for an ISO 15765-2 pair (R19: one after another), with the settings they go out under (R54). -/
  pairQueue : List (Nat × Pair × List Byte) := []
  /-- Last resend of critical entries (R51), TB2. -/
  lastResend : Nat := 0
  /-- Link-local service address (R498), once chosen. -/
  serviceAddr : Option Nat := none
  deriving DecidableEq, Repr

/-! ### Module block, bring-up and supply (spec/03, 17, 18) -/

/-- Module states of Table 17-3. -/
inductive ModState where
  | off | sleep | waking | footpath | run | unmanaged | sleepPrep | safe
  deriving DecidableEq, Repr

/-- Header of firmware 3.2 as delivered (R578, Table 19-2): build, security version and layout identifier 0, formats 4
and 5, no image bytes, revision C. The model's own choice (notes/assumptions/6.md). -/
def factoryHeader : List Byte :=
  u32 0x46575A47 ++ u32 0x03020000 ++ u16 0 ++ u16 0 ++ u16 4 ++ u16 5 ++ u32 0 ++ u32 8
    ++ beBytes 32 (Config.sha256 []).toNat ++ zeros 72

/-- What is fixed for one unit (R1, R3, R431, R522): identity, fuses and the device certificate. -/
structure Ident where
  variantG : Bool := false
  hardwareRevision : Nat := 3
  uniqueId : Nat := 0
  rootSecret : List Byte := []
  /-- Private half of the device key pair (Table 15-1); the certificate carries the public half. -/
  deviceKey : List Byte := []
  certificate : List Byte := []
  certSerial : Nat := 0
  /-- Lowest MAC address of the unit. -/
  macBase : Nat := 0
  /-- Anti-rollback fuse bits set. -/
  fuseVersion : Nat := 0
  /-- security.fuse_status. -/
  fuseStatus : Nat := 0xF
  /-- The detour image, written at manufacture (R513): header of Table 19-2 and image bytes. -/
  detourHeader : List Byte := factoryHeader
  detourImage : List Byte := []
  /-- Public half of the Dolenros firmware key (R514). -/
  firmwareKey : List Byte := []
  deriving DecidableEq, Repr

/-- A hold on one scope (R68): block 0 is the module-wide scope. -/
structure Hold where
  block : Nat
  inst : Nat
  since : Nat
  until_ : Nat
  /-- Every port of the scope has drained (R72). -/
  drained : Bool := false
  /-- Ethernet ports whose eth.phy_mode changed: they retrain at release (Table 03-3). -/
  retrain : List Nat := []
  deriving DecidableEq, Repr

/-- A channel record of the footpath table (Table 18-5). -/
structure FootChan where
  mode : Nat := 0
  autoRetransmit : Bool := true
  formats : Nat := 0
  nominal : List Nat := [1, 127, 32, 32]
  data : List Nat := [1, 29, 10, 10]
  xl : List Nat := [1, 5, 2, 2]
  deriving DecidableEq, Repr

/-- A route entry of the footpath table (Table 18-6). -/
structure FootRoute where
  id : Nat := 0
  ide : Bool := false
  port : Nat := 0
  valid : Bool := false
  queue : Nat := 0
  xl : Bool := false
  portMask : Nat := 0
  deriving DecidableEq, Repr

/-- One flash copy of the footpath table (R501, Table 18-4). -/
structure FootCopy where
  magic : Nat := 0
  format : Nat := 0
  routeCount : Nat := 0
  generation : Nat := 0
  position : Nat := 255
  enable : Bool := false
  bookId : Nat := 0
  crcOk : Bool := false
  chans : List FootChan := []
  routes : List FootRoute := []
  deriving DecidableEq, Repr

/-- An event kept to be raised once RUN or the state of R497 is reached. -/
structure LateEvent where
  code : Nat
  severity : Nat
  detail : List Byte
  deriving DecidableEq, Repr

structure Mod where
  state : ModState := .waking
  resetCause : Nat := 0
  restartCause : Nat := 0
  /-- 0 and 1: route book slots; 2: defaults only. -/
  configSource : Nat := 2
  /-- 0 bank A, 1 bank B, 2 detour image. -/
  bootBank : Nat := 0
  positionCode : Nat := 255
  /-- Read code of the previous bring-up (R500, MRAM); none in a unit never brought up. -/
  prevPosition : Option Nat := none
  effective : Nat := 255
  bookVariant : Nat := 0
  bookId : Nat := 0
  bookFormat : Nat := 0
  generation : Nat := 0
  configModified : Bool := false
  presetStatus : Nat := 0
  /-- Stored pairs (value, complement) of parameters that differ from their default pair. -/
  params : SMap (Nat × Nat) := []
  /-- Values the active route book sets. -/
  bookParams : SMap Nat := []
  /-- Twin pairs that failed at use and await the firmware's rewrite (R537). -/
  twinFailed : List Nat := []
  /-- TB2 time of the last rewrite of a failed pair (R537: repeats within one hour). -/
  twinRewritten : SMap Nat := []
  holds : List Hold := []
  /-- TB2 times of the counted management restarts (R508). -/
  restarts : List Nat := []
  unmanagedSince : Option Nat := none
  /-- TB2 when the restart now in progress began. -/
  restartAt : Nat := 0
  mgmtStart : Nat := 0
  firmwareRunning : Bool := false
  /-- FOOTPATH was entered from RUN or UNMANAGED (Table 17-4). -/
  fromRun : Bool := false
  /-- Footpath memory of the die (R502) and the flash copies (R501). -/
  foot : FootCopy := {}
  footCopies : List (Option FootCopy) := [none, none]
  footLoaded : Option Nat := none
  /-- Microseconds from the reference point to FOOTPATH, and to RUN where bring-up reached it at once (R511). -/
  footAt : Nat := 0
  runAt : Nat := 0
  /-- TB2 time up to which SAFE and hold time have been charged (R544). -/
  safeSince : Nat := 0
  late : List LateEvent := []
  /-- MRAM flags of R480: state code and TB3 seconds. -/
  brownOut : Option (Nat × Nat) := none
  groundLoss : Option (Nat × Nat) := none
  /-- MRAM: cause and address of the data-plane fault to report (R538). -/
  dpFault : Option (Nat × Nat × Nat) := none
  /-- A reset or restart that follows a reply already sent: 1 management restart, 2 full reset. -/
  resetting : Nat := 0
  clockStatus : Nat := 0x3F
  /-- Pending TEST_INJECT kinds with targets (R546), and injections since the data-plane reset. -/
  injections : List (Nat × Nat) := []
  injected : Nat := 0
  /-- Data-plane reset held until the die cools (R488). -/
  heldHot : Bool := false
  /-- The sleep under way was entered from SAFE, to which its wake returns (R399). -/
  safeWake : Bool := false
  /-- module.position_override in force, kept for the next bring-up (R499; notes/assumptions/54.md). -/
  override : Nat := 255
  /-- Bring-up waits for the firmware of this bank (step 7 of Table 18-3), and the banks that failed to start. -/
  booting : Option Nat := none
  bootTried : List Nat := []
  /-- RUN has been reached since the data-plane reset (R511). -/
  ran : Bool := false
  deriving DecidableEq, Repr

structure Supply where
  /-- Millivolts, mean over 10 ms, and extremes since the data-plane reset. -/
  vbat : Nat := 24000
  vbatMin : Nat := 24000
  vbatMax : Nat := 24000
  /-- 0 normal, 1 low, 2 high, 3 overvoltage (Table 17-1). -/
  range : Nat := 0
  lowSince : Nat := 0
  warnLow : Bool := false
  warnHigh : Bool := false
  basePlate : Int := 25000
  basePlateWarn : Bool := false
  dieTemp : Int := 25000
  shed : Bool := false
  groundOffset : Int := 0
  holdup : Nat := 100
  /-- supply.channel_power in mW, and whether it exceeds its limit. -/
  channelPower : Nat := 0
  powerOver : Bool := false
  /-- VBAT fell below 5.5 V during SLEEP (R481). -/
  sleepDip : Bool := false
  deriving DecidableEq, Repr

/-! ### Ingress and the Pathfinder (spec/04) -/

/-- A frame inside the data plane, with what travels with it (R82-R84, Table 04-10). -/
structure Frame where
  /-- Ingress port number (Table 04-1). -/
  port : Nat
  /-- Format code of Table 04-4; 8 stands for Ethernet. -/
  fmt : Nat
  id : Nat := 0
  /-- CAN, LIN and messages: the data bytes. Ethernet: from the destination address to before the FCS. -/
  data : List Byte := []
  /-- Remote frames: identifier extended, and DLC. -/
  ide : Bool := false
  dlc : Nat := 0
  brs : Bool := false
  esi : Bool := false
  sdt : Nat := 0
  vcid : Nat := 0
  af : Nat := 0
  sec : Bool := false
  cand : Bool := false
  trunc : Bool := false
  tagged : Bool := false
  macsec : Bool := false
  sync : Bool := false
  tci : Nat := 0
  /-- TB0 and TB2 arrival timestamps, 32-bit nanoseconds (R82); the epoch of R166 at arrival. -/
  tb0 : Nat := 0
  tb2 : Nat := 0
  epoch : Nat := 0
  /-- PGN 0xEE00 on a channel with claim tracking (R110). -/
  marked : Bool := false
  /-- End word carries a bad status (R89). -/
  bad : Bool := false
  /-- The end word has not arrived: `data` is what has been captured (R84). -/
  unfinished : Bool := false
  /-- The data length a CAN header word gives, while the end word has not arrived. -/
  announced : Option Nat := none
  /-- The model's own: order of arrival over all ports. -/
  seq : Nat := 0
  /-- The fast-lane entry that has taken the frame (R253). -/
  taken : Option Nat := none
  deriving DecidableEq, Repr

/-- A parse context (R96): registers g0 to g7, cursor, flags, return address, key vector. -/
structure ParseCtx where
  frame : Option Frame := none
  pc : Nat := 0
  /-- Word that transferred control last (event 0x0401, cause 4). -/
  from_ : Nat := 0
  g : List Word := List.replicate 8 0
  cursor : Nat := 0
  z : Bool := false
  c : Bool := false
  s : Bool := false
  ret : Option Nat := none
  key : BitVec 160 := 0
  issued : Nat := 0
  /-- A NAME waiting for earlier claim frames (R110): destination register and source address. -/
  waiting : Option (Nat × Nat) := none
  /-- The frame has been submitted by ACSUB, and by TPSUB. -/
  acDone : Bool := false
  tpDone : Bool := false
  mirror : Bool := false
  noLearn : Bool := false
  /-- Accepted before a change of its port's parse_entry whose reply waits for it (R99). -/
  draining : Bool := false
  deriving DecidableEq, Repr

/-- How a frame left the parse stage. -/
inductive ParseEnd where
  | key | drop | layby | miss
  deriving DecidableEq, Repr

/-- A key vector released to classification (R95). -/
structure Released where
  frame : Frame
  key : Nat
  ending : ParseEnd
  mirror : Bool := false
  noLearn : Bool := false
  deriving DecidableEq, Repr

/-- A frame whose head has been seen by the pre-classifier and whose end has not arrived (R91). -/
structure Arriving where
  head : FrameHead
  cand : Bool
  marked : Bool
  tb0 : Nat
  tb2 : Nat
  tb1 : Nat := 0
  sync : Bool
  epoch : Nat
  seq : Nat := 0
  /-- The fast-lane entry that has taken the frame. -/
  taken : Option Nat := none
  /-- The frame streams into its DCQ as it arrives (R84), or has been discarded there (R86, R89). -/
  streamed : Bool := false
  dropped : Bool := false
  deriving DecidableEq, Repr

/-- A tracked J1939 transfer (R111). -/
structure TpSession where
  port : Nat
  ch : Nat
  sa : Nat
  da : Nat
  bam : Bool
  responder : Bool
  size : Nat
  packets : Nat
  maxCts : Nat
  prio : Nat
  pgn : Nat
  /-- Packets still allowed by the running CTS (connection mode), and the next sequence number expected. -/
  window : Nat
  next : Nat
  data : List Byte
  /-- Observed in connection mode and reassembled: only its End of Message Acknowledgement is awaited (R115). -/
  complete : Bool := false
  /-- Timer running: 1 to 4 for T1 to T4 (R115); 0 none. -/
  timer : Nat
  deadline : Nat
  deriving DecidableEq, Repr

/-- A NAME table entry (Table 04-11). -/
structure NameEntry where
  name : Nat := 0
  valid : Bool := false
  bound : Bool := false
  claimed : Bool := false
  own : Bool := false
  channel : Nat := 255
  address : Nat := 255
  claimTime : Nat := 0
  deriving DecidableEq, Repr

structure Ingress where
  arriving : SMap Arriving := []
  /-- Dual-clock queues by port number, oldest frame first. -/
  dcq : SMap (List Frame) := []
  /-- Ports whose XOFF is asserted (R87). -/
  xoff : List Nat := []
  ctxs : List ParseCtx := List.replicate 64 {}
  /-- Round robin position over the DCQs (R94). -/
  rr : Nat := 0
  /-- Reassembled messages waiting for a context (R94, R114). -/
  inject : List Frame := []
  /-- Frames counted as waiting for admission (R200). -/
  waitCounted : List Nat := []
  /-- Parsed frames not yet released because an earlier frame of their port is still in parse (R95). -/
  done : List Released := []
  /-- Key vectors waiting for classification. -/
  released : List Released := []
  /-- Claim map: 256 × channel + address to name_ref (R108). -/
  claims : SMap Nat := []
  /-- NAME table entries by name_ref (table 0x08, entries 2,048 on). -/
  names : SMap NameEntry := []
  /-- Changes of the claim map while frames are in parse: order of the causing frame, key, value before (R110). -/
  claimLog : List (Nat × Nat × Option Nat) := []
  tp : List TpSession := []
  seq : Nat := 0
  deriving DecidableEq, Repr
/-! ### Tables, classification and flows (spec/05, 06, 07) -/

/-- A learning slot (Table 05-5). -/
structure Learned where
  key : Nat
  port : Nat
  age : Nat := 0
  index : Nat
  deriving DecidableEq, Repr

/-- A learned insert waiting for the learning engine (R138). -/
structure LearnReq where
  port : Nat
  key : Nat
  deriving DecidableEq, Repr

structure Tables where
  /-- Entries that differ from their default, by 2^20 × table + index, each as the little-endian number of its bytes. -/
  ent : SMap Nat := []
  /-- Poisoned entries (R152). -/
  poison : List Nat := []
  /-- Entries in which an uncorrectable error waits for the next read (R546 kind 1). -/
  faulty : List Nat := []
  /-- Hit bits of the hash table (R140). -/
  hits : List Nat := []
  /-- Learning slots by slot number. -/
  learned : SMap Learned := []
  learnQ : List LearnReq := []
  generation : Nat := 0
  lastPause : Nat := 0
  deriving DecidableEq, Repr

/-- A key vector that has its signpost and is on its way through the waypoint, the ZSP engine and the queue
manager. -/
structure Job where
  frame : Frame
  sp : Nat
  /-- Taken by the fast lane: its entry (R253). -/
  fl : Option Nat := none
  mirror : Bool := false
  /-- Layby reason already decided by classification. -/
  layby : Option Nat := none
  kinds : Nat := 0
  markTc : Option Nat := none
  dei : Bool := false
  /-- Destinations decided by a disposition or a footpath entry instead of the signpost. -/
  mask : Option Nat := none
  /-- The ZSP engine found a failure with fail_action FORWARD: no junction copy (R448). -/
  noJunction : Bool := false
  /-- The mirror copy alone is to be delivered (R124, R173). -/
  mirrorOnly : Bool := false
  /-- A copy the junction engine or the module sends: neither junction nor mirror. -/
  own : Bool := false
  deriving DecidableEq, Repr

/-- A frame held in the layby (R181, Table 06-6). -/
structure Held where
  id : Nat
  frame : Frame
  reason : Nat
  kinds : Nat
  sp : Nat
  waypoint : Nat
  tiles : Nat
  /-- The fast lane has sent the frame to an output. -/
  flSent : Bool
  since : Nat
  /-- Low 16 bits of the milestone count of the TB0 arrival time. -/
  ms : Nat := 0
  deriving DecidableEq, Repr

structure Flow where
  /-- Signposts released, before the waypoint. -/
  classified : List Job := []
  /-- Frames waiting for the ZSP engine (R448). -/
  zsp : List Job := []
  /-- Frames before the queue manager. -/
  enq : List Job := []
  layby : List Held := []
  laybyNext : Nat := 1
  deriving DecidableEq, Repr

/-! ### Tile buffer, egress and the fast lane (spec/07, 08) -/

/-- A tile in use (R192, R193): its bytes up to the end of the frame (the rest counts as 0), and its side entry: CRC,
next tile of the chain, poison flag. -/
structure Tile where
  data : List Byte
  /-- SECDED check bits of its 64-bit words, and the CRC, once it is complete (R194). -/
  ecc : List (BitVec 8) := []
  crc : Nat := 0
  /-- Every byte it will hold has been written. -/
  whole : Bool := false
  /-- A memory error it holds, by the causes of event 0x0703; 4 is one that SECDED corrects. -/
  error : Option Nat := none
  next : Option Nat := none
  poisoned : Bool := false
  deriving DecidableEq, Repr

/-- A frame stored in the tile buffer (R198, R204). Accounts: ingress port numbers, 44 reassembly, 45 layby. -/
structure Stored where
  account : Nat
  /-- Tiles charged: more than the chain has while the frame still arrives (R199). -/
  tiles : Nat
  refs : Nat
  /-- First tile of its chain. -/
  head : Option Nat := none
  deriving DecidableEq, Repr

/-- A lane closure (R222): resource, locked addresses (tiles, or 2^20 × table + index), declared accesses, the fabric
cycle in which it starts, and whether it writes. -/
structure Closure where
  resource : Nat
  addrs : List Nat
  accesses : Nat
  start : Nat
  write : Bool := true
  deriving DecidableEq, Repr

/-- One destination's reference to a stored frame. -/
structure Copy where
  frame : Frame
  sp : Nat := 0
  tc : Nat := 0
  dei : Bool := false
  /-- The fast-lane route whose fallback this is (R248, R256). -/
  fallback : Option Nat := none
  /-- The cut-through attempt of a fallback copy ended with an identifier collision (R259). -/
  collided : Bool := false
  tiles : Nat := 0
  /-- The template that sent it (R289). -/
  tpl : Option Nat := none
  deriving DecidableEq, Repr

/-- A copy that waits for its destination queue (R205). -/
structure Waiting where
  port : Nat
  queue : Nat
  copy : Copy
  since : Nat
  deriving DecidableEq, Repr

/-- A MACsec secure association: association number, key, next packet number, receive SCI. -/
structure Sa where
  an : Nat
  sci : Nat
  key : List Byte
  pn : Nat
  deriving DecidableEq, Repr

/-- A frame on the wire of an Ethernet port. -/
structure EthTx where
  copy : Copy
  tc : Nat
  fastLane : Bool := false
  preemptable : Bool := false
  /-- TB2 time at which it began, or went on after a preemption, and the bytes of earlier fragments. -/
  start : Nat := 0
  sent : Nat := 0
  /-- The bytes as they go out: after the egress edits of R244 and MACsec; of a frame still arriving, those known. -/
  bytes : List Byte := []
  /-- The association that protects the frame, with the packet number it has taken (R346). -/
  sa : Option Sa := none
  deriving DecidableEq, Repr

/-- The operative gate list of a port (R237-R240, Table 08-6). -/
structure GateList where
  gating : Bool := false
  bank : Nat := 0
  base : Nat := 0
  cycle : Nat := 0
  ext : Nat := 0
  length : Nat := 0
  /-- A scheduled change: the instant of R239, and where the new list starts. -/
  pending : Option (Nat × Nat) := none
  changeTime : Nat := 0
  /-- Gate states frozen by a TB0 step, and the TB0 instant up to which they hold (R240). -/
  frozen : Option (Nat × Nat) := none
  entry : Nat := 0
  hold : Bool := false
  /-- TB0 time from which the operative list's entries act, and HOLD as it was then (R243). -/
  since : Nat := 0
  hold0 : Bool := false
  /-- verify_status and whether preemption is active. -/
  verify : Nat := 0
  active : Bool := false
  deriving DecidableEq, Repr

/-- What the fast lane still has to report of a frame it has taken (R255). -/
structure FlFrame where
  entry : Nat
  frame : Frame
  /-- Outputs whose outcome is still open, outputs that fell back before the stored copy was ready, outputs that have
  started, and outputs that send from their buffer (R257, R261). -/
  open_ : List Nat
  fallback : List Nat := []
  /-- Outputs whose cut-through attempt ended with an identifier collision. -/
  collided : List Nat := []
  started : List Nat := []
  buffered : List Nat := []
  /-- An output has reported SENT. -/
  sent : Bool := false
  /-- The input's end word has arrived. -/
  ended : Bool := false
  /-- The stored copy, once the queue manager has it. -/
  ready : Option Copy := none
  /-- The stored copy has left for another place, so no fallback copy exists. -/
  gone : Bool := false
  /-- A data mismatch in lane B is to be found (R546 kind 3). -/
  mismatch : Bool := false
  deriving DecidableEq, Repr

structure Fabric where
  /-- Stored frames by their number. -/
  store : SMap Stored := []
  /-- Tiles in use, by number (R192). -/
  tiles : SMap Tile := []
  /-- Egress queues by 8 × port + class or CAN queue, head first. -/
  queues : SMap (List Copy) := []
  waiting : List Waiting := []
  /-- I1 queue of the junction engine. -/
  i1 : List Copy := []
  /-- Blocking since, by queue, and queues in drop-oldest (R209). -/
  blocked : SMap Nat := []
  dropOldest : List Nat := []
  tx : SMap EthTx := []
  /-- A preemptable frame interrupted by an express one (R243). -/
  preempted : SMap EthTx := []
  /-- Shaper credit in millionths of a bit and the TB2 time of its last update, by queue. -/
  credit : SMap (Int × Nat) := []
  /-- Classes stopped by PAUSE or PFC: TB2 end of the stop, by queue. -/
  paused : SMap Nat := []
  gates : SMap GateList := []
  fl : SMap FlFrame := []
  /-- Tiles whose reads failed, with the frame of the first failure, and retired tiles (R196). -/
  failed : SMap Nat := []
  retired : List Nat := []
  starvation : List Nat := [0, 0, 0, 0, 0, 0]
  /-- A change of fabric.allot takes effect at the next allotment milestone (R219): budgets in force. -/
  allotInForce : SMap Nat := []
  periods : Nat := 0
  /-- The closures of each requester's last operation, in the order in which they run (R222), and the accesses of closures
  by 96 × period + 16 × resource + requester (R217, R222). -/
  closures : SMap (List Closure) := []
  closureUse : SMap Nat := []
  /-- Reservations in force where a lowered one still waits for tiles to be freed (R203), by account. -/
  resHeld : SMap Nat := []
  /-- Last snapshot of preempt_fragments_rx by port (Table 08-6). -/
  rxSnap : SMap Nat := []
  /-- The management receive ring took nothing when FRAME_ENQUEUE last reported on it (R208). -/
  ringFull : Bool := false
  deriving DecidableEq, Repr

/-! ### Junction engine (spec/09) -/

/-- State of an identifier map entry (R283, R284). -/
structure MapState where
  received : Bool := false
  last : Nat := 0
  deadline : Option Nat := none
  timedOut : Bool := false
  /-- Next sequence number expected of a tunnel (R293). -/
  seq : Option Nat := none
  deriving DecidableEq, Repr

/-- What a signal route wrote last (JUNCTION_SIGNAL_READ). -/
structure SigState where
  value : Int := 0
  valid : Bool := false
  saturated : Bool := false
  substituted : Bool := false
  update : Nat := 0
  deriving DecidableEq, Repr

/-- A signal group: 0 valid, 1 invalid, 2 never applied (R282). -/
structure GroupState where
  st : Nat := 2
  episodes : Nat := 0
  deriving DecidableEq, Repr

/-- A running template (R286-R288). The working image lies in table 0x0A. -/
structure TplState where
  initial : List Byte := []
  start : Nat := 0
  /-- Grid instants sent so far. -/
  grid : Nat := 0
  lastSend : Option Nat := none
  pending : Bool := false
  deriving DecidableEq, Repr

/-- An open tunnel PDU (R292). -/
structure TunnelState where
  seq : Nat := 0
  open_ : List Byte := []
  first : Nat := 0
  deriving DecidableEq, Repr

/-- A posted write waiting for its acknowledgement (R290): target 0 LIN, 1 power die, 2 journal. -/
structure Posted where
  target : Nat
  inst : Nat
  id : Nat
  at_ : Nat
  value : Nat := 0
  data : List Byte := []
  /-- TB2 time of its acknowledgement by a LIN channel or the journal; a power die acknowledges by its heartbeat. -/
  ack : Option Nat := none
  deriving DecidableEq, Repr

/-- The write is still queued at its target. -/
def Posted.queued (p : Posted) (now : Nat) : Bool :=
  match p.ack with
  | some t => decide (now < t)
  | none => true

/-- No acknowledgement is timestamped within 1 ms (R290). -/
def Posted.failed (p : Posted) (now : Nat) : Bool :=
  decide (p.at_ + 1000000 ≤ now) && (match p.ack with
    | some t => decide (p.at_ + 1000000 < t)
    | none => true)

structure Junction where
  maps : SMap MapState := []
  sigs : SMap SigState := []
  groups : SMap GroupState := []
  tpls : SMap TplState := []
  tunnels : SMap TunnelState := []
  posted : List Posted := []
  /-- Route entries executed since this TB2 millisecond began, and in the last complete one. -/
  opsAt : Nat := 0
  opsNow : Nat := 0
  opsLast : Nat := 0
  deriving DecidableEq, Repr

/-! ### CAN and LIN controllers (spec/10) -/

/-- A message object (Table 10-6). -/
structure MsgObj where
  kind : Nat := 0
  /-- 0 idle, 1 pending, 2 transmitting, 3 pending-cancelled. -/
  st : Nat := 0
  newData : Bool := false
  msgLost : Bool := false
  singleShot : Bool := false
  acceptRemote : Bool := false
  remote : Bool := false
  collisions : Nat := 0
  rxSeq : Nat := 0
  id : Nat := 0
  ide : Bool := false
  fdf : Bool := false
  brs : Bool := false
  mask : Nat := 0
  length : Nat := 0
  ms : Nat := 0
  ts : Nat := 0
  data : List Byte := []
  /-- Pool object: the loaded copy and its queue; order of loading. -/
  copy : Option Copy := none
  queue : Nat := 0
  order : Nat := 0
  /-- TB2 time at which the object became pending-cancelled. -/
  since : Nat := 0
  deriving DecidableEq, Repr

/-- An entry of the collision table (R321). -/
structure CollEntry where
  id : Nat
  total : Nat
  consecutive : Nat
  ms : Nat
  ts : Nat
  /-- Full TB0 time of the last collision. -/
  at_ : Nat
  deriving DecidableEq, Repr

/-- An attempt on the bus (R315): a message object, or the fast-lane transmitter with the frame it serves. -/
inductive Attempt where
  | obj (n : Nat)
  | fast (seq : Nat)
  deriving DecidableEq, Repr

structure CanCh where
  objs : SMap MsgObj := []
  tec : Nat := 0
  rec_ : Nat := 0
  /-- 0 error active, 1 error passive, 2 bus-off. -/
  conf : Nat := 0
  /-- OBJECT_RATE_DETECT is running: candidates, position, frames accepted, TB2 deadline. -/
  detect : Option (Nat × Nat × Nat) := none
  /-- The channel is in LISTEN_ONLY after a detection (R309). -/
  listen : Bool := false
  recovering : Bool := false
  busOffAt : Nat := 0
  attempt : Option Attempt := none
  /-- Transmit capture of the last attempt: full times of TB0, TB1 and TB2 (R370). -/
  sof : Nat × Nat × Nat := (0, 0, 0)
  /-- Frames of module functions that wait for one of their objects (first and last number). -/
  backlog : List (Nat × Nat × MsgObj) := []
  /-- Order of loading. -/
  loads : Nat := 0
  colls : List CollEntry := []
  suspended : Bool := false
  /-- A bit-timing, format or mode parameter changed during a hold (R308). -/
  changed : Bool := false
  lastError : Nat := 0
  detectedRate : Nat := 0
  transceiver : Nat := 0
  /-- Own NAME (R322, R323): current address, TB2 time of the SOF of its claim, usable. -/
  ownAddr : Nat := 255
  claimSof : Option Nat := none
  claimed : Bool := false
  /-- A Cannot Claim is due: lost address, and TB2 end of its delay. -/
  cannot : Option (Nat × Nat) := none
  /-- Bus time of frames in ns, by second of TB2 (can.bus_load). -/
  load : SMap Nat := []
  deriving DecidableEq, Repr

/-- A LIN frame buffer (R326). -/
structure LinBuf where
  data : List Byte := []
  updated : Bool := false
  written : Bool := false
  ts : Nat := 0
  deriving DecidableEq, Repr

structure LinCh where
  bufs : SMap LinBuf := []
  /-- Schedule tables: entries of Table 10-7 as numbers. -/
  tables : SMap (List Nat) := []
  active : Nat := 0
  entry : Nat := 0
  pending : Option Nat := none
  /-- Table and entry to return to after a collision table (R328). -/
  back : Option (Nat × Nat) := none
  /-- Identifier and length of the response awaited, whether event-triggered, and its end by T_max (TB2). -/
  await : Option (Nat × Nat × Bool × Nat) := none
  /-- TB2 and TB0 arrival stamps of the running slot's break. -/
  breakTb2 : Nat := 0
  breakTb0 : Nat := 0
  /-- TB0 was synchronised then, and the epoch (R83, R166). -/
  breakSync : Bool := false
  breakEpoch : Nat := 0
  running : Bool := false
  asleep : Bool := false
  fails : SMap Nat := []
  lastError : Nat := 0
  headerDelay : Nat := 0
  generation : Nat := 0
  /-- End of the running slot, and end of a frame the master publishes in it (TB2). -/
  slotEnd : Nat := 0
  busyUntil : Nat := 0
  /-- The master's response under way whose buffer has not been read: identifier, length, and the TB2 time at which the
  protected identifier ends (R326). -/
  reading : Option (Nat × Nat × Nat) := none
  /-- The running slot has been counted in lin_slot_overrun. -/
  overrun : Bool := false
  /-- The slot ended with a collision of an event-triggered frame: the table to run once (R328). -/
  collide : Option Nat := none
  /-- Bus time of frames in ns, by second of TB2 (lin.bus_load). -/
  load : SMap Nat := []
  deriving DecidableEq, Repr

/-! ### Ethernet ports (spec/11) -/

/-- A PLCA transmit opportunity (R344): TB2 time until which another frame may start in it, and the frames started. -/
structure Opportunity where
  until_ : Nat
  frames : Nat := 0
  deriving DecidableEq, Repr

structure EthPort where
  up : Bool := false
  rate : Nat := 0
  master : Bool := false
  sqi : Nat := 0
  /-- TC10 sleep. -/
  sleeping : Bool := false
  beacons : Bool := false
  /-- Beacons were lost and have not come back: the port uses CSMA/CD (R345). -/
  beaconLost : Bool := false
  /-- The last PLCA transmit opportunity (R344). -/
  opp : Option Opportunity := none
  /-- MACsec: 0 off, 1 awaiting MKA, 2 secured, 3 failed. -/
  macsec : Nat := 0
  peers : Nat := 0
  keyServer : Bool := false
  rekey : Bool := false
  txAn : Nat := 0
  /-- The two associations of the transmit channel (R346): the active one, and a new one installed for reception first. -/
  txSa : Option Sa := none
  txNext : Option Sa := none
  rxSas : List Sa := []
  /-- TB2 time of the last MKPDU. -/
  mkaAt : Option Nat := none
  /-- Transmit packet numbers are used up and the episode has been reported (R352). -/
  exhausted : Bool := false
  deriving DecidableEq, Repr

/-- A diagnostic channel (R356): its TCP connection, its tester, and the TB2 time of its last message. -/
structure DoipConn where
  conn : Nat
  tester : Nat
  last : Nat
  deriving DecidableEq, Repr

structure Doip where
  conns : List DoipConn := []
  /-- E10 PHY powered for DoIP, since when the input is de-asserted, the link-local address, announcements sent. -/
  active : Bool := false
  deassertedAt : Option Nat := none
  addr : Nat := 0
  announced : Nat := 0
  deriving DecidableEq, Repr

/-! ### Time base control (spec/12) -/

/-- Servo of TB0 or TB1 (R377-R380). -/
structure Servo where
  /-- 0 FREE, 1 ACQUIRING, 2 SYNCHRONISED, 3 HOLDOVER, 4 FAILOVER. -/
  st : Nat := 0
  /-- Master time and TB2 time of the last accepted sample. -/
  prev : Option (Int × Nat) := none
  /-- Offsets of consecutive unconfirmed steps. -/
  big : List Int := []
  rejects : Nat := 0
  /-- The last sample failed the rate check. -/
  rateBad : Bool := false
  lastOffset : Int := 0
  ratePpb : Int := 0
  /-- TB2 time of the entry into HOLDOVER, and TB0 − TB1 then. -/
  heldAt : Nat := 0
  heldOffset : Int := 0
  /-- A TIME_ADJUST slew: the increment to restore and its end in TB2 time. -/
  slew : Option (Nat × Nat) := none
  /-- TB0 follows TB1 in FAILOVER. -/
  follow : Bool := false
  deriving DecidableEq, Repr

/-- gPTP state of a port E0 to E9. -/
structure GptpPort where
  delay : Option Nat := none
  ratioPpb : Int := 0
  lastSync : Nat := 0
  lost : Bool := false
  deriving DecidableEq, Repr

/-- A CTS pair under way on one channel (R381-R383). -/
structure CtsPair where
  seq : Nat
  seconds : Nat
  sync : List Byte
  at_ : Nat
  /-- Master: transmit capture of the SOF; follower: capture of the SYNC (TB1 and TB2 full times). -/
  sof : Option Nat := none
  tb2 : Nat := 0
  /-- Follower: the follow-up received, with its TB2 time. -/
  fup : Option (List Byte × Nat) := none
  deriving DecidableEq, Repr

structure TimeCtl where
  s0 : Servo := {}
  s1 : Servo := {}
  gm : Nat := 0
  gmB : Nat := 0
  offsetB : Int := 0
  epoch : Nat := 0
  ports : SMap GptpPort := []
  ctsTx : SMap CtsPair := []
  /-- Sequence of the last SYNC of a channel. -/
  ctsSeq : SMap Nat := []
  ctsRx : Option CtsPair := none
  ctsLast : Nat := 0
  ctsLastMaster : Option Nat := none
  ctsFailing : Bool := false
  checkpoints : Nat := 0
  /-- The checkpoint in MRAM: full times of TB0, TB1 and TB3. -/
  checkpoint : Nat × Nat × Nat := (0, 0, 0)
  lastStep : Nat := 0
  sleepElapsed : Nat := 0
  deriving DecidableEq, Repr


/-! ### Sleep and partial networking (spec/13) -/

/-- A reason that holds a group awake and has a ledger entry (R395, R401): an NM node by port and node id, or a host
session by slot. -/
structure Reason where
  /-- 0 NM node, 2 host session, 3 min_awake_time. -/
  kind : Nat
  /-- Ingress port for kind 0, session slot for kind 2, internal code 0 for kind 3. -/
  unit : Nat
  /-- Node id for kind 0, session id for kind 2. -/
  node : Nat
  group : Nat
  /-- TB2 time up to which the reason holds, and since when it has held without a break. -/
  until_ : Nat
  since : Nat
  /-- Seconds accrued in this episode, and whether event 0x0D05 has been raised for it. -/
  seconds : Nat := 0
  reported : Bool := false
  deriving DecidableEq, Repr

/-- A ledger entry (Table 13-6). -/
structure Ledger where
  port : Nat := 255
  kind : Nat
  node : Nat
  group : Nat
  total : Nat := 0
  sole : Nat := 0
  longest : Nat := 0
  deriving DecidableEq, Repr

/-- A wake record (Table 13-4). -/
structure WakeRec where
  source : Nat
  inst : Nat
  duringEntry : Bool := false
  falseWake : Bool := false
  multiple : Bool := false
  filter : Nat := 255
  ticks : Nat := 0
  mask : Nat := 0
  seq : Nat := 0
  deriving DecidableEq, Repr

structure Sleep where
  /-- State of each group: 0 AWAKE, 1 READY, 2 ASLEEP. -/
  groups : List Nat := List.replicate 8 0
  /-- TB2 time at which each group last woke, while min_awake_time holds it. -/
  woke : List (Option Nat) := List.replicate 8 (some 0)
  reasons : List Reason := []
  /-- Start of SLEEP_PREP (TB2). -/
  prepAt : Nat := 0
  /-- The commit marker in MRAM, written at the end of SLEEP_PREP (R399). -/
  commitMarker : Bool := false
  /-- Sources of the first clock period that latched any at or after the end of SLEEP_PREP, before the commit. -/
  latched : List WakeSource := []
  /-- LIN masters that start their startup table at this TB2 time after a wake pulse (R397). -/
  linWake : SMap Nat := []
  /-- Wake filters as written, 24 bytes each (R391). -/
  filters : List (List Byte) := List.replicate 8 (List.replicate 24 0)
  /-- Wake records in MRAM, newest first, and the last wake_sequence. -/
  records : List WakeRec := []
  wakeSeq : Nat := 0
  /-- End of the window in which the last wake must be confirmed (R400), TB2. -/
  confirm : Option Nat := none
  /-- Consecutive false wakes by 256 × source + instance (MRAM). -/
  falseRuns : SMap Nat := []
  ledger : List Ledger := []
  /-- Last accrual of the ledger, and reasons that held a group since then (kind, unit, node, group). -/
  accruedAt : Nat := 0
  recent : List (Nat × Nat × Nat × Nat) := []
  /-- SAFE: TB2 time of the last wake source or keep-awake input (R399). -/
  quietSince : Nat := 0
  deriving DecidableEq, Repr

/-! ### Switch channels (spec/14) -/

/-- A switch channel: its command at the sequencer, and what its power die does with it. -/
structure Chan where
  /-- Command word accepted last with its complement (Table 14-2), whether it came from the junction engine, and
  whether it was accepted after the last entry into RUN (R421). -/
  cmd : Nat := 0
  comp : Nat := 0xFFFFFFFF
  signal : Bool := false
  fresh : Bool := false
  /-- The channel was cleared and waits for a new command (R419). -/
  cleared : Bool := false
  /-- Command word in force at the die. -/
  word : Nat := 0
  /-- Output: 0 off, 1 on, 2 PWM; duty and frequency of the running period. -/
  out : Nat := 0
  duty : Nat := 0
  freq : Nat := 0
  trips : Nat := 0
  latched : Bool := false
  cause : Nat := 0
  openLoad : Bool := false
  /-- Trips since the data-plane reset. -/
  total : Nat := 0
  /-- End of the running inrush window, and the switch-on or trip-free start (TB2). -/
  inrushEnd : Option Nat := none
  onSince : Nat := 0
  /-- A retry waits: earliest TB2 time; after a sympathetic shutdown only the junction temperature counts. -/
  retryAt : Option Nat := none
  /-- Parameters 0 to 13 of the block as they are in force since the last heartbeat (R428); none before the first. -/
  cfg : List Nat := []
  /-- TB2 time of the last PWM period start (R411). -/
  periodAt : Option Nat := none
  /-- TB2 time of the last trip by cause 1 or 2 (R418). -/
  hardTrip : Option Nat := none
  deriving DecidableEq, Repr

/-- A power die: sequence number of the next heartbeat frame, TB2 time of the last valid one, commands ignored until
an accepted one after a heartbeat loss (R421), frames withheld up to this TB2 time (R546), supply inhibit still in
force for this die (R423). -/
structure Die where
  seq : Nat := 0
  last : Nat := 0
  lost : Bool := true
  withheld : Nat := 0
  inhibited : Bool := false
  deriving DecidableEq, Repr

structure Switch where
  chans : List Chan := List.replicate 20 {}
  dies : List Die := List.replicate 5 {}
  /-- Heartbeat frames are being sent. -/
  running : Bool := false
  /-- Supply inhibit (0 undervoltage, 1 overvoltage), and the TB2 time of its end. -/
  inhibit : Option Nat := none
  inhibitEnd : Nat := 0
  /-- Heartbeat loss to report at RUN (R421): cause of event 0x0E04. -/
  loss : Option Nat := none
  /-- Trip log entries of Table 14-6, newest first. -/
  log : List (List Byte) := []
  deriving DecidableEq, Repr

/-! ### Key store and ZSP (spec/15) -/

/-- A copy of a key record in MRAM, as it is sealed under the storage key, and whether its authentication fails (R440,
R443). -/
structure KeyCopy where
  sealed : List Byte := []
  bad : Bool := false
  deriving DecidableEq, Repr

/-- A key slot (R432, R436, R440). State codes of Table 15-8: 0 EMPTY, 1 VALID, 4 FAULTY; ORPHANED is decided at
use from the ancestry, UPDATING from the operations in flight. -/
structure KeySlot where
  st : Nat := 0
  type : Nat := 0
  attrs : Nat := 0
  parent : Nat := 0xFFFF
  depth : Nat := 0
  counter : Nat := 0
  lineage : Nat := 0
  kcv : Nat := 0
  commitS : Nat := 0
  material : List Byte := []
  /-- Orphaned for good by a change of an ancestor (R436). -/
  orphan : Bool := false
  /-- Staging marker, the two record copies and which of them is active (R440). -/
  staging : Bool := false
  copies : List KeyCopy := [{}, {}]
  active : Nat := 0
  /-- Ancestors with the lineage each had at the commit (R436). -/
  ancestry : List (Nat × Nat) := []
  /-- SHA-256 of the last committed message, and its reply (R439 step 6). -/
  digest : List Byte := []
  reply : List Byte := []
  deriving DecidableEq, Repr

structure KeyStore where
  slots : SMap KeySlot := []
  generation : Nat := 0
  lastCommit : Nat := 0
  /-- Persisted freshness in MRAM by secured flow: F of a VERIFY flow, the mark of a SIGN flow (R445, R447). -/
  mram : SMap Nat := []
  /-- KEY_UPDATE operations that a reset or a loss of power has cut off; whether each had reached its staged record or
  its commit burst shows at bring-up (R440, R441). -/
  cut : List Op := []
  /-- Frames the ZSP engine handled since this TB2 second began, and in the last complete second. -/
  opsAt : Nat := 0
  opsNow : Nat := 0
  opsLast : Nat := 0
  deriving DecidableEq, Repr

/-! ### Milestone journal (spec/16) -/

/-- A record of the journal ring, as its whole bytes (Tables 16-2 to 16-4). -/
structure JRecord where
  /-- 0 minute, 1 event, 2 seal. -/
  kind : Nat
  seq : Nat
  minute : Nat
  bytes : List Byte
  deriving DecidableEq, Repr

/-- Accumulators of the running minute (Table 16-3). Distances in micrometres. -/
structure JMinute where
  minute : Nat := 0
  pulseUm : Nat := 0
  canUm : Nat := 0
  gnssUm : Nat := 0
  /-- Samples taken, and samples in which each source was valid. -/
  samples : Nat := 0
  pulseOk : Nat := 0
  canOk : Nat := 0
  gnssOk : Nat := 0
  syncOk : Nat := 0
  pulseMax : Nat := 0
  canMax : Nat := 0
  ignition : Nat := 0
  moving : Nat := 0
  activityChanges : Nat := 0
  worst : Nat := 0
  disagree : Nat := 0
  /-- Seconds of the minute spent in RUN or UNMANAGED. -/
  active : Nat := 0
  deriving DecidableEq, Repr

structure Journal where
  ring : List JRecord := []
  next : Nat := 1
  /-- The chain value H; none stands for its start value (R464). -/
  chain : Option (List Byte) := none
  /-- Minute and event records since the last seal, and the first of them. -/
  since : Nat := 0
  first : Nat := 1
  lastSeal : Nat := 0
  /-- A seal is due but the firmware is not running (R465). -/
  deferred : Bool := false
  /-- Minute of the last committed record. -/
  lastMinute : Nat := 0
  acc : JMinute := {}
  activity : Nat := 255
  canSpeed : Option (Nat × Nat) := none
  gnssSpeed : Option (Nat × Nat) := none
  /-- Pulse counts of F0 and F1 at the last sample, and the speeds sampled, in 0.1 km/h. -/
  pulseLast : List Nat := [0, 0]
  pulseKmh : Option Nat := none
  canKmh : Option Nat := none
  gnssKmh : Option Nat := none
  /-- Watch state of Table 16-5 and its speed. -/
  watch : Nat := 0
  watchSpeed : Option Nat := none
  /-- Pulse-CAN, pulse-GNSS, CAN-GNSS: since when the pair disagrees, and the cause (R470). -/
  pairs : List (Option (Nat × Nat)) := [none, none, none]
  /-- Since when no pair disagrees. -/
  agreeSince : Option Nat := none
  disagreeAt : Nat := 0
  /-- Pulse distance in micrometres, of which journal.pulse_odometer is the count of 10 m (MRAM). -/
  odometerUm : Nat := 0
  deriving DecidableEq, Repr

/-! ### Firmware banks and route books (spec/19) -/

/-- A firmware bank (R513): 0 empty, 1 valid, 2 invalid, 3 trial; header of Table 19-2 and the image bytes. -/
structure Bank where
  st : Nat := 0
  header : List Byte := []
  image : List Byte := []
  deriving DecidableEq, Repr

/-- A configuration slot: 0 empty, 1 usable, 2 invalid, 3 written and unverified; the bytes written so far. -/
structure BookSlot where
  st : Nat := 0
  bytes : List Byte := []
  deriving DecidableEq, Repr

structure Update where
  banks : List Bank := [{ st := 1, header := factoryHeader }, {}]
  slots : List BookSlot := [{}, {}]
  /-- The committed slot (active-slot record in MRAM). -/
  committed : Option Nat := none
  /-- 0 IDLE, 1 RECEIVING, 2 STAGED, 3 TRIAL; target bank; last confirmed bank. -/
  st : Nat := 0
  target : Nat := 1
  confirmed : Nat := 0
  /-- Header named by UPDATE_BEGIN, chunks accepted, and the last of them. -/
  header : List Byte := []
  chunks : Nat := 0
  lastChunk : List Byte := []
  /-- TRIAL: time accrued in ns and TB2 time up to which it has been, counted restarts. -/
  trialNs : Nat := 0
  trialFrom : Nat := 0
  trialRestarts : Nat := 0
  /-- The counted restarts have passed update.trial_max_restarts (R522). -/
  trialOver : Bool := false
  selfConfirmed : Bool := false
  /-- TB2 time since which RUN with a usable route book has lasted without a critical event. -/
  runSince : Option Nat := none
  /-- Slot protected by the trial, and whether the trial activated the other one (R520, R522). -/
  protected_ : Option Nat := none
  switched : Bool := false
  /-- Event 0x1302 is to be raised when the new image reaches RUN; whether it came by a data-plane reset. -/
  announce : Option Bool := none
  /-- The posted UPDATE_ACTIVATE to be completed then. -/
  activating : Option Op := none
  /-- Slot the image activates at its next entry into RUN (R520, R522). -/
  wanted : Option Nat := none
  result : Nat := 0
  /-- dp_compat of the running data plane. -/
  dpCompat : Nat := 0
  deriving DecidableEq, Repr

/-! ### Discrete, frequency and analogue inputs, outputs (spec/21) -/

/-- A frequency input (R559): accepted edges; TB2 times of the last two; the TB2 second of the last edge with its
edges, the time of the edge before them, and the frequency of the second before. -/
structure FreqIn where
  count : Nat := 0
  last : Option Nat := none
  before : Option Nat := none
  second : Nat := 0
  inSecond : Nat := 0
  start : Option Nat := none
  milliHz : Nat := 0
  deriving DecidableEq, Repr

structure Io where
  /-- Debounced, asserted inputs: D00 to D11 in bits 0 to 11, DOIP_ACT in bit 12. -/
  din : Nat := 0
  freq : List FreqIn := [{}, {}]
  /-- Last 10 samples of A0 to A3 in mV, newest first. -/
  ain : List (List Int) := [[], [], [], []]
  /-- Sensor supply: in limitation or off after it, shorted to battery, output in mV. -/
  sensorLimited : Bool := false
  /-- TB2 time at which SENS5V last switched off in limitation (R561). -/
  sensorOffAt : Nat := 0
  sensorShort : Bool := false
  sensorMv : Nat := 0
  /-- Mean ratio of the last read of POS_A and POS_B in per mille; 0xFFFF no band. -/
  posA : Nat := 0xFFFF
  posB : Nat := 0xFFFF
  /-- Outputs Q0 to Q3 and FAULT_OUT, as frozen while UNMANAGED (Table 17-4). -/
  frozenQ : Nat := 0
  frozenFault : Bool := false
  deriving DecidableEq, Repr


/-- Everything the module holds but its time bases, event queue and counters. -/
structure Module where
  ident : Ident := {}
  mod : Mod := {}
  supply : Supply := {}
  borul : Borul := {}
  ing : Ingress := {}
  jr : Journal := {}
  io : Io := {}
  keys : KeyStore := {}
  tab : Tables := {}
  flow : Flow := {}
  fab : Fabric := {}
  jn : Junction := {}
  can : List CanCh := List.replicate 22 {}
  lin : List LinCh := List.replicate 8 {}
  eth : List EthPort := List.replicate 11 {}
  doip : Doip := {}
  tc : TimeCtl := {}
  sw : Switch := {}
  slp : Sleep := {}
  upd : Update := {}
  deriving DecidableEq, Repr

/-- The state of the block: the queue of waiting commands, and the module. -/
structure State where
  /-- Commands that wait, first in first out. -/
  pending : List Instr := []
  base : Base := {}
  m : Module := {}
  deriving DecidableEq, Repr

/-- The module right after its power-on reset: WAKING, every register at its reset value (R578 gives the factory
contents of flash and MRAM), no command waiting. -/
def State.reset : State := {}

end Sys2Proof.Machine
end

