-- ==== Sys2Proof/Machine/CounterDir.lean ====
section
/-! DEFINITION. The counter directory (R533, R534): chapter, index, name, scope code of Table 20-2, how many
values of the counter exist, and whether it is held in MRAM. Written from the counter tables of spec/. -/

namespace Sys2Proof.Machine

/-- A counter of some chapter; its ID for instance `i` is `chapter * 2^24 + index * 2^16 + i` (Table 20-1). -/
structure CRef where
  chapter : Nat
  index : Nat
  name : String
  scope : Nat
  count : Nat
  mram : Bool
  deriving DecidableEq, Repr

/-- The index is one of the counter's scope: of the Ethernet ports, those of its row of Table 11-4. -/
def CRef.covers (c : CRef) (i : Nat) : Bool :=
  if c.chapter == 11 && c.index == 17 then i == 8 || i == 9
  else if c.chapter == 11 && decide (18 ≤ c.index) then i == 10
  else decide (i < c.count)

def CRef.id (c : CRef) (i : Nat) : Nat := c.chapter * 16777216 + c.index * 65536 + i

namespace C

def borul_rx_packets : CRef := ⟨2, 0, "borul_rx_packets", 0, 1, false⟩
def borul_rx_discarded : CRef := ⟨2, 1, "borul_rx_discarded", 0, 1, false⟩
def borul_auth_fail : CRef := ⟨2, 2, "borul_auth_fail", 0, 1, false⟩
def borul_stale : CRef := ⟨2, 3, "borul_stale", 0, 1, false⟩
def borul_duplicate : CRef := ⟨2, 4, "borul_duplicate", 0, 1, false⟩
def borul_busy : CRef := ⟨2, 5, "borul_busy", 0, 1, false⟩
def borul_fragment_timeout : CRef := ⟨2, 6, "borul_fragment_timeout", 0, 1, false⟩
def event_dropped : CRef := ⟨2, 7, "event_dropped", 0, 1, false⟩
def event_resent : CRef := ⟨2, 8, "event_resent", 0, 1, false⟩
def event_critical_merged : CRef := ⟨2, 9, "event_critical_merged", 0, 1, false⟩
def ingress_frames : CRef := ⟨4, 0, "ingress_frames", 1, 44, false⟩
def dcq_drop : CRef := ⟨4, 1, "dcq_drop", 1, 44, false⟩
def dcq_xoff : CRef := ⟨4, 2, "dcq_xoff", 1, 44, false⟩
def footpath_discard : CRef := ⟨4, 3, "footpath_discard", 1, 44, false⟩
def fl_candidates : CRef := ⟨4, 4, "fl_candidates", 1, 44, false⟩
def pf_overrun : CRef := ⟨4, 5, "pf_overrun", 1, 44, false⟩
def pf_fault : CRef := ⟨4, 6, "pf_fault", 1, 44, false⟩
def pf_program_drop : CRef := ⟨4, 7, "pf_program_drop", 1, 44, false⟩
def pf_bad_end : CRef := ⟨4, 8, "pf_bad_end", 1, 44, false⟩
def j1939_tp_complete : CRef := ⟨4, 9, "j1939_tp_complete", 2, 22, false⟩
def j1939_tp_refused : CRef := ⟨4, 10, "j1939_tp_refused", 2, 22, false⟩
def j1939_tp_invalid : CRef := ⟨4, 11, "j1939_tp_invalid", 2, 22, false⟩
def j1939_tp_timeout : CRef := ⟨4, 12, "j1939_tp_timeout", 2, 22, false⟩
def j1939_tp_sequence_error : CRef := ⟨4, 13, "j1939_tp_sequence_error", 2, 22, false⟩
def j1939_tp_aborted : CRef := ⟨4, 14, "j1939_tp_aborted", 2, 22, false⟩
def j1939_claims : CRef := ⟨4, 15, "j1939_claims", 2, 22, false⟩
def name_table_full : CRef := ⟨4, 16, "name_table_full", 0, 1, false⟩
def class_frames : CRef := ⟨5, 0, "class_frames", 1, 44, false⟩
def class_miss : CRef := ⟨5, 1, "class_miss", 1, 44, false⟩
def class_poisoned_hit : CRef := ⟨5, 2, "class_poisoned_hit", 1, 44, false⟩
def class_truncated : CRef := ⟨5, 3, "class_truncated", 1, 44, false⟩
def class_hairpin : CRef := ⟨5, 4, "class_hairpin", 1, 44, false⟩
def learn_new : CRef := ⟨5, 5, "learn_new", 1, 44, false⟩
def learn_refused : CRef := ⟨5, 6, "learn_refused", 1, 44, false⟩
def learn_move : CRef := ⟨5, 7, "learn_move", 1, 44, false⟩
def learn_static_conflict : CRef := ⟨5, 8, "learn_static_conflict", 1, 44, false⟩
def learn_aged : CRef := ⟨5, 9, "learn_aged", 0, 1, false⟩
def age_race_kept : CRef := ⟨5, 10, "age_race_kept", 0, 1, false⟩
def hash_insert_fail : CRef := ⟨5, 11, "hash_insert_fail", 0, 1, false⟩
def fastlane_twin_fail : CRef := ⟨5, 12, "fastlane_twin_fail", 0, 1, false⟩
def commit_applied : CRef := ⟨5, 13, "commit_applied", 0, 1, false⟩
def commit_failed : CRef := ⟨5, 14, "commit_failed", 0, 1, false⟩
def table_lock_wait : CRef := ⟨5, 15, "table_lock_wait", 0, 1, false⟩
def wp_frames : CRef := ⟨6, 0, "wp_frames", 9, 8192, false⟩
def wp_bytes : CRef := ⟨6, 1, "wp_bytes", 9, 8192, false⟩
def wp_violations : CRef := ⟨6, 2, "wp_violations", 9, 8192, false⟩
def flow_wrong_port : CRef := ⟨6, 3, "flow_wrong_port", 1, 44, false⟩
def flow_gap : CRef := ⟨6, 4, "flow_gap", 1, 44, false⟩
def flow_late : CRef := ⟨6, 5, "flow_late", 1, 44, false⟩
def flow_length : CRef := ⟨6, 6, "flow_length", 1, 44, false⟩
def flow_rate : CRef := ⟨6, 7, "flow_rate", 1, 44, false⟩
def flow_mark : CRef := ⟨6, 8, "flow_mark", 1, 44, false⟩
def flow_limit_drop : CRef := ⟨6, 9, "flow_limit_drop", 1, 44, false⟩
def flow_layby : CRef := ⟨6, 10, "flow_layby", 1, 44, false⟩
def flow_drop : CRef := ⟨6, 11, "flow_drop", 1, 44, false⟩
def flow_escalate : CRef := ⟨6, 12, "flow_escalate", 1, 44, false⟩
def flow_epoch_skip : CRef := ⟨6, 13, "flow_epoch_skip", 0, 1, false⟩
def gate_green : CRef := ⟨6, 14, "gate_green", 1, 44, false⟩
def gate_yellow : CRef := ⟨6, 15, "gate_yellow", 1, 44, false⟩
def gate_red : CRef := ⟨6, 16, "gate_red", 1, 44, false⟩
def gate_invalid : CRef := ⟨6, 17, "gate_invalid", 0, 1, false⟩
def learn_complete : CRef := ⟨6, 18, "learn_complete", 0, 1, false⟩
def learn_sparse : CRef := ⟨6, 19, "learn_sparse", 0, 1, false⟩
def layby_in : CRef := ⟨6, 20, "layby_in", 9, 8, false⟩
def layby_released : CRef := ⟨6, 21, "layby_released", 0, 1, false⟩
def layby_disposed_drop : CRef := ⟨6, 22, "layby_disposed_drop", 0, 1, false⟩
def layby_to_host : CRef := ⟨6, 23, "layby_to_host", 0, 1, false⟩
def layby_oldest_drop : CRef := ⟨6, 24, "layby_oldest_drop", 0, 1, false⟩
def layby_expired : CRef := ⟨6, 25, "layby_expired", 0, 1, false⟩
def tile_drop : CRef := ⟨7, 0, "tile_drop", 1, 44, false⟩
def tile_admit_wait : CRef := ⟨7, 1, "tile_admit_wait", 1, 44, false⟩
def tile_crc_fail : CRef := ⟨7, 2, "tile_crc_fail", 0, 1, false⟩
def tile_poisoned_read : CRef := ⟨7, 3, "tile_poisoned_read", 0, 1, false⟩
def tile_ecc_corrected : CRef := ⟨7, 4, "tile_ecc_corrected", 0, 1, false⟩
def enq_hold_wait : CRef := ⟨7, 5, "enq_hold_wait", 1, 44, false⟩
def enq_skip : CRef := ⟨7, 6, "enq_skip", 1, 44, false⟩
def descriptor_exhausted : CRef := ⟨7, 7, "descriptor_exhausted", 0, 1, false⟩
def i0_rx_drop : CRef := ⟨7, 8, "i0_rx_drop", 0, 1, false⟩
def bp_ceiling_episode : CRef := ⟨7, 9, "bp_ceiling_episode", 4, 352, false⟩
def bp_ceiling_drop : CRef := ⟨7, 10, "bp_ceiling_drop", 4, 352, false⟩
def allot_exhausted : CRef := ⟨7, 11, "allot_exhausted", 6, 96, false⟩
def allot_borrowed : CRef := ⟨7, 12, "allot_borrowed", 6, 96, false⟩
def closure_broken : CRef := ⟨7, 13, "closure_broken", 5, 6, false⟩
def closure_owner_release : CRef := ⟨7, 14, "closure_owner_release", 5, 6, false⟩
def closure_nest_refused : CRef := ⟨7, 15, "closure_nest_refused", 0, 1, false⟩
def egress_frames : CRef := ⟨8, 0, "egress_frames", 4, 352, false⟩
def egress_bytes : CRef := ⟨8, 1, "egress_bytes", 1, 44, false⟩
def egress_stomped : CRef := ⟨8, 2, "egress_stomped", 1, 44, false⟩
def egress_underrun : CRef := ⟨8, 3, "egress_underrun", 1, 44, false⟩
def cut_start_raise : CRef := ⟨8, 4, "cut_start_raise", 1, 44, false⟩
def egress_gate_oversize : CRef := ⟨8, 5, "egress_gate_oversize", 4, 352, false⟩
def egress_max_sdu_drop : CRef := ⟨8, 6, "egress_max_sdu_drop", 4, 352, false⟩
def egress_oversize : CRef := ⟨8, 7, "egress_oversize", 1, 44, false⟩
def egress_format_drop : CRef := ⟨8, 8, "egress_format_drop", 1, 44, false⟩
def gate_time_step : CRef := ⟨8, 9, "gate_time_step", 1, 44, false⟩
def preempt_fragments_tx : CRef := ⟨8, 10, "preempt_fragments_tx", 1, 8, false⟩
def preempt_fragments_rx : CRef := ⟨8, 11, "preempt_fragments_rx", 1, 8, false⟩
def fl_taken : CRef := ⟨8, 12, "fl_taken", 7, 80, false⟩
def fl_sent : CRef := ⟨8, 13, "fl_sent", 1, 44, false⟩
def fl_fallback_arbitration : CRef := ⟨8, 14, "fl_fallback_arbitration", 1, 44, false⟩
def fl_fallback_other : CRef := ⟨8, 15, "fl_fallback_other", 1, 44, false⟩
def fl_abort_input : CRef := ⟨8, 16, "fl_abort_input", 1, 44, false⟩
def fl_buffered : CRef := ⟨8, 17, "fl_buffered", 1, 44, false⟩
def fl_suspended : CRef := ⟨8, 18, "fl_suspended", 2, 22, false⟩
def fl_lockstep_mismatch : CRef := ⟨8, 19, "fl_lockstep_mismatch", 0, 1, false⟩
def junction_frames : CRef := ⟨9, 0, "junction_frames", 9, 4096, false⟩
def junction_no_map : CRef := ⟨9, 1, "junction_no_map", 1, 44, false⟩
def sig_range_fail : CRef := ⟨9, 2, "sig_range_fail", 9, 4096, false⟩
def sig_short_pdu : CRef := ⟨9, 3, "sig_short_pdu", 9, 4096, false⟩
def sig_saturated : CRef := ⟨9, 4, "sig_saturated", 9, 4096, false⟩
def sig_substituted : CRef := ⟨9, 5, "sig_substituted", 9, 4096, false⟩
def jn_timeout : CRef := ⟨9, 6, "jn_timeout", 9, 4096, false⟩
def jn_recovered : CRef := ⟨9, 7, "jn_recovered", 9, 4096, false⟩
def tpl_sent : CRef := ⟨9, 8, "tpl_sent", 9, 8192, false⟩
def tpl_send_skipped : CRef := ⟨9, 9, "tpl_send_skipped", 9, 8192, false⟩
def tpl_deferred : CRef := ⟨9, 10, "tpl_deferred", 9, 8192, false⟩
def bridge_frames : CRef := ⟨9, 11, "bridge_frames", 9, 4096, false⟩
def bridge_format_drop : CRef := ⟨9, 12, "bridge_format_drop", 9, 4096, false⟩
def tunnel_out_msgs : CRef := ⟨9, 13, "tunnel_out_msgs", 9, 16, false⟩
def tunnel_out_pdus : CRef := ⟨9, 14, "tunnel_out_pdus", 9, 16, false⟩
def tunnel_out_drop : CRef := ⟨9, 15, "tunnel_out_drop", 9, 16, false⟩
def tunnel_in_msgs : CRef := ⟨9, 16, "tunnel_in_msgs", 9, 4096, false⟩
def tunnel_in_drop : CRef := ⟨9, 17, "tunnel_in_drop", 9, 4096, false⟩
def tunnel_in_seq_error : CRef := ⟨9, 18, "tunnel_in_seq_error", 9, 4096, false⟩
def junction_post_replaced : CRef := ⟨9, 19, "junction_post_replaced", 0, 1, false⟩
def junction_post_fail : CRef := ⟨9, 20, "junction_post_fail", 0, 1, false⟩
def can_rx_frames : CRef := ⟨10, 0, "can_rx_frames", 2, 22, false⟩
def can_tx_frames : CRef := ⟨10, 1, "can_tx_frames", 2, 22, false⟩
def can_rx_error : CRef := ⟨10, 2, "can_rx_error", 2, 22, false⟩
def can_tx_error : CRef := ⟨10, 3, "can_tx_error", 2, 22, false⟩
def can_arbitration_lost : CRef := ⟨10, 4, "can_arbitration_lost", 2, 22, false⟩
def can_error_passive : CRef := ⟨10, 5, "can_error_passive", 2, 22, false⟩
def can_bus_off : CRef := ⟨10, 6, "can_bus_off", 2, 22, false⟩
def can_msg_lost : CRef := ⟨10, 7, "can_msg_lost", 2, 22, false⟩
def can_cancel : CRef := ⟨10, 8, "can_cancel", 2, 22, false⟩
def can_tx_single_shot_fail : CRef := ⟨10, 9, "can_tx_single_shot_fail", 2, 22, false⟩
def can_collision : CRef := ⟨10, 10, "can_collision", 2, 22, false⟩
def can_collision_stop : CRef := ⟨10, 11, "can_collision_stop", 2, 22, false⟩
def can_collision_table_replace : CRef := ⟨10, 12, "can_collision_table_replace", 2, 22, false⟩
def lin_headers : CRef := ⟨10, 13, "lin_headers", 3, 8, false⟩
def lin_responses : CRef := ⟨10, 14, "lin_responses", 3, 8, false⟩
def lin_no_response : CRef := ⟨10, 15, "lin_no_response", 3, 8, false⟩
def lin_checksum_error : CRef := ⟨10, 16, "lin_checksum_error", 3, 8, false⟩
def lin_framing_error : CRef := ⟨10, 17, "lin_framing_error", 3, 8, false⟩
def lin_bit_error : CRef := ⟨10, 18, "lin_bit_error", 3, 8, false⟩
def lin_event_collision : CRef := ⟨10, 19, "lin_event_collision", 3, 8, false⟩
def lin_slot_overrun : CRef := ⟨10, 20, "lin_slot_overrun", 3, 8, false⟩
def eth_rx_frames : CRef := ⟨11, 0, "eth_rx_frames", 1, 11, false⟩
def eth_rx_bytes : CRef := ⟨11, 1, "eth_rx_bytes", 1, 11, false⟩
def eth_rx_runt : CRef := ⟨11, 2, "eth_rx_runt", 1, 11, false⟩
def eth_rx_fcs_error : CRef := ⟨11, 3, "eth_rx_fcs_error", 1, 11, false⟩
def eth_rx_truncated : CRef := ⟨11, 4, "eth_rx_truncated", 1, 11, false⟩
def eth_rx_vlan_drop : CRef := ⟨11, 5, "eth_rx_vlan_drop", 1, 11, false⟩
def eth_rx_pause : CRef := ⟨11, 6, "eth_rx_pause", 1, 11, false⟩
def eth_tx_pause : CRef := ⟨11, 7, "eth_tx_pause", 1, 11, false⟩
def eth_link_changes : CRef := ⟨11, 8, "eth_link_changes", 1, 11, false⟩
def eth_link_down_drop : CRef := ⟨11, 9, "eth_link_down_drop", 1, 11, false⟩
def macsec_in_ok : CRef := ⟨11, 10, "macsec_in_ok", 1, 11, false⟩
def macsec_in_invalid : CRef := ⟨11, 11, "macsec_in_invalid", 1, 11, false⟩
def macsec_in_untagged : CRef := ⟨11, 12, "macsec_in_untagged", 1, 11, false⟩
def macsec_in_no_sa : CRef := ⟨11, 13, "macsec_in_no_sa", 1, 11, false⟩
def macsec_in_late : CRef := ⟨11, 14, "macsec_in_late", 1, 11, false⟩
def macsec_out_protected : CRef := ⟨11, 15, "macsec_out_protected", 1, 11, false⟩
def macsec_out_pn_exhausted : CRef := ⟨11, 16, "macsec_out_pn_exhausted", 1, 11, false⟩
def plca_beacon_loss : CRef := ⟨11, 17, "plca_beacon_loss", 1, 11, false⟩
def doip_routing_refused : CRef := ⟨11, 18, "doip_routing_refused", 1, 11, false⟩
def doip_nack : CRef := ⟨11, 19, "doip_nack", 1, 11, false⟩
def doip_unmatched : CRef := ⟨11, 20, "doip_unmatched", 1, 11, false⟩
def doip_messages : CRef := ⟨11, 21, "doip_messages", 1, 11, false⟩
def gptp_sync_rx : CRef := ⟨12, 0, "gptp_sync_rx", 1, 10, false⟩
def gptp_sync_tx : CRef := ⟨12, 1, "gptp_sync_tx", 1, 10, false⟩
def gptp_pdelay_tx : CRef := ⟨12, 2, "gptp_pdelay_tx", 1, 10, false⟩
def gptp_sync_timeout : CRef := ⟨12, 3, "gptp_sync_timeout", 0, 1, false⟩
def time_sample_reject : CRef := ⟨12, 4, "time_sample_reject", 9, 4, false⟩
def time_step : CRef := ⟨12, 5, "time_step", 9, 4, false⟩
def cts_sync_tx : CRef := ⟨12, 6, "cts_sync_tx", 2, 22, false⟩
def cts_sync_rx : CRef := ⟨12, 7, "cts_sync_rx", 2, 22, false⟩
def cts_fup_timeout : CRef := ⟨12, 8, "cts_fup_timeout", 2, 22, false⟩
def cts_seq_error : CRef := ⟨12, 9, "cts_seq_error", 2, 22, false⟩
def cts_cmac_fail : CRef := ⟨12, 10, "cts_cmac_fail", 2, 22, false⟩
def tb3_checkpoint : CRef := ⟨12, 11, "tb3_checkpoint", 0, 1, false⟩
def wake_count : CRef := ⟨13, 0, "wake_count", 8, 2560, true⟩
def false_wake : CRef := ⟨13, 1, "false_wake", 8, 2560, true⟩
def wake_during_entry : CRef := ⟨13, 2, "wake_during_entry", 0, 1, true⟩
def sleep_entries : CRef := ⟨13, 3, "sleep_entries", 0, 1, true⟩
def sleep_cancelled : CRef := ⟨13, 4, "sleep_cancelled", 0, 1, true⟩
def group_sleep : CRef := ⟨13, 5, "group_sleep", 9, 8, true⟩
def nm_rx_awake : CRef := ⟨13, 6, "nm_rx_awake", 1, 44, true⟩
def ch_switch_on : CRef := ⟨14, 0, "ch_switch_on", 9, 20, false⟩
def ch_trip_fast : CRef := ⟨14, 1, "ch_trip_fast", 9, 20, false⟩
def ch_trip_overload : CRef := ⟨14, 2, "ch_trip_overload", 9, 20, false⟩
def ch_trip_thermal : CRef := ⟨14, 3, "ch_trip_thermal", 9, 20, false⟩
def ch_sympathetic : CRef := ⟨14, 4, "ch_sympathetic", 9, 20, false⟩
def ch_latched : CRef := ⟨14, 5, "ch_latched", 9, 20, false⟩
def ch_open_load : CRef := ⟨14, 6, "ch_open_load", 9, 20, false⟩
def ch_twin_fail : CRef := ⟨14, 7, "ch_twin_fail", 9, 20, false⟩
def ch_signal_ignored : CRef := ⟨14, 8, "ch_signal_ignored", 9, 20, false⟩
def ch_supply_inhibit : CRef := ⟨14, 9, "ch_supply_inhibit", 0, 1, false⟩
def ch_heartbeat_loss : CRef := ⟨14, 10, "ch_heartbeat_loss", 9, 5, false⟩
def key_update_ok : CRef := ⟨15, 0, "key_update_ok", 0, 1, false⟩
def key_update_rejected : CRef := ⟨15, 1, "key_update_rejected", 0, 1, false⟩
def key_staging_discarded : CRef := ⟨15, 2, "key_staging_discarded", 0, 1, false⟩
def key_attr_denied : CRef := ⟨15, 3, "key_attr_denied", 9, 256, false⟩
def zsp_verify_ok : CRef := ⟨15, 4, "zsp_verify_ok", 9, 2048, false⟩
def zsp_signed : CRef := ⟨15, 5, "zsp_signed", 9, 2048, false⟩
def zsp_mac_fail : CRef := ⟨15, 6, "zsp_mac_fail", 9, 2048, false⟩
def zsp_fresh_reject : CRef := ⟨15, 7, "zsp_fresh_reject", 9, 2048, false⟩
def zsp_short : CRef := ⟨15, 8, "zsp_short", 9, 2048, false⟩
def zsp_key_unusable : CRef := ⟨15, 9, "zsp_key_unusable", 9, 2048, false⟩
def zsp_counter_rx : CRef := ⟨15, 10, "zsp_counter_rx", 9, 2048, false⟩
def zsp_opaque : CRef := ⟨15, 11, "zsp_opaque", 9, 2048, false⟩
def zsp_queue_drop : CRef := ⟨15, 12, "zsp_queue_drop", 1, 44, false⟩
def journal_minutes : CRef := ⟨16, 0, "journal_minutes", 0, 1, false⟩
def journal_events : CRef := ⟨16, 1, "journal_events", 0, 1, false⟩
def journal_seals : CRef := ⟨16, 2, "journal_seals", 0, 1, false⟩
def journal_seals_deferred : CRef := ⟨16, 3, "journal_seals_deferred", 0, 1, false⟩
def journal_overwritten : CRef := ⟨16, 4, "journal_overwritten", 0, 1, false⟩
def journal_gnss_rx : CRef := ⟨16, 5, "journal_gnss_rx", 0, 1, false⟩
def watch_disagreements : CRef := ⟨16, 6, "watch_disagreements", 0, 1, false⟩
def supply_low_entries : CRef := ⟨17, 0, "supply_low_entries", 0, 1, true⟩
def supply_ov_entries : CRef := ⟨17, 1, "supply_ov_entries", 0, 1, true⟩
def supply_brownouts : CRef := ⟨17, 2, "supply_brownouts", 0, 1, true⟩
def supply_ground_loss : CRef := ⟨17, 3, "supply_ground_loss", 0, 1, true⟩
def thermal_shed : CRef := ⟨17, 4, "thermal_shed", 0, 1, true⟩
def channel_power_exceeded : CRef := ⟨17, 5, "channel_power_exceeded", 0, 1, true⟩
def data_plane_resets : CRef := ⟨18, 0, "data_plane_resets", 9, 5, true⟩
def management_restarts : CRef := ⟨18, 1, "management_restarts", 9, 5, true⟩
def unmanaged_time : CRef := ⟨18, 2, "unmanaged_time", 0, 1, true⟩
def safe_entries : CRef := ⟨18, 3, "safe_entries", 0, 1, true⟩
def footpath_forwarded : CRef := ⟨18, 4, "footpath_forwarded", 1, 44, false⟩
def footpath_miss : CRef := ⟨18, 5, "footpath_miss", 1, 44, false⟩
def footpath_copy_invalid : CRef := ⟨18, 6, "footpath_copy_invalid", 0, 1, true⟩
def update_chunks : CRef := ⟨19, 0, "update_chunks", 0, 1, true⟩
def update_rejected : CRef := ⟨19, 1, "update_rejected", 0, 1, true⟩
def update_fallbacks : CRef := ⟨19, 2, "update_fallbacks", 0, 1, true⟩
def routebook_activations : CRef := ⟨19, 3, "routebook_activations", 0, 1, true⟩
def routebook_rejected : CRef := ⟨19, 4, "routebook_rejected", 0, 1, true⟩
def boot_verify_fail : CRef := ⟨19, 5, "boot_verify_fail", 0, 1, true⟩
def twin_fail_stored : CRef := ⟨20, 0, "twin_fail_stored", 9, 21, false⟩
def dp_fault : CRef := ⟨20, 1, "dp_fault", 9, 6, true⟩
def mgmt_ecc_corrected : CRef := ⟨20, 2, "mgmt_ecc_corrected", 0, 1, false⟩
def test_injections : CRef := ⟨20, 3, "test_injections", 9, 6, false⟩
def avail_bringup_time : CRef := ⟨20, 4, "avail_bringup_time", 0, 1, true⟩
def avail_reset_time : CRef := ⟨20, 5, "avail_reset_time", 0, 1, true⟩
def avail_hold_time : CRef := ⟨20, 6, "avail_hold_time", 9, 45, true⟩
def avail_safe_time : CRef := ⟨20, 7, "avail_safe_time", 0, 1, true⟩
def avail_excluded_time : CRef := ⟨20, 8, "avail_excluded_time", 0, 1, true⟩

end C

def counters2 : List CRef := [C.borul_rx_packets, C.borul_rx_discarded, C.borul_auth_fail, C.borul_stale,
  C.borul_duplicate, C.borul_busy, C.borul_fragment_timeout, C.event_dropped, C.event_resent, C.event_critical_merged]
def counters4 : List CRef := [C.ingress_frames, C.dcq_drop, C.dcq_xoff, C.footpath_discard, C.fl_candidates,
  C.pf_overrun, C.pf_fault, C.pf_program_drop, C.pf_bad_end, C.j1939_tp_complete, C.j1939_tp_refused,
  C.j1939_tp_invalid, C.j1939_tp_timeout, C.j1939_tp_sequence_error, C.j1939_tp_aborted, C.j1939_claims,
  C.name_table_full]
def counters5 : List CRef := [C.class_frames, C.class_miss, C.class_poisoned_hit, C.class_truncated, C.class_hairpin,
  C.learn_new, C.learn_refused, C.learn_move, C.learn_static_conflict, C.learn_aged, C.age_race_kept,
  C.hash_insert_fail, C.fastlane_twin_fail, C.commit_applied, C.commit_failed, C.table_lock_wait]
def counters6 : List CRef := [C.wp_frames, C.wp_bytes, C.wp_violations, C.flow_wrong_port, C.flow_gap, C.flow_late,
  C.flow_length, C.flow_rate, C.flow_mark, C.flow_limit_drop, C.flow_layby, C.flow_drop, C.flow_escalate,
  C.flow_epoch_skip, C.gate_green, C.gate_yellow, C.gate_red, C.gate_invalid, C.learn_complete, C.learn_sparse,
  C.layby_in, C.layby_released, C.layby_disposed_drop, C.layby_to_host, C.layby_oldest_drop, C.layby_expired]
def counters7 : List CRef := [C.tile_drop, C.tile_admit_wait, C.tile_crc_fail, C.tile_poisoned_read,
  C.tile_ecc_corrected, C.enq_hold_wait, C.enq_skip, C.descriptor_exhausted, C.i0_rx_drop, C.bp_ceiling_episode,
  C.bp_ceiling_drop, C.allot_exhausted, C.allot_borrowed, C.closure_broken, C.closure_owner_release,
  C.closure_nest_refused]
def counters8 : List CRef := [C.egress_frames, C.egress_bytes, C.egress_stomped, C.egress_underrun, C.cut_start_raise,
  C.egress_gate_oversize, C.egress_max_sdu_drop, C.egress_oversize, C.egress_format_drop, C.gate_time_step,
  C.preempt_fragments_tx, C.preempt_fragments_rx, C.fl_taken, C.fl_sent, C.fl_fallback_arbitration, C.fl_fallback_other,
  C.fl_abort_input, C.fl_buffered, C.fl_suspended, C.fl_lockstep_mismatch]
def counters9 : List CRef := [C.junction_frames, C.junction_no_map, C.sig_range_fail, C.sig_short_pdu,
  C.sig_saturated, C.sig_substituted, C.jn_timeout, C.jn_recovered, C.tpl_sent, C.tpl_send_skipped, C.tpl_deferred,
  C.bridge_frames, C.bridge_format_drop, C.tunnel_out_msgs, C.tunnel_out_pdus, C.tunnel_out_drop, C.tunnel_in_msgs,
  C.tunnel_in_drop, C.tunnel_in_seq_error, C.junction_post_replaced, C.junction_post_fail]
def counters10 : List CRef := [C.can_rx_frames, C.can_tx_frames, C.can_rx_error, C.can_tx_error,
  C.can_arbitration_lost, C.can_error_passive, C.can_bus_off, C.can_msg_lost, C.can_cancel, C.can_tx_single_shot_fail,
  C.can_collision, C.can_collision_stop, C.can_collision_table_replace, C.lin_headers, C.lin_responses,
  C.lin_no_response, C.lin_checksum_error, C.lin_framing_error, C.lin_bit_error, C.lin_event_collision,
  C.lin_slot_overrun]
def counters11 : List CRef := [C.eth_rx_frames, C.eth_rx_bytes, C.eth_rx_runt, C.eth_rx_fcs_error, C.eth_rx_truncated,
  C.eth_rx_vlan_drop, C.eth_rx_pause, C.eth_tx_pause, C.eth_link_changes, C.eth_link_down_drop, C.macsec_in_ok,
  C.macsec_in_invalid, C.macsec_in_untagged, C.macsec_in_no_sa, C.macsec_in_late, C.macsec_out_protected,
  C.macsec_out_pn_exhausted, C.plca_beacon_loss, C.doip_routing_refused, C.doip_nack, C.doip_unmatched, C.doip_messages]
def counters12 : List CRef := [C.gptp_sync_rx, C.gptp_sync_tx, C.gptp_pdelay_tx, C.gptp_sync_timeout,
  C.time_sample_reject, C.time_step, C.cts_sync_tx, C.cts_sync_rx, C.cts_fup_timeout, C.cts_seq_error, C.cts_cmac_fail,
  C.tb3_checkpoint]
def counters13 : List CRef := [C.wake_count, C.false_wake, C.wake_during_entry, C.sleep_entries, C.sleep_cancelled,
  C.group_sleep, C.nm_rx_awake]
def counters14 : List CRef := [C.ch_switch_on, C.ch_trip_fast, C.ch_trip_overload, C.ch_trip_thermal,
  C.ch_sympathetic, C.ch_latched, C.ch_open_load, C.ch_twin_fail, C.ch_signal_ignored, C.ch_supply_inhibit,
  C.ch_heartbeat_loss]
def counters15 : List CRef := [C.key_update_ok, C.key_update_rejected, C.key_staging_discarded, C.key_attr_denied,
  C.zsp_verify_ok, C.zsp_signed, C.zsp_mac_fail, C.zsp_fresh_reject, C.zsp_short, C.zsp_key_unusable, C.zsp_counter_rx,
  C.zsp_opaque, C.zsp_queue_drop]
def counters16 : List CRef := [C.journal_minutes, C.journal_events, C.journal_seals, C.journal_seals_deferred,
  C.journal_overwritten, C.journal_gnss_rx, C.watch_disagreements]
def counters17 : List CRef := [C.supply_low_entries, C.supply_ov_entries, C.supply_brownouts, C.supply_ground_loss,
  C.thermal_shed, C.channel_power_exceeded]
def counters18 : List CRef := [C.data_plane_resets, C.management_restarts, C.unmanaged_time, C.safe_entries,
  C.footpath_forwarded, C.footpath_miss, C.footpath_copy_invalid]
def counters19 : List CRef := [C.update_chunks, C.update_rejected, C.update_fallbacks, C.routebook_activations,
  C.routebook_rejected, C.boot_verify_fail]
def counters20 : List CRef := [C.twin_fail_stored, C.dp_fault, C.mgmt_ecc_corrected, C.test_injections,
  C.avail_bringup_time, C.avail_reset_time, C.avail_hold_time, C.avail_safe_time, C.avail_excluded_time]

/-- Every counter of the module. -/
def counterDir : List CRef :=
  counters2 ++ counters4 ++ counters5 ++ counters6 ++ counters7 ++ counters8 ++ counters9 ++ counters10 ++ counters11
  ++ counters12 ++ counters13 ++ counters14 ++ counters15 ++ counters16 ++ counters17 ++ counters18 ++ counters19 ++
  counters20

def counterRef (chapter index : Nat) : Option CRef :=
  counterDir.find? (fun c => c.chapter == chapter && c.index == index)

end Sys2Proof.Machine
end

