-- ==== Sys2Proof/Machine/ParamDir.lean ====
section
/-! DEFINITION. The parameter directory (R57, R58, R60, R73): every row of the parameter tables of spec/, with its
class, twin mark, type, range and default. -/

namespace Sys2Proof.Machine

/-- Access classes of Table 03-2; the code is the one of Table 03-6. -/
inductive PClass where
  | c | l | o | s
  deriving DecidableEq, Repr

/-- Parameter types of Table 03-1. -/
inductive PType where
  | u8 | u16 | u32 | u64 | s32 | bool | enum | mask64 | timeNs | durUs
  deriving DecidableEq, Repr

/-- What the Range column says. `bits` names the bits that are not reserved (R59); `ascii` is
four ASCII characters; `perClass` gives one range per switch channel class of Table 14-1. -/
inductive PRange where
  | any
  | span (lo hi : Int)
  | spans (l : List (Int × Int))
  | mult (lo hi step : Int)
  | bits (mask : Nat)
  | ascii
  | perClass (a b c : Int × Int)
  deriving DecidableEq, Repr

/-- One row of a parameter table: `count` array elements from index `idx` on. `can` marks the rows of egress
instances 32 to 53 (Table 08-8). -/
structure PRef where
  blk : Nat
  idx : Nat
  count : Nat
  name : String
  cls : PClass
  twin : Bool
  ty : PType
  range : PRange
  dflt : Int
  can : Bool := false
  deriving DecidableEq, Repr

/-- Parameter ID (R57) of element `e` of a row, instance `i`. -/
def PRef.id (r : PRef) (i : Nat := 0) (e : Nat := 0) : Nat := r.blk * 16777216 + i * 65536 + r.idx + e

namespace P

def session_borul_udp_port : PRef := ⟨0x02, 0, 1, "session.borul_udp_port", .c, false, .u16, .span 1 65535, 48400,
  false⟩
def session_borul_vlan : PRef := ⟨0x02, 1, 1, "session.borul_vlan", .c, false, .u16, .span 0 4094, 0, false⟩
def session_borul_port_mask : PRef := ⟨0x02, 2, 1, "session.borul_port_mask", .c, false, .mask64, .bits 0x7FF, 1023,
  false⟩
def session_borul_ipv4_addr : PRef := ⟨0x02, 3, 1, "session.borul_ipv4_addr", .c, false, .u32, .any, 0, false⟩
def session_borul_ipv4_prefix : PRef := ⟨0x02, 4, 1, "session.borul_ipv4_prefix", .c, false, .u8, .span 0 32, 24,
  false⟩
def session_borul_ipv6_addr : PRef := ⟨0x02, 5, 4, "session.borul_ipv6_addr", .c, false, .u32, .any, 0, false⟩
def session_borul_ipv6_prefix : PRef := ⟨0x02, 9, 1, "session.borul_ipv6_prefix", .c, false, .u8, .span 0 128, 64,
  false⟩
def session_host_allow_ipv4 : PRef := ⟨0x02, 10, 4, "session.host_allow_ipv4", .c, false, .u32, .any, 0, false⟩
def session_isotp_channel : PRef := ⟨0x02, 14, 2, "session.isotp_channel", .c, false, .u8, .spans [(0, 21), (255,
  255)], 255, false⟩
def session_isotp_request_id : PRef := ⟨0x02, 16, 2, "session.isotp_request_id", .c, false, .u32, .bits 0x1FFFFFFF, 0,
  false⟩
def session_isotp_response_id : PRef := ⟨0x02, 18, 2, "session.isotp_response_id", .c, false, .u32, .bits 0x1FFFFFFF,
  0, false⟩
def session_isotp_frame_format : PRef := ⟨0x02, 20, 2, "session.isotp_frame_format", .c, false, .enum, .span 0 3, 0,
  false⟩
def session_isotp_block_size : PRef := ⟨0x02, 22, 1, "session.isotp_block_size", .c, false, .u8, .span 0 255, 0,
  false⟩
def session_isotp_stmin : PRef := ⟨0x02, 23, 1, "session.isotp_stmin", .c, false, .u8, .span 0 127, 0, false⟩
def session_session_idle_timeout : PRef := ⟨0x02, 24, 1, "session.session_idle_timeout", .l, false, .durUs, .span
  1000000 600000000, 60000000, false⟩
def session_auth_window : PRef := ⟨0x02, 25, 1, "session.auth_window", .l, false, .durUs, .span 100000 10000000,
  2000000, false⟩
def session_fragment_timeout : PRef := ⟨0x02, 26, 1, "session.fragment_timeout", .l, false, .durUs, .span 100000
  10000000, 1000000, false⟩
def session_auth_lockout_threshold : PRef := ⟨0x02, 27, 1, "session.auth_lockout_threshold", .s, false, .u8, .span 1
  20, 5, false⟩
def session_auth_lockout_time : PRef := ⟨0x02, 28, 1, "session.auth_lockout_time", .s, false, .durUs, .span 1000000
  3600000000, 60000000, false⟩
def session_critical_resend_interval : PRef := ⟨0x02, 29, 1, "session.critical_resend_interval", .l, false, .durUs,
  .span 100000 10000000, 500000, false⟩
def session_active_sessions : PRef := ⟨0x02, 30, 1, "session.active_sessions", .o, false, .u8, .span 0 4, 0, false⟩
def session_borul_version_range : PRef := ⟨0x02, 31, 1, "session.borul_version_range", .o, false, .u32, .any,
  16777730, false⟩
def module_module_state : PRef := ⟨0x01, 0, 1, "module.module_state", .o, false, .enum, .span 1 7, 0, false⟩
def module_variant : PRef := ⟨0x01, 1, 1, "module.variant", .o, false, .enum, .span 0 1, 0, false⟩
def module_hardware_revision : PRef := ⟨0x01, 2, 1, "module.hardware_revision", .o, false, .u8, .span 1 26, 3, false⟩
def module_firmware_version : PRef := ⟨0x01, 3, 1, "module.firmware_version", .o, false, .u32, .any, 0, false⟩
def module_detour_version : PRef := ⟨0x01, 4, 1, "module.detour_version", .o, false, .u32, .any, 0, false⟩
def module_unique_id : PRef := ⟨0x01, 5, 1, "module.unique_id", .o, false, .u64, .any, 0, false⟩
def module_position_code : PRef := ⟨0x01, 6, 1, "module.position_code", .o, false, .u8, .spans [(0, 63), (255, 255)],
  0, false⟩
def module_position_override : PRef := ⟨0x01, 7, 1, "module.position_override", .s, false, .u8, .spans [(0, 63), (255,
  255)], 255, false⟩
def module_route_book_variant : PRef := ⟨0x01, 8, 1, "module.route_book_variant", .o, false, .u16, .any, 0, false⟩
def module_route_book_id : PRef := ⟨0x01, 9, 1, "module.route_book_id", .o, false, .u32, .any, 0, false⟩
def module_route_book_format : PRef := ⟨0x01, 10, 1, "module.route_book_format", .o, false, .u16, .any, 0, false⟩
def module_param_generation : PRef := ⟨0x01, 11, 1, "module.param_generation", .o, false, .u32, .any, 0, false⟩
def module_data_plane_uptime : PRef := ⟨0x01, 12, 1, "module.data_plane_uptime", .o, false, .timeNs, .any, 0, false⟩
def module_management_uptime : PRef := ⟨0x01, 13, 1, "module.management_uptime", .o, false, .timeNs, .any, 0, false⟩
def module_last_reset_cause : PRef := ⟨0x01, 14, 1, "module.last_reset_cause", .o, false, .enum, .span 0 4, 0, false⟩
def module_last_restart_cause : PRef := ⟨0x01, 15, 1, "module.last_restart_cause", .o, false, .enum, .span 0 4, 0,
  false⟩
def module_hold_scope : PRef := ⟨0x01, 16, 1, "module.hold_scope", .o, false, .u16, .any, 65535, false⟩
def module_hold_remaining : PRef := ⟨0x01, 17, 1, "module.hold_remaining", .o, false, .durUs, .any, 0, false⟩
def module_config_modified : PRef := ⟨0x01, 18, 1, "module.config_modified", .o, false, .bool, .span 0 1, 0, false⟩
def module_hold_max_speed : PRef := ⟨0x01, 19, 1, "module.hold_max_speed", .s, false, .u16, .span 0 100, 20, false⟩
def module_vin : PRef := ⟨0x01, 20, 5, "module.vin", .c, false, .u32, .ascii, 0, false⟩
def module_installation_label : PRef := ⟨0x01, 25, 4, "module.installation_label", .c, false, .u32, .ascii, 0, false⟩
def module_vehicle_class : PRef := ⟨0x01, 29, 1, "module.vehicle_class", .c, false, .enum, .span 0 3, 0, false⟩
def module_footpath_enable : PRef := ⟨0x01, 30, 1, "module.footpath_enable", .c, false, .bool, .span 0 1, 1, false⟩
def module_footpath_routes : PRef := ⟨0x01, 31, 1, "module.footpath_routes", .o, false, .u16, .span 0 512, 0, false⟩
def module_mgmt_watchdog_timeout : PRef := ⟨0x01, 32, 1, "module.mgmt_watchdog_timeout", .c, false, .durUs, .span
  10000 1000000, 100000, false⟩
def module_restart_limit : PRef := ⟨0x01, 33, 1, "module.restart_limit", .c, false, .u8, .span 1 10, 3, false⟩
def module_restart_window : PRef := ⟨0x01, 34, 1, "module.restart_window", .c, false, .durUs, .span 60000000
  3600000000, 600000000, false⟩
def module_unmanaged_limit : PRef := ⟨0x01, 35, 1, "module.unmanaged_limit", .o, false, .durUs, .any, 120000, false⟩
def module_safe_exit_mode : PRef := ⟨0x01, 36, 1, "module.safe_exit_mode", .c, false, .enum, .span 0 1, 0, false⟩
def module_full_reset_enable : PRef := ⟨0x01, 37, 1, "module.full_reset_enable", .s, false, .bool, .span 0 1, 1,
  false⟩
def module_gateway_die_temp : PRef := ⟨0x01, 38, 1, "module.gateway_die_temp", .o, false, .s32, .any, 0, false⟩
def module_power_die_temp : PRef := ⟨0x01, 39, 5, "module.power_die_temp", .o, false, .s32, .any, 0, false⟩
def module_die_temp_warning : PRef := ⟨0x01, 44, 1, "module.die_temp_warning", .c, true, .s32, .span 85000 125000,
  115000, false⟩
def module_die_temp_hysteresis : PRef := ⟨0x01, 45, 1, "module.die_temp_hysteresis", .c, false, .u32, .span 1000
  20000, 5000, false⟩
def module_fault_out_enable : PRef := ⟨0x01, 46, 1, "module.fault_out_enable", .l, true, .bool, .span 0 1, 1, false⟩
def module_fault_out_min_severity : PRef := ⟨0x01, 47, 1, "module.fault_out_min_severity", .l, true, .enum, .span 1 3,
  2, false⟩
def module_fault_out_chapter_mask : PRef := ⟨0x01, 48, 1, "module.fault_out_chapter_mask", .l, false, .mask64, .bits
  0x1FFFFC, 2097148, false⟩
def module_fault_out_latch : PRef := ⟨0x01, 49, 1, "module.fault_out_latch", .l, false, .bool, .span 0 1, 0, false⟩
def module_oem_part_number : PRef := ⟨0x01, 50, 4, "module.oem_part_number", .c, false, .u32, .ascii, 0, false⟩
def module_oem_software_label : PRef := ⟨0x01, 54, 4, "module.oem_software_label", .c, false, .u32, .ascii, 0, false⟩
def module_hold_max_duration : PRef := ⟨0x01, 58, 1, "module.hold_max_duration", .s, false, .durUs, .span 1000000
  600000000, 60000000, false⟩
def module_preset_status : PRef := ⟨0x01, 59, 1, "module.preset_status", .o, false, .mask64, .bits 0x1FFFFE, 0, false⟩
def module_clock_status : PRef := ⟨0x01, 60, 1, "module.clock_status", .o, false, .u32, .any, 0, false⟩
def module_boot_bank : PRef := ⟨0x01, 61, 1, "module.boot_bank", .o, false, .enum, .span 0 2, 0, false⟩
def module_fuse_security_version : PRef := ⟨0x01, 62, 1, "module.fuse_security_version", .o, false, .u16, .span 0 64,
  0, false⟩
def module_config_source : PRef := ⟨0x01, 63, 1, "module.config_source", .o, false, .enum, .span 0 2, 0, false⟩
def ingress_parse_entry : PRef := ⟨0x04, 0, 44, "ingress.parse_entry", .l, false, .u16, .span 0 8191, 0, false⟩
def ingress_port_mode : PRef := ⟨0x04, 44, 44, "ingress.port_mode", .c, false, .u32, .bits 0xFFFF77, 0, false⟩
def ingress_parse_budget : PRef := ⟨0x04, 88, 1, "ingress.parse_budget", .c, false, .u8, .span 16 64, 64, false⟩
def ingress_j1939_max_size : PRef := ⟨0x04, 89, 1, "ingress.j1939_max_size", .c, false, .u16, .span 9 1785, 1785,
  false⟩
def ingress_j1939_sessions_per_channel : PRef := ⟨0x04, 90, 1, "ingress.j1939_sessions_per_channel", .c, false, .u8,
  .span 1 64, 16, false⟩
def ingress_j1939_cts_packets : PRef := ⟨0x04, 91, 1, "ingress.j1939_cts_packets", .l, false, .u8, .span 1 255, 16,
  false⟩
def ingress_j1939_t1 : PRef := ⟨0x04, 92, 1, "ingress.j1939_t1", .l, false, .durUs, .span 10000 5000000, 750000,
  false⟩
def ingress_j1939_t2 : PRef := ⟨0x04, 93, 1, "ingress.j1939_t2", .l, false, .durUs, .span 10000 5000000, 1250000,
  false⟩
def ingress_j1939_t3 : PRef := ⟨0x04, 94, 1, "ingress.j1939_t3", .l, false, .durUs, .span 10000 5000000, 1250000,
  false⟩
def ingress_j1939_t4 : PRef := ⟨0x04, 95, 1, "ingress.j1939_t4", .l, false, .durUs, .span 10000 5000000, 1050000,
  false⟩
def cls_lookup_mode : PRef := ⟨0x05, 0, 44, "class.lookup_mode", .l, false, .u32, .bits 0x1FFFFF, 0, false⟩
def cls_learn_limit : PRef := ⟨0x05, 44, 11, "class.learn_limit", .l, false, .u16, .span 0 16384, 4096, false⟩
def cls_learn_age_time : PRef := ⟨0x05, 55, 1, "class.learn_age_time", .l, false, .durUs, .span 10000000 3600000000,
  300000000, false⟩
def cls_learn_move_action : PRef := ⟨0x05, 56, 1, "class.learn_move_action", .l, false, .enum, .span 0 2, 0, false⟩
def cls_learn_total_limit : PRef := ⟨0x05, 57, 1, "class.learn_total_limit", .c, false, .u16, .span 0 16384, 16384,
  false⟩
def cls_hash_seed : PRef := ⟨0x05, 58, 1, "class.hash_seed", .c, false, .u32, .any, 1511459891, false⟩
def cls_hash_max_kicks : PRef := ⟨0x05, 59, 1, "class.hash_max_kicks", .c, false, .u8, .span 1 32, 16, false⟩
def cls_commit_pause_limit : PRef := ⟨0x05, 60, 1, "class.commit_pause_limit", .l, false, .durUs, .span 5 40, 40,
  false⟩
def cls_miss_event_interval : PRef := ⟨0x05, 61, 1, "class.miss_event_interval", .l, false, .durUs, .span 100000
  10000000, 1000000, false⟩
def cls_hash_used : PRef := ⟨0x05, 62, 1, "class.hash_used", .o, false, .u32, .span 0 131072, 0, false⟩
def cls_learned_used : PRef := ⟨0x05, 63, 1, "class.learned_used", .o, false, .u16, .span 0 16384, 0, false⟩
def cls_tcam_used : PRef := ⟨0x05, 64, 1, "class.tcam_used", .o, false, .u16, .span 0 4096, 0, false⟩
def cls_lpm4_used : PRef := ⟨0x05, 65, 1, "class.lpm4_used", .o, false, .u16, .span 0 1024, 0, false⟩
def cls_lpm6_used : PRef := ⟨0x05, 66, 1, "class.lpm6_used", .o, false, .u16, .span 0 256, 0, false⟩
def cls_dlist_used : PRef := ⟨0x05, 67, 1, "class.dlist_used", .o, false, .u16, .span 0 1024, 0, false⟩
def cls_poisoned_entries : PRef := ⟨0x05, 68, 1, "class.poisoned_entries", .o, false, .u32, .any, 0, false⟩
def cls_commit_generation : PRef := ⟨0x05, 69, 1, "class.commit_generation", .o, false, .u32, .any, 0, false⟩
def cls_last_commit_pause : PRef := ⟨0x05, 70, 1, "class.last_commit_pause", .o, false, .timeNs, .any, 0, false⟩
def cls_staged_operations : PRef := ⟨0x05, 71, 1, "class.staged_operations", .o, false, .u16, .span 0 2048, 0, false⟩
def flows_learn_gaps : PRef := ⟨0x06, 0, 1, "flows.learn_gaps", .l, false, .u16, .span 8 1024, 64, false⟩
def flows_learn_time : PRef := ⟨0x06, 1, 1, "flows.learn_time", .l, false, .durUs, .span 1000000 600000000, 60000000,
  false⟩
def flows_gap_tolerance : PRef := ⟨0x06, 2, 1, "flows.gap_tolerance", .l, false, .u8, .span 0 128, 32, false⟩
def flows_late_tolerance : PRef := ⟨0x06, 3, 1, "flows.late_tolerance", .l, false, .u8, .span 0 255, 64, false⟩
def flows_periodic_jitter_limit : PRef := ⟨0x06, 4, 1, "flows.periodic_jitter_limit", .l, false, .u8, .span 1 255,
  128, false⟩
def flows_sparse_min_gaps : PRef := ⟨0x06, 5, 1, "flows.sparse_min_gaps", .l, false, .u16, .span 2 1024, 8, false⟩
def flows_layby_max_hold : PRef := ⟨0x06, 6, 1, "flows.layby_max_hold", .l, false, .durUs, .span 100000 600000000,
  10000000, false⟩
def flows_layby_event_interval : PRef := ⟨0x06, 7, 1, "flows.layby_event_interval", .l, false, .durUs, .span 100000
  10000000, 1000000, false⟩
def flows_violation_event_interval : PRef := ⟨0x06, 8, 1, "flows.violation_event_interval", .l, false, .durUs, .span
  100000 10000000, 1000000, false⟩
def flows_escalate_severity : PRef := ⟨0x06, 9, 1, "flows.escalate_severity", .l, true, .enum, .span 2 3, 2, false⟩
def flows_mark_dei : PRef := ⟨0x06, 10, 1, "flows.mark_dei", .l, false, .bool, .span 0 1, 1, false⟩
def flows_yellow_dei : PRef := ⟨0x06, 11, 1, "flows.yellow_dei", .l, false, .bool, .span 0 1, 1, false⟩
def flows_relearn_on_activation : PRef := ⟨0x06, 12, 1, "flows.relearn_on_activation", .c, false, .bool, .span 0 1, 1,
  false⟩
def flows_port_flow_mode : PRef := ⟨0x06, 13, 44, "flows.port_flow_mode", .l, false, .u8, .bits 0x7, 0, false⟩
def flows_layby_tiles : PRef := ⟨0x06, 57, 1, "flows.layby_tiles", .o, false, .u16, .span 0 2048, 0, false⟩
def flows_layby_frames : PRef := ⟨0x06, 58, 1, "flows.layby_frames", .o, false, .u16, .span 0 2048, 0, false⟩
def flows_quarantined_records : PRef := ⟨0x06, 59, 1, "flows.quarantined_records", .o, false, .u16, .span 0 8192, 0,
  false⟩
def fabric_allot : PRef := ⟨0x07, 0, 96, "fabric.allot", .l, false, .u16, .any, 0, false⟩
def fabric_allot_preset : PRef := ⟨0x07, 96, 1, "fabric.allot_preset", .l, false, .enum, .span 0 2, 0, false⟩
def fabric_allot_borrow : PRef := ⟨0x07, 97, 1, "fabric.allot_borrow", .l, false, .mask64, .bits 0x3F, 63, false⟩
def fabric_starvation_possible : PRef := ⟨0x07, 98, 6, "fabric.starvation_possible", .o, false, .u16, .any, 0, false⟩
def fabric_reserve_e01 : PRef := ⟨0x07, 104, 1, "fabric.reserve_e01", .c, false, .u16, .span 16 8192, 1024, false⟩
def fabric_reserve_e27 : PRef := ⟨0x07, 105, 1, "fabric.reserve_e27", .c, false, .u16, .span 16 4096, 256, false⟩
def fabric_reserve_e810 : PRef := ⟨0x07, 106, 1, "fabric.reserve_e810", .c, false, .u16, .span 16 1024, 64, false⟩
def fabric_reserve_can : PRef := ⟨0x07, 107, 1, "fabric.reserve_can", .c, false, .u16, .span 1 1024, 32, false⟩
def fabric_reserve_lin : PRef := ⟨0x07, 108, 1, "fabric.reserve_lin", .c, false, .u16, .span 1 64, 8, false⟩
def fabric_reserve_internal : PRef := ⟨0x07, 109, 1, "fabric.reserve_internal", .c, false, .u16, .span 16 1024, 64,
  false⟩
def fabric_reserve_reassembly : PRef := ⟨0x07, 110, 1, "fabric.reserve_reassembly", .c, false, .u16, .span 0 960, 960,
  false⟩
def fabric_shared_alpha : PRef := ⟨0x07, 111, 1, "fabric.shared_alpha", .l, false, .u8, .span 0 7, 4, false⟩
def fabric_bp_ceiling : PRef := ⟨0x07, 112, 1, "fabric.bp_ceiling", .l, false, .durUs, .span 100 20000, 2000, false⟩
def fabric_bp_low_mark : PRef := ⟨0x07, 113, 1, "fabric.bp_low_mark", .l, false, .u16, .span 0 4096, 64, false⟩
def fabric_multicast_hold : PRef := ⟨0x07, 114, 1, "fabric.multicast_hold", .l, false, .durUs, .span 0 100, 0, false⟩
def fabric_cut_start : PRef := ⟨0x07, 115, 11, "fabric.cut_start", .l, false, .u16, .mult 128 2048 128, 256, false⟩
def fabric_tiles_free : PRef := ⟨0x07, 126, 1, "fabric.tiles_free", .o, false, .u32, .span 0 65536, 0, false⟩
def fabric_tiles_retired : PRef := ⟨0x07, 127, 1, "fabric.tiles_retired", .o, false, .u32, .span 0 65536, 0, false⟩
def egress_queue_limit : PRef := ⟨0x08, 0, 8, "egress.queue_limit", .l, false, .u16, .span 16 16384, 512, false⟩
def egress_tc_flags : PRef := ⟨0x08, 8, 8, "egress.tc_flags", .c, false, .u8, .bits 0x7, 0, false⟩
def egress_idle_slope : PRef := ⟨0x08, 16, 8, "egress.idle_slope", .l, false, .u32, .span 0 7500000, 0, false⟩
def egress_max_sdu : PRef := ⟨0x08, 24, 8, "egress.max_sdu", .l, false, .u16, .span 0 2048, 0, false⟩
def egress_tc_pcp : PRef := ⟨0x08, 32, 8, "egress.tc_pcp", .l, false, .u8, .span 0 7, 0, false⟩
def egress_queue_status : PRef := ⟨0x08, 40, 8, "egress.queue_status", .o, false, .u32, .any, 0, false⟩
def egressCan_queue_limit : PRef := ⟨0x08, 0, 4, "egress.queue_limit", .l, false, .u16, .span 1 1024, 64, true⟩
def egressCan_queue_objects : PRef := ⟨0x08, 4, 4, "egress.queue_objects", .c, false, .u8, .span 1 32, 4, true⟩
def egressCan_queue_status : PRef := ⟨0x08, 8, 4, "egress.queue_status", .o, false, .u32, .any, 0, true⟩
def junction_enable : PRef := ⟨0x09, 0, 1, "junction.enable", .c, false, .bool, .span 0 1, 1, false⟩
def junction_i1_queue_limit : PRef := ⟨0x09, 1, 1, "junction.i1_queue_limit", .c, false, .u16, .span 64 1024, 512,
  false⟩
def junction_signal_event_interval : PRef := ⟨0x09, 2, 1, "junction.signal_event_interval", .l, false, .durUs, .span
  100000 10000000, 1000000, false⟩
def junction_start_grace : PRef := ⟨0x09, 3, 1, "junction.start_grace", .l, false, .durUs, .span 0 10000000, 0, false⟩
def junction_eth_key_offset : PRef := ⟨0x09, 4, 11, "junction.eth_key_offset", .c, false, .u16, .span 0 1496, 0,
  false⟩
def junction_tunnel_template : PRef := ⟨0x09, 15, 16, "junction.tunnel_template", .c, false, .u16, .spans [(0, 8191),
  (65535, 65535)], 65535, false⟩
def junction_tunnel_flush_time : PRef := ⟨0x09, 31, 16, "junction.tunnel_flush_time", .l, false, .durUs, .span 10
  100000, 1000, false⟩
def junction_tunnel_max_length : PRef := ⟨0x09, 47, 16, "junction.tunnel_max_length", .c, false, .u16, .span 128 1518,
  1518, false⟩
def junction_ops_per_ms : PRef := ⟨0x09, 63, 1, "junction.ops_per_ms", .o, false, .u32, .span 0 50000, 0, false⟩
def can_mode : PRef := ⟨0x0A, 0, 1, "can.mode", .c, false, .enum, .span 0 2, 0, false⟩
def can_formats : PRef := ⟨0x0A, 1, 1, "can.formats", .c, false, .u8, .bits 0x7, 0, false⟩
def can_nominal_rate : PRef := ⟨0x0A, 2, 1, "can.nominal_rate", .c, false, .u32, .span 50000 1000000, 0, false⟩
def can_nominal_sample_point : PRef := ⟨0x0A, 3, 1, "can.nominal_sample_point", .c, false, .u16, .span 500 900, 800,
  false⟩
def can_data_rate : PRef := ⟨0x0A, 4, 1, "can.data_rate", .c, false, .u32, .span 500000 8000000, 2000000, false⟩
def can_data_sample_point : PRef := ⟨0x0A, 5, 1, "can.data_sample_point", .c, false, .u16, .span 500 900, 750, false⟩
def can_xl_data_rate : PRef := ⟨0x0A, 6, 1, "can.xl_data_rate", .c, false, .u32, .span 2000000 20000000, 10000000,
  false⟩
def can_xl_sample_point : PRef := ⟨0x0A, 7, 1, "can.xl_sample_point", .c, false, .u16, .span 500 900, 750, false⟩
def can_nominal_brp : PRef := ⟨0x0A, 8, 1, "can.nominal_brp", .c, false, .u16, .span 1 512, 1, false⟩
def can_nominal_tseg1 : PRef := ⟨0x0A, 9, 1, "can.nominal_tseg1", .c, false, .u16, .span 2 256, 127, false⟩
def can_nominal_tseg2 : PRef := ⟨0x0A, 10, 1, "can.nominal_tseg2", .c, false, .u8, .span 1 128, 32, false⟩
def can_nominal_sjw : PRef := ⟨0x0A, 11, 1, "can.nominal_sjw", .c, false, .u8, .span 1 128, 32, false⟩
def can_data_brp : PRef := ⟨0x0A, 12, 1, "can.data_brp", .c, false, .u8, .span 1 32, 1, false⟩
def can_data_tseg1 : PRef := ⟨0x0A, 13, 1, "can.data_tseg1", .c, false, .u8, .span 2 32, 29, false⟩
def can_data_tseg2 : PRef := ⟨0x0A, 14, 1, "can.data_tseg2", .c, false, .u8, .span 1 16, 10, false⟩
def can_data_sjw : PRef := ⟨0x0A, 15, 1, "can.data_sjw", .c, false, .u8, .span 1 16, 10, false⟩
def can_xl_brp : PRef := ⟨0x0A, 16, 1, "can.xl_brp", .c, false, .u8, .span 1 4, 1, false⟩
def can_xl_tseg1 : PRef := ⟨0x0A, 17, 1, "can.xl_tseg1", .c, false, .u8, .span 2 32, 5, false⟩
def can_xl_tseg2 : PRef := ⟨0x0A, 18, 1, "can.xl_tseg2", .c, false, .u8, .span 1 16, 2, false⟩
def can_xl_sjw : PRef := ⟨0x0A, 19, 1, "can.xl_sjw", .c, false, .u8, .span 1 16, 2, false⟩
def can_tdc_mode : PRef := ⟨0x0A, 20, 1, "can.tdc_mode", .c, false, .enum, .span 0 2, 1, false⟩
def can_tdc_offset : PRef := ⟨0x0A, 21, 1, "can.tdc_offset", .c, false, .u8, .span 0 127, 0, false⟩
def can_xl_pwm : PRef := ⟨0x0A, 22, 1, "can.xl_pwm", .c, false, .u32, .bits 0xFFFFFF, 0, false⟩
def can_xl_transceiver_mode : PRef := ⟨0x0A, 23, 1, "can.xl_transceiver_mode", .c, false, .enum, .span 0 1, 1, false⟩
def can_auto_retransmit : PRef := ⟨0x0A, 24, 1, "can.auto_retransmit", .c, false, .bool, .span 0 1, 1, false⟩
def can_collision_hold : PRef := ⟨0x0A, 25, 1, "can.collision_hold", .l, false, .durUs, .span 1000 10000000, 100000,
  false⟩
def can_own_name : PRef := ⟨0x0A, 26, 1, "can.own_name", .c, false, .u64, .any, 0, false⟩
def can_own_address : PRef := ⟨0x0A, 27, 1, "can.own_address", .c, false, .u8, .spans [(0, 253), (255, 255)], 255,
  false⟩
def can_address_range : PRef := ⟨0x0A, 28, 1, "can.address_range", .c, false, .u16, .any, 65535, false⟩
def can_claim_enable : PRef := ⟨0x0A, 29, 1, "can.claim_enable", .c, false, .bool, .span 0 1, 0, false⟩
def can_rate_detect_candidates : PRef := ⟨0x0A, 30, 1, "can.rate_detect_candidates", .l, false, .mask64, .bits 0x7F,
  127, false⟩
def can_rate_detect_frames : PRef := ⟨0x0A, 31, 1, "can.rate_detect_frames", .l, false, .u8, .span 2 32, 4, false⟩
def can_rate_detect_timeout : PRef := ⟨0x0A, 32, 1, "can.rate_detect_timeout", .l, false, .durUs, .span 1000000
  600000000, 10000000, false⟩
def can_error_event_interval : PRef := ⟨0x0A, 33, 1, "can.error_event_interval", .l, false, .durUs, .span 100000
  10000000, 1000000, false⟩
def can_controller_state : PRef := ⟨0x0A, 34, 1, "can.controller_state", .o, false, .u32, .any, 0, false⟩
def can_detected_rate : PRef := ⟨0x0A, 35, 1, "can.detected_rate", .o, false, .u32, .any, 0, false⟩
def can_transceiver_status : PRef := ⟨0x0A, 36, 1, "can.transceiver_status", .o, false, .u32, .any, 0, false⟩
def can_own_address_current : PRef := ⟨0x0A, 37, 1, "can.own_address_current", .o, false, .u8, .span 0 255, 255,
  false⟩
def can_bus_load : PRef := ⟨0x0A, 38, 1, "can.bus_load", .o, false, .u16, .span 0 1000, 0, false⟩
def can_last_error : PRef := ⟨0x0A, 39, 1, "can.last_error", .o, false, .u32, .any, 0, false⟩
def lin_enable : PRef := ⟨0x0B, 0, 1, "lin.enable", .c, false, .bool, .span 0 1, 0, false⟩
def lin_bit_rate : PRef := ⟨0x0B, 1, 1, "lin.bit_rate", .c, false, .u32, .span 1000 20000, 19200, false⟩
def lin_break_bits : PRef := ⟨0x0B, 2, 1, "lin.break_bits", .c, false, .u8, .span 13 26, 13, false⟩
def lin_break_delimiter_bits : PRef := ⟨0x0B, 3, 1, "lin.break_delimiter_bits", .c, false, .u8, .span 1 4, 1, false⟩
def lin_response_tolerance : PRef := ⟨0x0B, 4, 1, "lin.response_tolerance", .c, false, .u8, .span 0 100, 40, false⟩
def lin_enhanced_checksum : PRef := ⟨0x0B, 5, 1, "lin.enhanced_checksum", .c, false, .mask64, .bits 0xFFFFFFFFFFFFFFF,
  1152921504606846975, false⟩
def lin_startup_table : PRef := ⟨0x0B, 6, 1, "lin.startup_table", .c, false, .u8, .span 0 31, 0, false⟩
def lin_switch_mode : PRef := ⟨0x0B, 7, 1, "lin.switch_mode", .l, false, .enum, .span 0 1, 0, false⟩
def lin_requested_table : PRef := ⟨0x0B, 8, 1, "lin.requested_table", .l, false, .u8, .span 0 31, 0, false⟩
def lin_no_response_limit : PRef := ⟨0x0B, 9, 1, "lin.no_response_limit", .l, false, .u8, .span 1 255, 3, false⟩
def lin_error_event_interval : PRef := ⟨0x0B, 10, 1, "lin.error_event_interval", .l, false, .durUs, .span 100000
  10000000, 1000000, false⟩
def lin_stale_policy : PRef := ⟨0x0B, 11, 1, "lin.stale_policy", .c, false, .enum, .span 0 1, 0, false⟩
def lin_wake_pulse : PRef := ⟨0x0B, 12, 1, "lin.wake_pulse", .c, false, .durUs, .span 250 5000, 1000, false⟩
def lin_active_table : PRef := ⟨0x0B, 13, 1, "lin.active_table", .o, false, .u8, .span 0 31, 0, false⟩
def lin_active_entry : PRef := ⟨0x0B, 14, 1, "lin.active_entry", .o, false, .u16, .span 0 511, 0, false⟩
def lin_state : PRef := ⟨0x0B, 15, 1, "lin.state", .o, false, .enum, .span 0 3, 0, false⟩
def lin_last_error : PRef := ⟨0x0B, 16, 1, "lin.last_error", .o, false, .u32, .any, 0, false⟩
def lin_entries_used : PRef := ⟨0x0B, 17, 1, "lin.entries_used", .o, false, .u16, .span 0 512, 0, false⟩
def lin_publish_mask : PRef := ⟨0x0B, 18, 1, "lin.publish_mask", .o, false, .mask64, .any, 0, false⟩
def lin_subscribe_mask : PRef := ⟨0x0B, 19, 1, "lin.subscribe_mask", .o, false, .mask64, .any, 0, false⟩
def lin_bus_load : PRef := ⟨0x0B, 20, 1, "lin.bus_load", .o, false, .u16, .span 0 1000, 0, false⟩
def lin_header_delay_max : PRef := ⟨0x0B, 21, 1, "lin.header_delay_max", .o, false, .durUs, .any, 0, false⟩
def lin_schedule_generation : PRef := ⟨0x0B, 22, 1, "lin.schedule_generation", .o, false, .u32, .any, 0, false⟩
def lin_pending_table : PRef := ⟨0x0B, 23, 1, "lin.pending_table", .o, false, .u8, .spans [(0, 31), (255, 255)], 255,
  false⟩
def eth_phy_mode : PRef := ⟨0x0C, 0, 1, "eth.phy_mode", .c, false, .enum, .span 0 7, 0, false⟩
def eth_phy_role : PRef := ⟨0x0C, 1, 1, "eth.phy_role", .c, false, .enum, .span 0 1, 0, false⟩
def eth_max_frame_size : PRef := ⟨0x0C, 2, 1, "eth.max_frame_size", .c, false, .u16, .span 68 2048, 1522, false⟩
def eth_default_vid : PRef := ⟨0x0C, 3, 1, "eth.default_vid", .c, false, .u16, .span 1 4094, 1, false⟩
def eth_default_pcp : PRef := ⟨0x0C, 4, 1, "eth.default_pcp", .c, false, .u8, .span 0 7, 0, false⟩
def eth_accept_frames : PRef := ⟨0x0C, 5, 1, "eth.accept_frames", .c, false, .enum, .span 0 2, 0, false⟩
def eth_pause_mode : PRef := ⟨0x0C, 6, 1, "eth.pause_mode", .c, false, .enum, .span 0 2, 0, false⟩
def eth_pfc_priorities : PRef := ⟨0x0C, 7, 1, "eth.pfc_priorities", .c, false, .u8, .bits 0xFF, 0, false⟩
def eth_pause_quanta : PRef := ⟨0x0C, 8, 1, "eth.pause_quanta", .c, false, .u16, .span 1 65535, 65535, false⟩
def eth_honour_pause : PRef := ⟨0x0C, 9, 1, "eth.honour_pause", .c, false, .bool, .span 0 1, 1, false⟩
def eth_macsec_enable : PRef := ⟨0x0C, 10, 1, "eth.macsec_enable", .c, false, .bool, .span 0 1, 0, false⟩
def eth_macsec_cipher : PRef := ⟨0x0C, 11, 1, "eth.macsec_cipher", .c, false, .enum, .span 0 3, 0, false⟩
def eth_macsec_confidentiality : PRef := ⟨0x0C, 12, 1, "eth.macsec_confidentiality", .c, false, .enum, .span 0 3, 1,
  false⟩
def eth_macsec_include_sci : PRef := ⟨0x0C, 13, 1, "eth.macsec_include_sci", .c, false, .bool, .span 0 1, 1, false⟩
def eth_macsec_validate : PRef := ⟨0x0C, 14, 1, "eth.macsec_validate", .c, false, .enum, .span 0 2, 2, false⟩
def eth_macsec_replay_window : PRef := ⟨0x0C, 15, 1, "eth.macsec_replay_window", .l, false, .u32, .any, 0, false⟩
def eth_macsec_bypass : PRef := ⟨0x0C, 16, 1, "eth.macsec_bypass", .c, false, .u8, .bits 0x1, 1, false⟩
def eth_mka_cak_slot : PRef := ⟨0x0C, 17, 1, "eth.mka_cak_slot", .s, false, .u16, .spans [(0, 255), (65535, 65535)],
  65535, false⟩
def eth_mka_priority : PRef := ⟨0x0C, 18, 1, "eth.mka_priority", .c, false, .u8, .span 0 255, 16, false⟩
def eth_mka_hello_time : PRef := ⟨0x0C, 19, 1, "eth.mka_hello_time", .c, false, .durUs, .span 500000 2000000, 2000000,
  false⟩
def eth_sak_rekey_fraction : PRef := ⟨0x0C, 20, 1, "eth.sak_rekey_fraction", .l, false, .u8, .span 64 254, 192, false⟩
def eth_tc10_enable : PRef := ⟨0x0C, 21, 1, "eth.tc10_enable", .c, false, .bool, .span 0 1, 0, false⟩
def eth_tc10_sleep_accept : PRef := ⟨0x0C, 22, 1, "eth.tc10_sleep_accept", .l, false, .bool, .span 0 1, 0, false⟩
def eth_plca_enable : PRef := ⟨0x0C, 23, 1, "eth.plca_enable", .c, false, .bool, .span 0 1, 0, false⟩
def eth_plca_node_id : PRef := ⟨0x0C, 24, 1, "eth.plca_node_id", .c, false, .u8, .spans [(0, 7), (255, 255)], 0,
  false⟩
def eth_plca_node_count : PRef := ⟨0x0C, 25, 1, "eth.plca_node_count", .c, false, .u8, .span 2 8, 8, false⟩
def eth_plca_to_timer : PRef := ⟨0x0C, 26, 1, "eth.plca_to_timer", .c, false, .u8, .span 1 255, 32, false⟩
def eth_plca_burst_count : PRef := ⟨0x0C, 27, 1, "eth.plca_burst_count", .c, false, .u8, .span 0 255, 0, false⟩
def eth_plca_burst_timer : PRef := ⟨0x0C, 28, 1, "eth.plca_burst_timer", .c, false, .u8, .span 1 255, 128, false⟩
def eth_link_status : PRef := ⟨0x0C, 29, 1, "eth.link_status", .o, false, .u32, .any, 0, false⟩
def eth_macsec_status : PRef := ⟨0x0C, 30, 1, "eth.macsec_status", .o, false, .u32, .any, 0, false⟩
def eth_macsec_tx_pn : PRef := ⟨0x0C, 31, 1, "eth.macsec_tx_pn", .o, false, .u64, .any, 0, false⟩
def eth_mac_address : PRef := ⟨0x0C, 32, 1, "eth.mac_address", .o, false, .u64, .bits 0xFFFFFFFFFFFF, 0, false⟩
def eth_doip_enable : PRef := ⟨0x0C, 33, 1, "eth.doip_enable", .c, false, .bool, .span 0 1, 0, false⟩
def eth_doip_ipv4_addr : PRef := ⟨0x0C, 34, 1, "eth.doip_ipv4_addr", .c, false, .u32, .any, 0, false⟩
def eth_doip_ipv4_prefix : PRef := ⟨0x0C, 35, 1, "eth.doip_ipv4_prefix", .c, false, .u8, .span 8 30, 16, false⟩
def eth_doip_logical_address : PRef := ⟨0x0C, 36, 1, "eth.doip_logical_address", .c, false, .u16, .spans [(1, 3583),
  (4096, 16383)], 0, false⟩
def eth_doip_tester_base : PRef := ⟨0x0C, 37, 1, "eth.doip_tester_base", .c, false, .u16, .mult 0x0E00 0x0F00 256,
  3584, false⟩
def eth_doip_functional_address : PRef := ⟨0x0C, 38, 1, "eth.doip_functional_address", .c, false, .u16, .span 58368
  58623, 58368, false⟩
def eth_doip_activation_mode : PRef := ⟨0x0C, 39, 1, "eth.doip_activation_mode", .c, false, .enum, .span 0 1, 0,
  false⟩
def eth_doip_deactivation_delay : PRef := ⟨0x0C, 40, 1, "eth.doip_deactivation_delay", .l, false, .durUs, .span 0
  10000000, 1000000, false⟩
def eth_doip_inactivity_timeout : PRef := ⟨0x0C, 41, 1, "eth.doip_inactivity_timeout", .l, false, .durUs, .span
  10000000 600000000, 300000000, false⟩
def eth_doip_max_message : PRef := ⟨0x0C, 42, 1, "eth.doip_max_message", .c, false, .u16, .span 8 16384, 4095, false⟩
def eth_doip_isotp_bs : PRef := ⟨0x0C, 43, 1, "eth.doip_isotp_bs", .l, false, .u8, .span 0 255, 0, false⟩
def eth_doip_isotp_stmin : PRef := ⟨0x0C, 44, 1, "eth.doip_isotp_stmin", .l, false, .u8, .span 0 127, 0, false⟩
def eth_doip_channel_mask : PRef := ⟨0x0C, 45, 1, "eth.doip_channel_mask", .c, false, .mask64, .bits 0x3FFFFF, 0,
  false⟩
def eth_doip_fd_mask : PRef := ⟨0x0C, 46, 1, "eth.doip_fd_mask", .c, false, .mask64, .bits 0xFF, 0, false⟩
def eth_doip_channels_active : PRef := ⟨0x0C, 47, 1, "eth.doip_channels_active", .o, false, .u8, .span 0 32, 0, false⟩
def time_tb0_mode : PRef := ⟨0x0D, 0, 1, "time.tb0_mode", .c, false, .enum, .span 0 2, 0, false⟩
def time_tb0_failover : PRef := ⟨0x0D, 1, 1, "time.tb0_failover", .c, false, .enum, .span 0 2, 0, false⟩
def time_tb1_mode : PRef := ⟨0x0D, 2, 1, "time.tb1_mode", .c, false, .enum, .span 0 2, 0, false⟩
def time_servo_step_threshold : PRef := ⟨0x0D, 3, 1, "time.servo_step_threshold", .l, false, .u32, .span 1000
  100000000, 1000000, false⟩
def time_servo_step_confirm : PRef := ⟨0x0D, 4, 1, "time.servo_step_confirm", .l, false, .u8, .span 1 16, 3, false⟩
def time_slew_window : PRef := ⟨0x0D, 5, 1, "time.slew_window", .l, false, .durUs, .span 100000 10000000, 1000000,
  false⟩
def time_rate_limit_ppm : PRef := ⟨0x0D, 6, 1, "time.rate_limit_ppm", .l, true, .u16, .span 1 500, 250, false⟩
def time_reject_limit : PRef := ⟨0x0D, 7, 1, "time.reject_limit", .l, false, .u8, .span 1 32, 4, false⟩
def time_holdover_limit : PRef := ⟨0x0D, 8, 1, "time.holdover_limit", .l, false, .durUs, .span 1000000 3600000000,
  10000000, false⟩
def time_sync_receipt_timeout : PRef := ⟨0x0D, 9, 1, "time.sync_receipt_timeout", .l, false, .u8, .span 2 255, 3,
  false⟩
def time_gptp_enable : PRef := ⟨0x0D, 10, 1, "time.gptp_enable", .c, false, .bool, .span 0 1, 0, false⟩
def time_gptp_domain_b : PRef := ⟨0x0D, 11, 1, "time.gptp_domain_b", .c, false, .u8, .span 0 127, 0, false⟩
def time_gptp_slave_port : PRef := ⟨0x0D, 12, 1, "time.gptp_slave_port", .c, false, .u8, .spans [(0, 9), (255, 255)],
  255, false⟩
def time_gptp_master_ports : PRef := ⟨0x0D, 13, 1, "time.gptp_master_ports", .c, false, .mask64, .bits 0x3FF, 0,
  false⟩
def time_gptp_log_sync_interval : PRef := ⟨0x0D, 14, 1, "time.gptp_log_sync_interval", .c, false, .s32, .span (-5) 0,
  (-3), false⟩
def time_gptp_log_pdelay_interval : PRef := ⟨0x0D, 15, 1, "time.gptp_log_pdelay_interval", .c, false, .s32, .span (-3)
  3, 0, false⟩
def time_gptp_pdelay_mode : PRef := ⟨0x0D, 16, 1, "time.gptp_pdelay_mode", .c, false, .enum, .span 0 1, 0, false⟩
def time_gptp_pdelay_thresh : PRef := ⟨0x0D, 17, 1, "time.gptp_pdelay_thresh", .l, false, .u32, .span 1 100000, 800,
  false⟩
def time_gm_priority1 : PRef := ⟨0x0D, 18, 1, "time.gm_priority1", .c, false, .u8, .span 0 255, 246, false⟩
def time_gm_clock_class : PRef := ⟨0x0D, 19, 1, "time.gm_clock_class", .c, false, .u8, .span 0 255, 248, false⟩
def time_gm_clock_accuracy : PRef := ⟨0x0D, 20, 1, "time.gm_clock_accuracy", .c, false, .u8, .span 0 255, 254, false⟩
def time_gm_variance : PRef := ⟨0x0D, 21, 1, "time.gm_variance", .c, false, .u16, .any, 16640, false⟩
def time_gm_time_source : PRef := ⟨0x0D, 22, 1, "time.gm_time_source", .c, false, .u8, .span 0 255, 160, false⟩
def time_cts_master_mask : PRef := ⟨0x0D, 23, 1, "time.cts_master_mask", .c, false, .mask64, .bits 0x3FFFFF, 0, false⟩
def time_cts_follower_channel : PRef := ⟨0x0D, 24, 1, "time.cts_follower_channel", .c, false, .u8, .spans [(0, 21),
  (255, 255)], 255, false⟩
def time_cts_sync_id : PRef := ⟨0x0D, 25, 1, "time.cts_sync_id", .c, false, .u32, .bits 0x1FFFFFFF, 0, false⟩
def time_cts_fup_id : PRef := ⟨0x0D, 26, 1, "time.cts_fup_id", .c, false, .u32, .bits 0x1FFFFFFF, 0, false⟩
def time_cts_ide : PRef := ⟨0x0D, 27, 1, "time.cts_ide", .c, false, .bool, .span 0 1, 1, false⟩
def time_cts_fup_format : PRef := ⟨0x0D, 28, 1, "time.cts_fup_format", .c, false, .enum, .span 0 1, 0, false⟩
def time_cts_period : PRef := ⟨0x0D, 29, 1, "time.cts_period", .c, false, .durUs, .span 10000 10000000, 100000, false⟩
def time_cts_fup_timeout : PRef := ⟨0x0D, 30, 1, "time.cts_fup_timeout", .l, false, .durUs, .span 1000 1000000, 10000,
  false⟩
def time_cts_key_slot : PRef := ⟨0x0D, 31, 1, "time.cts_key_slot", .s, false, .u16, .spans [(0, 255), (65535, 65535)],
  65535, false⟩
def time_cts_domain : PRef := ⟨0x0D, 32, 1, "time.cts_domain", .c, false, .u8, .span 0 15, 0, false⟩
def time_cts_require_cmac : PRef := ⟨0x0D, 33, 1, "time.cts_require_cmac", .s, false, .bool, .span 0 1, 1, false⟩
def time_tb3_checkpoint_interval : PRef := ⟨0x0D, 34, 1, "time.tb3_checkpoint_interval", .s, false, .durUs, .span
  1000000 600000000, 60000000, false⟩
def time_tb3_max_step : PRef := ⟨0x0D, 35, 1, "time.tb3_max_step", .s, false, .timeNs, .span 1000000000
  320000000000000000, 31536000000000000, false⟩
def time_gptp_pdelay_static : PRef := ⟨0x0D, 36, 10, "time.gptp_pdelay_static", .c, false, .u32, .span 0 100000, 0,
  false⟩
def time_delay_asymmetry : PRef := ⟨0x0D, 46, 10, "time.delay_asymmetry", .c, false, .s32, .span (-100000) 100000, 0,
  false⟩
def time_can_rx_adjust : PRef := ⟨0x0D, 56, 22, "time.can_rx_adjust", .c, false, .s32, .span (-10000) 10000, 0, false⟩
def time_tb0_state : PRef := ⟨0x0D, 78, 1, "time.tb0_state", .o, false, .enum, .span 0 5, 0, false⟩
def time_tb1_state : PRef := ⟨0x0D, 79, 1, "time.tb1_state", .o, false, .enum, .span 0 5, 0, false⟩
def time_tb0_increment : PRef := ⟨0x0D, 80, 1, "time.tb0_increment", .o, false, .u64, .span 0x03FF7CED92 0x040083126E, 17179869184, false⟩
def time_tb1_increment : PRef := ⟨0x0D, 81, 1, "time.tb1_increment", .o, false, .u64, .span 0x03FF7CED92 0x040083126E, 17179869184, false⟩
def time_tb0_last_offset : PRef := ⟨0x0D, 82, 1, "time.tb0_last_offset", .o, false, .s32, .any, 0, false⟩
def time_tb1_last_offset : PRef := ⟨0x0D, 83, 1, "time.tb1_last_offset", .o, false, .s32, .any, 0, false⟩
def time_gm_identity : PRef := ⟨0x0D, 84, 1, "time.gm_identity", .o, false, .u64, .any, 0, false⟩
def time_gm_rate_ppb : PRef := ⟨0x0D, 85, 1, "time.gm_rate_ppb", .o, false, .s32, .any, 0, false⟩
def time_domain_b_offset : PRef := ⟨0x0D, 86, 1, "time.domain_b_offset", .o, false, .s32, .any, 0, false⟩
def time_time_epoch : PRef := ⟨0x0D, 87, 1, "time.time_epoch", .o, false, .u8, .span 0 15, 0, false⟩
def time_as_capable : PRef := ⟨0x0D, 88, 1, "time.as_capable", .o, false, .mask64, .bits 0x3FF, 0, false⟩
def time_tb3_checkpoints : PRef := ⟨0x0D, 89, 1, "time.tb3_checkpoints", .o, false, .u32, .any, 0, false⟩
def time_holdover_elapsed : PRef := ⟨0x0D, 90, 1, "time.holdover_elapsed", .o, false, .durUs, .any, 0, false⟩
def time_cross_check_status : PRef := ⟨0x0D, 91, 1, "time.cross_check_status", .o, false, .u32, .any, 0, false⟩
def time_last_step_tb2 : PRef := ⟨0x0D, 92, 1, "time.last_step_tb2", .o, false, .timeNs, .any, 0, false⟩
def time_domain_b_gm_identity : PRef := ⟨0x0D, 93, 1, "time.domain_b_gm_identity", .o, false, .u64, .any, 0, false⟩
def time_cts_last_sequence : PRef := ⟨0x0D, 94, 1, "time.cts_last_sequence", .o, false, .u8, .span 0 15, 0, false⟩
def time_sleep_elapsed : PRef := ⟨0x0D, 95, 1, "time.sleep_elapsed", .o, false, .timeNs, .any, 0, false⟩
def sleep_wake_config : PRef := ⟨0x0E, 0, 22, "sleep.wake_config", .c, false, .u16, .bits 0x3F, 1, false⟩
def sleep_sleep_enable : PRef := ⟨0x0E, 22, 1, "sleep.sleep_enable", .c, false, .bool, .span 0 1, 1, false⟩
def sleep_lin_wake_mask : PRef := ⟨0x0E, 23, 1, "sleep.lin_wake_mask", .c, false, .mask64, .bits 0xFF, 255, false⟩
def sleep_tc10_wake_mask : PRef := ⟨0x0E, 24, 1, "sleep.tc10_wake_mask", .c, false, .mask64, .bits 0xFF, 0, false⟩
def sleep_input_wake_mask : PRef := ⟨0x0E, 25, 1, "sleep.input_wake_mask", .c, false, .mask64, .bits 0x1FFF, 4097,
  false⟩
def sleep_keep_awake_inputs : PRef := ⟨0x0E, 26, 1, "sleep.keep_awake_inputs", .c, false, .mask64, .bits 0x1FFF, 4097,
  false⟩
def sleep_wake_timer : PRef := ⟨0x0E, 27, 1, "sleep.wake_timer", .l, false, .u32, .span 0 2592000, 0, false⟩
def sleep_sleep_prep_time : PRef := ⟨0x0E, 28, 1, "sleep.sleep_prep_time", .l, false, .durUs, .span 100000 10000000,
  500000, false⟩
def sleep_nm_timeout : PRef := ⟨0x0E, 29, 1, "sleep.nm_timeout", .l, false, .durUs, .span 500000 60000000, 2000000,
  false⟩
def sleep_min_awake_time : PRef := ⟨0x0E, 30, 1, "sleep.min_awake_time", .l, false, .durUs, .span 0 600000000,
  5000000, false⟩
def sleep_false_wake_window : PRef := ⟨0x0E, 31, 1, "sleep.false_wake_window", .l, false, .durUs, .span 1000000
  600000000, 10000000, false⟩
def sleep_false_wake_limit : PRef := ⟨0x0E, 32, 1, "sleep.false_wake_limit", .l, false, .u8, .span 1 255, 5, false⟩
def sleep_ledger_threshold : PRef := ⟨0x0E, 33, 1, "sleep.ledger_threshold", .l, false, .durUs, .span 60000000
  3600000000, 1800000000, false⟩
def sleep_group_ports : PRef := ⟨0x0E, 34, 8, "sleep.group_ports", .c, false, .mask64, .bits 0x80000FFFFFFFFFFF, 0,
  false⟩
def sleep_nm_can_id : PRef := ⟨0x0E, 42, 1, "sleep.nm_can_id", .c, false, .u32, .bits 0xBFFFFFFF, 0, false⟩
def sleep_nm_can_mask : PRef := ⟨0x0E, 43, 1, "sleep.nm_can_mask", .c, false, .u32, .bits 0x1FFFFFFF, 536870656,
  false⟩
def sleep_nm_control : PRef := ⟨0x0E, 44, 1, "sleep.nm_control", .c, false, .u32, .bits 0x1FF0777, 1040, false⟩
def sleep_nm_udp_port : PRef := ⟨0x0E, 45, 1, "sleep.nm_udp_port", .c, false, .u16, .span 0 65535, 0, false⟩
def sleep_group_state : PRef := ⟨0x0E, 46, 1, "sleep.group_state", .o, false, .u32, .any, 0, false⟩
def sleep_last_wake : PRef := ⟨0x0E, 47, 1, "sleep.last_wake", .o, false, .u64, .any, 0, false⟩
def switch_control_source : PRef := ⟨0x0F, 0, 1, "switch.control_source", .c, false, .enum, .span 0 2, 0, false⟩
def switch_hold_in_safe : PRef := ⟨0x0F, 1, 1, "switch.hold_in_safe", .c, true, .bool, .span 0 1, 0, false⟩
def switch_current_limit : PRef := ⟨0x0F, 2, 1, "switch.current_limit", .l, true, .u16, .perClass (10000, 40000)
  (5000, 20000) (1500, 6000), 0, false⟩
def switch_inrush_limit : PRef := ⟨0x0F, 3, 1, "switch.inrush_limit", .l, true, .u16, .perClass (15000, 60000) (7500,
  30000) (2250, 9000), 0, false⟩
def switch_inrush_time : PRef := ⟨0x0F, 4, 1, "switch.inrush_time", .l, true, .durUs, .span 0 100000, 50000, false⟩
def switch_fast_trip_time : PRef := ⟨0x0F, 5, 1, "switch.fast_trip_time", .l, true, .durUs, .span 10 1000, 100, false⟩
def switch_overload_current : PRef := ⟨0x0F, 6, 1, "switch.overload_current", .l, true, .u16, .perClass (1000, 40000)
  (500, 20000) (200, 6000), 0, false⟩
def switch_overload_time : PRef := ⟨0x0F, 7, 1, "switch.overload_time", .l, true, .durUs, .span 1000 10000000,
  1000000, false⟩
def switch_open_load_threshold : PRef := ⟨0x0F, 8, 1, "switch.open_load_threshold", .l, false, .u16, .perClass (50,
  2000) (10, 500) (5, 100), 0, false⟩
def switch_open_load_time : PRef := ⟨0x0F, 9, 1, "switch.open_load_time", .l, false, .durUs, .span 1000 1000000,
  20000, false⟩
def switch_retry_count : PRef := ⟨0x0F, 10, 1, "switch.retry_count", .l, true, .u8, .span 0 15, 3, false⟩
def switch_retry_delay : PRef := ⟨0x0F, 11, 1, "switch.retry_delay", .l, false, .durUs, .span 10000 10000000, 100000,
  false⟩
def switch_signal_na_duty : PRef := ⟨0x0F, 12, 1, "switch.signal_na_duty", .l, false, .u16, .spans [(0, 1000), (65535,
  65535)], 0, false⟩
def switch_pwm_frequency : PRef := ⟨0x0F, 13, 1, "switch.pwm_frequency", .l, false, .u16, .span 100 1000, 200, false⟩
def switch_status : PRef := ⟨0x0F, 14, 1, "switch.status", .o, false, .u32, .any, 0, false⟩
def switch_current : PRef := ⟨0x0F, 15, 1, "switch.current", .o, false, .u32, .span 0 63938, 0, false⟩
def security_zsp_enable : PRef := ⟨0x11, 0, 1, "security.zsp_enable", .c, false, .bool, .span 0 1, 1, false⟩
def security_zsp_queue_limit : PRef := ⟨0x11, 1, 1, "security.zsp_queue_limit", .c, false, .u16, .span 64 1024, 256,
  false⟩
def security_zsp_fail_event_interval : PRef := ⟨0x11, 2, 1, "security.zsp_fail_event_interval", .l, false, .durUs,
  .span 100000 10000000, 1000000, false⟩
def security_zsp_counter_period : PRef := ⟨0x11, 3, 1, "security.zsp_counter_period", .l, false, .durUs, .span 10000
  10000000, 1000000, false⟩
def security_zsp_fail_escalate : PRef := ⟨0x11, 4, 1, "security.zsp_fail_escalate", .l, false, .u16, .span 0 65535,
  16, false⟩
def security_routebook_key_slot : PRef := ⟨0x11, 5, 1, "security.routebook_key_slot", .s, true, .u16, .span 0 255,
  248, false⟩
def security_key_update_enable : PRef := ⟨0x11, 6, 1, "security.key_update_enable", .s, true, .bool, .span 0 1, 1,
  false⟩
def security_orphan_sweep_interval : PRef := ⟨0x11, 7, 1, "security.orphan_sweep_interval", .l, false, .durUs, .span
  1000000 600000000, 10000000, false⟩
def security_attest_enable : PRef := ⟨0x11, 8, 1, "security.attest_enable", .s, false, .bool, .span 0 1, 1, false⟩
def security_key_use_event_interval : PRef := ⟨0x11, 9, 1, "security.key_use_event_interval", .l, false, .durUs, .span
  100000 10000000, 1000000, false⟩
def security_zsp_port_mode : PRef := ⟨0x11, 10, 22, "security.zsp_port_mode", .l, false, .u8, .bits 0x3, 3, false⟩
def security_key_slots_valid : PRef := ⟨0x11, 32, 1, "security.key_slots_valid", .o, false, .u16, .span 0 256, 0,
  false⟩
def security_key_slots_orphaned : PRef := ⟨0x11, 33, 1, "security.key_slots_orphaned", .o, false, .u16, .span 0 256,
  0, false⟩
def security_secured_flows_valid : PRef := ⟨0x11, 34, 1, "security.secured_flows_valid", .o, false, .u16, .span 0
  2048, 0, false⟩
def security_zsp_ops_per_s : PRef := ⟨0x11, 35, 1, "security.zsp_ops_per_s", .o, false, .u32, .span 0 1000000, 0,
  false⟩
def security_fuse_status : PRef := ⟨0x11, 36, 1, "security.fuse_status", .o, false, .u32, .any, 0, false⟩
def security_cert_serial : PRef := ⟨0x11, 37, 1, "security.cert_serial", .o, false, .u64, .any, 0, false⟩
def security_key_store_generation : PRef := ⟨0x11, 38, 1, "security.key_store_generation", .o, false, .u32, .any, 0,
  false⟩
def security_last_key_commit : PRef := ⟨0x11, 39, 1, "security.last_key_commit", .o, false, .timeNs, .any, 0, false⟩
def journal_enable : PRef := ⟨0x12, 0, 1, "journal.enable", .c, false, .bool, .span 0 1, 1, false⟩
def journal_pulse_input : PRef := ⟨0x12, 1, 1, "journal.pulse_input", .c, false, .enum, .span 0 2, 1, false⟩
def journal_pulse_k : PRef := ⟨0x12, 2, 1, "journal.pulse_k", .c, true, .u32, .span 1000 50000, 8000, false⟩
def journal_can_speed_timeout : PRef := ⟨0x12, 3, 1, "journal.can_speed_timeout", .l, false, .durUs, .span 100000
  10000000, 1000000, false⟩
def journal_gnss_max_age : PRef := ⟨0x12, 4, 1, "journal.gnss_max_age", .l, false, .durUs, .span 500000 10000000,
  2000000, false⟩
def journal_abs_tolerance : PRef := ⟨0x12, 5, 1, "journal.abs_tolerance", .l, true, .u16, .span 10 500, 50, false⟩
def journal_rel_tolerance : PRef := ⟨0x12, 6, 1, "journal.rel_tolerance", .l, true, .u8, .span 0 128, 13, false⟩
def journal_disagree_time : PRef := ⟨0x12, 7, 1, "journal.disagree_time", .l, true, .durUs, .span 1000000 600000000,
  10000000, false⟩
def journal_agree_time : PRef := ⟨0x12, 8, 1, "journal.agree_time", .l, false, .durUs, .span 1000000 600000000,
  30000000, false⟩
def journal_moving_threshold : PRef := ⟨0x12, 9, 1, "journal.moving_threshold", .l, false, .u16, .span 10 200, 30,
  false⟩
def journal_ignition_input : PRef := ⟨0x12, 10, 1, "journal.ignition_input", .c, false, .u8, .span 0 11, 0, false⟩
def journal_event_chapter_mask : PRef := ⟨0x12, 11, 1, "journal.event_chapter_mask", .l, false, .mask64, .bits
  0x1FFFFC, 1814528, false⟩
def journal_event_min_severity : PRef := ⟨0x12, 12, 1, "journal.event_min_severity", .l, false, .enum, .span 0 3, 1,
  false⟩
def journal_disagreement_severity : PRef := ⟨0x12, 13, 1, "journal.disagreement_severity", .l, true, .enum, .span 1 3,
  2, false⟩
def journal_watch_state : PRef := ⟨0x12, 14, 1, "journal.watch_state", .o, false, .enum, .span 0 3, 0, false⟩
def journal_watch_speed : PRef := ⟨0x12, 15, 1, "journal.watch_speed", .o, false, .u16, .any, 65535, false⟩
def journal_pulse_speed : PRef := ⟨0x12, 16, 1, "journal.pulse_speed", .o, false, .u16, .any, 65535, false⟩
def journal_can_speed : PRef := ⟨0x12, 17, 1, "journal.can_speed", .o, false, .u16, .any, 65535, false⟩
def journal_gnss_speed : PRef := ⟨0x12, 18, 1, "journal.gnss_speed", .o, false, .u16, .any, 65535, false⟩
def journal_next_sequence : PRef := ⟨0x12, 19, 1, "journal.next_sequence", .o, false, .u32, .any, 0, false⟩
def journal_oldest_sequence : PRef := ⟨0x12, 20, 1, "journal.oldest_sequence", .o, false, .u32, .any, 0, false⟩
def journal_ring_used : PRef := ⟨0x12, 21, 1, "journal.ring_used", .o, false, .u32, .span 0 29360128, 0, false⟩
def journal_last_seal_sequence : PRef := ⟨0x12, 22, 1, "journal.last_seal_sequence", .o, false, .u32, .any, 0, false⟩
def journal_pulse_odometer : PRef := ⟨0x12, 23, 1, "journal.pulse_odometer", .o, false, .u32, .any, 0, false⟩
def supply_vbat : PRef := ⟨0x13, 0, 1, "supply.vbat", .o, false, .u16, .any, 0, false⟩
def supply_vbat_min : PRef := ⟨0x13, 1, 1, "supply.vbat_min", .o, false, .u16, .any, 0, false⟩
def supply_vbat_max : PRef := ⟨0x13, 2, 1, "supply.vbat_max", .o, false, .u16, .any, 0, false⟩
def supply_supply_range : PRef := ⟨0x13, 3, 1, "supply.supply_range", .o, false, .enum, .span 0 3, 0, false⟩
def supply_uv_filter : PRef := ⟨0x13, 4, 1, "supply.uv_filter", .l, false, .durUs, .span 100 100000, 1000, false⟩
def supply_uv_recover_time : PRef := ⟨0x13, 5, 1, "supply.uv_recover_time", .l, false, .durUs, .span 10000 5000000,
  100000, false⟩
def supply_ov_filter : PRef := ⟨0x13, 6, 1, "supply.ov_filter", .l, false, .durUs, .span 10 10000, 100, false⟩
def supply_ov_recover_time : PRef := ⟨0x13, 7, 1, "supply.ov_recover_time", .l, false, .durUs, .span 1000 1000000,
  10000, false⟩
def supply_vbat_warn_low : PRef := ⟨0x13, 8, 1, "supply.vbat_warn_low", .l, true, .u16, .span 8000 24000, 18000,
  false⟩
def supply_vbat_warn_high : PRef := ⟨0x13, 9, 1, "supply.vbat_warn_high", .l, true, .u16, .span 24000 36000, 32000,
  false⟩
def supply_vbat_warn_hysteresis : PRef := ⟨0x13, 10, 1, "supply.vbat_warn_hysteresis", .l, false, .u16, .span 100
  2000, 500, false⟩
def supply_supply_event_interval : PRef := ⟨0x13, 11, 1, "supply.supply_event_interval", .l, false, .durUs, .span
  100000 10000000, 1000000, false⟩
def supply_base_plate_temp : PRef := ⟨0x13, 12, 1, "supply.base_plate_temp", .o, false, .s32, .any, 0, false⟩
def supply_base_plate_warning : PRef := ⟨0x13, 13, 1, "supply.base_plate_warning", .c, true, .s32, .span 70000 95000,
  90000, false⟩
def supply_channel_power : PRef := ⟨0x13, 14, 1, "supply.channel_power", .o, false, .u32, .any, 0, false⟩
def supply_channel_power_limit : PRef := ⟨0x13, 15, 1, "supply.channel_power_limit", .o, false, .u32, .span 4200 8400,
  0, false⟩
def supply_electronics_power : PRef := ⟨0x13, 16, 1, "supply.electronics_power", .o, false, .u32, .any, 0, false⟩
def supply_thermal_shed_enable : PRef := ⟨0x13, 17, 1, "supply.thermal_shed_enable", .c, true, .bool, .span 0 1, 1,
  false⟩
def supply_ground_offset : PRef := ⟨0x13, 18, 1, "supply.ground_offset", .o, false, .s32, .any, 0, false⟩
def supply_ground_loss_threshold : PRef := ⟨0x13, 19, 1, "supply.ground_loss_threshold", .c, false, .u16, .span 500
  3000, 1500, false⟩
def supply_holdup_time : PRef := ⟨0x13, 20, 1, "supply.holdup_time", .o, false, .durUs, .any, 0, false⟩
def supply_holdup_warning : PRef := ⟨0x13, 21, 1, "supply.holdup_warning", .c, false, .durUs, .span 50 500, 100,
  false⟩
def supply_uv_recover_threshold : PRef := ⟨0x13, 22, 1, "supply.uv_recover_threshold", .o, false, .u16, .any, 8500,
  false⟩
def supply_ov_recover_threshold : PRef := ⟨0x13, 23, 1, "supply.ov_recover_threshold", .o, false, .u16, .any, 34000,
  false⟩
def update_update_enable : PRef := ⟨0x14, 0, 1, "update.update_enable", .s, true, .bool, .span 0 1, 1, false⟩
def update_allow_dp_reset : PRef := ⟨0x14, 1, 1, "update.allow_dp_reset", .s, true, .bool, .span 0 1, 0, false⟩
def update_trial_window : PRef := ⟨0x14, 2, 1, "update.trial_window", .s, false, .durUs, .span 60000000 3600000000,
  600000000, false⟩
def update_trial_max_restarts : PRef := ⟨0x14, 3, 1, "update.trial_max_restarts", .s, false, .u8, .span 1 10, 3,
  false⟩
def update_self_confirm_time : PRef := ⟨0x14, 4, 1, "update.self_confirm_time", .s, false, .durUs, .span 10000000
  600000000, 60000000, false⟩
def update_fuse_advance : PRef := ⟨0x14, 5, 1, "update.fuse_advance", .s, true, .bool, .span 0 1, 1, false⟩
def update_routebook_min_version : PRef := ⟨0x14, 6, 1, "update.routebook_min_version", .s, true, .u32, .any, 0,
  false⟩
def update_update_state : PRef := ⟨0x14, 7, 1, "update.update_state", .o, false, .enum, .span 0 3, 0, false⟩
def update_bank_a_version : PRef := ⟨0x14, 8, 1, "update.bank_a_version", .o, false, .u32, .any, 0, false⟩
def update_bank_b_version : PRef := ⟨0x14, 9, 1, "update.bank_b_version", .o, false, .u32, .any, 0, false⟩
def update_bank_status : PRef := ⟨0x14, 10, 1, "update.bank_status", .o, false, .u32, .any, 0, false⟩
def update_trial_elapsed : PRef := ⟨0x14, 11, 1, "update.trial_elapsed", .o, false, .durUs, .any, 0, false⟩
def update_trial_restarts : PRef := ⟨0x14, 12, 1, "update.trial_restarts", .o, false, .u8, .span 0 11, 0, false⟩
def update_staged_security_version : PRef := ⟨0x14, 13, 1, "update.staged_security_version", .o, false, .u16, .span 0
  64, 0, false⟩
def update_active_slot : PRef := ⟨0x14, 14, 1, "update.active_slot", .o, false, .u8, .spans [(0, 1), (255, 255)], 255,
  false⟩
def update_last_update_result : PRef := ⟨0x14, 15, 1, "update.last_update_result", .o, false, .enum, .span 0 5, 0,
  false⟩
def io_din_config : PRef := ⟨0x10, 0, 12, "io.din_config", .c, false, .u16, .bits 0xF, 1, false⟩
def io_din_debounce : PRef := ⟨0x10, 12, 12, "io.din_debounce", .l, false, .durUs, .span 1000 1000000, 10000, false⟩
def io_din_state : PRef := ⟨0x10, 24, 1, "io.din_state", .o, false, .mask64, .bits 0x1FFF, 0, false⟩
def io_doip_act_debounce : PRef := ⟨0x10, 25, 1, "io.doip_act_debounce", .l, false, .durUs, .span 1000 1000000, 50000,
  false⟩
def io_freq_config : PRef := ⟨0x10, 26, 2, "io.freq_config", .c, false, .u16, .bits 0xFF0F, 0, false⟩
def io_freq_count : PRef := ⟨0x10, 28, 2, "io.freq_count", .o, false, .u32, .any, 0, false⟩
def io_freq_hz : PRef := ⟨0x10, 30, 2, "io.freq_hz", .o, false, .u32, .any, 0, false⟩
def io_ain_config : PRef := ⟨0x10, 32, 4, "io.ain_config", .c, false, .u8, .bits 0x3, 0, false⟩
def io_ain_value : PRef := ⟨0x10, 36, 4, "io.ain_value", .o, false, .u16, .span 0 32000, 0, false⟩
def io_q_config : PRef := ⟨0x10, 40, 4, "io.q_config", .c, false, .u16, .bits 0xF03, 0, false⟩
def io_q_state : PRef := ⟨0x10, 44, 1, "io.q_state", .l, false, .mask64, .bits 0xF, 0, false⟩
def io_sensor_supply_mode : PRef := ⟨0x10, 45, 1, "io.sensor_supply_mode", .c, false, .enum, .span 0 2, 1, false⟩
def io_sensor_supply_status : PRef := ⟨0x10, 46, 1, "io.sensor_supply_status", .o, false, .u32, .any, 0, false⟩
def io_pos_raw : PRef := ⟨0x10, 47, 1, "io.pos_raw", .o, false, .u32, .any, 0, false⟩

end P

def params02 : List PRef := [P.session_borul_udp_port, P.session_borul_vlan, P.session_borul_port_mask,
  P.session_borul_ipv4_addr, P.session_borul_ipv4_prefix, P.session_borul_ipv6_addr, P.session_borul_ipv6_prefix,
  P.session_host_allow_ipv4, P.session_isotp_channel, P.session_isotp_request_id, P.session_isotp_response_id,
  P.session_isotp_frame_format, P.session_isotp_block_size, P.session_isotp_stmin, P.session_session_idle_timeout,
  P.session_auth_window, P.session_fragment_timeout, P.session_auth_lockout_threshold, P.session_auth_lockout_time,
  P.session_critical_resend_interval, P.session_active_sessions, P.session_borul_version_range]
def params01 : List PRef := [P.module_module_state, P.module_variant, P.module_hardware_revision,
  P.module_firmware_version, P.module_detour_version, P.module_unique_id, P.module_position_code,
  P.module_position_override, P.module_route_book_variant, P.module_route_book_id, P.module_route_book_format,
  P.module_param_generation, P.module_data_plane_uptime, P.module_management_uptime, P.module_last_reset_cause,
  P.module_last_restart_cause, P.module_hold_scope, P.module_hold_remaining, P.module_config_modified,
  P.module_hold_max_speed, P.module_vin, P.module_installation_label, P.module_vehicle_class, P.module_footpath_enable,
  P.module_footpath_routes, P.module_mgmt_watchdog_timeout, P.module_restart_limit, P.module_restart_window,
  P.module_unmanaged_limit, P.module_safe_exit_mode, P.module_full_reset_enable, P.module_gateway_die_temp,
  P.module_power_die_temp, P.module_die_temp_warning, P.module_die_temp_hysteresis, P.module_fault_out_enable,
  P.module_fault_out_min_severity, P.module_fault_out_chapter_mask, P.module_fault_out_latch, P.module_oem_part_number,
  P.module_oem_software_label, P.module_hold_max_duration, P.module_preset_status, P.module_clock_status,
  P.module_boot_bank, P.module_fuse_security_version, P.module_config_source]
def params04 : List PRef := [P.ingress_parse_entry, P.ingress_port_mode, P.ingress_parse_budget,
  P.ingress_j1939_max_size, P.ingress_j1939_sessions_per_channel, P.ingress_j1939_cts_packets, P.ingress_j1939_t1,
  P.ingress_j1939_t2, P.ingress_j1939_t3, P.ingress_j1939_t4]
def params05 : List PRef := [P.cls_lookup_mode, P.cls_learn_limit, P.cls_learn_age_time, P.cls_learn_move_action,
  P.cls_learn_total_limit, P.cls_hash_seed, P.cls_hash_max_kicks, P.cls_commit_pause_limit, P.cls_miss_event_interval,
  P.cls_hash_used, P.cls_learned_used, P.cls_tcam_used, P.cls_lpm4_used, P.cls_lpm6_used, P.cls_dlist_used,
  P.cls_poisoned_entries, P.cls_commit_generation, P.cls_last_commit_pause, P.cls_staged_operations]
def params06 : List PRef := [P.flows_learn_gaps, P.flows_learn_time, P.flows_gap_tolerance, P.flows_late_tolerance,
  P.flows_periodic_jitter_limit, P.flows_sparse_min_gaps, P.flows_layby_max_hold, P.flows_layby_event_interval,
  P.flows_violation_event_interval, P.flows_escalate_severity, P.flows_mark_dei, P.flows_yellow_dei,
  P.flows_relearn_on_activation, P.flows_port_flow_mode, P.flows_layby_tiles, P.flows_layby_frames,
  P.flows_quarantined_records]
def params07 : List PRef := [P.fabric_allot, P.fabric_allot_preset, P.fabric_allot_borrow,
  P.fabric_starvation_possible, P.fabric_reserve_e01, P.fabric_reserve_e27, P.fabric_reserve_e810, P.fabric_reserve_can,
  P.fabric_reserve_lin, P.fabric_reserve_internal, P.fabric_reserve_reassembly, P.fabric_shared_alpha,
  P.fabric_bp_ceiling, P.fabric_bp_low_mark, P.fabric_multicast_hold, P.fabric_cut_start, P.fabric_tiles_free,
  P.fabric_tiles_retired]
def params08 : List PRef := [P.egress_queue_limit, P.egress_tc_flags, P.egress_idle_slope, P.egress_max_sdu,
  P.egress_tc_pcp, P.egress_queue_status]
def params08Can : List PRef := [P.egressCan_queue_limit, P.egressCan_queue_objects, P.egressCan_queue_status]
def params09 : List PRef := [P.junction_enable, P.junction_i1_queue_limit, P.junction_signal_event_interval,
  P.junction_start_grace, P.junction_eth_key_offset, P.junction_tunnel_template, P.junction_tunnel_flush_time,
  P.junction_tunnel_max_length, P.junction_ops_per_ms]
def params0A : List PRef := [P.can_mode, P.can_formats, P.can_nominal_rate, P.can_nominal_sample_point,
  P.can_data_rate, P.can_data_sample_point, P.can_xl_data_rate, P.can_xl_sample_point, P.can_nominal_brp,
  P.can_nominal_tseg1, P.can_nominal_tseg2, P.can_nominal_sjw, P.can_data_brp, P.can_data_tseg1, P.can_data_tseg2,
  P.can_data_sjw, P.can_xl_brp, P.can_xl_tseg1, P.can_xl_tseg2, P.can_xl_sjw, P.can_tdc_mode, P.can_tdc_offset,
  P.can_xl_pwm, P.can_xl_transceiver_mode, P.can_auto_retransmit, P.can_collision_hold, P.can_own_name,
  P.can_own_address, P.can_address_range, P.can_claim_enable, P.can_rate_detect_candidates, P.can_rate_detect_frames,
  P.can_rate_detect_timeout, P.can_error_event_interval, P.can_controller_state, P.can_detected_rate,
  P.can_transceiver_status, P.can_own_address_current, P.can_bus_load, P.can_last_error]
def params0B : List PRef := [P.lin_enable, P.lin_bit_rate, P.lin_break_bits, P.lin_break_delimiter_bits,
  P.lin_response_tolerance, P.lin_enhanced_checksum, P.lin_startup_table, P.lin_switch_mode, P.lin_requested_table,
  P.lin_no_response_limit, P.lin_error_event_interval, P.lin_stale_policy, P.lin_wake_pulse, P.lin_active_table,
  P.lin_active_entry, P.lin_state, P.lin_last_error, P.lin_entries_used, P.lin_publish_mask, P.lin_subscribe_mask,
  P.lin_bus_load, P.lin_header_delay_max, P.lin_schedule_generation, P.lin_pending_table]
def params0C : List PRef := [P.eth_phy_mode, P.eth_phy_role, P.eth_max_frame_size, P.eth_default_vid,
  P.eth_default_pcp, P.eth_accept_frames, P.eth_pause_mode, P.eth_pfc_priorities, P.eth_pause_quanta,
  P.eth_honour_pause, P.eth_macsec_enable, P.eth_macsec_cipher, P.eth_macsec_confidentiality, P.eth_macsec_include_sci,
  P.eth_macsec_validate, P.eth_macsec_replay_window, P.eth_macsec_bypass, P.eth_mka_cak_slot, P.eth_mka_priority,
  P.eth_mka_hello_time, P.eth_sak_rekey_fraction, P.eth_tc10_enable, P.eth_tc10_sleep_accept, P.eth_plca_enable,
  P.eth_plca_node_id, P.eth_plca_node_count, P.eth_plca_to_timer, P.eth_plca_burst_count, P.eth_plca_burst_timer,
  P.eth_link_status, P.eth_macsec_status, P.eth_macsec_tx_pn, P.eth_mac_address, P.eth_doip_enable,
  P.eth_doip_ipv4_addr, P.eth_doip_ipv4_prefix, P.eth_doip_logical_address, P.eth_doip_tester_base,
  P.eth_doip_functional_address, P.eth_doip_activation_mode, P.eth_doip_deactivation_delay,
  P.eth_doip_inactivity_timeout, P.eth_doip_max_message, P.eth_doip_isotp_bs, P.eth_doip_isotp_stmin,
  P.eth_doip_channel_mask, P.eth_doip_fd_mask, P.eth_doip_channels_active]
def params0D : List PRef := [P.time_tb0_mode, P.time_tb0_failover, P.time_tb1_mode, P.time_servo_step_threshold,
  P.time_servo_step_confirm, P.time_slew_window, P.time_rate_limit_ppm, P.time_reject_limit, P.time_holdover_limit,
  P.time_sync_receipt_timeout, P.time_gptp_enable, P.time_gptp_domain_b, P.time_gptp_slave_port,
  P.time_gptp_master_ports, P.time_gptp_log_sync_interval, P.time_gptp_log_pdelay_interval, P.time_gptp_pdelay_mode,
  P.time_gptp_pdelay_thresh, P.time_gm_priority1, P.time_gm_clock_class, P.time_gm_clock_accuracy, P.time_gm_variance,
  P.time_gm_time_source, P.time_cts_master_mask, P.time_cts_follower_channel, P.time_cts_sync_id, P.time_cts_fup_id,
  P.time_cts_ide, P.time_cts_fup_format, P.time_cts_period, P.time_cts_fup_timeout, P.time_cts_key_slot,
  P.time_cts_domain, P.time_cts_require_cmac, P.time_tb3_checkpoint_interval, P.time_tb3_max_step,
  P.time_gptp_pdelay_static, P.time_delay_asymmetry, P.time_can_rx_adjust, P.time_tb0_state, P.time_tb1_state,
  P.time_tb0_increment, P.time_tb1_increment, P.time_tb0_last_offset, P.time_tb1_last_offset, P.time_gm_identity,
  P.time_gm_rate_ppb, P.time_domain_b_offset, P.time_time_epoch, P.time_as_capable, P.time_tb3_checkpoints,
  P.time_holdover_elapsed, P.time_cross_check_status, P.time_last_step_tb2, P.time_domain_b_gm_identity,
  P.time_cts_last_sequence, P.time_sleep_elapsed]
def params0E : List PRef := [P.sleep_wake_config, P.sleep_sleep_enable, P.sleep_lin_wake_mask, P.sleep_tc10_wake_mask,
  P.sleep_input_wake_mask, P.sleep_keep_awake_inputs, P.sleep_wake_timer, P.sleep_sleep_prep_time, P.sleep_nm_timeout,
  P.sleep_min_awake_time, P.sleep_false_wake_window, P.sleep_false_wake_limit, P.sleep_ledger_threshold,
  P.sleep_group_ports, P.sleep_nm_can_id, P.sleep_nm_can_mask, P.sleep_nm_control, P.sleep_nm_udp_port,
  P.sleep_group_state, P.sleep_last_wake]
def params0F : List PRef := [P.switch_control_source, P.switch_hold_in_safe, P.switch_current_limit,
  P.switch_inrush_limit, P.switch_inrush_time, P.switch_fast_trip_time, P.switch_overload_current,
  P.switch_overload_time, P.switch_open_load_threshold, P.switch_open_load_time, P.switch_retry_count,
  P.switch_retry_delay, P.switch_signal_na_duty, P.switch_pwm_frequency, P.switch_status, P.switch_current]
def params11 : List PRef := [P.security_zsp_enable, P.security_zsp_queue_limit, P.security_zsp_fail_event_interval,
  P.security_zsp_counter_period, P.security_zsp_fail_escalate, P.security_routebook_key_slot,
  P.security_key_update_enable, P.security_orphan_sweep_interval, P.security_attest_enable,
  P.security_key_use_event_interval, P.security_zsp_port_mode, P.security_key_slots_valid,
  P.security_key_slots_orphaned, P.security_secured_flows_valid, P.security_zsp_ops_per_s, P.security_fuse_status,
  P.security_cert_serial, P.security_key_store_generation, P.security_last_key_commit]
def params12 : List PRef := [P.journal_enable, P.journal_pulse_input, P.journal_pulse_k, P.journal_can_speed_timeout,
  P.journal_gnss_max_age, P.journal_abs_tolerance, P.journal_rel_tolerance, P.journal_disagree_time,
  P.journal_agree_time, P.journal_moving_threshold, P.journal_ignition_input, P.journal_event_chapter_mask,
  P.journal_event_min_severity, P.journal_disagreement_severity, P.journal_watch_state, P.journal_watch_speed,
  P.journal_pulse_speed, P.journal_can_speed, P.journal_gnss_speed, P.journal_next_sequence, P.journal_oldest_sequence,
  P.journal_ring_used, P.journal_last_seal_sequence, P.journal_pulse_odometer]
def params13 : List PRef := [P.supply_vbat, P.supply_vbat_min, P.supply_vbat_max, P.supply_supply_range,
  P.supply_uv_filter, P.supply_uv_recover_time, P.supply_ov_filter, P.supply_ov_recover_time, P.supply_vbat_warn_low,
  P.supply_vbat_warn_high, P.supply_vbat_warn_hysteresis, P.supply_supply_event_interval, P.supply_base_plate_temp,
  P.supply_base_plate_warning, P.supply_channel_power, P.supply_channel_power_limit, P.supply_electronics_power,
  P.supply_thermal_shed_enable, P.supply_ground_offset, P.supply_ground_loss_threshold, P.supply_holdup_time,
  P.supply_holdup_warning, P.supply_uv_recover_threshold, P.supply_ov_recover_threshold]
def params14 : List PRef := [P.update_update_enable, P.update_allow_dp_reset, P.update_trial_window,
  P.update_trial_max_restarts, P.update_self_confirm_time, P.update_fuse_advance, P.update_routebook_min_version,
  P.update_update_state, P.update_bank_a_version, P.update_bank_b_version, P.update_bank_status, P.update_trial_elapsed,
  P.update_trial_restarts, P.update_staged_security_version, P.update_active_slot, P.update_last_update_result]
def params10 : List PRef := [P.io_din_config, P.io_din_debounce, P.io_din_state, P.io_doip_act_debounce,
  P.io_freq_config, P.io_freq_count, P.io_freq_hz, P.io_ain_config, P.io_ain_value, P.io_q_config, P.io_q_state,
  P.io_sensor_supply_mode, P.io_sensor_supply_status, P.io_pos_raw]

/-- Every row of every parameter table. -/
def paramDir : List PRef :=
  params02 ++ params01 ++ params04 ++ params05 ++ params06 ++ params07 ++ params08 ++ params08Can ++ params09 ++ params0A ++ params0B ++ params0C ++ params0D ++ params0E ++ params0F ++ params11 ++ params12 ++ params13 ++ params14 ++ params10

/-- Table 07-5: index, then the value under BALANCED, GATEWAY_HEAVY and SIGNAL_HEAVY; unlisted pairs hold 0. -/
def allotPresets : List (Nat × Nat × Nat × Nat) :=
  [(2, 128, 128, 128), (3, 1024, 1536, 768), (8, 256, 128, 512), (9, 64, 64, 64), (10, 256, 256, 256), (13, 256,
   256, 256), (22, 128, 128, 128), (23, 1280, 1920, 1024), (24, 512, 256, 1024), (26, 256, 256, 256), (29, 256,
   256, 256), (32, 400, 400, 400), (33, 400, 400, 400), (36, 192, 256, 160), (37, 96, 128, 64), (40, 192, 96,
   320), (41, 32, 32, 32), (43, 64, 96, 32), (44, 128, 128, 128), (47, 32, 32, 32), (58, 200, 200, 200), (61, 64,
   64, 64), (62, 32, 32, 32), (76, 192, 192, 192), (77, 128, 128, 128), (79, 64, 64, 64), (93, 40, 40, 40), (94,
   56, 56, 56)]

/-- Value of allotment pair `i` under preset `p` (R220). -/
def allotPreset (p i : Nat) : Nat :=
  match allotPresets.find? (fun r => r.1 == i) with
  | none => 0
  | some (_, b, g, s) => if p == 0 then b else if p == 1 then g else s

/-- Class of a switch channel (Table 14-1): 0 for H00 to H03, 1 for H04 to H11, 2 for H12 to H19. -/
def chanClass (k : Nat) : Nat := if k < 4 then 0 else if k < 12 then 1 else 2

def pick3 (k : Nat) (a b c : Int) : Int := if k == 0 then a else if k == 1 then b else c

/-- The default of element `e` of row `r`, instance `i`, where it depends on either. -/
def PRef.default (r : PRef) (i e : Nat) : Int :=
  match r.blk, r.idx with
  | 0x04, 44 => if e < 2 then 0x0060C000 else if e < 8 then 0x00183000 else if e < 14 then 0x00060C00 else 0
  | 0x05, 0 => if e < 11 then 0x12 else if 14 ≤ e ∧ e < 36 then 6 else 2
  | 0x06, 13 => if 11 ≤ e ∧ e < 14 then 0 else 3
  | 0x07, 0 => allotPreset 0 e
  | 0x08, 32 => e
  | 0x0A, 2 => if 20 ≤ i then 125000 else 500000
  | 0x0A, 8 => if 20 ≤ i then 2 else 1
  | 0x0A, 9 => if 20 ≤ i then 255 else 127
  | 0x0A, 10 => if 20 ≤ i then 64 else 32
  | 0x0A, 11 => if 20 ≤ i then 64 else 32
  | 0x0C, 0 => if i < 2 then 1 else if i < 8 then 4 else if i < 10 then 6 else 7
  | 0x0C, 1 => if i == 10 then 0 else 1
  | 0x0C, 23 => if i == 8 || i == 9 then 1 else 0
  | 0x0C, 24 => if i == 8 || i == 9 then 0 else 255
  | 0x0C, 33 => if i == 10 then 1 else 0
  | 0x0C, 36 => if i == 10 then 0x1001 else 0
  | 0x0F, 2 => pick3 (chanClass i) 40000 20000 6000
  | 0x0F, 3 => pick3 (chanClass i) 60000 30000 9000
  | 0x0F, 6 => pick3 (chanClass i) 18750 7500 2500
  | 0x0F, 8 => pick3 (chanClass i) 200 50 10
  | 0x10, 26 => if e == 0 then 0x0501 else 0x0500
  | _, _ => r.dflt

/-- Width of a type in bits (Table 03-1). -/
def PType.width : PType → Nat
  | .u8 | .bool => 8
  | .u16 | .enum => 16
  | .u32 | .s32 | .durUs => 32
  | .u64 | .mask64 | .timeNs => 64

def PType.code : PType → Nat
  | .u8 => 0 | .u16 => 1 | .u32 => 2 | .u64 => 3 | .s32 => 4
  | .bool => 5 | .enum => 6 | .mask64 => 7 | .timeNs => 8 | .durUs => 9

def PClass.code : PClass → Nat
  | .c => 0 | .l => 1 | .o => 2 | .s => 3

/-- The blocks of Table 03-4: block, chapter file, first and last instance, parameters per instance. -/
def blockDir : List (Nat × Nat × Nat × Nat × Nat) :=
  [(0x01, 3, 0, 0, 64), (0x02, 2, 0, 0, 32), (0x04, 4, 0, 0, 96), (0x05, 5, 0, 0, 72), (0x06, 6, 0, 0, 60),
   (0x07, 7, 0, 0, 128), (0x08, 8, 0, 10, 48), (0x08, 8, 32, 53, 12), (0x09, 9, 0, 0, 64), (0x0A, 10, 0, 21, 40),
   (0x0B, 10, 0, 7, 24), (0x0C, 11, 0, 10, 48), (0x0D, 12, 0, 0, 96), (0x0E, 13, 0, 0, 48), (0x0F, 14, 0, 19, 16),
   (0x10, 21, 0, 0, 48), (0x11, 15, 0, 0, 40), (0x12, 16, 0, 0, 24), (0x13, 17, 0, 0, 24), (0x14, 19, 0, 0, 16)]

/-- A parameter found by its ID: its row, instance and element; or the status R61 answers. -/
inductive PFound where
  | found (r : PRef) (inst elem : Nat)
  | bad (status : Nat)
  deriving DecidableEq, Repr

/-- Resolve a parameter ID (R57, R61). -/
def findParam (id : Nat) : PFound :=
  let blk := id / 16777216
  let inst := id / 65536 % 256
  let idx := id % 65536
  if !blockDir.any (fun b => b.1 == blk) then .bad 0x0103
  else if !blockDir.any (fun b => b.1 == blk && b.2.2.1 ≤ inst && inst ≤ b.2.2.2.1 && idx < b.2.2.2.2) then
    .bad 0x0104
  else
    match paramDir.find? (fun r => r.blk == blk && r.idx ≤ idx && idx < r.idx + r.count
        && (blk != 0x08 || r.can == decide (32 ≤ inst))) with
    | some r => .found r inst (idx - r.idx)
    | none => .bad 0x0104

end Sys2Proof.Machine
end

