-- ==== Sys2Proof/Machine/Ops.lean ====
section
/-! DEFINITION. The shared operations every command is built of: reading time, parameters and counters, the effects
a command may have on the time bases, the event queue, the counters and the outside (`Eff`, with `applyEff` as their
only writer), and `run`, the one shape of every meaning. -/

namespace Sys2Proof.Machine

/-! ### Time (R362-R367, R42) -/

def TimeBase.full (t : TimeBase) : Nat := t.m.toNat * 2 ^ 32 + t.n.toNat

/-- `k` clock edges of R363: the increment is added to n and the fraction, a carry out of n raises m. -/
def TimeBase.edges (t : TimeBase) (k : Nat) : TimeBase :=
  let x := t.n.toNat * 2 ^ 32 + t.frac.toNat + k * t.incr.toNat
  { t with
    m := BitVec.ofNat 32 (t.m.toNat + x / 2 ^ 64)
    n := BitVec.ofNat 32 (x / 2 ^ 32)
    frac := BitVec.ofNat 32 x }

/-- Edges until a carry leaves n (at least one). -/
def TimeBase.toWrap (t : TimeBase) : Nat :=
  let left := 2 ^ 64 - (t.n.toNat * 2 ^ 32 + t.frac.toNat)
  if t.incr.toNat = 0 then 0 else (left + t.incr.toNat - 1) / t.incr.toNat

/-- Set n and m to a full time (R365: both change in one edge). -/
def TimeBase.setFull (t : TimeBase) (v : Nat) : TimeBase :=
  { t with m := BitVec.ofNat 32 (v / 2 ^ 32), n := BitVec.ofNat 32 v }

def TimeBase.step (t : TimeBase) (off : Int) : TimeBase :=
  t.setFull (twos 64 (t.full + off))

def TimeUnit.get (t : TimeUnit) (i : Nat) : TimeBase :=
  if i == 0 then t.tb0 else if i == 1 then t.tb1 else if i == 2 then t.tb2 else t.tb3

def TimeUnit.edges (t : TimeUnit) (k : Nat) : TimeUnit :=
  { tb0 := t.tb0.edges k, tb1 := t.tb1.edges k, tb2 := t.tb2.edges k, tb3 := t.tb3.edges k }

/-- TB2 full time: the base of every module-side timer. -/
def Base.now (b : Base) : Nat := b.time.tb2.full

/-- R42: a timer expires once its deadline and 1.2 µs of settle time have passed. -/
def Base.expired (b : Base) (deadline : Nat) : Bool := decide (deadline + 1200 ≤ b.now)

/-- An arrival timestamped at or after a deadline is late (R42). -/
def Base.late (b : Base) (deadline : Nat) : Bool := decide (deadline ≤ b.now)

/-- R367: extend a 32-bit record time against the current pair of its time base. The milestone count is one of 32 bits:
below 0 it wraps (notes/assumptions/112.md). -/
def extend32 (t : TimeBase) (r : Nat) : Nat :=
  let n := t.n.toNat
  let m := t.m.toNat
  let m' := if r + 2 ^ 31 < n then (m + 1) % 2 ^ 32 else if n + 2 ^ 31 ≤ r then (m + 2 ^ 32 - 1) % 2 ^ 32 else m
  m' * 2 ^ 32 + r

/-! ### Counters (R530) -/

def counterMax : Nat := 2 ^ 64 - 1

def Base.count (b : Base) (id n : Nat) : Base :=
  if n = 0 then b else { b with cnt := b.cnt.set 0 id (min (b.cnt.getD id 0 + n) counterMax) }

/-! ### Event queue (R48, R49) -/

def bumpRep (e : Event) : Event := { e with rep := min (e.rep + 1) 255 }

/-- Raise the repeat count of the last entry that `p` selects. -/
def bumpLast (p : Event → Bool) (l : List Event) : List Event :=
  match l with
  | [] => []
  | e :: r => if p e && !r.any p then bumpRep e :: r else e :: bumpLast p r

/-- Remove the oldest non-critical entry. -/
def dropOldest : List Event → List Event
  | [] => []
  | e :: r => if e.severity == 3 then e :: dropOldest r else r

def queueBound : Nat := 1024
def criticalBound : Nat := 512

/-- A new entry takes its place at the end; a full queue first loses its oldest non-critical entry (R48). -/
def Base.enqueueEvent (b : Base) (e : Event) : Base :=
  let full := decide (queueBound ≤ b.ev.entries.length)
  let kept := if full then dropOldest b.ev.entries else b.ev.entries
  let b1 := if full then b.count (C.event_dropped.id 0) 1 else b
  if queueBound ≤ kept.length then b
  else { b1 with ev := { b1.ev with entries := kept ++ [{ e with seq := b.ev.next }]
                                    next := (b.ev.next + 1) % 2 ^ 32
                                    last := b.ev.next } }

def mkEvent (b : Base) (code sev tb : Nat) (detail : List Byte) : Event :=
  let t := b.time.get tb
  { code := code, severity := sev, timeBase := tb, timestamp := t.n.toNat, milestoneLow := t.m.toNat % 65536
    seq := 0, detail := detail }

/-- An occurrence of an event (R48, R49): merged when critical and already queued, else a new entry. -/
def Base.event (b : Base) (code sev tb : Nat) (detail : List Byte) : Base :=
  let same := fun (e : Event) => e.severity == 3 && e.code == code && e.detail == detail
  let sameCode := fun (e : Event) => e.severity == 3 && e.code == code
  if sev == 3 && b.ev.entries.any same then
    { b with ev := { b.ev with entries := bumpLast same b.ev.entries } }
  else if sev == 3 && decide (criticalBound ≤ (b.ev.entries.filter (fun e => e.severity == 3)).length)
      && b.ev.entries.any sameCode then
    { b with ev := { b.ev with entries := bumpLast sameCode b.ev.entries } }.count
      (C.event_critical_merged.id 0) 1
  else b.enqueueEvent (mkEvent b code sev tb detail)

/-- Serial order of event sequences (R52): `a` is `b` or earlier. -/
def seqLe (a b : Nat) : Bool := decide ((b + 2 ^ 32 - a) % 2 ^ 32 < 2 ^ 31)

/-! ### The internal bridge (R228, R229) -/

/-- The 400 MHz fabric cycle of the present TB2 time; 400 cycles are a period (R217). -/
def Base.cycle (b : Base) : Nat := b.now * 2 / 5

/-- Queues of Table 07-6 by number: entries, and the queues of the same direction that a later entry may not pass
(Table 07-7). -/
def bridgeQueue : Nat → Nat × List Nat
  | 0 => (32, [0])
  | 1 => (16, [0, 1])
  | 2 => (16, [3, 2])
  | 3 => (32, [3])
  | 4 => (8, [3, 4])
  | _ => (8, [0, 5])

/-- The entries that have not left a queue. -/
def Base.inBridge (b : Base) (q : Nat) : List Nat := (b.bridge.getD q []).filter (fun t => decide (b.cycle < t))

/-- The cycle from which a queue has a free entry. -/
def Base.bridgeRoom (b : Base) (q : Nat) : Nat :=
  let own := b.inBridge q
  if own.length < (bridgeQueue q).1 then b.cycle else own.getD (own.length - (bridgeQueue q).1) b.cycle

/-- A transaction enters queue `q` in cycle `t` at the earliest and leaves it, one a cycle, once everything it may not pass
has left; answers when. -/
def Base.enterBridge (b : Base) (q t : Nat) : Base × Nat :=
  let after := (bridgeQueue q).2.foldl (fun t k => max t ((b.inBridge k).getLastD 0)) (max t (b.bridgeRoom q))
  ({ b with bridge := b.bridge.put q (b.inBridge q ++ [after + 1]) }, after + 1)

/-- A posted transaction. -/
def Base.bridgePost (b : Base) (q : Nat) : Base := (b.enterBridge q b.cycle).1

/-- A non-posted request: issued once the place of its completion, in queue `c`, is reserved; the completion crosses after
it. -/
def Base.bridgeRead (b : Base) (q c : Nat) : Base :=
  let (b, t) := b.enterBridge q (b.bridgeRoom c)
  (b.enterBridge c t).1

/-! ### Effects -/

/-- What a command may do to the time bases, the event queue, the counters and the outside. -/
inductive Eff where
  | count (id n : Nat)
  | clear (ids : List Nat)
  /-- MRAM copies of these counters fail their check (Table 20-4). -/
  | damaged (ids : List Nat)
  | event (code severity timeBase : Nat) (detail : List Byte)
  /-- Note an occurrence of a rate-limited event: reported now, or held back. -/
  | reported (key time : Nat)
  | held (key : Nat)
  /-- EVENT_ACK of this event_sequence and all earlier ones. -/
  | ack (seq : Nat)
  | send (o : Output)
  /-- A posted transaction enters this queue of the bridge, or a non-posted one with the queue of its completion. -/
  | posted (q : Nat)
  | nonPosted (q c : Nat)
  /-- Draw one free or random value. -/
  | draw
  | edges (k : Nat)
  | step (tb : Nat) (off : Int)
  | setIncr (tb incr : Nat)
  /-- TB3 moves forward to this full time, never back (R372). -/
  | tb3To (full : Nat)
  /-- A data-plane reset: TB2 from 0, TB0 and TB1 from these full times, increments nominal (R371). -/
  | restart (tb0 tb1 tb3 : Nat)
  /-- A data-plane reset: counters outside MRAM start at 0, non-critical entries are lost (R494, R530). -/
  | resetLogs
  deriving DecidableEq, Repr

def nominalIncr : Nat := 0x0400000000

def isMramCounter (id : Nat) : Bool :=
  match counterRef (id / 16777216) (id / 65536 % 256) with
  | some c => c.mram
  | none => false

def mapTb (t : TimeUnit) (i : Nat) (f : TimeBase → TimeBase) : TimeUnit :=
  if i == 0 then { t with tb0 := f t.tb0 } else if i == 1 then { t with tb1 := f t.tb1 } else t

/-- TB3 to a later full time; an earlier one changes nothing (R372: TB3 never decreases). -/
def raiseTb3 (t : TimeBase) (v : Nat) : TimeBase :=
  if t.full < v ∧ v < 2 ^ 64 then t.setFull v else t

def applyEff (b : Base) : Eff → Base
  | .count id n => b.count id n
  | .clear ids => { b with cnt := ids.foldl (fun c i => c.erase i) b.cnt
                           cntBad := b.cntBad.filter (fun i => !ids.contains i) }
  | .damaged ids => { b with cntBad := b.cntBad ++ ids.filter (fun i => isMramCounter i && !b.cntBad.contains i) }
  | .event code sev tb d => (b.event code sev tb d).bridgePost 3
  | .reported k t => { b with ev := { b.ev with lastAt := b.ev.lastAt.put k t, held := b.ev.held.erase k } }
  | .held k => { b with ev := { b.ev with held := b.ev.held.put k (b.ev.held.getD k 0 + 1) } }
  | .ack q => { b with ev := { b.ev with entries := b.ev.entries.filter (fun e => !seqLe e.seq q) } }
  | .send o => { b with out := b.out ++ [o] }
  | .posted q => b.bridgePost q
  | .nonPosted q c => b.bridgeRead q c
  | .draw => { b with fresh := b.fresh + 1 }
  | .edges k => { b with time := b.time.edges k }
  | .step tb off => { b with time := mapTb b.time tb (fun t => t.step off) }
  | .setIncr tb i => { b with time := mapTb b.time tb (fun t => { t with incr := BitVec.ofNat 40 i }) }
  | .tb3To v => { b with time := { b.time with tb3 := raiseTb3 b.time.tb3 v } }
  | .restart t0 t1 t3 =>
    { b with bridge := []
             time := { tb0 := ({} : TimeBase).setFull t0, tb1 := ({} : TimeBase).setFull t1, tb2 := {}
                       tb3 := raiseTb3 b.time.tb3 t3 } }
  | .resetLogs =>
    let kept := b.ev.entries.filter (fun e => e.severity == 3)
    { b with
      cnt := b.cnt.filter (fun p => isMramCounter p.1)
      ev := { entries := kept
              next := match kept.getLast? with
                | some e => (e.seq + 1) % 2 ^ 32
                | none => 1 } }

/-! ### The working pair of a meaning -/

/-- What a meaning reads besides the module: the time bases, queue and counters as the command found them. -/
abbrev View := Base

/-- The module under construction, and the effects so far. -/
structure W where
  m : Module
  effs : List Eff := []
  deriving DecidableEq, Repr

/-- The base as it stands after the effects so far. -/
def W.base (w : W) (v : View) : Base := w.effs.foldl applyEff v

def W.eff (w : W) (e : Eff) : W := { w with effs := w.effs ++ [e] }
def W.count (w : W) (c : CRef) (i : Nat := 0) (n : Nat := 1) : W := w.eff (.count (c.id i) n)
def W.send (w : W) (o : Output) : W := w.eff (.send o)

def W.mod (w : W) (f : Mod → Mod) : W := { w with m := { w.m with mod := f w.m.mod } }
def W.supply (w : W) (f : Supply → Supply) : W := { w with m := { w.m with supply := f w.m.supply } }
def W.borul (w : W) (f : Borul → Borul) : W := { w with m := { w.m with borul := f w.m.borul } }
def W.ing (w : W) (f : Ingress → Ingress) : W := { w with m := { w.m with ing := f w.m.ing } }
def W.jr (w : W) (f : Journal → Journal) : W := { w with m := { w.m with jr := f w.m.jr } }
def W.io (w : W) (f : Io → Io) : W := { w with m := { w.m with io := f w.m.io } }
def W.keys (w : W) (f : KeyStore → KeyStore) : W := { w with m := { w.m with keys := f w.m.keys } }
def W.tab (w : W) (f : Tables → Tables) : W := { w with m := { w.m with tab := f w.m.tab } }
def W.flow (w : W) (f : Flow → Flow) : W := { w with m := { w.m with flow := f w.m.flow } }
def W.fab (w : W) (f : Fabric → Fabric) : W := { w with m := { w.m with fab := f w.m.fab } }
def W.jn (w : W) (f : Junction → Junction) : W := { w with m := { w.m with jn := f w.m.jn } }
def W.doip (w : W) (f : Doip → Doip) : W := { w with m := { w.m with doip := f w.m.doip } }
def W.tc (w : W) (f : TimeCtl → TimeCtl) : W := { w with m := { w.m with tc := f w.m.tc } }
def W.can (w : W) (i : Nat) (f : CanCh → CanCh) : W := { w with m := { w.m with can := upd w.m.can i f } }
def W.lin (w : W) (i : Nat) (f : LinCh → LinCh) : W := { w with m := { w.m with lin := upd w.m.lin i f } }
def W.eth (w : W) (i : Nat) (f : EthPort → EthPort) : W := { w with m := { w.m with eth := upd w.m.eth i f } }
def canAt (m : Module) (i : Nat) : CanCh := atD m.can i {}
def linAt (m : Module) (i : Nat) : LinCh := atD m.lin i {}
def ethAt (m : Module) (i : Nat) : EthPort := atD m.eth i {}
def W.slp (w : W) (f : Sleep → Sleep) : W := { w with m := { w.m with slp := f w.m.slp } }
def W.sw (w : W) (f : Switch → Switch) : W := { w with m := { w.m with sw := f w.m.sw } }
def W.update (w : W) (f : Update → Update) : W := { w with m := { w.m with upd := f w.m.upd } }
/-- The last wake is confirmed by what happened at TB2 time `t`, inside its window (R400). -/
def confirmWake (t : Nat) (w : W) : W :=
  if !w.m.slp.confirm.any (fun e => decide (t < e)) then w
  else w.slp fun x => { x with
    confirm := none
    falseRuns := match x.records with
      | r :: _ => x.falseRuns.erase (256 * r.source + r.inst)
      | [] => x.falseRuns }


/-- Bus time from `t0` to `t1`, by second of TB2; seconds before the last complete one are forgotten (Tables 10-10, 10-11). -/
def addLoad (l : SMap Nat) (t0 t1 : Nat) : SMap Nat :=
  let s := t1 / 1000000000
  let l : SMap Nat := l.filter (fun p => decide (s ≤ p.1 + 1))
  let l := if s * 1000000000 ≤ t0 then l
    else l.put (s - 1) (l.getD (s - 1) 0 + (s * 1000000000 - max t0 ((s - 1) * 1000000000)))
  l.put s (l.getD s 0 + (t1 - max t0 (s * 1000000000)))

/-- bus_load: per mille of bus time in the last complete second. -/
def busLoad (l : SMap Nat) (now : Nat) : Nat :=
  if now < 1000000000 then 0 else min 1000 (l.getD (now / 1000000000 - 1) 0 / 1000000)

/-- Repeat an action over a list. -/
def W.each {α : Type} (w : W) (l : List α) (f : α → W → W) : W := l.foldl (fun w a => f a w) w

def W.when (w : W) (c : Bool) (f : W → W) : W := if c then f w else w

/-- A free value below `n` (notes/assumptions/5.md). -/
def W.free (w : W) (v : View) (n : Nat) : W × Nat := (w.eff .draw, Config.freeValue (w.base v).fresh % n)

/-! ### Parameters (R57-R63, R67) -/

/-- The stored value as it is kept in the type's width. -/
def PRef.raw (r : PRef) (v : Int) : Nat := twos r.ty.width v

def PRef.comp (r : PRef) (v : Nat) : Nat := 2 ^ r.ty.width - 1 - v % 2 ^ r.ty.width

def PRef.pair (r : PRef) (v : Nat) : Nat × Nat := (v, if r.twin then r.comp v else 0)

/-- The value the active route book sets, or the default where it sets none (R67). -/
def bookValue (m : Module) (r : PRef) (i e : Nat) : Nat :=
  (m.mod.bookParams.get? (r.id i e)).getD (r.raw (r.default i e))

/-- The pair as it is stored. -/
def storedPair (m : Module) (r : PRef) (i e : Nat) : Nat × Nat :=
  (m.mod.params.get? (r.id i e)).getD (r.pair (r.raw (r.default i e)))

def twinBad (m : Module) (r : PRef) (i e : Nat) : Bool :=
  let p := storedPair m r i e
  r.twin && p.2 != r.comp p.1

/-- The value a reader of the parameter acts on: a twin pair that fails its check reads as the default (R537). -/
def prm (m : Module) (r : PRef) (i : Nat := 0) (e : Nat := 0) : Nat :=
  if twinBad m r i e then r.raw (r.default i e) else (storedPair m r i e).1

def prmI (m : Module) (r : PRef) (i : Nat := 0) (e : Nat := 0) : Int := signed r.ty.width (prm m r i e)

def prmB (m : Module) (r : PRef) (i : Nat := 0) (e : Nat := 0) : Bool := prm m r i e == 1

/-- A duration parameter in nanoseconds. -/
def prmNs (m : Module) (r : PRef) (i : Nat := 0) (e : Nat := 0) : Nat := prm m r i e * 1000

/-- Store a value, with its complement when twin. -/
def setPrm (m : Module) (r : PRef) (i e v : Nat) : Module :=
  { m with mod := { m.mod with
      params := m.mod.params.set (r.pair (r.raw (r.default i e))) (r.id i e) (r.pair v) } }

/-! ### Events and the journal hook (R54, R456, R463) -/

/-- Records carry TB0 in RUN and TB2 in FOOTPATH and SAFE (Table 12-1). -/
def recordBase (m : Module) : Nat :=
  match m.mod.state with
  | .run | .unmanaged | .sleepPrep => 0
  | _ => 2

def tb3Minute (b : Base) : Nat := b.time.tb3.full / 60000000000
def tb3Ms (b : Base) : Nat := b.time.tb3.full % 60000000000 / 1000000
def tb3Seconds (b : Base) : Nat := b.time.tb3.full / 1000000000

def sha (bs : List Byte) : List Byte := beBytes 32 (Config.sha256 bs).toNat

/-- The chain value, from its start value on (R464). -/
def chainOf (m : Module) : List Byte :=
  m.jr.chain.getD (sha (ascii 11 "ZGM JOURNAL" ++ u64 m.ident.uniqueId))

def ringBytes (l : List JRecord) : Nat := l.foldl (fun n r => n + r.bytes.length) 0

def ringSize : Nat := 29360128

/-- Drop the oldest segment: records up to the second-oldest seal (R468). -/
def dropSegment : List JRecord → List JRecord
  | [] => []
  | _ :: r => r.dropWhile (fun x => x.kind != 2)

/-- Make room for `n` bytes; answers the ring and how many records were freed (R468). -/
def makeRoom : Nat → List JRecord → Nat → List JRecord × Nat
  | 0, ring, _ => (ring, 0)
  | fuel + 1, ring, n =>
    if ringBytes ring + n ≤ ringSize then (ring, 0)
    else
      let ring' := dropSegment ring
      let (r, k) := makeRoom fuel ring' n
      (r, k + (ring.length - ring'.length))

/-- A record's 16-byte header (Table 16-2). -/
def recordHeader (kind len flags dlen seq minute ms : Nat) : List Byte :=
  u8 kind ++ u8 len ++ u8 flags ++ u8 dlen ++ u32 seq ++ u32 minute ++ u32 ms

/-- Append a record to the ring and, unless it is a seal, to the chain (R460, R464, R468). -/
def appendRecord (kind flags dlen minute ms : Nat) (body : List Byte) (w : W) : W :=
  let m := w.m
  let pad := (16 - body.length % 16) % 16
  let len := 16 + body.length + pad
  let bytes := recordHeader kind len flags dlen m.jr.next minute ms ++ body ++ zeros pad
  let (ring, freed) := makeRoom (m.jr.ring.length + 1) m.jr.ring len
  let w := if freed = 0 then w else w.count C.journal_overwritten 0 freed
  w.jr fun j =>
    { j with
      ring := ring ++ [⟨kind, j.next, minute, bytes⟩]
      next := (j.next + 1) % 2 ^ 32
      lastMinute := minute
      chain := if kind == 2 then j.chain else some (sha (chainOf m ++ bytes))
      since := if kind == 2 then 0 else j.since + 1
      first := if kind == 2 then j.next + 1 else j.first
      lastSeal := if kind == 2 then j.next else j.lastSeal }

/-- Bytes 16 on of an event record (R463). -/
def eventBody (code sev : Nat) (detail : List Byte) : List Byte :=
  u16 code ++ u8 sev ++ u8 0 ++ detail

/-- Whether an event goes into the journal (R456, Table 16-1). -/
def journalTakes (m : Module) (code sev : Nat) : Bool :=
  prmB m P.journal_enable && bit (prm m P.journal_event_chapter_mask) (code / 256)
    && decide (prm m P.journal_event_min_severity ≤ sev) && code != 0x1005

/-- Append an event record now (R460, R463). -/
def journalEvent (v : View) (code sev : Nat) (detail : List Byte) (w : W) : W :=
  let b := w.base v
  (appendRecord 1 0 detail.length (tb3Minute b) (tb3Ms b) (eventBody code sev detail) w).count C.journal_events

/-- Raise an event: the queue takes it, and the journal when its filter does; a critical one starts the time of R521
again. -/
def W.raise (w : W) (v : View) (code sev : Nat) (detail : List Byte) : W :=
  let w := w.eff (.event code sev (recordBase w.m) detail)
  let w := if sev == 3 then w.update fun u => { u with runSince := u.runSince.map (fun _ => v.now) } else w
  if journalTakes w.m code sev then journalEvent v code sev detail w else w

/-- A signature over a seal's bytes 0 to 63 under the device key (R465, Table 15-1). -/
def sealSign (m : Module) (bs : List Byte) : List Byte :=
  beBytes 64 (Config.ecdsaSign m.ident.deviceKey (sha bs)).toNat

/-- Write a seal (R465, Table 16-4) with the given flag bits, and raise event 0x1003. -/
def writeSeal (v : View) (flags : Nat) (w : W) : W :=
  let m := w.m
  let b := w.base v
  let seq := m.jr.next
  let head := recordHeader 2 128 flags 0 seq (tb3Minute b) (tb3Ms b) ++ u32 m.jr.first ++ u32 m.jr.since
    ++ u64 m.ident.uniqueId ++ chainOf m
  let first := m.jr.first
  let body := head.drop 16 ++ sealSign m head
  let w := appendRecord 2 flags 0 (tb3Minute b) (tb3Ms b) body w
  let w := (w.jr fun j => { j with deferred := false }).count C.journal_seals
  w.raise v 0x1003 0 (u32 seq ++ u32 first ++ u8 flags ++ zeros 3)

/-- After 60 minute and event records a seal is due; without running firmware it is deferred (R465). -/
def sealIfDue (v : View) (w : W) : W :=
  if w.m.jr.since < 60 then w
  else if w.m.mod.firmwareRunning then writeSeal v (if w.m.jr.deferred then 4 else 0) w
  else if w.m.jr.deferred then w
  else (w.jr fun j => { j with deferred := true }).count C.journal_seals_deferred

/-- Raise an event, and write the seal that its journal record may have made due (R465). -/
def W.event (w : W) (v : View) (code sev : Nat) (detail : List Byte) : W :=
  sealIfDue v (w.raise v code sev detail)

/-- An event of which at most one per `interval` ns is raised per source; `detail` gets the occurrences since the
previous one. -/
def W.limited (w : W) (v : View) (code sev src interval : Nat) (detail : Nat → List Byte) : W :=
  let key := code * 65536 + src
  let b := w.base v
  let due := match b.ev.lastAt.get? key with
    | none => true
    | some t => decide (t + interval ≤ b.now)
  if due then
    let n := b.ev.held.getD key 0 + 1
    (w.event v code sev (detail n)).eff (.reported key b.now)
  else w.eff (.held key)

/-! ### The shape of every meaning -/

def commit (s : State) (w : W) : State := { s with base := w.effs.foldl applyEff s.base, m := w.m }

/-- A command with its operands in range has its effect; one that names a missing unit stops. -/
def run (ok : Bool) (f : View → W → W) (s : State) : Host.Outcome State Fault Refusal :=
  if ok then .next (commit s (f s.base ⟨s.m, []⟩)) else .fault .noSuchUnit

/-! ### Time with no command waiting -/

/-- The 250 MHz clock of the time bases runs (R362): not while the module is off or asleep. -/
def clockRuns (m : Module) : Bool :=
  match m.mod.state with
  | .off | .sleep => false
  | _ => true

/-- One edge of every time base (R363), when the clock runs: what a step does with an empty queue. -/
def idle (s : State) : State := if clockRuns s.m then { s with base := applyEff s.base (.edges 1) } else s

/-! ### States of the module -/

/-- The data plane forwards by full tables: in RUN, UNMANAGED and SLEEP_PREP, unless the supply range is low
(R478). -/
def fullService (m : Module) : Bool :=
  match m.mod.state with
  | .run | .sleepPrep => true
  | .unmanaged => m.supply.range != 1
  | _ => false

/-- The data plane is up and forwards (Table 17-3). -/
def powered (m : Module) : Bool :=
  match m.mod.state with
  | .off | .sleep | .waking => false
  | _ => true

/-- Footpath service (R503). -/
def footService (m : Module) : Bool :=
  match m.mod.state with
  | .footpath | .safe => true
  | .unmanaged => m.supply.range == 1
  | _ => false

/-- Codes of module.module_state. -/
def ModState.code : ModState → Nat
  | .off => 0 | .sleep => 1 | .waking => 2 | .footpath => 3 | .run => 4 | .unmanaged => 5 | .sleepPrep => 6
  | .safe => 7

/-- Header and image bytes of the running firmware: bank A, bank B or the detour image. -/
def runningBank (m : Module) : Bank :=
  if m.mod.bootBank < 2 then atD m.upd.banks m.mod.bootBank {} else { st := 1, header := m.ident.detourHeader, image := m.ident.detourImage }

/-- module.firmware_version (Table 19-2). -/
def firmwareVersion (m : Module) : Nat := leAt (runningBank m).header 4 4

/-- The state of R497: FOOTPATH after bring-up without a route book, firmware running. -/
def noBook (m : Module) : Bool :=
  m.mod.state == .footpath && m.mod.configSource == 2 && m.mod.firmwareRunning && !m.mod.fromRun

/-- An active hold covers a scope (R68): its own or the module-wide one. -/
def held (m : Module) (block inst : Nat) : Bool :=
  m.mod.holds.any (fun h => (h.block == 0) || (h.block == block && h.inst == inst))

def heldAll (m : Module) : Bool := m.mod.holds.any (fun h => h.block == 0)

/-- A hold still covers the scope for what is timestamped `now`: the end of its duration is decided by timestamp (R71,
R42). -/
def heldAt (m : Module) (now block inst : Nat) : Bool :=
  m.mod.holds.any (fun h => decide (now < h.until_) && (h.block == 0 || (h.block == block && h.inst == inst)))

def heldAllAt (m : Module) (now : Nat) : Bool := m.mod.holds.any (fun h => decide (now < h.until_) && h.block == 0)

/-- The hold scope of an ingress or egress port number (Table 03-3, Table 04-1); the internal ports have none of their
own. -/
def portScope (port : Nat) : Option (Nat × Nat) :=
  if port < 11 then some (0x0C, port)
  else if 14 ≤ port ∧ port < 36 then some (0x0A, port - 14)
  else if 36 ≤ port ∧ port < 44 then some (0x0B, port - 36)
  else none

/-- A hold stops this port. -/
def portHeld (m : Module) (port : Nat) : Bool :=
  match portScope port with
  | some (b, i) => held m b i
  | none => heldAll m

/-- A hold stops what is timestamped `now` at this port. -/
def portHeldAt (m : Module) (now port : Nat) : Bool :=
  match portScope port with
  | some (b, i) => heldAt m now b i
  | none => heldAllAt m now

/-- The sleep group of a port, and whether its group is ASLEEP (R393, R397). -/
def groupOf (m : Module) (port : Nat) : Option Nat :=
  (List.range 8).find? (fun g => bit (prm m P.sleep_group_ports 0 g) port)

def portAsleep (m : Module) (port : Nat) : Bool :=
  match groupOf m port with
  | some g => atD m.slp.groups g 0 == 2
  | none => false

def isEthPort (p : Nat) : Bool := decide (p < 11)
def isCanPort (p : Nat) : Bool := decide (14 ≤ p ∧ p < 36)
def isLinPort (p : Nat) : Bool := decide (36 ≤ p ∧ p < 44)
def canPort (ch : Nat) : Nat := ch + 14

end Sys2Proof.Machine
end

