-- ==== Sys2Proof/Machine/Packets.lean ====
section
/-! DEFINITION. Reading of Ethernet frames by the standards spec/ names: VLAN tag, IPv4 and IPv6, UDP and TCP, ARP. -/

namespace Sys2Proof.Machine

/-- Tag control information of the outermost 0x8100 tag, EtherType and what follows it (R341). -/
def ethParts (bs : List Byte) : Option Nat × Nat × List Byte :=
  if beAt bs 12 2 == 0x8100 then (some (beAt bs 14 2), beAt bs 16 2, bs.drop 18) else (none, beAt bs 12 2, bs.drop 14)

/-- An IP packet: version 6, protocol, addresses, payload; of a fragment the identification, offset in bytes and
more-fragments flag. -/
structure Ip where
  v6 : Bool
  proto : Nat
  src : Nat
  dst : Nat
  ident : Nat := 0
  offset : Nat := 0
  more : Bool := false
  payload : List Byte
  deriving DecidableEq, Repr

def ipOf (bs : List Byte) : Option Ip :=
  let (_, type, p) := ethParts bs
  if type == 0x0800 then
    let ihl := leAt p 0 1 % 16 * 4
    if ihl < 20 ∨ leAt p 0 1 / 16 ≠ 4 then none
    else some { v6 := false, proto := leAt p 9 1, src := beAt p 12 4, dst := beAt p 16 4, ident := beAt p 4 2
                offset := beAt p 6 2 % 8192 * 8, more := bit (beAt p 6 2) 13
                payload := (p.take (beAt p 2 2)).drop ihl }
  else if type == 0x86DD then
    let q := slice p 40 (beAt p 4 2)
    if leAt p 6 1 == 44 then
      some { v6 := true, proto := leAt q 0 1, src := beAt p 8 16, dst := beAt p 24 16, ident := beAt q 4 4
             offset := beAt q 2 2 / 8 * 8, more := bit (beAt q 2 2) 0, payload := q.drop 8 }
    else some { v6 := true, proto := leAt p 6 1, src := beAt p 8 16, dst := beAt p 24 16, payload := q }
  else none

/-- What fragments of one datagram share (R17). -/
def partialKey (ip : Ip) : Nat := ip.ident + 2 ^ 32 * (ip.src + 2 ^ 128 * ip.dst)

/-- A whole UDP datagram: ports and payload. -/
structure Udp where
  ip : Ip
  sport : Nat
  dport : Nat
  payload : List Byte
  deriving DecidableEq, Repr

def udpIn (ip : Ip) : Option Udp :=
  if ip.proto != 17 || ip.offset != 0 || ip.more then none
  else some { ip := ip, sport := beAt ip.payload 0 2, dport := beAt ip.payload 2 2
              payload := (ip.payload.take (beAt ip.payload 4 2)).drop 8 }

def udpOf (bs : List Byte) : Option Udp := (ipOf bs).bind udpIn

end Sys2Proof.Machine
end

