-- ==== Sys2Proof/Machine/Reset.lean ====
section
/-! DEFINITION. The data-plane reset, the uncorrectable data-plane faults that start one, and the check of a stored
twin parameter at its use (R492-R494, R537, R538, R371). -/

namespace Sys2Proof.Machine

/-- Cause of the supply inhibit a range brings: 0 undervoltage, 1 overvoltage (R423). -/
def inhibitOf (range : Nat) : Option Nat := if range == 1 then some 0 else if range == 3 then some 1 else none

/-- Cause of the heartbeat loss that a reset of this cause brings with it (R421, Table 14-9): 1 fault, 2 full reset, and after
a brown-out or a loss of ground, as their flags tell, 0 or 3 (DEDUCED, notes/assumptions/116.md). -/
def heartbeatLoss (m : Module) (cause : Nat) : Option Nat :=
  if cause == 2 then some 1
  else if cause == 3 then some 2
  else if 1 < cause then none
  else if m.mod.groundLoss.isSome then some 3
  else if m.mod.brownOut.isSome then some 0
  else none

/-- The switch channels after a reset: those of a P unit are inhibited as the supply range asks. -/
def inhibitedSwitch (m : Module) (loss : Option Nat) : Switch :=
  let inhibit := if m.ident.variantG then none else inhibitOf m.supply.range
  { loss := loss, inhibit := inhibit, dies := List.replicate 5 { inhibited := inhibit.isSome } }

/-- KEY_UPDATE operations in flight that are cut off; one that would only be answered LOCKED leaves nothing. -/
def cutKeys (m : Module) : List Op :=
  m.keys.cut ++ m.borul.ops.filter (fun o => o.opcode == 0x0B02 && o.posted && prmB m P.security_key_update_enable)

/-- The module a data-plane reset leaves: what Table 18-2 keeps, everything else as at first start. Of the trial time, MRAM
holds the whole seconds (R521). DESIGN CHOICE
(notes/assumptions/112.md): a bound NAME entry keeps claimed, address and claim_time (R117 clears the maps only). -/
def resetModule (m : Module) (cause : Nat) : Module :=
  { ident := m.ident
    keys := { slots := m.keys.slots, generation := m.keys.generation, lastCommit := m.keys.lastCommit, mram := m.keys.mram
              cut := cutKeys m }
    jr := { ring := m.jr.ring, next := m.jr.next, chain := m.jr.chain, since := m.jr.since, first := m.jr.first
            lastSeal := m.jr.lastSeal, deferred := m.jr.deferred, lastMinute := m.jr.lastMinute
            odometerUm := m.jr.odometerUm }
    upd := { m.upd with trialNs := m.upd.trialNs / 1000000000 * 1000000000, runSince := none, trialFrom := 0 }
    ing := { names := m.ing.names.filter (fun p => p.2.bound), seq := m.ing.seq }
    tc := { checkpoint := m.tc.checkpoint, sleepElapsed := 0 }
    slp := { records := m.slp.records, wakeSeq := m.slp.wakeSeq, falseRuns := m.slp.falseRuns, ledger := m.slp.ledger
             commitMarker := m.slp.commitMarker }
    supply := { m.supply with vbatMin := m.supply.vbat, vbatMax := m.supply.vbat, lowSince := 0, sleepDip := false }
    io := { din := m.io.din, sensorMv := m.io.sensorMv, sensorShort := m.io.sensorShort }
    sw := inhibitedSwitch m (heartbeatLoss m cause)
    mod := { resetCause := cause, prevPosition := m.mod.prevPosition, footCopies := m.mod.footCopies
             brownOut := m.mod.brownOut, groundLoss := m.mod.groundLoss, dpFault := m.mod.dpFault
             clockStatus := m.mod.clockStatus, heldHot := m.mod.heldHot, safeWake := m.mod.safeWake, override := m.mod.override } }

/-- A data-plane reset (R493): the state is WAKING, counters outside MRAM and non-critical events are lost, TB2 starts
from 0 and the other time bases from their values at sleep entry or at the last checkpoint (R371, R372). `elapsed` is
the measured time off, `margin` what TB3 gains after an unmeasured one. -/
def resetData (cause : Nat) (from_ : Nat × Nat × Nat) (elapsed margin : Nat) (w : W) : W :=
  let w := { w with m := resetModule w.m cause }
  let w := ((w.eff .resetLogs).eff (.restart (from_.1 + elapsed) (from_.2.1 + elapsed) (from_.2.2 + elapsed + margin)))
  (w.tc fun t => { t with sleepElapsed := elapsed }).count C.data_plane_resets cause

/-- TB3 has been restored from a checkpoint, or from its value at sleep entry: event 0x0C07 (Table 12-8); cause 0 wake, 1
power-on or brown-out. -/
def restoredEvent (v : View) (tb3 cause : Nat) (w : W) : W :=
  w.event v 0x0C07 0 (u32 (tb3 / 2 ^ 32) ++ u32 (tb3 % 2 ^ 32) ++ u8 cause ++ zeros 3)

/-- A reset that is neither a wake nor a return of supply. -/
def restartData (cause : Nat) (w : W) : W := resetData cause w.m.tc.checkpoint 0 0 w

/-- A restart that counts against a trial (R522). -/
def countTrial (w : W) : W :=
  if w.m.upd.st == 3 then w.update fun u => { u with
      trialRestarts := u.trialRestarts + 1
      trialOver := u.trialOver || decide (prm w.m P.update_trial_max_restarts < u.trialRestarts + 1) }
  else w

/-- Time in SAFE up to now goes to avail_safe_time (R544). -/
def chargeSafe (v : View) (w : W) : W :=
  if w.m.mod.state != .safe then w
  else (w.mod fun x => { x with safeSince := v.now }).count C.avail_safe_time 0 ((v.now - w.m.mod.safeSince) / 1000)

/-- Trial time up to now (R521): it accrues in WAKING, FOOTPATH, RUN and UNMANAGED. -/
def accrueTrial (v : View) (w : W) : W :=
  let u := w.m.upd
  match w.m.mod.state with
  | .off => w
  | .sleep => w
  | .safe => w
  | _ => if u.st != 3 then w else w.update fun u => { u with trialNs := u.trialNs + (v.now - u.trialFrom), trialFrom := v.now }

/-- Time in UNMANAGED up to now goes to unmanaged_time (R512). -/
def chargeUnmanaged (v : View) (w : W) : W :=
  match w.m.mod.state, w.m.mod.unmanagedSince with
  | .unmanaged, some t => w.count C.unmanaged_time 0 ((v.now - t) / 1000)
  | _, _ => w

/-- The port numbers of a hold scope (Table 03-3, R72). -/
def holdPorts (block inst : Nat) : List Nat :=
  if block == 0x0A then [inst + 14]
  else if block == 0x0B then [inst + 36]
  else if block == 0x0C then [inst]
  else List.range 44

/-- avail_hold_time of an ending hold, in µs (R544): instance 0 for the module-wide scope, else port number + 1. -/
def chargeHold (v : View) (h : Hold) (w : W) : W :=
  let us := (min v.now h.until_ - h.since) / 1000
  let i := if h.block == 0 then 0 else atD (holdPorts h.block h.inst) 0 0 + 1
  w.count C.avail_hold_time i us

/-- Holds that a reset, a loss of power or a sleep cuts off are charged up to now (R544). -/
def chargeHolds (v : View) (w : W) : W :=
  (w.each w.m.mod.holds (chargeHold v)).mod fun x => { x with holds := [] }

/-- Time in the low supply range up to now goes to avail_excluded_time (Table 20-9). -/
def chargeLow (v : View) (w : W) : W :=
  if w.m.supply.range != 1 then w
  else (w.supply fun x => { x with lowSince := v.now }).count C.avail_excluded_time 0 ((v.now - w.m.supply.lowSince) / 1000)

/-- What is accounted by time up to now, before a reset of the data plane, a loss of power or a sleep. -/
def closeAccounts (v : View) (w : W) : W :=
  accrueTrial v (chargeUnmanaged v (chargeSafe v (chargeLow v (chargeHolds v w))))

/-- The data plane without power (R13, R399, R480): its frames, tables, controllers, ports, sessions and the heartbeat
are gone; what Table 18-2 keeps, and the parameters until the next reset, remain. -/
def haltData (m : Module) : Module :=
  { m with
    borul := {}, keys := { m.keys with cut := cutKeys m }, ing := { names := m.ing.names.filter (fun p => p.2.bound), seq := m.ing.seq }
    tab := {}, flow := {}, fab := {}, jn := {}, can := List.replicate 22 {}, lin := List.replicate 8 {}
    eth := List.replicate 11 {}, doip := {}, sw := {} }

/-- The module is in a state with power: neither OFF nor SLEEP (Table 17-3). -/
def hasPower (m : Module) : Bool :=
  match m.mod.state with
  | .off | .sleep => false
  | _ => true

/-- An uncorrectable data-plane fault in a powered state: its cause and address go to MRAM, and the data plane resets
(R538). -/
def faultData (v : View) (code addr : Nat) (w : W) : W :=
  if !hasPower w.m then w else
  let s := tb3Seconds (w.base v)
  let w := closeAccounts v w
  let w := (w.mod fun x => { x with dpFault := some (code, addr, s) }).count C.dp_fault code
  restartData 2 (countTrial w)

/-- The failure of a stored twin pair at its use (R537): counted, reported, and left for the firmware to rewrite. -/
def twinFailure (v : View) (r : PRef) (i e : Nat) (w : W) : W :=
  let id := r.id i e
  let (val, comp) := storedPair w.m r i e
  let w := (w.count C.twin_fail_stored r.blk).event v 0x1401 2 (u32 id ++ u32 (val % 2 ^ 32) ++ u32 (comp % 2 ^ 32))
  let recent := match w.m.mod.twinRewritten.get? id with
    | some t => decide (v.now < t + 3600000000000)
    | none => false
  if recent then faultData v 5 id w else w.mod fun x => { x with twinFailed := x.twinFailed ++ [id] }

/-- A function is about to use a twin parameter; a failure is reported once until its rewrite. -/
def useTwin (v : View) (r : PRef) (i e : Nat) (w : W) : W :=
  if twinBad w.m r i e && !w.m.mod.twinFailed.contains (r.id i e) then twinFailure v r i e w else w

end Sys2Proof.Machine
end

