-- ==== Sys2Proof/Machine/Borul.lean ====
section
/-! DEFINITION. The Borul protocol around every request (spec/02, R15-R46, R509): admission, the checks of
Table 02-2 in their order, duplicates, fragment trains, posted operations, replies and the end of sessions. A request
command is `request <operation> <packet> <body>`. -/

namespace Sys2Proof.Machine

/-! ### Status codes (Table 02-6) -/

namespace St
def ok : Nat := 0x0000
def accepted : Nat := 0x0001
def badLength : Nat := 0x0100
def badOpcode : Nat := 0x0101
def versionUnsupported : Nat := 0x0102
def badParam : Nat := 0x0103
def outOfRange : Nat := 0x0104
def twinMismatch : Nat := 0x0105
def notAuthenticated : Nat := 0x0200
def authFail : Nat := 0x0201
def counterStale : Nat := 0x0202
def notPermitted : Nat := 0x0203
def busy : Nat := 0x0300
def locked : Nat := 0x0301
def inProgress : Nat := 0x0302
def wrongState : Nat := 0x0400
def integrity : Nat := 0x0500
def internal : Nat := 0x0600
end St

/-- Statuses that steps 6 to 10 of Table 02-2 answer; a posted request is turned away with them at once (R46). -/
def isCheckStatus (st : Nat) : Bool :=
  [St.badLength, St.badOpcode, St.badParam, St.outOfRange, St.twinMismatch, St.notPermitted, St.busy, St.locked,
    St.inProgress, St.wrongState].contains st

/-! ### Versions and families (R26, R28, Table 02-4) -/

/-- A version as major × 10 + minor. -/
def versions : List (Nat × Nat) := [(1, 0), (1, 1), (2, 0), (2, 1), (2, 2)]

def isVersion (major minor : Nat) : Bool := versions.contains (major, minor)

/-- The families with the versions at which each of their revisions begins. -/
def families : List (Nat × List ((Nat × Nat) × Nat)) :=
  [(0x01, [((1, 0), 1), ((2, 0), 2), ((2, 2), 3)]), (0x02, [((1, 0), 1), ((2, 0), 2)]),
   (0x03, [((1, 0), 1), ((2, 1), 2)]), (0x04, [((1, 0), 1), ((2, 0), 2), ((2, 1), 3)]),
   (0x05, [((1, 0), 1), ((2, 0), 2)]), (0x06, [((1, 0), 1)]), (0x07, [((1, 0), 1), ((2, 2), 2)]),
   (0x08, [((1, 0), 1), ((2, 0), 2)]), (0x09, [((1, 0), 1), ((2, 0), 2)]), (0x0A, [((1, 1), 1)]),
   (0x0B, [((1, 1), 1), ((2, 0), 2)]), (0x0C, [((1, 0), 1), ((2, 0), 2)]), (0x0D, [((2, 0), 1)]),
   (0x0E, [((2, 0), 1), ((2, 1), 2)]), (0x0F, [((2, 0), 1)]), (0x10, [((2, 1), 1)]), (0x11, [((2, 1), 1)])]

def verLe (a b : Nat × Nat) : Bool := decide (a.1 * 256 + a.2 ≤ b.1 * 256 + b.2)

/-- Revision of a family at a version; 0 where the family does not exist yet. -/
def familyRev (fam : Nat) (ver : Nat × Nat) : Nat :=
  match families.find? (fun f => f.1 == fam) with
  | none => 0
  | some f => f.2.foldl (fun r s => if verLe s.1 ver then max r s.2 else r) 0

/-- Families that exist at a version, with their revisions, ascending (R37, R75). -/
def familyList (ver : Nat × Nat) : List (Nat × Nat) :=
  (families.map (fun f => (f.1, familyRev f.1 ver))).filter (fun f => f.2 != 0)

def latest : Nat × Nat := (2, 2)

/-- Version range bytes: lowest major, lowest minor, highest major, highest minor (R32). -/
def versionRange : List Byte := u8 1 ++ u8 0 ++ u8 2 ++ u8 2

/-! ### Operations -/

/-- An operation of some family: opcode, lowest role (0 none, 1 observer, 2 operator, 3 maintainer), family
revision that introduced it, whether it can be posted, and whether the detour image serves it (R509). -/
structure OpInfo where
  code : Nat
  role : Nat
  rev : Nat := 1
  post : Bool := false
  safe : Bool := false
  deriving DecidableEq, Repr

/-- Who asks, as the checks found him. -/
structure Ctx where
  slot : Option Nat
  sid : Nat
  /-- Role code of the session: 0 observer, 1 operator, 2 maintainer. -/
  role : Nat
  ver : Nat × Nat
  seq : Nat
  tag : Nat
  deriving DecidableEq, Repr

/-- What the body of an operation answers. -/
inductive Ans where
  | fail (status : Nat) (detail : List Byte := [])
  | ok (payload : List Byte)
  /-- The reply is sent and the own session ends with this reason. -/
  | okEnd (payload : List Byte) (reason : Nat)
  /-- The reply, or the completion event, follows later. -/
  | wait (kind : OpKind) (payload : List Byte)
  /-- The body has sent its reply itself. -/
  | done
  deriving DecidableEq, Repr

/-- The body of an operation: from the payload and the module to the answer and the module after it. -/
abbrev Body := Ctx → List Byte → View → W → W × Ans

def answer (w : W) (p : List Byte) : W × Ans := (w, .ok p)
def refuse (w : W) (st : Nat) (detail : List Byte := []) : W × Ans := (w, .fail st detail)

/-- Step 8 of Table 02-2: a payload shorter than the operation's fields is a BAD_LENGTH; appended bytes are ignored
(R27). -/
def need (n : Nat) (body : Body) : Body := fun c p v w =>
  if p.length < n then refuse w St.badLength else body c p v w

/-! ### Packets -/

def headerBytes (p : Packet) : List Byte :=
  u16 0x5A42 ++ u8 p.major ++ u8 p.minor ++ u16 p.opcode ++ u8 (p.tag % 32)
    ++ u8 (b2n p.reply + 2 * b2n p.posted + 4 * b2n p.more + 8 * b2n p.event) ++ u16 p.payload.length
    ++ u16 p.status ++ u32 p.sessionId ++ u32 p.sequence

def cmacBytes (key msg : List Byte) : List Byte := beBytes 16 (Config.aesCmac key msg).toNat

/-- The trailer of R21: CRC-32C without a session, AES-CMAC under its key with one. -/
def trailerOf (key : Option (List Byte)) (bs : List Byte) : List Byte :=
  match key with
  | none => u32 (crc32c bs)
  | some k => cmacBytes k bs

def finish (key : Option (List Byte)) (p : Packet) : Packet :=
  { p with trailer := trailerOf key (headerBytes p ++ p.payload) }

/-- The bytes a request's trailer covers. -/
def requestBytes (code : Nat) (r : Request) : List Byte :=
  u16 r.magic ++ u8 r.major ++ u8 r.minor ++ u16 code ++ [r.tagByte] ++ [r.flags] ++ u16 r.payloadLength
    ++ u16 r.status ++ u32 r.sessionId ++ u32 r.sequence ++ r.payload

end Sys2Proof.Machine

namespace Sys2Proof

def Request.tag (r : Request) : Nat := r.tagByte.toNat % 32
def Request.replyFlag (r : Request) : Bool := bit r.flags.toNat 0
def Request.posted (r : Request) : Bool := bit r.flags.toNat 1
def Request.more (r : Request) : Bool := bit r.flags.toNat 2
def Request.eventFlag (r : Request) : Bool := bit r.flags.toNat 3

end Sys2Proof

namespace Sys2Proof.Machine

/-- Step 1 of Table 02-2, trailer apart (R23). -/
def framingOk (r : Request) : Bool :=
  r.magic == 0x5A42 && decide (r.payloadLength ≤ 4056) && r.payload.length == r.payloadLength
    && r.trailer.length == (if r.sessionId == 0 then 4 else 16) && !r.replyFlag && !r.eventFlag

/-! ### Slots -/

def slotAt (m : Module) (i : Nat) : Session := atD m.borul.slots i {}

def W.slot (w : W) (i : Nat) (f : Session → Session) : W :=
  w.borul fun b => { b with slots := upd b.slots i f }

/-- The slot a non-zero session_id names. -/
def findSlot (m : Module) (sid : Nat) : Option Nat :=
  (List.range 4).find? (fun i => (slotAt m i).st != .free && (slotAt m i).id == sid)

/-- The lowest FREE slot. -/
def freeSlot (m : Module) : Option Nat := (List.range 4).find? (fun i => (slotAt m i).st == .free)

def transportCode : Source → Nat
  | .udp .. => 0
  | .isotp p => p + 1

/-- The session ends with a reason (R38): an OPEN session raises event 0x0203, a PENDING one none (R34). -/
def endSession (v : View) (i reason : Nat) (w : W) : W :=
  let s := slotAt w.m i
  let w := (w.slot i (fun _ => {})).slp fun x => { x with
    reasons := x.reasons.filter (fun r => !(r.kind == 2 && r.unit == i && r.node == s.id)) }
  if s.st == .opened then w.event v 0x0203 0 (u32 s.id ++ u8 reason) else w

/-! ### Sending -/

/-- Pieces of a payload of at most 4,056 bytes each (R45). -/
def pieces : Nat → List Byte → List (List Byte)
  | 0, p => [p]
  | n + 1, p => if p.length ≤ 4056 then [p] else p.take 4056 :: pieces n (p.drop 4056)

/-- The largest IP packet that a port carries: its largest frame without the Ethernet header, the VLAN tag and the FCS
(DESIGN CHOICE, notes/assumptions/79.md). -/
def portMtu (m : Module) (port vlan : Nat) : Nat := prm m P.eth_max_frame_size port - (if vlan == 0 then 18 else 22)

/-- Bytes in each fragment of an IP payload of `n` bytes, `k` bytes in all but the last. -/
def splitInto (k : Nat) : Nat → Nat → List Nat
  | 0, _ => []
  | fuel + 1, n => if n ≤ k then [n] else k :: splitInto k fuel (n - k)

/-- The IP fragments of a UDP datagram with `n` bytes of data; none when it fits the port's MTU (R17). -/
def ipFragments (m : Module) (port vlan : Nat) (v6 : Bool) (n : Nat) : List Nat :=
  let mtu := portMtu m port vlan
  if n + 8 + (if v6 then 40 else 20) ≤ mtu then []
  else splitInto (max 8 ((mtu - (if v6 then 48 else 20)) / 8 * 8)) (n + 8) (n + 8)

/-- Hand a packet to its transport: a datagram, in IP fragments when it is larger than the MTU (R17), or a message
queued for its ISO 15765-2 pair (R15, R19). -/
def emit (dst : Source) (pair : Pair) (p : Packet) (w : W) : W :=
  let bytes := headerBytes p ++ p.payload ++ p.trailer
  match dst with
  | .udp port vlan v6 .. => w.send (.borul dst p (ipFragments w.m port vlan v6 bytes.length))
  | .isotp n => (w.send (.borul dst p [])).borul fun b => { b with pairQueue := b.pairQueue ++ [(n, pair, bytes)] }

/-- The settings of an ISO 15765-2 pair as its parameters now give them. -/
def pairNow (m : Module) (n : Nat) : Pair :=
  { ch := prm m P.session_isotp_channel 0 n, fmt := prm m P.session_isotp_frame_format 0 n
    rxId := prm m P.session_isotp_request_id 0 n, txId := prm m P.session_isotp_response_id 0 n
    bs := prm m P.session_isotp_block_size, stmin := prm m P.session_isotp_stmin }

def maxSeq : Nat := 0xFFFFFFFF

/-- Send one packet of a session to `dst` under the next module sequence number (R40); the session ends once that number
is its last (R38). -/
def sendOne (v : View) (i : Nat) (dst : Source) (p : Packet) (w : W) : W :=
  let s := slotAt w.m i
  if s.st == .free || decide (maxSeq ≤ s.txSeq) then w
  else
    let p := finish (some s.key)
      { p with major := s.major, minor := s.minor, sessionId := s.id, sequence := s.txSeq + 1 }
    let w := (emit dst s.via.pair p w).slot i (fun s => { s with txSeq := s.txSeq + 1 })
    if s.txSeq + 1 == maxSeq then endSession v i 3 w else w

/-- Send a payload of a session as one packet or as a fragment train (R45). -/
def sendOn (v : View) (i : Nat) (dst : Source) (p : Packet) (w : W) : W :=
  let ps := pieces 16 p.payload
  let last := ps.length - 1
  w.each ps.zipIdx fun (x, k) w => sendOne v i dst { p with payload := x, more := k != last } w

/-- A reply outside any session: CRC-32C trailer, session_id and sequence 0 (R22, R33). DESIGN CHOICE
(notes/assumptions/112.md): its version fields repeat those of the request, as no version is negotiated. -/
def sendBare (r : Request) (code status : Nat) (payload : List Byte) (w : W) : W :=
  emit r.src (match r.src with | .isotp n => pairNow w.m n | _ => {}) (finish none
    { major := r.major, minor := r.minor, opcode := code, tag := r.tag, reply := true, status := status
      payload := payload }) w

/-- Payload of an error reply: the request sequence number, then the detail (R25). -/
def withSeq (status seq : Nat) (detail : List Byte) : List Byte :=
  if 0x0100 ≤ status then u32 seq ++ detail else detail

/-- Note the reply of an accepted request in the duplicate cache (R39). -/
def noteReply (seq tag : Nat) (rep : Nat × Bool × List Byte) (s : Session) : Session :=
  { s with dup := s.dup.map (fun d => if d.seq == seq && d.tag == tag then { d with reply := some rep } else d) }

/-- Reply to an accepted request of a session, at its source (R19); a BUSY status is counted (R55). -/
def replyTo (v : View) (i : Nat) (dst : Source) (code seq tag status : Nat) (posted : Bool) (payload : List Byte) (w : W) : W :=
  let w := if status == St.busy then w.count C.borul_busy else w
  let w := w.slot i (noteReply seq tag (status, posted, payload))
  sendOn v i dst { major := 0, minor := 0, opcode := code, tag := tag, reply := true, posted := posted
                   status := status, payload := payload } w

/-- Reply to a request, in its session or outside any. -/
def respond (v : View) (op : OpInfo) (r : Request) (slot : Option Nat) (status : Nat) (posted : Bool)
    (payload : List Byte) (w : W) : W :=
  let body := withSeq status r.sequence payload
  match slot with
  | some i => replyTo v i r.src op.code r.sequence r.tag status posted body w
  | none => sendBare r op.code status body (if status == St.busy then w.count C.borul_busy else w)

/-- The answer to a session's request that steps 2 to 4 of Table 02-2 turn away: no reply of an accepted request is
touched (R39). -/
def turnAway (v : View) (op : OpInfo) (r : Request) (i status : Nat) (w : W) : W :=
  sendOn v i r.src { major := 0, minor := 0, opcode := op.code, tag := r.tag, reply := true, status := status
                     payload := withSeq status r.sequence [] } w

/-! ### Admission (R15, R16, R498, R509) -/

def transportNow (m : Module) : Transport :=
  { portMask := prm m P.session_borul_port_mask
    vlan := prm m P.session_borul_vlan
    v4 := prm m P.session_borul_ipv4_addr
    v6 := ((List.range 4).foldl (fun a e => a * 2 ^ 32 + prm m P.session_borul_ipv6_addr 0 e) 0)
    udpPort := prm m P.session_borul_udp_port
    allow := ((List.range 4).map (fun e => prm m P.session_host_allow_ipv4 0 e)).filter (· != 0) }

def matchesUdp (t : Transport) (port vlan : Nat) (v6 : Bool) (dst dport : Nat) : Bool :=
  bit t.portMask port && vlan == t.vlan && dport == t.udpPort
    && (if v6 then t.v6 != 0 && dst == t.v6 else t.v4 != 0 && dst == t.v4)

/-- The E10 service path is open (R498): state of R497 or SAFE, DOIP_ACT asserted. -/
def serviceOpen (m : Module) : Bool := (noBook m || m.mod.state == .safe) && bit m.io.din 12

def serviceAddress (m : Module) : Option Nat :=
  let a := prm m P.session_borul_ipv4_addr
  if a != 0 then some a else m.borul.serviceAddr

def isService (m : Module) : Source → Bool
  | .udp port vlan v6 _ _ dst dport =>
    serviceOpen m && port == 10 && vlan == 0 && !v6 && dport == 48400 && serviceAddress m == some dst
  | .isotp _ => false

def pairEnabled (m : Module) (p : Nat) : Bool := decide (p < 2) && prm m P.session_isotp_channel 0 p != 255

/-- A management image is running and serves Borul in this state (R495, R497, R505, R509). -/
def managed (m : Module) : Bool :=
  m.mod.firmwareRunning && (match m.mod.state with
    | .run | .sleepPrep | .footpath | .safe => true
    | _ => false)

/-- E10 is active as a DoIP edge node (R354, R355). -/
def doipActive (m : Module) : Bool :=
  prmB m P.eth_doip_enable 10 &&
    (if prm m P.eth_doip_activation_mode 10 == 1 then m.mod.state == .run else m.doip.active)

/-- Ethernet ports whose PHY is powered in this state (Table 17-4, R355, R477, R488): E0 and E1 neither in the low
range nor shed. -/
def ethPowered (m : Module) (port : Nat) : Bool :=
  match m.mod.state with
  | .run | .unmanaged | .sleepPrep =>
    if port == 10 then !prmB m P.eth_doip_enable 10 || prm m P.eth_doip_activation_mode 10 == 1 || m.doip.active
    else !(decide (port < 2) && (m.supply.range == 1 || m.supply.shed))
  | _ => port == 10 && serviceOpen m

inductive Admit where
  | no
  | discard
  | yes (via : Transport)
  deriving DecidableEq, Repr

def isUdp : Source → Bool
  | .udp .. => true
  | .isotp _ => false

/-- R16's list of allowed hosts. -/
def hostAllowed (t : Transport) (v6 : Bool) (ip : Nat) : Admit :=
  if !t.allow.isEmpty && !(t.allow.contains ip && !v6) then .discard else .yes t

/-- Is the packet Borul traffic (R16)? An open session keeps the transport settings it was opened under (R54); a
datagram that names it and meets only the present settings comes from another endpoint (notes/assumptions/80.md). -/
def admitted (m : Module) (s : Option Session) (src : Source) : Admit :=
  match src with
  | .isotp p => if pairEnabled m p || (match s with | some x => x.src == .isotp p | none => false) then .yes {} else .no
  | .udp port vlan v6 ip _ dst dport =>
    if isService m src && (match s with | some x => x.via.service || !isUdp x.src | none => true) then
      .yes { service := true }
    else
      let now := transportNow m
      let meetsNow := matchesUdp now port vlan v6 dst dport
      if m.mod.state == .safe || !ethPowered m port then .no
      else match s.filter (fun x => isUdp x.src) with
        | none => if meetsNow then hostAllowed now v6 ip else .no
        | some x =>
          if !x.via.service && matchesUdp x.via port vlan v6 dst dport then hostAllowed x.via v6 ip
          else if meetsNow || isService m src then .discard
          else .no

/-- Same endpoint (R19): the VLAN and host address, or the pair. -/
def sameEndpoint : Source → Source → Bool
  | .udp _ vlan v6 ip _ _ _, .udp _ vlan' v6' ip' _ _ _ => vlan == vlan' && v6 == v6' && ip == ip'
  | .isotp p, .isotp p' => p == p'
  | _, _ => false

/-! ### Authentication failures (R35) -/

/-- A lockout of the role runs at this time (R35, R42). -/
def roleLocked (m : Module) (role now : Nat) : Bool :=
  match atD m.borul.lockUntil role none with
  | some t => decide (now < t)
  | none => false

/-- An AUTH_FAIL result for a role: counted, and a lockout begins at the threshold (R35). DESIGN CHOICE
(notes/assumptions/112.md): a count that reaches the threshold while a lockout runs starts the next one at the first
AUTH_FAIL after its end. -/
def noteAuthFail (v : View) (role : Nat) (w : W) : W :=
  let w := w.count C.borul_auth_fail
  let n := atD w.m.borul.fails role 0 + 1
  if n < prm w.m P.session_auth_lockout_threshold || roleLocked w.m role v.now then
    w.borul fun b => { b with fails := upd b.fails role (fun _ => n) }
  else
    let us := prm w.m P.session_auth_lockout_time
    let until_ := v.now + us * 1000
    (w.borul fun b => { b with fails := upd b.fails role (fun _ => 0)
                               lockUntil := upd b.lockUntil role (fun _ => some until_) }).event v 0x0204 1
      (u8 role ++ zeros 3 ++ u32 us)

/-- AUTH_FAIL for the PENDING session in slot `i`: bare reply, slot FREE (R34, R35). A bad CMAC, which is a trailer
failure and an AUTH_FAIL reply, counts once in borul_auth_fail (DESIGN CHOICE, notes/assumptions/81.md). -/
def authFailure (v : View) (op : OpInfo) (r : Request) (i : Nat) (w : W) : W :=
  let role := (slotAt w.m i).role
  let w := endSession v i 0 w
  let w := noteAuthFail v role w
  sendBare r op.code St.authFail (withSeq St.authFail r.sequence []) w

/-! ### Operations in flight (R41, R46) -/

def releaseTag (i tag : Nat) (w : W) : W := w.slot i (fun s => { s with tags := s.tags.filter (· != tag) })

/-- The completion event of a posted operation (R46). -/
def completeEvent (v : View) (sid tag code status : Nat) (detail : List Byte) (w : W) : W :=
  w.event v 0x0201 0 (u32 sid ++ u8 tag ++ u8 0 ++ u16 code ++ u16 status ++ detail.take 38)

/-- An accepted operation ends: its completion event or its reply, and its tag is free again (R41). A reply of a
session that has ended is discarded (R38). -/
def finishOp (v : View) (o : Op) (status : Nat) (payload : List Byte) (w : W) : W :=
  let w := w.borul fun b => { b with ops := b.ops.filter (fun x => !(x.sid == o.sid && x.tag == o.tag)) }
  let slot := findSlot w.m o.sid
  let w := if o.posted then completeEvent v o.sid o.tag o.opcode status payload w else w
  match slot with
  | none => w
  | some i =>
    let w := releaseTag i o.tag w
    let w := if o.posted then w else replyTo v i o.src o.opcode o.seq o.tag status false (withSeq status o.seq payload) w
    if o.seq == maxSeq && (slotAt w.m i).id == o.sid then endSession v i 3 w else w

/-- Operations waiting for a condition. -/
def waitingOps (m : Module) (p : OpKind → Bool) : List Op := m.borul.ops.filter (fun o => p o.kind)

def addOp (o : Op) (w : W) : W := w.borul fun b => { b with ops := b.ops ++ [o] }

/-- A session whose request carried the last sequence number ends after the reply (R38). -/
def closeLast (v : View) (r : Request) (i sid : Nat) (w : W) : W :=
  if r.sequence == maxSeq && (slotAt w.m i).id == sid then endSession v i 3 w else w

/-- The reply with the final status of a request of session slot `i`. One that steps 5 to 10 of Table 02-2 turn away has
not been executed and ends no session (R38). -/
def replied (v : View) (op : OpInfo) (r : Request) (i sid status : Nat) (p : List Byte) (w : W) : W :=
  let w := respond v op r (some i) status false p w
  if isCheckStatus status then w else closeLast v r i sid w

/-- The operation in flight that a request of slot `i` begins. -/
def newOp (op : OpInfo) (r : Request) (i : Nat) (s : Session) (payload : List Byte) (kind : OpKind) (ans : List Byte) : Op :=
  { sid := s.id, tag := r.tag, opcode := op.code, seq := r.sequence, posted := r.posted && op.post, payload := payload
    kind := kind, slot := i, role := s.role, answer := ans, src := r.src }

/-- The request's tag is in use (R41). -/
def holdTag (r : Request) (i : Nat) (w : W) : W := w.slot i (fun s => { s with tags := r.tag :: s.tags })

/-- A posted request is accepted: its tag and operation stay in flight (R46). -/
def accepted (v : View) (op : OpInfo) (r : Request) (i : Nat) (o : Op) (w : W) : W :=
  respond v op r (some i) St.accepted true [] (addOp o (holdTag r i w))

/-- A session's request leaves the module with this answer (steps 8 to 11 of Table 02-2). -/
def conclude (v : View) (op : OpInfo) (r : Request) (i : Nat) (payload : List Byte) (before : W) (res : W × Ans) : W :=
  let s := slotAt before.m i
  let o := newOp op r i s payload .posted []
  match res with
  | (w, .fail st d) =>
    if st == St.authFail then authFailure v op r i w
    else if o.posted && !isCheckStatus st then accepted v op r i o before
    else replied v op r i s.id st d w
  | (w, .ok p) => if o.posted then accepted v op r i o before else replied v op r i s.id St.ok p w
  | (w, .okEnd p reason) =>
    if o.posted then accepted v op r i o before
    else endSession v i reason (respond v op r (some i) St.ok false p w)
  | (w, .wait kind p) =>
    let o := newOp op r i s payload kind p
    if o.posted then accepted v op r i o w else addOp o (holdTag r i w)
  | (w, .done) => w

/-! ### Fragment trains (R43, R44) -/

def trainOf (s : Session) (tag : Nat) : Option Train := s.trains.find? (fun t => t.tag == tag)

/-- Discard a train: its tag is free again and event 0x0205 is raised (R44). -/
def dropTrain (v : View) (i : Nat) (t : Train) (w : W) : W :=
  let sid := (slotAt w.m i).id
  let w := w.slot i (fun s => { s with trains := s.trains.filter (fun x => x.tag != t.tag)
                                       tags := s.tags.filter (· != t.tag) })
  (w.count C.borul_fragment_timeout).event v 0x0205 1
    (u32 sid ++ u8 t.tag ++ u8 0 ++ u16 t.opcode ++ u32 t.data.length)

/-- Store a fragment and answer the number of bytes received so far (R43). -/
def keepFragment (v : View) (op : OpInfo) (r : Request) (i : Nat) (count : Nat) (data : List Byte) (w : W) : W :=
  let t : Train := { tag := r.tag, opcode := op.code, count := count, data := data
                     deadline := v.now + prmNs w.m P.session_fragment_timeout }
  let w := w.slot i (fun s => { s with trains := s.trains.filter (fun x => x.tag != r.tag) ++ [t]
                                       tags := if s.tags.contains r.tag then s.tags else r.tag :: s.tags })
  respond v op r (some i) St.ok false (u32 data.length) w

/-- Step 7 of Table 02-2 and what follows it, for a request of session slot `i` on a tag with no train. -/
def carryFresh (v : View) (op : OpInfo) (r : Request) (i : Nat) (c : Ctx) (body : Body) (w : W) : W :=
  let s := slotAt w.m i
  if s.tags.contains r.tag then respond v op r (some i) St.busy false [] w
  else if r.more then
    if 2 ≤ s.trains.length then respond v op r (some i) St.busy false [] w
    else keepFragment v op r i 1 r.payload w
  else conclude v op r i r.payload w (body c r.payload v w)

/-- A further fragment of a train (R43, R44). -/
def carryTrain (v : View) (op : OpInfo) (r : Request) (i : Nat) (c : Ctx) (body : Body) (t : Train) (w : W) : W :=
  if t.opcode != op.code then respond v op r (some i) St.badParam false [] (dropTrain v i t w)
  else if 16 ≤ t.count then respond v op r (some i) St.badLength false [] (dropTrain v i t w)
  else if r.more then keepFragment v op r i (t.count + 1) (t.data ++ r.payload) w
  else
    let w := w.slot i (fun s => { s with trains := s.trains.filter (fun x => x.tag != r.tag)
                                         tags := s.tags.filter (· != r.tag) })
    conclude v op r i (t.data ++ r.payload) w (body c (t.data ++ r.payload) v w)

/-- Step 7 of Table 02-2: a train whose next fragment is late is discarded first (R42, R44). -/
def carryOut (v : View) (op : OpInfo) (r : Request) (i : Nat) (c : Ctx) (body : Body) (w : W) : W :=
  match trainOf (slotAt w.m i) r.tag with
  | none => carryFresh v op r i c body w
  | some t =>
    if v.late t.deadline then carryFresh v op r i c body (dropTrain v i t w)
    else carryTrain v op r i c body t w

/-- The detour image serves this operation (R509, R527). -/
def detourServes (m : Module) (op : OpInfo) : Bool :=
  op.safe || (m.mod.state != .safe && op.code / 256 == 0x05)

def runsDetour (m : Module) : Bool := m.mod.state == .safe || m.mod.bootBank == 2

/-- The counter IDs of a COUNTER payload (R535). -/
def counterIds (p : List Byte) : List Nat :=
  (List.range (min (leAt p 0 2) ((p.length - 4) / 4))).map (fun k => leAt p (4 + 4 * k) 4)

/-- Index of the first entry that `p` selects. -/
def firstIndex (p : Nat → Bool) (l : List Nat) : Option Nat := (l.zipIdx.find? (fun q => p q.1)).map Prod.snd

/-- The counter held in MRAM that a COUNTER_CLEAR below maintainer names (R535: a check of step 6). -/
def clearDenied (op : OpInfo) (role : Nat) (p : List Byte) : Option Nat :=
  if op.code == 0x0602 && decide (role < 3) then firstIndex isMramCounter (counterIds p) else none

/-- TABLE_WRITE to table 0x0D below maintainer (R154: a check of step 6). -/
def flowWriteDenied (op : OpInfo) (role : Nat) (p : List Byte) : Bool :=
  op.code == 0x0403 && decide (role < 3) && !p.isEmpty && leAt p 0 1 == 0x0D

/-- Steps 5 and 6 of Table 02-2 for a request with this payload, and the detour image's own limit right after them
(R509): the status, and what follows the sequence number in the reply. -/
def gate (m : Module) (op : OpInfo) (ver : Nat × Nat) (role : Nat) (p : List Byte) : Option (Nat × List Byte) :=
  if familyRev (op.code / 256) ver < op.rev then some (St.badOpcode, [])
  else if decide (role < op.role) || flowWriteDenied op role p then some (St.notPermitted, [])
  else match clearDenied op role p with
    | some k => some (St.notPermitted, u16 k ++ zeros 2)
    | none => if runsDetour m && !detourServes m op then some (St.wrongState, []) else none

/-- The payload of a request that is whole with this packet: what its train holds already, and its own. -/
def wholePayload (v : View) (r : Request) (s : Session) : List Byte :=
  if r.more then []
  else match (trainOf s r.tag).filter (fun t => !v.late t.deadline) with
    | some t => t.data ++ r.payload
    | none => r.payload

/-- A request of session slot `i` has passed steps 1 and 2: counted, and the session's source and idle timeout follow
(R19, R38). The valid request that R38 starts the idle timer again for is any such request, also one that a later step
answers with an error or that is a duplicate (DESIGN CHOICE, notes/assumptions/82.md). -/
def heard (v : View) (r : Request) (i : Nat) (w : W) : W :=
  (w.count C.borul_rx_packets).slot i (fun s => { s with
    src := r.src
    deadline := if s.st == .opened then v.now + prmNs w.m P.session_session_idle_timeout else s.deadline })

/-- A request that passes step 4 consumes its sequence number and enters the duplicate cache (R24, R39). -/
def noted (op : OpInfo) (r : Request) (i : Nat) (w : W) : W :=
  let d : DupEntry := { seq := r.sequence, tag := r.tag, opcode := op.code, cmac := r.trailer }
  w.slot i (fun s => { s with rxHigh := r.sequence, dup := (s.dup ++ [d]).drop (s.dup.length + 1 - 32) })

/-- An entry of the duplicate cache that a request repeats (R39). -/
def findDup (op : OpInfo) (r : Request) (s : Session) : Option DupEntry :=
  s.dup.find? (fun d => d.seq == r.sequence && d.tag == r.tag && d.opcode == op.code && d.cmac == r.trailer)

/-- Who asks, when session slot `i` does. -/
def sessionCtx (r : Request) (i : Nat) (s : Session) : Ctx :=
  ⟨some i, s.id, s.role, (s.major, s.minor), r.sequence, r.tag⟩

/-- The session's state allows the opcode (R34): SESSION_AUTH alone while PENDING, all but SESSION_HELLO and
SESSION_AUTH once OPEN. -/
def allowedIn (x : Session) (op : OpInfo) : Bool :=
  if x.st == .pending then op.code == 0x0102 else op.code != 0x0101 && op.code != 0x0102

/-- A request that repeats an accepted one (R39): its reply goes out again, or it is discarded while the first still
executes. A BUSY reply sent again counts in borul_duplicate alone (DESIGN CHOICE, notes/assumptions/81.md). -/
def repeated (v : View) (op : OpInfo) (r : Request) (i : Nat) (d : DupEntry) (w : W) : W :=
  let w := w.count C.borul_duplicate
  match d.reply with
  | none => w
  | some (st, posted, p) =>
    sendOn v i r.src { major := 0, minor := 0, opcode := op.code, tag := r.tag, reply := true, posted := posted
                       status := st, payload := p } w

/-- A request of session slot `i` whose trailer verified (steps 2 to 11 of Table 02-2). A request that step 2 turns away
leaves the session unchanged (R34). -/
def sessionRequest (v : View) (op : OpInfo) (r : Request) (i : Nat) (body : Body) (w : W) : W :=
  let s := slotAt w.m i
  if !allowedIn s op then turnAway v op r i St.notAuthenticated (w.count C.borul_rx_packets)
  else
    let w := heard v r i w
    if (r.major, r.minor) != (s.major, s.minor) then turnAway v op r i St.versionUnsupported w
    else match findDup op r s with
      | some d => repeated v op r i d w
      | none =>
        if r.sequence ≤ s.rxHigh then turnAway v op r i St.counterStale (w.count C.borul_stale)
        else
          let w := noted op r i w
          match gate w.m op (s.major, s.minor) (s.role + 1) (wholePayload v r s) with
          | some (st, d) => respond v op r (some i) st false d w
          | none => carryOut v op r i (sessionCtx r i s) body w

/-- A request with session_id 0 whose trailer verified: SESSION_HELLO and the INFO family only (R22). -/
def bareRequest (v : View) (op : OpInfo) (r : Request) (body : Body) (w : W) : W :=
  let w := w.count C.borul_rx_packets
  if op.code != 0x0101 && op.code / 256 != 0x02 then respond v op r none St.notAuthenticated false [] w
  else if op.code != 0x0101 && !isVersion r.major r.minor then
    respond v op r none St.versionUnsupported false versionRange w
  else if op.code != 0x0101 && familyRev (op.code / 256) (r.major, r.minor) < op.rev then
    respond v op r none St.badOpcode false [] w
  else if r.more && !(op.code == 0x0101 && (freeSlot w.m).isNone) then respond v op r none St.badLength false [] w
  else
    match body ⟨none, 0, 0, (r.major, r.minor), r.sequence, r.tag⟩ r.payload v w with
    | (w, .fail st d) => respond v op r none st false d w
    | (w, .ok p) => respond v op r none St.ok false p w
    | (w, .okEnd p _) => respond v op r none St.ok false p w
    | (w, .wait _ _) => w
    | (w, .done) => w

/-- The operation that a packet names: the command's own, or one that no table of spec/ gives, which exists at no
version (R26). -/
def named (op : OpInfo) (r : Request) : OpInfo :=
  match r.other with
  | none => op
  | some c => { code := c, role := 0, rev := 256 }

/-- What every request command does: R16, R19, R23 and Table 02-2 around the body of its operation. Endpoint and lateness
(R19, R582) are looked at before the trailer, so that such a packet counts in borul_rx_discarded whatever its trailer
(DESIGN CHOICE, notes/assumptions/83.md). -/
def request (op : OpInfo) (r : Request) (body : Body) (v : View) (w : W) : W :=
  let op := named op r
  if !managed w.m then
    if w.m.mod.state == .unmanaged then w.count C.i0_rx_drop else w
  else
    let slot := if r.sessionId == 0 then none else findSlot w.m r.sessionId
    match admitted w.m (slot.map (slotAt w.m)) r.src with
    | .no => w
    | .discard => w.count C.borul_rx_discarded
    | .yes _ =>
      if !framingOk r then w.count C.borul_rx_discarded
      else match slot with
        | none =>
          if r.sessionId != 0 then w.count C.borul_rx_discarded
          else if r.trailer != trailerOf none (requestBytes op.code r) then w.count C.borul_auth_fail
          else bareRequest v op r body w
        | some i =>
          let s := slotAt w.m i
          if !sameEndpoint s.src r.src then w.count C.borul_rx_discarded
          else if v.late s.deadline then w.count C.borul_rx_discarded
          else if r.trailer != trailerOf (some s.key) (requestBytes op.code r) then
            if s.st == .pending && op.code == 0x0102 then authFailure v op r i w
            else w.count C.borul_auth_fail
          else sessionRequest v op r i body w

/-- The answer of a waiting operation is ready. -/
def finishWaiting (v : View) (p : OpKind → Bool) (w : W) : W :=
  w.each (waitingOps w.m p) fun o w => finishOp v o St.ok o.answer w

end Sys2Proof.Machine
end

