-- ==== Sys2Proof/Machine/KeyStore.lean ====
section
/-! DEFINITION. The key store as its users see it: derivation, ancestry, the attribute check of every use, and the
secrets of Table 15-1 (R431-R436). -/

namespace Sys2Proof.Machine

/-- KDF of R431: SP 800-108 in counter mode with AES-CMAC; `bits` is the output length. -/
def kdf (key : List Byte) (label ctx : List Byte) (bits : Nat) : List Byte :=
  let n := (bits + 127) / 128
  let blocks := (List.range n).map fun i => cmacBytes key (u8 (i + 1) ++ label ++ u8 0 ++ ctx ++ beBytes 2 bits)
  blocks.flatten.take (bits / 8)

def transportKey (m : Module) : List Byte :=
  kdf m.ident.rootSecret (ascii 13 "ZGM TRANSPORT") (u64 m.ident.uniqueId) 256

def storageKey (m : Module) : List Byte :=
  kdf m.ident.rootSecret (ascii 11 "ZGM STORAGE") (u64 m.ident.uniqueId) 256

/-- The first-use maintainer key (R434). -/
def firstUseKey (m : Module) : List Byte :=
  kdf (transportKey m) (ascii 20 "ZGM FIRST MAINTAINER") (u64 m.ident.uniqueId) 128

def keySlot (m : Module) (i : Nat) : KeySlot := m.keys.slots.getD i {}

def W.keySlot (w : W) (i : Nat) (f : KeySlot → KeySlot) : W :=
  w.keys fun k => { k with slots := k.slots.set {} i (f (k.slots.getD i {})) }

/-- Every ancestor is VALID and still has its recorded lineage (R436). -/
def ancestryOk (m : Module) (k : KeySlot) : Bool :=
  k.ancestry.all fun (a, l) => (keySlot m a).st == 1 && (keySlot m a).lineage == l

/-- ORPHANED: an ancestor fails the check, or has failed it since the record was committed; that is permanent (R436). -/
def orphaned (m : Module) (k : KeySlot) : Bool := k.st == 1 && (k.orphan || !ancestryOk m k)

def orphans (m : Module) : List Nat := (List.range 256).filter (fun i => orphaned m (keySlot m i))

/-- A slot has changed: what it orphans stays so. -/
def markOrphans (w : W) : W := w.each (orphans w.m) fun i w => w.keySlot i fun k => { k with orphan := true }

/-! ### Records in MRAM (R440, R443) -/

/-- What a record holds, before it is sealed. -/
def recordPlain (k : KeySlot) : List Byte :=
  u8 k.st ++ u8 k.type ++ u8 k.attrs ++ u16 k.parent ++ u8 k.depth ++ u32 k.kcv ++ k.material
    ++ k.ancestry.flatMap (fun a => u16 a.1 ++ u32 a.2)

/-- Steps 1 and 2 of R440: the staging marker, and the new record in the slot's inactive copy. -/
def stageRecord (i : Nat) (new : KeySlot) (w : W) : W :=
  let c : KeyCopy := { sealed := Config.recordSeal (storageKey w.m) (recordPlain new) }
  w.keySlot i fun k => { k with staging := true, copies := upd k.copies (1 - k.active) (fun _ => c) }

/-- Step 3 of R440, the commit: one burst holds the copy selector, counter, lineage and message digest. -/
def commitBurst (i : Nat) (new : KeySlot) (w : W) : W :=
  w.keySlot i fun k => { k with
    active := 1 - k.active, counter := new.counter, lineage := new.lineage, digest := new.digest, reply := new.reply
    commitS := new.commitS }

/-- Steps 4 and 5 of R440: the data-plane key cache takes the new record whole, and the staging marker is cleared. A step of
the model lets no use fall between, so that no closure need be seen (notes/assumptions/117.md). -/
def cacheRecord (i : Nat) (new : KeySlot) (w : W) : W :=
  w.keySlot i fun k => { new with copies := k.copies, active := k.active }

/-- Write a record of the slot, and see whom that orphans. -/
def writeRecord (i : Nat) (new : KeySlot) (w : W) : W :=
  markOrphans (cacheRecord i new (commitBurst i new (stageRecord i new w)))

/-- The slot's active record fails its authentication (R443). -/
def recordBad (k : KeySlot) : Bool := (atD k.copies k.active {}).bad

/-- The slot is FAULTY, until a LOAD succeeds. -/
def faultyKey (i : Nat) (w : W) : W := markOrphans (w.keySlot i fun k => { k with st := 4 })

/-- A use reads the record: one that fails its authentication makes the slot FAULTY, with event 0x0F08 (R443). -/
def readRecord (v : View) (i : Nat) (w : W) : W :=
  if (keySlot w.m i).st == 1 && recordBad (keySlot w.m i) then (faultyKey i w).event v 0x0F08 3 (u8 i ++ zeros 3) else w

/-- A KEY_UPDATE for the slot is in progress. -/
def keyUpdating (m : Module) (i : Nat) : Bool := m.borul.ops.any (fun o => o.opcode == 0x0B02 && leAt o.payload 8 1 == i)

/-- State code of Table 15-8; a slot is UPDATING while a KEY_UPDATE for it is in progress. -/
def keyState (m : Module) (i : Nat) : Nat :=
  let k := keySlot m i
  if keyUpdating m i then 3 else if orphaned m k then 2 else k.st

/-- A key that is VALID, not orphaned and carries the attribute bit (R435). -/
def usableKey (m : Module) (i attr : Nat) : Option (List Byte) :=
  let k := keySlot m i
  if i < 256 ∧ k.st = 1 ∧ !orphaned m k ∧ bit k.attrs attr then some k.material else none

namespace Attr
def encrypt : Nat := 0
def decrypt : Nat := 1
def wrap : Nat := 2
def derive : Nat := 3
end Attr

/-- A refused use is counted and reported (R435). Users: 0 ZSP, 1 CTS, 2 MKA, 3 Borul, 4 KEY_UPDATE. -/
def denyKey (v : View) (i user attr : Nat) (w : W) : W :=
  (w.count C.key_attr_denied i).limited v 0x0F06 1 0 (prmNs w.m P.security_key_use_event_interval)
    (fun _ => u8 i ++ u8 user ++ u8 attr ++ u8 (keyState w.m i))

/-- Use a key: its material, or a refusal that is counted and reported. -/
def useKey (v : View) (i user attr : Nat) (w : W) : W × Option (List Byte) :=
  let w := readRecord v i w
  match usableKey w.m i attr with
  | some k => (w, some k)
  | none => (denyKey v i user attr w, none)

/-- The Borul access key of a role (R30, R434). -/
def accessKey (v : View) (role : Nat) (w : W) : W × Option (List Byte) :=
  let slot := 250 + role
  if role == 2 && (keySlot w.m slot).st == 0 then (w, some (firstUseKey w.m))
  else useKey v slot 3 Attr.derive w

/-- The session key of R31. -/
def sessionKey (access : List Byte) (sid : Nat) (hostNonce moduleNonce : List Byte) (ver : Nat × Nat) (role : Nat) :
    List Byte :=
  kdf access (ascii 13 "BORUL SESSION")
    (u32 sid ++ hostNonce ++ moduleNonce ++ u8 ver.1 ++ u8 ver.2 ++ u8 role) 128

end Sys2Proof.Machine
end

