-- ==== Sys2Proof/Machine/Session.lean ====
section
/-! DEFINITION. The SESSION and EVENT families and the timers of the protocol (spec/02, R29-R56). -/

namespace Sys2Proof.Machine

/-! ### SESSION_HELLO (R30-R37) -/

/-- The highest version that lies in a range (R32). -/
def chooseVersion (lo hi : Nat × Nat) : Option (Nat × Nat) :=
  (versions.filter (fun x => verLe lo x && verLe x hi)).getLast?

/-- A session id is non-zero and not in use (R22). -/
def freshSid (m : Module) (x : Nat) : Nat :=
  let ids := (List.range 5).map (fun k => (x + k) % 2 ^ 32)
  (ids.find? (fun i => i != 0 && (findSlot m i).isNone)).getD 1

/-- The reply of Table 02-9. -/
def helloReply (m : Module) (ver : Nat × Nat) (sid : Nat) (nonce : List Byte) : List Byte :=
  let fams := familyList ver
  u8 ver.1 ++ u8 ver.2 ++ versionRange ++ u8 fams.length ++ u8 0 ++ u32 sid ++ nonce ++ u64 m.ident.uniqueId
    ++ (fams.map (fun f => u8 f.1 ++ u8 f.2)).flatten

/-- Open a PENDING session in slot `i` and send its reply under the new session key (R33). -/
def openPending (v : View) (r : Request) (i role : Nat) (ver : Nat × Nat) (access : List Byte) (w : W) : W :=
  let f := (w.base v).fresh
  let nonce := beBytes 16 (Config.random f).toNat
  let sid := freshSid w.m ((Config.random (f + 1)).toNat % 2 ^ 32)
  let w := (w.eff .draw).eff .draw
  let s : Session :=
    { st := .pending, id := sid, role := role, major := ver.1, minor := ver.2, src := r.src
      via := match r.src with
        | .isotp n => { pair := pairNow w.m n }
        | .udp .. => if isService w.m r.src then { service := true } else transportNow w.m
      key := sessionKey access sid (slice r.payload 8 16) nonce ver role
      nonce := nonce, deadline := v.now + prmNs w.m P.session_auth_window }
  sendOn v i r.src { major := 0, minor := 0, opcode := 0x0101, tag := r.tag, reply := true
                     payload := helloReply w.m ver sid nonce } (w.slot i (fun _ => s))

def sessionHelloBody (r : Request) : Body := fun _ p v w =>
  match freeSlot w.m with
  | none => refuse w St.busy
  | some i =>
    if p.length < 24 then refuse w St.badLength
    else
      let lo := (leAt p 0 1, leAt p 1 1)
      let hi := (leAt p 2 1, leAt p 3 1)
      let role := leAt p 4 1
      if hi != (r.major, r.minor) || 2 < role then refuse w St.badParam
      else match chooseVersion lo hi with
        | none => refuse w St.versionUnsupported versionRange
        | some ver =>
          if roleLocked w.m role v.now then refuse w St.locked
          else match accessKey v role w with
            | (w, none) => refuse w St.notPermitted
            | (w, some k) => (openPending v r i role ver k w, .done)

def opSessionHello : OpInfo := { code := 0x0101, role := 0, safe := true }
def execSessionHello (r : Request) (s : State) : Host.Outcome State Fault Refusal :=
  run true (request opSessionHello r (sessionHelloBody r)) s

/-! ### SESSION_AUTH (R34, R35) -/

def sessionAuthBody : Body := need 16 fun c p v w =>
  match c.slot with
  | none => refuse w St.notAuthenticated
  | some i =>
    let s := slotAt w.m i
    if p.take 16 != s.nonce then refuse w St.authFail
    else
      let us := prm w.m P.session_session_idle_timeout
      let w := w.slot i (fun s => { s with st := .opened, deadline := v.now + us * 1000 })
      let w := w.borul fun b => { b with fails := upd b.fails s.role (fun _ => 0) }
      let w := (confirmWake v.now w).event v 0x0202 0 (u32 s.id ++ u8 s.role ++ u8 s.major ++ u8 s.minor ++ u8 (transportCode s.src))
      answer w (u8 s.role ++ zeros 3 ++ u32 us)

def opSessionAuth : OpInfo := { code := 0x0102, role := 0, safe := true }
def execSessionAuth (r : Request) (s : State) : Host.Outcome State Fault Refusal :=
  run true (request opSessionAuth r sessionAuthBody) s

/-! ### The other SESSION operations (R38, R53) -/

def sessionPingBody : Body := fun _ _ _ w => answer w []

def opSessionPing : OpInfo := { code := 0x0103, role := 1, safe := true }
def execSessionPing (r : Request) (s : State) : Host.Outcome State Fault Refusal :=
  run true (request opSessionPing r sessionPingBody) s

def sessionCloseBody : Body := fun _ _ _ w => (w, .okEnd [] 0)

def opSessionClose : OpInfo := { code := 0x0104, role := 1, safe := true }
def execSessionClose (r : Request) (s : State) : Host.Outcome State Fault Refusal :=
  run true (request opSessionClose r sessionCloseBody) s

def SlotState.code : SlotState → Nat
  | .free => 0
  | .pending => 1
  | .opened => 2

/-- A slot's record in SESSION_LIST; of a FREE slot every byte is 0 (DESIGN CHOICE, notes/assumptions/84.md). -/
def slotRecord (s : Session) : List Byte :=
  if s.st == .free then zeros 12
  else u32 s.id ++ u8 s.role ++ u8 s.major ++ u8 s.minor ++ u8 s.st.code ++ u8 (transportCode s.src) ++ zeros 3

def sessionListBody : Body := fun _ _ _ w => answer w ((w.m.borul.slots.map slotRecord).flatten)

def opSessionList : OpInfo := { code := 0x0105, role := 1, rev := 2, safe := true }
def execSessionList (r : Request) (s : State) : Host.Outcome State Fault Refusal :=
  run true (request opSessionList r sessionListBody) s

def sessionEvictBody : Body := need 4 fun c p v w =>
  let sid := leAt p 0 4
  match findSlot w.m sid with
  | none => refuse w St.badParam
  | some i =>
    if c.slot == some i then (w, .okEnd [] 1)
    else answer (endSession v i 1 w) []

def opSessionEvict : OpInfo := { code := 0x0106, role := 3, rev := 2, safe := true }
def execSessionEvict (r : Request) (s : State) : Host.Outcome State Fault Refusal :=
  run true (request opSessionEvict r sessionEvictBody) s

/-- The new key is kept aside until the reply has left under the old one. -/
def sessionRekeyBody : Body := need 16 fun c p v w =>
  match c.slot, accessKey v c.role w with
  | some i, (w, some k) =>
    let nonce := beBytes 16 (Config.random (w.base v).fresh).toNat
    let key := sessionKey k c.sid (p.take 16) nonce c.ver c.role
    answer ((w.eff .draw).slot i (fun s => { s with nextKey := some key })) nonce
  | _, (w, _) => refuse w St.notPermitted

/-- The keys that SESSION_REKEY derived come into force (R53: from the next packet in each direction). -/
def switchKeys (w : W) : W :=
  w.borul fun b => { b with slots := b.slots.map fun s =>
    match s.nextKey with
    | some k => { s with key := k, nextKey := none }
    | none => s }

def opSessionRekey : OpInfo := { code := 0x0107, role := 1, rev := 3, safe := true }
def execSessionRekey (r : Request) (s : State) : Host.Outcome State Fault Refusal :=
  run true (fun v w => switchKeys (request opSessionRekey r sessionRekeyBody v w)) s

/-! ### Timers (R17, R34, R35, R38, R42, R44) -/

def authLockoutEndCore (role : Nat) (v : View) (w : W) : W :=
  match atD w.m.borul.lockUntil role none with
  | some t => if v.expired t then w.borul fun b => { b with lockUntil := upd b.lockUntil role (fun _ => none) } else w
  | none => w

def execAuthLockoutEnd (role : Nat) (s : State) : Host.Outcome State Fault Refusal :=
  run (decide (role < 3)) (authLockoutEndCore role) s

def authWindowExpiryCore (slot : Nat) (v : View) (w : W) : W :=
  let s := slotAt w.m slot
  if s.st == .pending && v.expired s.deadline then endSession v slot 0 w else w

def execAuthWindowExpiry (slot : Nat) (s : State) : Host.Outcome State Fault Refusal :=
  run (decide (slot < 4)) (authWindowExpiryCore slot) s

def sessionIdleTimeoutCore (slot : Nat) (v : View) (w : W) : W :=
  let s := slotAt w.m slot
  if s.st == .opened && v.expired s.deadline then endSession v slot 2 w else w

def execSessionIdleTimeout (slot : Nat) (s : State) : Host.Outcome State Fault Refusal :=
  run (decide (slot < 4)) (sessionIdleTimeoutCore slot) s

/-- A fragment of the datagram that was stamped before the deadline is still arriving (R42). -/
def fragmentInTime (m : Module) (p : IpPartial) (deadline : Nat) : Bool :=
  match m.ing.arriving.get? p.port with
  | some a => decide (a.tb2 < deadline) && (ipOf a.head.bytes).any (fun ip => partialKey ip == p.key)
  | none => false

/-- Discard partial datagram `k` one second after its first fragment (R17). -/
def ipReassemblyTimeoutCore (k : Nat) (v : View) (w : W) : W :=
  match w.m.borul.partials[k]? with
  | some p =>
    if v.expired (p.first + 1000000000) && !fragmentInTime w.m p (p.first + 1000000000) then w.borul fun b => { b with partials := b.partials.eraseIdx k } else w
  | none => w

def execIpReassemblyTimeout (k : Nat) (s : State) : Host.Outcome State Fault Refusal :=
  run true (ipReassemblyTimeoutCore k) s

def fragmentTimeoutCore (slot tag : Nat) (v : View) (w : W) : W :=
  match trainOf (slotAt w.m slot) tag with
  | some t => if v.expired t.deadline then dropTrain v slot t w else w
  | none => w

def execFragmentTimeout (slot tag : Nat) (s : State) : Host.Outcome State Fault Refusal :=
  run (decide (slot < 4 ∧ tag < 32)) (fragmentTimeoutCore slot tag) s

/-! ### EVENT operations (R48-R53) -/

/-- An event record: header of Table 02-10, detail, padding to 4 bytes (R50). -/
def eventRecord (e : Event) : List Byte :=
  u16 e.code ++ u8 e.severity ++ u8 e.timeBase ++ u32 e.timestamp ++ u16 e.milestoneLow ++ u8 e.detail.length
    ++ u8 e.rep ++ u32 e.seq ++ e.detail ++ zeros ((4 - e.detail.length % 4) % 4)

def oldestSeq (q : EventQ) : Nat := match q.entries with | e :: _ => e.seq | [] => q.next

/-- EVENT_SUBSCRIBE (Table 02-12). DESIGN CHOICE (notes/assumptions/112.md): an enable above 1 is refused before a minimum
severity above 3. -/
def eventSubscribeBody : Body := need 8 fun c p v w =>
  let sev := leAt p 0 1
  let en := leAt p 1 1
  let start := oldestSeq (w.base v).ev
  if 1 < en then refuse w St.badParam
  else if 3 < sev then refuse w St.outOfRange
  else match c.slot with
    | none => refuse w St.notAuthenticated
    | some i =>
      answer (w.slot i (fun s => { s with
        sub := if en == 0 then none
          else some { minSeverity := sev, chapterMask := leAt p 4 4
                      next := match s.sub with | some o => o.next | none => start } })) []

def opEventSubscribe : OpInfo := { code := 0x0701, role := 1, safe := true }
def execEventSubscribe (r : Request) (s : State) : Host.Outcome State Fault Refusal :=
  run true (request opEventSubscribe r eventSubscribeBody) s

/-- An acknowledgement of an observer removes nothing (R51). -/
def eventAckBody : Body := need 4 fun c p _ w =>
  answer (if 1 ≤ c.role then w.eff (.ack (leAt p 0 4)) else w) []

def opEventAck : OpInfo := { code := 0x0702, role := 1, safe := true }
def execEventAck (r : Request) (s : State) : Host.Outcome State Fault Refusal :=
  run true (request opEventAck r eventAckBody) s

def isCritical (e : Event) : Bool := e.severity == 3

def eventStatusBody : Body := fun _ _ v w =>
  let q := (w.base v).ev
  let newest := match q.entries.getLast? with | some e => e.seq | none => q.last
  answer w (u16 q.entries.length ++ u16 (q.entries.filter isCritical).length ++ u32 (oldestSeq q) ++ u32 newest)

def opEventStatus : OpInfo := { code := 0x0703, role := 1, safe := true }
def execEventStatus (r : Request) (s : State) : Host.Outcome State Fault Refusal :=
  run true (request opEventStatus r eventStatusBody) s

def eventReadBody : Body := need 5 fun _ p v w =>
  let from_ := leAt p 0 4
  let es := ((w.base v).ev.entries.filter (fun e => seqLe from_ e.seq)).take (leAt p 4 1)
  answer w (es.map eventRecord).flatten

def opEventRead : OpInfo := { code := 0x0704, role := 1, rev := 2, safe := true }
def execEventRead (r : Request) (s : State) : Host.Outcome State Fault Refusal :=
  run true (request opEventRead r eventReadBody) s

/-! ### Delivery (R50-R52) -/

def subMatches (o : Subscription) (e : Event) : Bool :=
  decide (o.minSeverity ≤ e.severity) && bit o.chapterMask (e.code / 256)

/-- Records packed into packets of whole records, in order. -/
def packRecords (rs : List (List Byte)) : List (List Byte) :=
  rs.foldl (fun acc r =>
    match acc.getLast? with
    | some p => if p.length + r.length ≤ 4056 then acc.dropLast ++ [p ++ r] else acc ++ [r]
    | none => [r]) []

/-- Send EVENT_RECORD packets on a session (R50). -/
def sendEvents (v : View) (i : Nat) (es : List Event) (w : W) : W :=
  w.each (packRecords (es.map eventRecord)) fun p w =>
    sendOne v i (slotAt w.m i).src { major := 0, minor := 0, opcode := 0x0780, tag := 0, reply := false, event := true, payload := p } w

/-- Borul packets leave the module only while a management image runs (R12, R505). -/
def eventDeliveryCore (slot : Nat) (v : View) (w : W) : W :=
  let s := slotAt w.m slot
  match s.sub with
  | none => w
  | some o =>
    if s.st != .opened || !managed w.m then w
    else
      let es := v.ev.entries.filter (fun e => seqLe o.next e.seq)
      let w := w.slot slot (fun s => { s with sub := some { o with next := v.ev.next } })
      sendEvents v slot (es.filter (subMatches o)) w

def execEventDelivery (slot : Nat) (s : State) : Host.Outcome State Fault Refusal :=
  run (decide (slot < 4)) (eventDeliveryCore slot) s

/-- The critical entries that are resent on slot `i`: an operator or maintainer subscriber whose filter matches them. -/
def resentOn (m : Module) (i : Nat) (es : List Event) : List Event :=
  let s := slotAt m i
  match s.sub with
  | none => []
  | some o => if s.st != .opened || s.role == 0 then [] else es.filter (fun e => isCritical e && subMatches o e)

/-- Resend of critical entries to every operator and maintainer subscriber whose filter matches (R51); each entry counts
once in event_resent, to however many sessions it goes (R55). -/
def criticalResendCore (v : View) (w : W) : W :=
  if !managed w.m || !v.expired (w.m.borul.lastResend + prmNs w.m P.session_critical_resend_interval) then w
  else
    let es := v.ev.entries
    let some_ := es.filter (fun e => (List.range 4).any (fun i => !(resentOn w.m i [e]).isEmpty))
    let w := (w.borul fun b => { b with lastResend := v.now }).count C.event_resent 0 some_.length
    w.each (List.range 4) fun i w => sendEvents v i (resentOn w.m i es) w

def execCriticalResend (s : State) : Host.Outcome State Fault Refusal := run true criticalResendCore s

end Sys2Proof.Machine
end

