-- ==== Sys2Proof/Machine/Tables.lean ====
section
/-! DEFINITION. The forwarding tables as data: entry layouts, sizes and defaults (spec/05 to spec/09), the hash table
with its displacement search, the first-match and longest-prefix lookups, and staged operations planned on a copy. -/

namespace Sys2Proof.Machine

/-- A bit field: lowest bit and length. -/
structure Fld where
  lo : Nat
  len : Nat
  deriving DecidableEq, Repr

def Fld.get (f : Fld) (v : Nat) : Nat := fld v f.lo f.len
def Fld.on (f : Fld) (v : Nat) : Bool := f.get v == 1
def Fld.set (f : Fld) (v x : Nat) : Nat := setFld v f.lo f.len x

/-- A number as `n` little-endian bytes, and back. -/
def entryBytes (n v : Nat) : List Byte := leBytes n v

/-! ### Signposts (Table 05-1) -/

namespace Sp
def valid : Fld := ⟨63, 1⟩
def action : Fld := ⟨60, 3⟩
def destList : Fld := ⟨59, 1⟩
def dest : Fld := ⟨49, 10⟩
def tc : Fld := ⟨46, 3⟩
def waypoint : Fld := ⟨33, 13⟩
def waypointEn : Fld := ⟨32, 1⟩
def junction : Fld := ⟨31, 1⟩
def mirror : Fld := ⟨30, 1⟩
def truncated : Fld := ⟨29, 1⟩
def secured : Fld := ⟨28, 1⟩
def securedFlow : Fld := ⟨17, 11⟩
def vidAction : Fld := ⟨14, 2⟩
def vid : Fld := ⟨2, 12⟩
def pcpTc : Fld := ⟨1, 1⟩
/-- A plain FORWARD signpost to one port. -/
def forward (dest tc : Nat) : Nat := 2 ^ 63 + dest * 2 ^ 49 + tc * 2 ^ 46
end Sp

/-- R123: what a valid signpost must not hold. -/
def signpostOk (sp : Nat) : Bool :=
  !Sp.valid.on sp ||
    (decide (Sp.action.get sp ≤ 3) && (Sp.destList.on sp || decide (Sp.dest.get sp ≤ 43)) && !Sp.truncated.on sp
      && !((Sp.vidAction.get sp == 1 || Sp.vidAction.get sp == 3) && (Sp.vid.get sp == 0 || Sp.vid.get sp == 4095)))

/-! ### The table directory -/

def fastBase : Nat := 45056

/-- Entry size and number of entries of a table; none when the ID is not in use. -/
def tableShape : Nat → Option (Nat × Nat)
  | 0x01 => some (8, 45136) | 0x02 => some (16, 131072) | 0x03 => some (48, 4096) | 0x04 => some (16, 1024)
  | 0x05 => some (32, 256) | 0x06 => some (8, 1024) | 0x07 => some (16, 16384) | 0x08 => some (16, 3072)
  | 0x09 => some (16, 65536) | 0x0A => some (80, 8192) | 0x0B => some (32, 2048) | 0x0C => some (64, 8192)
  | 0x0D => some (32, 2048) | 0x0E => some (32, 4096) | 0x0F => some (16, 5720)
  | _ => none

def entrySize (t i : Nat) : Nat :=
  if t == 1 && fastBase ≤ i then 48 else match tableShape t with | some s => s.1 | none => 0

def doneWord : Nat := 0x24000000

/-- The content of an entry that nothing has written. -/
def entryDefault (t i : Nat) : Nat :=
  if t == 0x08 then
    if i < 2048 then doneWord * (1 + 2 ^ 32 + 2 ^ 64 + 2 ^ 96) else 0xFFFF * 2 ^ 72
  else if t == 0x0C then 63 * 2 ^ 54
  else if t == 0x0D then 16 * 2 ^ 8
  else if t == 0x0F then
    let j := i % 520
    if j < 512 then 0xFF
    else if j == 512 then 1000000 * 2 ^ 64
    else if j == 513 then 2 ^ 16
    else if j == 516 then 10 * 2 ^ 16
    else 0
  else 0

def entryKey (t i : Nat) : Nat := t * 2 ^ 20 + i

def Tables.get (x : Tables) (t i : Nat) : Nat := (x.ent.get? (entryKey t i)).getD (entryDefault t i)

/-- Write an entry: it is no longer poisoned (R152). -/
def Tables.put (x : Tables) (t i v : Nat) : Tables :=
  { x with ent := x.ent.set (entryDefault t i) (entryKey t i) v
           poison := x.poison.filter (· != entryKey t i)
           faulty := x.faulty.filter (· != entryKey t i) }

def Tables.isPoisoned (x : Tables) (t i : Nat) : Bool := x.poison.contains (entryKey t i)

def Tables.poisonEntry (x : Tables) (t i : Nat) : Tables :=
  { x with poison := if x.poison.contains (entryKey t i) then x.poison else entryKey t i :: x.poison
           faulty := x.faulty.filter (· != entryKey t i) }

/-- Poison an entry and raise event 0x0501 (R152). -/
def poisonEntry (v : View) (t i cause : Nat) (w : W) : W :=
  (w.tab (fun x => x.poisonEntry t i)).event v 0x0501 2 (u8 t ++ u8 cause ++ zeros 2 ++ u32 i)

/-- A read of these entries finds the uncorrectable errors that wait in them (R152, R546). -/
def touch (v : View) (keys : List Nat) (w : W) : W :=
  w.each (keys.filter (fun k => w.m.tab.faulty.contains k)) fun k w =>
    let w := poisonEntry v (k / 2 ^ 20) (k % 2 ^ 20) 2 w
    w.mod fun x => { x with injections := x.injections.filter (fun p => !(p.1 == 1 &&
      p.2 / 2 ^ 24 * 2 ^ 20 + p.2 % 2 ^ 24 == k)) }

/-! ### Hash table (R132-R135) -/

namespace He
def key : Fld := ⟨0, 64⟩
def sp : Fld := ⟨64, 64⟩
end He

def hashEntry (key sp : Nat) : Nat := key + sp * 2 ^ 64

/-- Bucket of a key in a way (R133). -/
def hashBucket (seed way key : Nat) : Nat :=
  let init := BitVec.ofNat 32 (if way == 0 then seed else 2 ^ 32 - 1 - seed)
  (crcRun init (u64 key)).toNat % 16384

def slotIndex (way b s : Nat) : Nat := way * 65536 + b * 4 + s
def bucketSlots (way b : Nat) : List Nat := (List.range 4).map (slotIndex way b)

/-- The eight slots a key may lie in, way 0 first. -/
def keySlots (seed key : Nat) : List Nat :=
  bucketSlots 0 (hashBucket seed 0 key) ++ bucketSlots 1 (hashBucket seed 1 key)

def Tables.hash (x : Tables) (i : Nat) : Nat := x.get 2 i
def Tables.hashFree (x : Tables) (i : Nat) : Bool := !Sp.valid.on (He.sp.get (x.hash i))
/-- The slot holds the key valid and unpoisoned. -/
def Tables.holds (x : Tables) (key i : Nat) : Bool :=
  !x.hashFree i && He.key.get (x.hash i) == key && !x.isPoisoned 2 i

def Tables.findKey (x : Tables) (seed key : Nat) : Option Nat := (keySlots seed key).find? (x.holds key)

/-- The valid slot that stores the key, poisoned or not. DEDUCED (notes/assumptions/31.md): a write, an insert and a delete
go by it, since each of them covers a poisoned entry (R152) and the table holds a key in one valid slot (R134). -/
def Tables.findSlot (x : Tables) (seed key : Nat) : Option Nat :=
  (keySlots seed key).find? (fun i => !x.hashFree i && He.key.get (x.hash i) == key)

/-- The learning slot of a hash index. -/
def Tables.learnedAt (x : Tables) (i : Nat) : Option (Nat × Learned) := x.learned.find? (fun p => p.2.index == i)

/-- Move the entry of slot `a` to slot `b`; a poisoned one stays poisoned (R152). -/
def Tables.move (x : Tables) (a b : Nat) : Tables :=
  let e := x.hash a
  let y := (x.put 2 b e).put 2 a 0
  let y := if x.isPoisoned 2 a then y.poisonEntry 2 b else y
  { y with hits := y.hits.map (fun h => if h == a then b else h)
           learned := y.learned.map (fun p => if p.2.index == a then (p.1, { p.2 with index := b }) else p) }

/-- The slots of the other bucket of the entry in slot `i`. -/
def Tables.altSlots (x : Tables) (seed i : Nat) : List Nat :=
  let way := if i < 65536 then 1 else 0
  bucketSlots way (hashBucket seed way (He.key.get (x.hash i)))

/-- Breadth-first search for a displacement path (R135): the slots to displace, far end first, and the free slot. -/
def searchPath (x : Tables) (seed : Nat) : Nat → List (List Nat) → List Nat → Option (List Nat × Nat)
  | 0, _, _ => none
  | n + 1, frontier, seen =>
    let done := frontier.findSome? fun path =>
      match path with
      | s :: _ => ((x.altSlots seed s).find? x.hashFree).map (fun f => (path, f))
      | [] => none
    match done with
    | some r => some r
    | none =>
      let next := frontier.flatMap fun path =>
        match path with
        | s :: _ => ((x.altSlots seed s).filter (fun t => !seen.contains t)).map (fun t => t :: path)
        | [] => []
      searchPath x seed n next (seen ++ next.filterMap List.head?)

/-- Carry a path out from its far end. -/
def Tables.carry (x : Tables) : List Nat → Nat → Tables
  | [], _ => x
  | s :: r, free => Tables.carry (x.move s free) r s

/-- Find a place for a key that the table does not hold: a free slot of its buckets, or one at the end of a path of
displacements (R135). Answers the tables, the slot and the closures needed, or none. -/
def Tables.placeKey (x : Tables) (seed kicks key sp : Nat) : Option (Tables × Nat × Nat) :=
  match (keySlots seed key).find? x.hashFree with
  | some i => some (x.put 2 i (hashEntry key sp), i, 1)
  | none =>
    let roots := keySlots seed key
    match searchPath x seed kicks (roots.map (fun s => [s])) roots with
    | none => none
    | some (path, free) =>
      match path.getLast? with
      | none => none
      | some root => some ((x.carry path free).put 2 root (hashEntry key sp), root, path.length + 1)

/-- Place a key; answers the tables, the slot and the closures needed, or none (R135). -/
def Tables.insertHash (x : Tables) (seed kicks key sp : Nat) : Option (Tables × Nat × Nat) :=
  match x.findSlot seed key with
  | some i => some (x.put 2 i (hashEntry key sp), i, 1)
  | none => x.placeKey seed kicks key sp

/-- Forget the learning slot of a hash entry that is written or removed. -/
def Tables.unlearn (x : Tables) (i : Nat) : Tables :=
  { x with learned := x.learned.filter (fun p => p.2.index != i), hits := x.hits.filter (· != i) }

/-- Remove a key; answers whether an entry was removed. -/
def Tables.deleteHash (x : Tables) (seed key : Nat) : Tables × Bool :=
  match x.findSlot seed key with
  | some i => ((x.unlearn i).put 2 i 0, true)
  | none => (x, false)

/-! ### Exact keys (Table 05-3) and key vector fields (Tables 04-3 to 04-7) -/

namespace Kv
def port : Fld := ⟨154, 6⟩
def keyType : Fld := ⟨152, 2⟩
def format : Fld := ⟨149, 3⟩
def identifier : Fld := ⟨120, 29⟩
def length : Fld := ⟨108, 12⟩
def dstMac : Fld := ⟨104, 48⟩
def srcMac : Fld := ⟨56, 48⟩
def vidL2 : Fld := ⟨44, 12⟩
def vidIp : Fld := ⟨140, 12⟩
def dstIp4 : Fld := ⟨68, 32⟩
def dstPort : Fld := ⟨36, 16⟩
def dstIp6 : Fld := ⟨4, 128⟩
end Kv

def macKey (vid mac : Nat) : Nat := 2 ^ 62 + vid * 2 ^ 48 + mac

def exactKey (k : Nat) : Nat :=
  let t := Kv.keyType.get k
  if t == 0 then Kv.port.get k * 2 ^ 56 + Kv.format.get k * 2 ^ 53 + Kv.identifier.get k * 2 ^ 24
  else if t == 1 then macKey (Kv.vidL2.get k) (Kv.dstMac.get k)
  else 2 * 2 ^ 62 + Kv.vidIp.get k * 2 ^ 50 + Kv.dstIp4.get k * 2 ^ 18 + Kv.dstPort.get k * 2 ^ 2

/-- What one lookup step found. -/
inductive Found where
  | none
  | hit (sp : Nat) (index : Nat)
  | poisoned
  deriving DecidableEq, Repr

/-- R127: hash. -/
def hashLookup (x : Tables) (seed key : Nat) : Found :=
  match x.findKey seed key with
  | some i => .hit (He.sp.get (x.hash i)) i
  | none => if (keySlots seed key).any (x.isPoisoned 2) then .poisoned else .none

/-- Insert a number into an ascending list, once. -/
def insertOnce (i : Nat) : List Nat → List Nat
  | [] => [i]
  | a :: r => if i < a then i :: a :: r else if i == a then a :: r else a :: insertOnce i r

/-- The indices of a table that hold something or are poisoned, ascending. -/
def Tables.listed (x : Tables) (t : Nat) : List Nat :=
  let written : List Nat := (x.ent.filter (fun p => p.1 / 2 ^ 20 == t)).map (fun p => p.1 % 2 ^ 20)
  let bad : List Nat := (x.poison.filter (fun k => k / 2 ^ 20 == t)).map (fun k => k % 2 ^ 20)
  bad.foldl (fun l i => insertOnce i l) written

namespace Te
def key : Fld := ⟨0, 160⟩
def mask : Fld := ⟨160, 160⟩
def sp : Fld := ⟨320, 64⟩
end Te

def tcamMatches (e key : Nat) : Bool :=
  Sp.valid.on (Te.sp.get e) && (key ^^^ Te.key.get e) &&& Te.mask.get e == 0

/-- The first entry of an ordered list that is poisoned or matches (R127). -/
def firstOf (x : Tables) (t : Nat) (ok : Nat → Bool) (sp : Fld) : List Nat → Found
  | [] => .none
  | i :: r =>
    if x.isPoisoned t i then .poisoned
    else if ok (x.get t i) then .hit (sp.get (x.get t i)) i
    else firstOf x t ok sp r

def tcamLookup (x : Tables) (key : Nat) : Found :=
  firstOf x 3 (fun e => tcamMatches e key) Te.sp (x.listed 3)

/-! ### Longest-prefix match (R144, R145): the partition is kept sorted and without gaps, and a change moves one entry at
each boundary (notes/assumptions/31.md). -/

namespace L4
def prefix_ : Fld := ⟨0, 32⟩
def length : Fld := ⟨32, 8⟩
def vidAny : Fld := ⟨40, 1⟩
def vid : Fld := ⟨48, 12⟩
def sp : Fld := ⟨64, 64⟩
end L4

namespace L6
def length : Fld := ⟨128, 8⟩
def vidAny : Fld := ⟨136, 1⟩
def vid : Fld := ⟨144, 12⟩
def sp : Fld := ⟨192, 64⟩
end L6

/-- Prefix, length, any-VID, VID and signpost of an LPM entry. -/
structure Lpm where
  addr : Nat
  length : Nat
  any : Bool
  vid : Nat
  sp : Nat
  deriving DecidableEq, Repr

/-- Address of 16 bytes in network order at the bottom of an entry. -/
def netAddr (v : Nat) : Nat := beVal (leBytes 16 v)

def lpmOf (t e : Nat) : Lpm :=
  if t == 4 then ⟨L4.prefix_.get e, L4.length.get e, L4.vidAny.on e, L4.vid.get e, L4.sp.get e⟩
  else ⟨netAddr e, L6.length.get e, L6.vidAny.on e, L6.vid.get e, L6.sp.get e⟩

def addrBits (t : Nat) : Nat := if t == 4 then 32 else 128

def lpmMatches (t : Nat) (l : Lpm) (addr vid : Nat) : Bool :=
  let drop := 2 ^ (addrBits t - l.length)
  Sp.valid.on l.sp && addr / drop == l.addr / drop && (l.any || l.vid == vid)

def lpmLookup (x : Tables) (t addr vid : Nat) : Found :=
  firstOf x t (fun e => lpmMatches t (lpmOf t e) addr vid) (if t == 4 then L4.sp else L6.sp) (x.listed t)

/-- Order of R144: longer first, then VID-specific. -/
def lpmRank (l : Lpm) : Nat := (128 - l.length) * 2 + b2n l.any

def sameRoute (a b : Lpm) : Bool :=
  a.addr == b.addr && a.length == b.length && a.any == b.any && a.vid == b.vid

/-- The entries of a partition in order, with whether each is poisoned. -/
def Tables.lpmList (x : Tables) (t : Nat) : List (Nat × Bool) :=
  (x.ent.filter (fun p => p.1 / 2 ^ 20 == t)).map (fun p => (p.2, x.isPoisoned t (p.1 % 2 ^ 20)))

/-- Store a partition of `old` entries anew from index 0 on. Only places whose content changes are written, and the
one at `cover`; a poisoned entry that moves stays poisoned (R152). -/
def Tables.setLpm (x : Tables) (t old : Nat) (cover : Option Nat) (l : List (Nat × Bool)) : Tables :=
  (List.range (max old l.length)).foldl (fun y i => match l[i]? with
    | none => y.put t i 0
    | some (e, bad) =>
      if x.get t i == e && cover != some i then y
      else if bad then (y.put t i e).poisonEntry t i else y.put t i e) x

/-- The runs of entries of equal rank. -/
def rankGroups (rank : Nat → Nat) (l : List (Nat × Bool)) : List (List (Nat × Bool)) :=
  l.splitBy (fun a b => rank a.1 == rank b.1)

/-- A place opens behind the entries of no greater rank: of each later run the first entry moves to its end (R145). -/
def insertSorted (rank : Nat → Nat) (e : Nat) (l : List (Nat × Bool)) : List (Nat × Bool) :=
  l.filter (fun a => decide (rank a.1 ≤ rank e)) ++ (e, false) ::
    (rankGroups rank (l.filter (fun a => decide (rank e < rank a.1)))).flatMap (fun g => g.drop 1 ++ g.take 1)

/-- A place closes: the last entry of the run takes it, and of each later run the last entry moves to its front. -/
def deleteSorted (rank : Nat → Nat) (e : Nat) (same : Nat × Bool → Bool) (l : List (Nat × Bool)) : List (Nat × Bool) :=
  let run := l.filter (fun a => rank a.1 == rank e)
  let last := run.getLast?
  let run := if last.any same then run.dropLast else
    run.dropLast.map (fun a => if same a then last.getD a else a)
  l.filter (fun a => decide (rank a.1 < rank e)) ++ run ++
    (rankGroups rank (l.filter (fun a => decide (rank e < rank a.1)))).flatMap (fun g => g.drop (g.length - 1) ++ g.dropLast)

/-- Insert or replace a route; none when the partition is full. -/
def Tables.insertLpm (x : Tables) (t e : Nat) : Option (Tables × Nat) :=
  let l := x.lpmList t
  let same := fun (a : Nat × Bool) => sameRoute (lpmOf t a.1) (lpmOf t e)
  let put := fun (l' : List (Nat × Bool)) =>
    let i := l'.findIdx same
    some (x.setLpm t l.length (some i) l', i)
  if l.any same then put (l.map (fun a => if same a then (e, false) else a))
  else if (match tableShape t with | some s => s.2 | none => 0) ≤ l.length then none
  else put (insertSorted (fun a => lpmRank (lpmOf t a)) e l)

def Tables.deleteLpm (x : Tables) (t e : Nat) : Tables × Bool :=
  let l := x.lpmList t
  let same := fun (a : Nat × Bool) => sameRoute (lpmOf t a.1) (lpmOf t e)
  if l.any same then (x.setLpm t l.length none (deleteSorted (fun a => lpmRank (lpmOf t a)) e same l), true) else (x, false)

/-- A prefix with host bits set, or a length beyond the address, is refused (R145, Table 05-7). -/
def lpmOk (t e : Nat) : Bool :=
  let l := lpmOf t e
  decide (l.length ≤ addrBits t) && l.addr % 2 ^ (addrBits t - l.length) == 0

/-! ### Staged operations (R134, R147-R149) -/

/-- Why a staged operation has no plan. -/
inductive PlanFail where
  | noPlace
  | status (st : Nat)
  deriving DecidableEq, Repr

def seedOf (m : Module) : Nat := prm m P.cls_hash_seed
def kicksOf (m : Module) : Nat := prm m P.cls_hash_max_kicks

/-- R134: a valid entry must lie in a bucket of its key, and no other slot may hold the key; a learned entry that
holds it is no reason for refusal. -/
def hashWriteOk (x : Tables) (seed i e : Nat) : Bool :=
  let key := He.key.get e
  !Sp.valid.on (He.sp.get e) ||
    ((keySlots seed key).contains i &&
      (keySlots seed key).all (fun j => j == i || x.hashFree j || He.key.get (x.hash j) != key || (x.learnedAt j).isSome))

/-- Apply one operation; answers the tables, whether it removed or where it placed, and its closures. -/
def applyStaged (seed kicks : Nat) (x : Tables) : StagedOp → Except PlanFail (Tables × Nat × Nat)
  | .write t i e =>
    if t == 2 then
      if !hashWriteOk x seed i e then .error (.status 0x0103)
      else
        let key := He.key.get e
        let y := if Sp.valid.on (He.sp.get e) then
            match x.findSlot seed key with
            | some j => if j == i then x else (x.unlearn j).put 2 j 0
            | none => x
          else x
        .ok ((y.unlearn i).put 2 i e, i, 1)
    else .ok (x.put t i e, i, 1)
  | .insert _ e =>
    let key := He.key.get e
    let x := match x.findSlot seed key with
      | some j => x.unlearn j
      | none => x
    match x.insertHash seed kicks key (He.sp.get e) with
    | some r => .ok r
    | none => .error .noPlace
  | .delete _ key =>
    let (y, r) := x.deleteHash seed key
    .ok (y, b2n r, 1)

/-- Plan a set in order: the tables after it, the last result, the closures of each operation, or the failure and its
position. -/
def planSet (seed kicks : Nat) : List StagedOp → Tables → Nat → Except (PlanFail × Nat) (Tables × Nat × List Nat)
  | [], x, _ => .ok (x, 0, [])
  | o :: r, x, pos =>
    match applyStaged seed kicks x o with
    | .error f => .error (f, pos)
    | .ok (y, res, n) =>
      match planSet seed kicks r y (pos + 1) with
      | .error f => .error f
      | .ok (z, res', k) => .ok (z, if r.isEmpty then res else res', n :: k)

/-- Cost of a set in fabric cycles (R148), and in nanoseconds at 2.5 ns a cycle. -/
def setCost (closures : Nat) : Nat := 40 + 16 * closures
def cyclesNs (c : Nat) : Nat := c * 5 / 2

def costFits (m : Module) (closures : Nat) : Bool :=
  decide (cyclesNs (setCost closures) ≤ prmNs m P.cls_commit_pause_limit)

end Sys2Proof.Machine
end

