-- ==== Sys2Proof/Machine/Gates.lean ====
section
/-! DEFINITION. Gate lists on TB0 (spec/08, R236-R240, R266): windows and what fits in them, the entry in force, HOLD,
activation, the freeze at a TB0 step, and the credit of the shapers (R241). -/

namespace Sys2Proof.Machine

/-! ### Table 0x0F (Table 08-6) -/

def gateIndex (port j : Nat) : Nat := 520 * port + j
def gateRow (m : Module) (port j : Nat) : Nat := m.tab.get 0x0F (gateIndex port j)
def gateOf (m : Module) (port : Nat) : GateList := m.fab.gates.getD port {}
def W.gate (w : W) (port : Nat) (f : GateList → GateList) : W :=
  w.fab fun x => { x with gates := x.gates.put port (f (x.gates.getD port {})) }

namespace Ge
def states : Fld := ⟨0, 8⟩
def op : Fld := ⟨8, 2⟩
def interval : Fld := ⟨32, 32⟩
def baseNs : Fld := ⟨0, 32⟩
def baseMs : Fld := ⟨32, 32⟩
def cycle : Fld := ⟨64, 32⟩
def ext : Fld := ⟨96, 32⟩
def enable : Fld := ⟨0, 1⟩
def bank : Fld := ⟨1, 1⟩
def change : Fld := ⟨2, 1⟩
def length : Fld := ⟨16, 16⟩
def preEnable : Fld := ⟨0, 1⟩
def verifyOff : Fld := ⟨1, 1⟩
def addFrag : Fld := ⟨2, 2⟩
def verifyTime : Fld := ⟨16, 16⟩
def holdAdv : Fld := ⟨32, 32⟩
def relAdv : Fld := ⟨64, 32⟩
end Ge

/-- One window of a list: states, length in ns, operation. -/
structure Window where
  states : Nat
  len : Nat
  op : Nat
  deriving DecidableEq, Repr

/-- Cut a list of windows at the end of its cycle, and let the last one last until it (R237). -/
def fitCycle : Nat → List Window → List Window
  | _, [] => []
  | left, [x] => [{ x with len := left }]
  | left, x :: r => if left ≤ x.len then [{ x with len := left }] else x :: fitCycle (left - x.len) r

/-- The windows of the list a bank holds, over one cycle. -/
def windowsOf (m : Module) (port bank length cycle : Nat) : List Window :=
  fitCycle cycle ((List.range length).map (fun i =>
    let e := gateRow m port (256 * bank + i)
    ⟨Ge.states.get e, Ge.interval.get e, Ge.op.get e⟩))

/-- The windows of the operative list. -/
def windows (m : Module) (port : Nat) : List Window :=
  let g := gateOf m port
  windowsOf m port g.bank g.length g.cycle

/-- Place of a TB0 time in a cycle that starts at `base` and every `cycle` before and after it. -/
def posIn (base cycle t : Nat) : Nat := if cycle = 0 then 0 else (t + cycle - base % cycle) % cycle

/-- Place of a TB0 time in the operative cycle. -/
def cyclePos (g : GateList) (t : Nat) : Nat := posIn g.base g.cycle t

/-- Windows with their start. -/
def starts : Nat → List Window → List (Nat × Window)
  | _, [] => []
  | s, x :: r => (s, x) :: starts (s + x.len) r

/-- Index and window in force at a place in the cycle; a boundary belongs to the later window (R384). -/
def windowAt (l : List Window) (pos : Nat) : Nat × Window :=
  ((starts 0 l).zipIdx.foldl (fun (acc : Nat × Window) p => if p.1.1 ≤ pos then (p.2, p.1.2) else acc)
    (0, l.headD ⟨0xFF, 0, 0⟩))

/-- Gate of class `c` open over [pos, pos + d) of the repeating cycle. -/
def openSpan (l : List Window) (cycle c pos d : Nat) : Bool :=
  if l.all (fun x => bit x.states c || x.len == 0) then true
  else if cycle ≤ d then false
  else (starts 0 (l ++ l)).all (fun p => bit p.2.states c || decide (p.1 + p.2.len ≤ pos ∨ pos + d ≤ p.1))

/-- The operative list, with the states it may be frozen at (R240), keeps the gate of class `c` open over [t, t + d). -/
def operOpen (m : Module) (port c t d : Nat) : Bool :=
  let g := gateOf m port
  if !g.gating then true
  else
    let l := windows m port
    match g.frozen with
    | some (st, until_) =>
      if t < until_ then
        bit st c && (decide (t + d ≤ until_) || openSpan l g.cycle c (cyclePos g until_) (t + d - until_))
      else openSpan l g.cycle c (cyclePos g t) d
    | none => openSpan l g.cycle c (cyclePos g t) d

/-- The windows of the list that awaits its activation, its base and its cycle. -/
def pendingList (m : Module) (port : Nat) : List Window × Nat × Nat :=
  let times := gateRow m port 512
  let flags := gateRow m port 513
  let cycle := Ge.cycle.get times
  (windowsOf m port (Ge.bank.get flags) (Ge.length.get flags) cycle, Ge.baseMs.get times * 2 ^ 32 + Ge.baseNs.get times, cycle)

/-- The list that awaits its activation keeps the gate open over [t, t + d). -/
def pendingOpen (m : Module) (port c t d : Nat) : Bool :=
  let (l, base, cycle) := pendingList m port
  openSpan l cycle c (posIn base cycle t) d

/-- R237: the gate of class `c` is open at every instant of [t, t + d), by the list that is operative at each. -/
def gateOpen (m : Module) (port c t d : Nat) : Bool :=
  match (gateOf m port).pending with
  | some (_, start) =>
    if t + d ≤ start then operOpen m port c t d
    else (decide (start ≤ t) || operOpen m port c t (start - t)) && pendingOpen m port c (max t start) (t + d - max t start)
  | none => operOpen m port c t d

/-- Longest contiguous open time of a class; none when its gate never closes (R238). -/
def longestOpen (m : Module) (port c : Nat) : Option Nat :=
  let g := gateOf m port
  if !g.gating then none
  else
    let l := windows m port
    if l.all (fun x => bit x.states c || x.len == 0) then none
    else
      let step := fun (acc : Nat × Nat) (x : Window) =>
        if bit x.states c then (acc.1 + x.len, max acc.2 (acc.1 + x.len)) else (0, acc.2)
      some ((l ++ l).foldl step (0, 0)).2

/-- Open time within a run of windows of the repeating cycle, from place `pos` on for `d`. -/
def openRun (l : List Window) (cycle c pos d : Nat) : Nat :=
  let part := fun (a b : Nat) => ((starts 0 (l ++ l)).map (fun p =>
    if bit p.2.states c then min b (p.1 + p.2.len) - max a p.1 else 0)).sum
  if cycle = 0 then d else d / cycle * part 0 cycle + part pos (pos + d % cycle)

/-- Open time of a class within [t, t + d) by the operative list; frozen states count while they hold. -/
def operTime (m : Module) (port c t d : Nat) : Nat :=
  let g := gateOf m port
  if !g.gating || g.cycle == 0 then d
  else
    let running := fun (t d : Nat) => openRun (windows m port) g.cycle c (cyclePos g t) d
    match g.frozen with
    | some (st, until_) =>
      let still := min d (until_ - t)
      (if bit st c then still else 0) + running (t + still) (d - still)
    | none => running t d

/-- Time of a class's open gate within [t, t + d), for the shaper (R241), by the list operative at each instant. -/
def openTime (m : Module) (port c t d : Nat) : Nat :=
  match (gateOf m port).pending with
  | some (_, start) =>
    if t + d ≤ start then operTime m port c t d
    else
      let (l, base, cycle) := pendingList m port
      let from_ := max t start
      (if t < start then operTime m port c t (start - t) else 0) + openRun l cycle c (posIn base cycle from_) (t + d - from_)
  | none => operTime m port c t d

/-- The states of the gates at TB0 time `t`, with the entry in force. -/
def statesAt (m : Module) (port t : Nat) : Nat × Nat :=
  let g := gateOf m port
  if !g.gating then (0xFF, 0)
  else match g.frozen with
    | some (st, until_) => if t < until_ then (st, g.entry)
      else let (i, x) := windowAt (windows m port) (cyclePos g t); (x.states, i)
    | none => let (i, x) := windowAt (windows m port) (cyclePos g t); (x.states, i)

/-- Instants at which the entries of a list switch HOLD, within one cycle: start of the entry, its advance, and whether HOLD
comes or goes (R243). -/
def holdActs (m : Module) (port : Nat) (l : List Window) : List (Nat × Nat × Bool) :=
  let e := gateRow m port 516
  (starts 0 l).filterMap (fun p =>
    if p.2.op == 1 then some (p.1, Ge.holdAdv.get e, true)
    else if p.2.op == 2 then some (p.1, Ge.relAdv.get e, false)
    else none)

/-- The latest time at or before `t` at which an act of a repeating list takes effect, its entry starting within
[from_, to_): a list acts only with entries of its own time. -/
def actTime (base cycle from_ to_ t : Nat) (a : Nat × Nat × Bool) : Option Nat :=
  let age := (posIn base cycle t + cycle + a.2.1 - a.1) % max cycle 1
  let start := t + a.2.1 - age
  let start := if to_ ≤ start then start - cycle else start
  if from_ ≤ start ∧ start < to_ ∧ start ≤ t + a.2.1 then some (start - a.2.1) else none

/-- HOLD at TB0 time `t`: by the latest act of the operative list, or of the first cycle of a list that awaits its
activation, whose entries act by their advance before it; without one it stays as it was when the operative list started. -/
def holdAt (m : Module) (port t : Nat) : Bool :=
  let g := gateOf m port
  let far := 2 ^ 80
  let end_ := match g.pending with | some (_, start) => start | none => far
  let oper := if !g.gating then []
    else (holdActs m port (windows m port)).filterMap (fun a => (actTime g.base g.cycle g.since end_ t a).map (·, a.2.2))
  let next := match g.pending with
    | some (_, start) =>
      let (l, base, cycle) := pendingList m port
      (holdActs m port l).filterMap (fun a => (actTime base cycle start far t a).map (·, a.2.2))
    | none => []
  ((oper ++ next).foldl (fun (best : Nat × Bool) a => if best.1 ≤ a.1 then a else best) (0, g.hold0)).2

/-- HOLD is in force: frozen states keep it as it is (R240). -/
def holdInForce (m : Module) (port t : Nat) : Bool :=
  let g := gateOf m port
  match g.frozen with
  | some (_, until_) => if t < until_ then g.hold else holdAt m port t
  | none => if g.gating || g.pending.isSome then holdAt m port t else false

def queueKey (port q : Nat) : Nat := 8 * port + q

/-! ### Shaper credit (R241): IEEE 802.1Qav, in millionths of a bit, as a rate in kbit/s times a time in ns -/

def shaped (m : Module) (port q : Nat) : Bool := isEthPort port && bit (prm m P.egress_tc_flags port q) 0

def idleSlope (m : Module) (port q : Nat) : Nat := prm m P.egress_idle_slope port q

/-- The credit of a class that is not on the wire: it has grown while the gate was open. -/
def creditAt (m : Module) (b : Base) (port q : Nat) : Int :=
  match m.fab.credit.get? (queueKey port q) with
  | none => 0
  | some (c, t) =>
    let d := b.now - t
    c + (idleSlope m port q * openTime m port q (b.time.tb0.full - d) d : Nat)

def setCredit (port q : Nat) (c : Int) (now : Nat) (w : W) : W :=
  w.fab fun x => { x with credit := x.credit.put (queueKey port q) (c, now) }

/-- Credit is settled at the present time, before what opens the gates changes. -/
def settleCredit (v : View) (port : Nat) (w : W) : W :=
  w.each ((List.range 8).filter (fun q => (w.m.fab.credit.get? (queueKey port q)).isSome)) fun q w =>
    setCredit port q (creditAt w.m v port q) v.now w

/-- A frame of a shaped class leaves the wire: the credit fell at the port's rate less idleSlope. -/
def chargeTx (v : View) (port : Nat) (t : EthTx) (w : W) : W :=
  if !shaped w.m port t.tc then w
  else
    let c := match w.m.fab.credit.get? (queueKey port t.tc) with | some p => p.1 | none => 0
    let fall : Int := (ethAt w.m port).rate * 1000 - idleSlope w.m port t.tc
    setCredit port t.tc (c - fall * (v.now - t.start : Nat)) v.now w

/-- Preemption is active on the port (R243). -/
def preemptionActive (m : Module) (port : Nat) : Bool := (gateOf m port).active

/-- Frame bytes that have gone out in the fragment on the wire, after its 8 bytes of preamble. -/
def bytesOut (m : Module) (port now : Nat) (t : EthTx) : Nat :=
  let n := (now - t.start) * (ethAt m port).rate / 8000 - 8
  if t.copy.frame.unfinished then n else min (t.bytes.length - t.sent) n

/-- Length by which a frame on the wire is judged: the ingress port's maximum while it still arrives (R212). -/
def EthTx.len (m : Module) (t : EthTx) : Nat :=
  if t.copy.frame.unfinished then prm m P.eth_max_frame_size t.copy.frame.port else t.bytes.length

/-- A point at which IEEE 802.3br allows a cut: the fragment, with its check sequence, has its minimum of
64 × (1 + add_frag_size) bytes, and 64 with the FCS remain (R243). -/
def cutAllowed (m : Module) (port now : Nat) (t : EthTx) : Bool :=
  let out := bytesOut m port now t
  decide (64 * (1 + Ge.addFrag.get (gateRow m port 516)) ≤ out + 4 ∧ t.sent + out + 60 ≤ t.len m)

/-- The frame on the wire can be preempted now. -/
def preemptableNow (m : Module) (port now : Nat) : Bool :=
  match m.fab.tx.get? port with
  | some t => t.preemptable && preemptionActive m port && (m.fab.preempted.get? port).isNone && cutAllowed m port now t
  | none => false

/-- A preemptable frame on the wire makes room, where IEEE 802.3br allows it (R243). -/
def preemptNow (v : View) (port : Nat) (w : W) : W :=
  match w.m.fab.tx.get? port with
  | some t =>
    if preemptableNow w.m port v.now then
      let t' := { t with sent := t.sent + bytesOut w.m port v.now t }
      let w := chargeTx v port t w
      (w.fab fun x => { x with tx := x.tx.erase port, preempted := x.preempted.put port t' }).count
        C.preempt_fragments_tx port
    else w
  | none => w

/-- GATE_ENTRY_CHANGE: the list has reached its next entry or cycle, or an instant at which HOLD comes or goes. -/
def gateEntryChangeCore (port : Nat) (v : View) (w : W) : W :=
  let t := v.time.tb0.full
  let g := gateOf w.m port
  if !g.gating && g.pending.isNone then w
  else
    let w := match g.frozen with
      | some (_, until_) =>
        if until_ ≤ t then
          (settleCredit v port w).gate port fun g => { g with frozen := none, since := until_, hold0 := g.hold }
        else w
      | none => w
    let (_, i) := statesAt w.m port t
    let hold := holdInForce w.m port t
    let w := w.gate port fun g => { g with entry := i, hold := hold }
    if hold && !g.hold then preemptNow v port w else w

def execGateEntryChange (port : Nat) (s : State) : Host.Outcome State Fault Refusal :=
  run (isEthPort port) (gateEntryChangeCore port) s

/-- A time in the format of base_time: TB0 milestone count and ns. -/
def gateTime (t : Nat) : List Byte := u64 t

/-- GATE_LIST_ACTIVATED (R239): the pending list is operative from its start on. -/
def gateListActivatedCore (port : Nat) (v : View) (w : W) : W :=
  let g := gateOf w.m port
  match g.pending with
  | none => w
  | some (at_, start) =>
    if v.time.tb0.full < start then w
    else
      let times := gateRow w.m port 512
      let flags := gateRow w.m port 513
      let bank := Ge.bank.get flags
      let hold := holdInForce w.m port start
      let w := (settleCredit v port w).gate port fun g => { g with
        gating := true
        bank := bank
        base := Ge.baseMs.get times * 2 ^ 32 + Ge.baseNs.get times
        cycle := Ge.cycle.get times
        ext := Ge.ext.get times
        length := Ge.length.get flags
        pending := none
        changeTime := at_
        frozen := none
        since := start
        hold0 := hold
        entry := 0 }
      let w := w.tab fun x => x.put 0x0F (gateIndex port 513) (Ge.change.set flags 0)
      let t := v.time.tb0.full
      let (_, i) := statesAt w.m port t
      let now := holdInForce w.m port t
      let w := w.gate port fun g => { g with entry := i, hold := now }
      let w := if (gateOf w.m port).hold && !g.hold then preemptNow v port w else w
      w.event v 0x0805 0 (u8 port ++ u8 bank ++ u16 (Ge.length.get flags) ++ zeros 4 ++ gateTime at_)

def execGateListActivated (port : Nat) (s : State) : Host.Outcome State Fault Refusal :=
  run (isEthPort port) (gateListActivatedCore port) s

/-- The first instant base + n × cycle (n ≥ 0) at or after TB0 time `t` (R239). -/
def cycleStart (base cycle t : Nat) : Nat :=
  if t ≤ base ∨ cycle = 0 then base else base + (t - base + cycle - 1) / cycle * cycle

/-- The next cycle start of a running list at or after TB0 time `t`, at most one cycle away (R240). -/
def nextCycle (g : GateList) (t : Nat) : Nat := if cyclePos g t = 0 then t else t + g.cycle - cyclePos g t

/-- A write of the control flags (R239): stop, cancel, or schedule a change. -/
def gateControl (v : View) (port : Nat) (w : W) : W :=
  let times := gateRow w.m port 512
  let flags := gateRow w.m port 513
  let g := gateOf w.m port
  if Ge.enable.get flags == 0 then
    ((settleCredit v port w).gate port fun g => { g with
      gating := false, pending := none, frozen := none, hold := false, hold0 := false }).tab
      fun x => x.put 0x0F (gateIndex port 513) (Ge.change.set flags 0)
  else if Ge.change.get flags == 0 then w.gate port fun g => { g with pending := none }
  else
    let now := v.time.tb0.full
    let at_ := cycleStart (Ge.baseMs.get times * 2 ^ 32 + Ge.baseNs.get times) (Ge.cycle.get times) (now + 10000)
    let left := if g.cycle = 0 then 0 else (g.cycle - cyclePos g at_) % g.cycle
    let start := if g.gating && decide (left < g.ext) then at_ + left else at_
    w.gate port fun g => { g with pending := some (at_, start) }

/-- A TB0 step freezes the gate states of every running list until its next cycle start (R240). `w` is after the
step; `old` is the time before it. -/
def freezeGates (v : View) (old : Nat) (w : W) : W :=
  w.each (List.range 11) fun port w =>
    let g := gateOf w.m port
    if !g.gating then w
    else
      let (st, i) := statesAt w.m port old
      let new := (w.base v).time.tb0.full
      let w := settleCredit v port w
      let w := w.gate port fun g => { g with frozen := some (st, nextCycle g new), entry := i }
      (w.count C.gate_time_step port).event v 0x0806 1 (u8 port ++ u8 i ++ zeros 2 ++ u32 (new % 2 ^ 32))

/-- The entries of table 0x0F that the module maintains (j 514, 515, 517). -/
def gateStatus (m : Module) (port j : Nat) : Nat :=
  let g := gateOf m port
  if j == 514 then (match g.pending with | some p => p.1 | none => g.changeTime) + g.cycle * 2 ^ 64 + g.ext * 2 ^ 96
  else if j == 515 then b2n g.gating + 2 * g.bank + 4 * b2n g.pending.isSome + 8 * b2n g.hold + g.entry * 2 ^ 8
    + g.length * 2 ^ 16 + g.base * 2 ^ 64
  else g.verify + 8 * b2n g.active + min (m.fab.rxSnap.getD port 0) (2 ^ 32 - 1) * 2 ^ 32

end Sys2Proof.Machine
end

