-- ==== Sys2Proof/Machine/Closures.lean ====
section
/-! DEFINITION. Lane allotments in force, lane closures and the internal bridge (spec/07, R215-R217, R222-R229): when a
closure runs and what it locks, its release by an owner's reset, and the queues between the management domain and the
fabric. -/

namespace Sys2Proof.Machine

/-! ### Slots and budgets (Table 07-3, R216) -/

def resourceSlots (r : Nat) : Nat :=
  if r < 2 then 3200 else if r == 2 then 800 else if r == 3 then 300 else if r == 4 then 400 else 100

def allotted (m : Module) (i : Nat) : Nat := m.fab.allotInForce.getD i (prm m P.fabric_allot 0 i)

/-- Every closure that other requesters than `q` hold or wait for. -/
def otherClosures (x : Fabric) (q : Nat) : List Closure := (x.closures.filter (fun p => p.1 != q)).flatMap Prod.snd

/-! ### Lane closures (R222, R223, R227) -/

/-- Cycles a closure takes: an access a cycle, and on a tile bank one in two, since writes use the even cycles and reads
the odd ones (R192, R194). -/
def Closure.span (c : Closure) : Nat := if c.resource < 2 then 2 * c.accesses else c.accesses

def Closure.stop (c : Closure) : Nat := c.start + c.span

/-- The closure holds its addresses in fabric cycle `t`. -/
def Closure.live (c : Closure) (t : Nat) : Bool := decide (c.start ≤ t ∧ t < c.stop)

/-- Accesses that closures have already taken of requester `q`'s budget on resource `r` in period `p`. -/
def closureUsed (x : Fabric) (p r q : Nat) : Nat :=
  x.closureUse.getD (96 * p + 16 * r + q) 0

/-- What keeps a closure of `q` from starting in cycle `t`: the cycle to try next. A locked address, the limit of open
closures (two on resource 2, one for each bank on resources 0 and 1), a budget that does not cover its accesses, or a
milestone that comes too soon. Of the budget only what closures have taken is known before the milestone: ordinary grants
count then (notes/assumptions/12.md). -/
def closureWait (m : Module) (q : Nat) (c : Closure) (t : Nat) : Option Nat :=
  let others := (otherClosures m.fab q).filter (fun o => o.resource == c.resource && decide (t < o.stop ∧ o.start < t + c.span))
  let shares := others.filter (fun o => o.addrs.any (c.addrs.contains ·))
  let banks := fun (o : Closure) => o.addrs.map (· % 16)
  let full := if c.resource == 2 then (if 2 ≤ others.length then others else [])
    else if c.resource < 2 then others.filter (fun o => (banks o).any ((banks c).contains ·)) else []
  match shares ++ full with
  | o :: r => some ((o :: r).foldl (fun best x => min best x.stop) o.stop)
  | [] =>
    let p := t / 400
    if allotted m (16 * c.resource + q) < closureUsed m.fab p c.resource q + c.accesses ∨ 400 * (p + 1) < t + c.span then
      some (400 * (p + 1))
    else none

/-- A cycle no run reaches: a closure that no period's budget covers waits for ever. -/
def neverCycle : Nat := 2 ^ 80

/-- The first cycle from `t` on in which the closure may start. Every try ends with one of the other closures or with a
period, so that their number bounds the tries. -/
def closureStart (m : Module) (q : Nat) (c : Closure) : Nat → Nat → Nat
  | 0, _ => neverCycle
  | n + 1, t => match closureWait m q c t with
    | some u => closureStart m q c n u
    | none => t

/-- Tries that are enough: each other closure ends once, and each period that earlier closures have used up ends once. -/
def closureTries (x : Fabric) : Nat := 2 * ((x.closures.map (fun p => p.2.length)).sum + x.closureUse.length) + 4

/-- Run a closure of requester `q` from cycle `t` on; answers the cycle in which it ends. -/
def runClosure (q : Nat) (c : Closure) (t : Nat) (w : W) : W × Nat :=
  let start := closureStart w.m q c (closureTries w.m.fab) t
  let p := start / 400
  let c := { c with start := start }
  (w.fab fun x => { x with
    closures := x.closures.put q (x.closures.getD q [] ++ [c])
    closureUse := SMap.put (x.closureUse.filter (fun e => decide (96 * (t / 400) ≤ e.1))) (96 * p + 16 * c.resource + q)
      (closureUsed x p c.resource q + c.accesses) }, c.stop)

/-- The closures of requester `q` that have not ended in cycle `t`. -/
def closuresLeft (x : Fabric) (q t : Nat) : List Closure := (x.closures.getD q []).filter (fun c => decide (t < c.stop))

/-- Closures of requester `q`, one after another, behind those it still has. -/
def queueClosures (v : View) (q : Nat) (l : List Closure) (w : W) : W :=
  if l.isEmpty then w
  else
    let now := v.cycle
    let left := closuresLeft w.m.fab q now
    let from_ := left.foldl (fun t c => max t c.stop) now
    let w := w.fab fun x => { x with closures := x.closures.put q left }
    (l.foldl (fun (acc : W × Nat) c => runClosure q c acc.2 acc.1) (w, from_)).1

/-- The closures of one operation of requester `q`. The unit refuses the first while the requester still holds an earlier
one: that is counted, and the request made again after its release (R227). -/
def openClosures (v : View) (q : Nat) (l : List Closure) (w : W) : W :=
  if l.isEmpty then w
  else
    let held := (closuresLeft w.m.fab q (v.cycle)).any (fun c => c.live (v.cycle))
    queueClosures v q l (if held then w.count C.closure_nest_refused else w)

/-- A closure over one table entry: an access for every 64 bytes (Table 07-3). -/
def entryClosure (t i : Nat) : Closure :=
  { resource := 2, addrs := [entryKey t i], accesses := (entrySize t i + 63) / 64, start := 0 }

/-- Writes of table entries by requester `q`. -/
def lockEntries (v : View) (q : Nat) (l : List (Nat × Nat)) (w : W) : W :=
  openClosures v q (l.map (fun p => entryClosure p.1 p.2)) w

/-- No requester of Table 07-4: every closure is another's. -/
def anyRequester : Nat := 16

/-- A closure of another requester than `q` holds this entry now (R224). -/
def entryLocked (m : Module) (v : View) (q key : Nat) : Bool :=
  (otherClosures m.fab q).any (fun c => c.resource == 2 && c.live (v.cycle) && c.addrs.contains key)

/-! ### Broken and released closures (R225, R226) -/

/-- The address of a frame's reference count in descriptor memory (R204): beyond every table entry. -/
def descriptorAddr (seq : Nat) : Nat := 2 ^ 40 + seq

/-- Poison the addresses of a closure: entries of tables, or tiles in use (R152, R197). Descriptor memory has no poison. -/
def poisonClosure (v : View) (resource cause : Nat) (addrs : List Nat) (w : W) : W :=
  w.each addrs fun a w =>
    if descriptorAddr 0 ≤ a then w
    else if resource == 2 then poisonEntry v (a / 2 ^ 20) (a % 2 ^ 20) cause w
    else w.fab fun x => match x.tiles.get? a with
      | some t => { x with tiles := x.tiles.put a { t with poisoned := true } }
      | none => x

/-- The first locked address as event 0x0702 carries it: a tile, or 2^24 × table + index; 0 for a reference count, to which
the spec gives no number (DESIGN CHOICE, notes/assumptions/109.md). -/
def addressWord (resource a : Nat) : Nat := if descriptorAddr 0 ≤ a then 0 else if resource == 2 then a / 2 ^ 20 * 2 ^ 24 + a % 2 ^ 20 else a

def closureEvent (v : View) (resource requester cause : Nat) (addrs : List Nat) (w : W) : W :=
  w.event v 0x0702 2 (u8 resource ++ u8 requester ++ u8 cause ++ u8 0 ++ u32 (addressWord resource (addrs.headD 0)))

/-- The addresses whose write has started and not completed in cycle `t`: accesses are spread evenly over them. -/
def Closure.halfWritten (c : Closure) (t : Nat) : List Nat :=
  if !c.write || !c.live t then []
  else (c.addrs.drop ((t - c.start) * c.addrs.length / c.span)).take 1

/-- A requester that is reset releases the closure it holds (R226); those it waits for never start. -/
def releaseClosure (v : View) (q : Nat) (w : W) : W :=
  let now := v.cycle
  let open_ := (w.m.fab.closures.getD q []).find? (fun c => c.live now)
  let w := w.fab fun x => { x with closures := x.closures.erase q }
  match open_ with
  | none => w
  | some c => closureEvent v c.resource q 1 c.addrs
      (poisonClosure v c.resource 1 (c.halfWritten now) (w.count C.closure_owner_release c.resource))

/-- CLOSURE_WATCHDOG: the closure of `requester` that locks `addrs` on `resource` is still open 64 fabric cycles after it
started, and is broken (R225). -/
def closureWatchdogCore (resource requester : Nat) (addrs : List Nat) (v : View) (w : W) : W :=
  match (w.m.fab.closures.getD requester []).find? (fun c =>
      c.resource == resource && c.addrs == addrs && decide (c.start + 64 ≤ v.cycle)) with
  | none => w
  | some c =>
      let w := w.fab fun x => { x with closures := x.closures.put requester ((x.closures.getD requester []).erase c) }
      closureEvent v c.resource requester 0 c.addrs
        (poisonClosure v c.resource 0 c.addrs (w.count C.closure_broken c.resource))

def execClosureWatchdog (resource requester : Nat) (addrs : List Nat) (s : State) : Host.Outcome State Fault Refusal :=
  run (decide (resource < 6 ∧ requester < 16 ∧ addrs.length ≤ 8)) (closureWatchdogCore resource requester addrs) s

/-! ### The internal bridge (R228, R229) -/

/-- A posted request from the management domain, or to it. An event record crosses in the same queue as part of being
raised (Ops.lean). -/
def bridgePost (toFabric : Bool) (w : W) : W := w.eff (.posted (if toFabric then 0 else 3))

/-- A read from the management domain. -/
def bridgeRead (w : W) : W := w.eff (.nonPosted 1 2)

/-- The fabric fetches a descriptor from management SRAM. -/
def bridgeFetch (w : W) : W := w.eff (.nonPosted 4 5)

end Sys2Proof.Machine
end

