-- ==== Sys2Proof/Machine/Tiles.lean ====
section
/-! DEFINITION. The tile buffer (spec/07, R192-R203): frames as bytes in tiles, the allocation of chains, accounts and
admission, stored copies and their references, and failed reads. -/

namespace Sys2Proof.Machine

/-! ### Frames in tiles (R184, R193) -/

/-- Length of a frame's data: what its header word announces while it still arrives on CAN. -/
def Frame.size (f : Frame) : Nat := f.announced.getD f.data.length

/-- Stored length: Ethernet bytes, or the header of R184 and the data. -/
def storedLen (f : Frame) : Nat :=
  if f.fmt == 8 then f.data.length else (if f.fmt == 4 then 16 else 8) + f.size

/-- A stored frame as its bytes (R184, R193). -/
def storedBytes (f : Frame) : List Byte :=
  if f.fmt == 8 then f.data
  else u32 f.id ++ u8 f.fmt ++ u8 0 ++ u16 f.size
    ++ (if f.fmt == 4 then u32 f.af ++ u8 f.sdt ++ u8 f.vcid ++ u8 (b2n f.sec) ++ u8 0 else []) ++ f.data

def tilesFor (n : Nat) : Nat := (n + 127) / 128

def frameTiles (f : Frame) : Nat := max 1 (tilesFor (storedLen f))

/-- PCP of the tag a frame arrived with. -/
def framePcp (f : Frame) : Nat := if f.tagged then f.tci / 8192 % 8 else 0

/-! ### Tile accounts (R198-R203) -/

def acctReassembly : Nat := 44
def acctLayby : Nat := 45

/-- fabric.reserve_* of an account. -/
def reservation (m : Module) (a : Nat) : Nat :=
  if a < 2 then prm m P.fabric_reserve_e01
  else if a < 8 then prm m P.fabric_reserve_e27
  else if a < 11 then prm m P.fabric_reserve_e810
  else if a < 14 then prm m P.fabric_reserve_internal
  else if a < 36 then prm m P.fabric_reserve_can
  else if a < 44 then prm m P.fabric_reserve_lin
  else if a == acctReassembly then prm m P.fabric_reserve_reassembly
  else 0

def reservationSum (m : Module) : Nat := ((List.range 45).map (reservation m)).sum

/-- Tiles of a message under way in the transport unit: none before its first packet, and none once it is complete. -/
def partialTiles (t : TpSession) : Nat := if t.data.isEmpty then 0 else tilesFor (8 + t.data.length)

/-- Tiles charged to an account. Partial messages of the transport unit lie in the reassembly account (R201). -/
def charged (m : Module) (a : Nat) : Nat :=
  let stored := (m.fab.store.map (fun p => if p.2.account == a then p.2.tiles else 0)).sum
  if a == acctReassembly then stored + (m.ing.tp.map partialTiles).sum else stored

/-- The reservation in force: one lowered below the tiles charged acts as those tiles are freed (R203). -/
def reserved (m : Module) (a : Nat) : Nat := max (reservation m a) (m.fab.resHeld.getD a 0)

def sharedHeld (m : Module) (a : Nat) : Nat := charged m a - reserved m a

def tilesRetired (m : Module) : Nat := m.fab.retired.length

/-- Free shared tiles (R198). -/
def sharedFree (m : Module) : Nat :=
  65536 - ((List.range 45).map (reserved m)).sum - tilesRetired m - ((List.range 46).map (sharedHeld m)).sum

/-- Tiles not in use (fabric.tiles_free): neither charged nor retired. -/
def tilesFree (m : Module) : Nat :=
  65536 - (m.fab.retired.filter (fun t => (m.fab.tiles.get? t).isNone)).length - ((List.range 46).map (charged m)).sum

/-- R198: an account may take `n` more tiles. -/
def admissible (m : Module) (a n : Nat) : Bool :=
  let fromShared := charged m a + n - max (charged m a) (reserved m a)
  fromShared == 0 ||
    (decide (16 * (sharedHeld m a + fromShared) ≤ 2 ^ prm m P.fabric_shared_alpha * sharedFree m)
      && decide (fromShared ≤ sharedFree m))

/-- Tiles that admission charges (Table 07-2). -/
def admissionTiles (m : Module) (f : Frame) : Nat :=
  if f.port < 11 then tilesFor (prm m P.eth_max_frame_size f.port)
  else if f.port < 14 then 16
  else if 36 ≤ f.port then 1
  else frameTiles f

/-- Tiles for which a reservation holds: those charged, and in the reassembly account those that the messages under way
will take, for no frame is lost by a change (R203). -/
def pledged (m : Module) (a : Nat) : Nat :=
  charged m a + (if a == acctReassembly
    then (m.ing.tp.map (fun t => if t.complete then 0 else tilesFor (8 + t.size) - partialTiles t)).sum else 0)

/-- Reservations that a change lowers below the tiles charged hold for those tiles; `old` is the module before it. -/
def holdReservations (old : Module) (w : W) : W :=
  w.fab fun x => { x with resHeld := (List.range 45).foldl (fun h a =>
    let keep := min (reserved old a) (pledged w.m a)
    if reservation w.m a < keep then h.put a keep else h.erase a) x.resHeld }

/-- Tiles have been freed: what a lowered reservation still held for them falls with them. -/
def lowerReservations (w : W) : W :=
  if w.m.fab.resHeld.isEmpty then w
  else
    let held := w.m.fab.resHeld.map (fun p => (p.1, min p.2 (pledged w.m p.1)))
    w.fab fun x => { x with resHeld := held.filter (fun p => decide (reservation w.m p.1 < p.2)) }

/-! ### Chains (R192-R194) -/

/-- CRC-32C over the 128 bytes of a tile; bytes past the end of the frame count as 0 (R194). -/
def tileCrc (data : List Byte) : Nat := crc32c (data ++ zeros (128 - data.length))

/-- A tile that may be allocated: not in use, never retired (R196). -/
def tileOpen (m : Module) (t : Nat) : Bool := (m.fab.tiles.get? t).isNone && !m.fab.retired.contains t

/-- The first open tile from `t` on in steps of `step`, around the buffer. -/
def findTile (m : Module) (step : Nat) : Nat → Nat → Option Nat
  | 0, _ => none
  | n + 1, t => if tileOpen m t then some t else findTile m step n ((t + step) % 65536)

/-- Allocate a tile: any, or one of the bank after that of the chain's last tile. Which tile it is the spec leaves open:
the search starts at a free value; a bank with no open tile gives way to the next that has one (notes/assumptions/88.md). -/
def allocTile (v : View) (last : Option Nat) (w : W) : W × Option Nat :=
  let (w, r) := w.free v 65536
  match last with
  | none => (w, findTile w.m 1 65536 r)
  | some p =>
    let bank := (p + 1) % 16
    (w, (findTile w.m 16 4096 (r / 16 * 16 + bank)).orElse (fun _ => findTile w.m 1 65536 (r / 16 * 16 + bank)))

/-- The tiles of a chain in order, from its head on. -/
def chainFrom (x : Fabric) : Nat → Option Nat → List Nat
  | 0, _ => []
  | n + 1, t => match t with
    | none => []
    | some k => k :: chainFrom x n ((x.tiles.get? k).bind Tile.next)

def chainOfFrame (m : Module) (seq : Nat) : List Nat :=
  match m.fab.store.get? seq with
  | some s => chainFrom m.fab s.tiles s.head
  | none => []

/-- The requester that writes a port's frames into tiles (Table 07-4): 2 for CAN, trailer CAN and LIN, 3 for Ethernet and
the internal ports, 9 the transport unit. -/
def tileWriter (account : Nat) : Nat := if account == acctReassembly then 9 else if account < 14 then 3 else 2

/-- Tiles of a chain for a frame of `n` more tiles, after the last one given. -/
def growChain (v : View) : Nat → List Nat → W → W × List Nat
  | 0, l, w => (w, l)
  | n + 1, l, w =>
    match allocTile v l.getLast? w with
    | (w, some t) => growChain v n (l ++ [t]) (w.fab fun x => { x with tiles := x.tiles.put t { data := [] } })
    | (w, none) => (w, l)

/-- The SECDED check bits of a tile's 64-bit words (R194). -/
def tileEcc (data : List Byte) : List (BitVec 8) :=
  (List.range 16).map (fun k => Config.secded (BitVec.ofNat 64 (leVal (slice (data ++ zeros (128 - data.length)) (8 * k) 8))))

/-- A tile takes its bytes; once they are all there it gets its check bits and CRC. A complete tile is not written again. -/
def Tile.write (k : Tile) (data : List Byte) (full : Bool) (next : Option Nat) : Tile :=
  if k.whole then { k with next := next }
  else if full then { k with data := data, ecc := tileEcc data, crc := tileCrc data, whole := true, next := next }
  else { k with data := data, next := next }

/-- Write the bytes of a stored frame into its chain, which grows or shrinks to fit them; `ended` says that no more will
come. A tile is complete with its last byte, and its write is one closure of 8 accesses to its bank by requester `q` (R193,
R194). -/
def writeChain (q : Nat) (v : View) (seq : Nat) (bytes : List Byte) (ended : Bool) (w : W) : W :=
  match w.m.fab.store.get? seq with
  | none => w
  | some s =>
    let n := max 1 (tilesFor bytes.length)
    let old := chainFrom w.m.fab s.tiles s.head
    let (w, chain) := growChain v (n - old.length) (old.take n) w
    let full := fun (k : Nat) => ended || decide (128 * (k + 1) ≤ bytes.length)
    let fresh := chain.zipIdx.filter (fun p => full p.2 && !((w.m.fab.tiles.get? p.1).getD { data := [] }).whole)
    let w := w.fab fun x => { x with
      tiles := chain.zipIdx.foldl (fun t p =>
        t.put p.1 (((t.get? p.1).getD { data := [] }).write ((bytes.drop (128 * p.2)).take 128) (full p.2) chain[p.2 + 1]?))
        ((old.drop n).foldl (fun t k => t.erase k) x.tiles)
      store := x.store.put seq { s with head := chain.head?, tiles := max s.tiles n } }
    openClosures v q (fresh.map (fun p =>
      { resource := 0, addrs := [p.1], accesses := 8, start := 0 })) w

/-! ### Stored copies and references (R204) -/

/-- Store an admitted frame with one reference: while it still arrives it is charged as admission does, and once whole
with what it fills (R199). Requester `q` writes it. An armed fault of R546 kind 0 makes the CRC of its first tile wrong. -/
def storeFrameBy (q : Nat) (v : View) (a : Nat) (f : Frame) (w : W) : W :=
  let armed := w.m.mod.injections.contains (0, f.port)
  let n := if f.unfinished then admissionTiles w.m f else frameTiles f
  let w := w.fab fun x => { x with store := x.store.put f.seq { account := a, tiles := n, refs := 1 } }
  let w := writeChain q v f.seq (storedBytes f) (!f.unfinished) w
  if !armed then w
  else
    let w := w.mod fun x => { x with injections := x.injections.erase (0, f.port) }
    match chainOfFrame w.m f.seq with
    | [] => w
    | t :: _ => w.fab fun x => match x.tiles.get? t with
      | some k => { x with tiles := x.tiles.put t { k with crc := (k.crc + 1) % 2 ^ 32 } }
      | none => x

/-- Store a frame of an ingress port, or of the transport unit. -/
def storeFrame (v : View) (a : Nat) (f : Frame) (w : W) : W := storeFrameBy (tileWriter a) v a f w

/-- Give up the stored copy with all its references and its tiles. -/
def freeFrame (seq : Nat) (w : W) : W :=
  let chain := chainOfFrame w.m seq
  lowerReservations (w.fab fun x => { x with
    store := x.store.erase seq, tiles := chain.foldl (fun t k => t.erase k) x.tiles })

def setRefs (seq n : Nat) (w : W) : W :=
  if n = 0 then freeFrame seq w
  else w.fab fun x => match x.store.get? seq with
    | some s => { x with store := x.store.put seq { s with refs := n } }
    | none => x

/-- One destination is done with the frame: the queue manager decrements the count inside a closure, and the chain is free
at zero (R204). -/
def dropRef (v : View) (seq : Nat) (w : W) : W :=
  match w.m.fab.store.get? seq with
  | some s =>
    setRefs seq (s.refs - 1) (queueClosures v 5 [{ resource := 2, addrs := [descriptorAddr seq], accesses := 1, start := 0 }] w)
  | none => w

/-- The job that holds one reference passes it on to `n` destinations. -/
def replaceRef (seq n : Nat) (w : W) : W :=
  match w.m.fab.store.get? seq with
  | some s => setRefs seq (s.refs - 1 + n) w
  | none => w

/-! ### Failed reads and retired tiles (R195, R196) -/

/-- A failed tile read by a requester of Table 07-4: counted, event 0x0703, and the tile retired when two different
frames failed on it. -/
def tileFail (v : View) (requester : Nat) (f : Frame) (t : TileFault) (w : W) : W :=
  let w := if t.cause == 2 then w.count C.tile_poisoned_read else w.count C.tile_crc_fail
  let w := w.event v 0x0703 2 (u32 t.tile ++ u8 requester ++ u8 f.port ++ u8 t.cause ++ u8 0)
  if t.cause == 2 || w.m.fab.retired.contains t.tile then w
  else match w.m.fab.failed.get? t.tile with
    | none => w.fab fun x => { x with failed := x.failed.put t.tile f.seq }
    | some q =>
      if q == f.seq then w
      else
        let n := tilesRetired w.m + 1
        (w.fab fun x => { x with retired := t.tile :: x.retired }).event v 0x0704 (if 256 ≤ n then 3 else 2)
          (u32 t.tile ++ u32 n)

/-- What a read of a tile finds against it: poison, a memory error that SECDED does not correct, or, once the tile is
complete, a CRC that differs (R195). -/
def badTile (x : Fabric) (t : Nat) : Option TileFault :=
  match x.tiles.get? t with
  | some k =>
    if k.poisoned then some ⟨t, 2⟩
    else match k.error.filter (· < 2) with
      | some c => some ⟨t, c⟩
      | none => if k.whole && tileCrc k.data != k.crc then some ⟨t, 0⟩ else none
  | none => none

/-- The failing tile of a frame's read: one that the command reports, or the first whose side entry fails. -/
def readFault (m : Module) (f : Frame) (t : Option TileFault) : Option TileFault :=
  let chain := chainOfFrame m f.seq
  match t.filter (fun x => decide (x.cause < 2) && chain.contains x.tile) with
  | some x => some x
  | none => chain.findSome? (badTile m.fab)

/-- The tile holds a single-bit error, or the command reports one in it. -/
def singleBit (x : Fabric) (t : Option TileFault) (tile : Nat) : Bool :=
  t == some ⟨tile, 4⟩ || (match x.tiles.get? tile with | some k => k.error == some 4 | none => false)

/-- The single-bit errors of a frame's tiles are corrected and counted (R195). -/
def corrected (f : Frame) (t : Option TileFault) (w : W) : W :=
  w.each ((chainOfFrame w.m f.seq).filter (singleBit w.m.fab t)) fun _ w => w.count C.tile_ecc_corrected

/-- A memory error comes about in a tile that is in use. -/
def tileError (x : Fabric) (t : TileFault) : Fabric :=
  match x.tiles.get? t.tile with
  | some k => { x with tiles := x.tiles.put t.tile { k with error := some t.cause } }
  | none => x

end Sys2Proof.Machine
end

