-- ==== Sys2Proof/Machine/Fabric.lean ====
section
/-! DEFINITION. The queue manager (spec/07, R204-R210, R214-R221; R233, R234 and R248 of spec/08): enqueueing, waiting
copies, back-pressure, and the settlement of the lane allotments. -/

namespace Sys2Proof.Machine

/-! ### Egress queues (R233, R234, R248) -/

def queueOf (m : Module) (port q : Nat) : List Copy := m.fab.queues.getD (queueKey port q) []

def setQueue (port q : Nat) (l : List Copy) (w : W) : W :=
  w.fab fun x => { x with queues := x.queues.set [] (queueKey port q) l }

/-- Copies of a CAN queue that lie loaded in message objects, earliest first. -/
def loadedObjs (c : CanCh) (q : Nat) : List (Nat × MsgObj) :=
  c.objs.filter (fun p => p.2.copy.isSome && p.2.queue == q)

def loadedCopies (m : Module) (port q : Nat) : List Copy :=
  if isCanPort port then (loadedObjs (canAt m (port - 14)) q).filterMap (fun p => p.2.copy) else []

def queueTiles (m : Module) (port q : Nat) : Nat :=
  ((queueOf m port q ++ loadedCopies m port q).map Copy.tiles).sum

/-- Descriptors in use: by copies in queues, on the wire of the normal path, and loaded in message objects. -/
def descriptors (m : Module) : Nat :=
  (m.fab.queues.map (fun p => p.2.length)).sum + m.fab.i1.length
    + (m.fab.tx.filter (fun p => !p.2.fastLane)).length + m.fab.preempted.length
    + (m.can.map (fun c => (c.objs.filter (fun p => p.2.copy.isSome)).length)).sum

def descriptorPool : Nat := 131072

/-- R234 and R248: the queue has room for this copy. -/
def queueHasRoom (m : Module) (port q : Nat) (c : Copy) : Bool :=
  if isEthPort port then decide (queueTiles m port q + c.tiles ≤ prm m P.egress_queue_limit port q)
  else c.fallback.isSome ||
    decide (((queueOf m port q ++ loadedCopies m port q).filter (fun c => c.fallback.isNone)).length
      < prm m P.egressCan_queue_limit (port + 18) q)

/-- The queue a copy takes on a port; internal and LIN destinations have one. -/
def queueIndex (port : Nat) (c : Copy) : Nat :=
  if isEthPort port then (if c.fallback.isSome then 7 else c.tc)
  else if isCanPort port then (if c.fallback.isSome then 3 else c.tc / 2)
  else 0

/-- The destination can take this copy (R205): I1 has a limit of its own, and I0, I2 and LIN buffers have none. -/
def roomFor (m : Module) (port q : Nat) (c : Copy) : Bool :=
  if port == 12 then decide (m.fab.i1.length < prm m P.junction_i1_queue_limit)
  else if isEthPort port || isCanPort port then queueHasRoom m port q c
  else true

/-! ### Shaper credit (R241) -/

def preemptableClass (m : Module) (port q : Nat) : Bool := bit (prm m P.egress_tc_flags port q) 1

/-- A shaped queue that was empty starts to wait: credit is never positive with nothing to send. -/
def startWaiting (v : View) (port q : Nat) (w : W) : W :=
  if shaped w.m port q && (queueOf w.m port q).isEmpty then
    setCredit port q (min 0 (creditAt w.m (w.base v) port q)) v.now w
  else w

/-! ### Egress edits (R244) -/

/-- A frame with its outermost tag replaced by, or given, this tag control information. -/
def withTag (bs : List Byte) (tci : Nat) (push : Bool) : List Byte :=
  bs.take 12 ++ beBytes 2 0x8100 ++ beBytes 2 tci ++ bs.drop (if push then 12 else 16)

/-- The egress copy of a frame in class `q` of a port (R244). -/
def egressEdit (m : Module) (port q : Nat) (c : Copy) : List Byte :=
  let f := c.frame
  let act := Sp.vidAction.get c.sp
  let own := beAt f.data 14 2
  let pcp := prm m P.egress_tc_pcp port q
  if act == 3 then withTag f.data (pcp * 8192 + b2n c.dei * 4096 + Sp.vid.get c.sp) true
  else if !f.tagged then f.data
  else if act == 2 then f.data.take 12 ++ f.data.drop 16
  else
    let p := if bit (prm m P.egress_tc_flags port q) 2 then pcp else own / 8192
    let d := c.dei || bit own 12
    withTag f.data (p * 8192 + b2n d * 4096 + (if act == 1 then Sp.vid.get c.sp else own % 4096)) false

/-! ### Frames ended early (R245) -/

/-- CRC-32 of IEEE 802.3 over one more byte. -/
def fcsByte (c : BitVec 32) (b : Byte) : BitVec 32 :=
  (List.range 8).foldl (fun c _ => if c.getLsbD 0 then (c >>> 1) ^^^ 0xEDB88320#32 else c >>> 1) (c ^^^ b.setWidth 32)

/-- The FCS of a frame, in the order it is sent; stomped, every bit is inverted (R245). -/
def fcsOf (bs : List Byte) (stomped : Bool) : List Byte :=
  let c := bs.foldl fcsByte 0xFFFFFFFF#32
  leBytes 4 (if stomped then c else c ^^^ 0xFFFFFFFF#32).toNat

/-- `n` bytes that nothing constrains. -/
def freeBytes (v : View) : Nat → W → W × List Byte
  | 0, w => (w, [])
  | n + 1, w =>
    let (w, b) := w.free v 256
    let (w, l) := freeBytes v n w
    (w, u8 b ++ l)

/-- End a frame on the wire with a stomped FCS: the bytes that have gone out, and the inverted FCS. Of a frame still
arriving the bytes behind its captured head have come and gone unseen: they are free (notes/assumptions/89.md). -/
def stompTx (v : View) (port : Nat) (t : EthTx) (w : W) : W :=
  let n := t.sent + bytesOut w.m port v.now t
  let (w, unseen) := freeBytes v (n - t.bytes.length) w
  let out := t.bytes.take n ++ unseen
  ((w.send (.ethAbort port out (fcsOf out true))).count C.egress_stomped port).count C.egress_bytes port (out.length + 4)

/-! ### Enqueueing (R204-R208) -/

/-- The link of a port can carry frames (R338). -/
def linkUsable (m : Module) (port : Nat) : Bool :=
  (ethAt m port).up && !(ethAt m port).sleeping && prm m P.eth_phy_mode port != 0 && ethPowered m port
    && !portAsleep m port

/-- Frames of an Ethernet port whose link is down are discarded as they reach the head of their queue (R338). -/
def dropDead (v : View) (port : Nat) (w : W) : W :=
  w.each (List.range 8) fun q w =>
    (setQueue port q [] w).each (queueOf w.m port q) fun c w => (dropRef v c.frame.seq w).count C.eth_link_down_drop port

/-- A copy joins its queue: a CAN fallback copy at the head, any other at the end. -/
def link (v : View) (port q : Nat) (c : Copy) (w : W) : W :=
  let w := startWaiting v port q w
  if isEthPort port && !linkUsable w.m port then (dropRef v c.frame.seq w).count C.eth_link_down_drop port
  else if isCanPort port && c.fallback.isSome then setQueue port q (c :: queueOf w.m port q) w
  else setQueue port q (queueOf w.m port q ++ [c]) w

/-- Skip a destination (R206). -/
def skipCopy (v : View) (port : Nat) (c : Copy) (w : W) : W :=
  let w := (dropRef v c.frame.seq w).count C.enq_skip port
  let w := match c.tpl with
    | some t => w.count C.tpl_send_skipped t
    | none => w
  w.limited v 0x0706 0 port 1000000000 (fun n => u8 port ++ zeros 3 ++ u32 n)

/-- Protected identifier: the identifier with its two parity bits (ISO 17987). -/
def linPid (id : Nat) : Nat :=
  id + 64 * b2n (bit id 0 != (bit id 1 != (bit id 2 != bit id 4))) + 128 * b2n (!(bit id 1 != (bit id 3 != (bit id 4 != bit id 5))))

/-- The complement of the sum of bytes with carries added back (ISO 17987). -/
def linSum (bs : List Byte) : Byte :=
  BitVec.ofNat 8 (255 - bs.foldl (fun (s : Nat) b => let t := s + b.toNat; if 255 < t then t - 255 else t) 0)

/-- The checksum of a frame: enhanced, over the protected identifier too, for the identifiers of lin.enhanced_checksum, and
classic otherwise and for 60 and 61 (R328). -/
def linChecksum (m : Module) (n id : Nat) (data : List Byte) : Byte :=
  linSum (if decide (id < 60) && bit (prm m P.lin_enhanced_checksum n) id then u8 (linPid id) ++ data else data)

/-- The master sends a frame. -/
def linSend (n id : Nat) (data : List Byte) (w : W) : W := w.send (.lin n id data (linChecksum w.m n id data))

/-- At the end of the protected identifier the master has read the buffer whole, and sends it (R326). -/
def linPublished (v : View) (n : Nat) (w : W) : W :=
  match (linAt w.m n).reading with
  | none => w
  | some (id, len, t) =>
    if v.now < t then w
    else
      let buf := ((linAt w.m n).bufs.get? id).getD {}
      (linSend n id ((buf.data ++ zeros 8).take len) w).lin n fun l => { l with
        reading := none, bufs := if buf.updated then l.bufs.put id { buf with updated := false } else l.bufs }

/-- A LIN frame replaces the frame buffer of its identifier (R326). -/
def linStore (v : View) (n id : Nat) (data : List Byte) (w : W) : W :=
  let w := linPublished v n w
  let b : LinBuf := { data := data.take 8, updated := true, written := true, ts := (w.base v).time.tb0.n.toNat }
  w.lin n fun l => { l with bufs := l.bufs.put id b }

/-- Deliver to I0: a posted write into the management receive ring (R208). -/
def deliverI0 (ringFull : Bool) (f : Frame) (w : W) : W :=
  if ringFull || w.m.mod.state == .unmanaged || !w.m.mod.firmwareRunning then w.count C.i0_rx_drop
  else bridgePost false (w.send (.mirror f.port f.data))

/-- A copy for a held port is dropped (Table 03-3, R262); on a CAN channel that counts as a skip (R69, R250, R206). -/
def dropForHold (v : View) (port : Nat) (c : Copy) (w : W) : W :=
  if isCanPort port then skipCopy v port c w else dropRef v c.frame.seq w

/-- A copy that is read at once by a requester of Table 07-4: a failed read discards it for that reader (Table 07-1). -/
def readNow (v : View) (requester : Nat) (t : Option TileFault) (f : Frame) (use : W → W) (w : W) : W :=
  let w := corrected f t w
  dropRef v f.seq (match readFault w.m f t with
    | some x => tileFail v requester f x w
    | none => use w)

/-- A destination takes its copy: I0, I2 and the LIN buffers read it at once, the others queue it. -/
def placeCopy (v : View) (t : Option TileFault) (ringFull : Bool) (port q : Nat) (c : Copy) (w : W) : W :=
  let f := c.frame
  if port == 11 then readNow v 13 t f (deliverI0 ringFull f) w
  else if port == 12 then w.fab fun x => { x with i1 := x.i1 ++ [c] }
  else if port == 13 then readNow v 10 t f id w
  else if isLinPort port then
    readNow v 6 t f (fun w =>
      if f.fmt == 6 && decide (f.id < 64) then linStore v (port - 36) f.id f.data w
      else w.count C.egress_format_drop port) w
  else link v port q c w

/-- One destination takes its copy, waits for its queue, or is skipped (R205, R206); a CAN fallback copy waits behind
nothing (R248). The copy's reference is already counted. -/
def enqueueWith (t : Option TileFault) (ringFull : Bool) (v : View) (port : Nat) (c : Copy) (w : W) : W :=
  if portHeldAt w.m v.now port && (!isCanPort port || c.fallback.isSome) then dropForHold v port c w
  else if port == 12 && !prmB w.m P.junction_enable then dropRef v c.frame.seq w
  else
    let q := queueIndex port c
    let first := isCanPort port && c.fallback.isSome
    let behind := !first && w.m.fab.waiting.any (fun x => x.port == port && x.queue == q)
    let noDesc := decide (descriptorPool ≤ descriptors w.m)
    if !behind && !noDesc && roomFor w.m port q c then placeCopy v t ringFull port q c w
    else
      let w := if noDesc then w.count C.descriptor_exhausted else w
      let hold := prmNs w.m P.fabric_multicast_hold
      if hold = 0 ∨ 64 ≤ w.m.fab.waiting.length then skipCopy v port c w
      else (w.count C.enq_hold_wait port).fab fun x => { x with waiting := x.waiting ++ [⟨port, q, c, v.now⟩] }

def enqueueCopy (v : View) (port : Nat) (c : Copy) (w : W) : W := enqueueWith none w.m.fab.ringFull v port c w

/-- Waiting copies whose destination has room again take their place, in order (R205). -/
def admitWaiting (v : View) (w : W) : W :=
  let now := w.m.fab.waiting
  let w := w.fab fun x => { x with waiting := [] }
  w.each now fun x w =>
    let behind := w.m.fab.waiting.any (fun y => y.port == x.port && y.queue == x.queue)
    if !behind && decide (descriptors w.m < descriptorPool) && roomFor w.m x.port x.queue x.copy then
      placeCopy v none w.m.fab.ringFull x.port x.queue x.copy w
    else w.fab fun f => { f with waiting := f.waiting ++ [x] }

/-! ### Back-pressure (R209, R210) -/

/-- The account that the tiles of a copy are charged to. -/
def accountOf (m : Module) (c : Copy) : Nat :=
  match m.fab.store.get? c.frame.seq with
  | some s => s.account
  | none => c.frame.port

/-- The paused sources to which tiles in the queue are charged (R209). -/
def pausedSources (m : Module) (port q : Nat) : List Nat :=
  ((queueOf m port q ++ loadedCopies m port q).map (accountOf m)).filter (m.ing.xoff.contains ·)

/-- The queue holds a tile charged to a source that is paused. -/
def isBlocking (m : Module) (port q : Nat) : Bool := !(pausedSources m port q).isEmpty

/-- Queues that may block: those that hold a copy. -/
def busyQueues (m : Module) : List Nat :=
  (m.fab.queues.keys ++ (List.range 22).flatMap (fun ch =>
    ((List.range 4).filter (fun q => !(loadedObjs (canAt m ch) q).isEmpty)).map (fun q => queueKey (canPort ch) q)))

def updateBlocking (v : View) (w : W) : W :=
  let keys := (busyQueues w.m).filter (fun k => isBlocking w.m (k / 8) (k % 8))
  w.fab fun x => { x with
    blocked := keys.foldl (fun b k => b.put k (x.blocked.getD k v.now)) []
    dropOldest := x.dropOldest.filter (fun k => decide (prm w.m P.fabric_bp_low_mark ≤ queueTiles w.m (k / 8) (k % 8))) }

/-- After a queue or a flow-control state has changed. -/
def settle (v : View) (w : W) : W := updateBlocking v (admitWaiting v w)

def bpCeilingCore (port q : Nat) (v : View) (w : W) : W :=
  let k := queueKey port q
  let w := updateBlocking v w
  match w.m.fab.blocked.get? k with
  | none => w
  | some since =>
    if v.now < since + prmNs w.m P.fabric_bp_ceiling || w.m.fab.dropOldest.contains k then w
    else
      let paused := maskOf (pausedSources w.m port q)
      ((w.fab fun x => { x with dropOldest := k :: x.dropOldest }).count C.bp_ceiling_episode k).event v 0x0705 1
        (u8 port ++ u8 q ++ zeros 2 ++ u32 ((v.now - since) / 1000) ++ u64 paused)

def isQueue (port q : Nat) : Bool := (isEthPort port && decide (q < 8)) || (isCanPort port && decide (q < 4))

def execBpCeiling (port queue : Nat) (s : State) : Host.Outcome State Fault Refusal :=
  run (isQueue port queue) (bpCeilingCore port queue) s

/-- The loaded object of a CAN queue that came first and has not begun transmission. -/
def firstLoaded (c : CanCh) (q : Nat) : Option Nat :=
  ((loadedObjs c q).foldl (fun best p => match best with
    | none => some p
    | some b => if p.2.order < b.2.order then some p else best) none).bind
      (fun p => if p.2.st == 2 then none else some p.1)

/-- Free a pool object. -/
def emptyObj (ch n : Nat) (w : W) : W := w.can ch fun c => { c with objs := c.objs.erase n }

/-- The head frame of a queue in drop-oldest, unless it has begun transmission (R210). -/
def dropOldestRemoveCore (port q : Nat) (v : View) (w : W) : W :=
  let k := queueKey port q
  let w := updateBlocking v w
  if !w.m.fab.dropOldest.contains k then w
  else
    let gone := fun (c : Copy) (w : W) => settle v ((dropRef v c.frame.seq w).count C.bp_ceiling_drop k)
    let loaded := if isCanPort port then loadedObjs (canAt w.m (port - 14)) q else []
    match (if isCanPort port then firstLoaded (canAt w.m (port - 14)) q else none) with
    | some n =>
      match ((canAt w.m (port - 14)).objs.get? n).bind MsgObj.copy with
      | some c => gone c (emptyObj (port - 14) n w)
      | none => w
    | none =>
      if !loaded.isEmpty then w
      else match queueOf w.m port q with
        | [] => w
        | c :: r => gone c (setQueue port q r w)

def execDropOldestRemove (port queue : Nat) (s : State) : Host.Outcome State Fault Refusal :=
  run (isQueue port queue) (dropOldestRemoveCore port queue) s

/-! ### FRAME_ENQUEUE -/

/-- The destinations of a job, and whether a hairpin is to be counted (R124, R146). -/
def jobPorts (m : Module) (j : Job) : List Nat × Bool :=
  let notSelf := fun (mask : Nat) => (bitsOf 44 mask).filter (· != j.frame.port)
  match j.mask with
  | some k => (notSelf k, false)
  | none =>
    if Sp.action.get j.sp == 3 then ([11], false)
    else if Sp.destList.on j.sp then
      let t := m.tab
      (notSelf (if t.isPoisoned 6 (Sp.dest.get j.sp) then 0 else t.get 6 (Sp.dest.get j.sp)), false)
    else
      let d := Sp.dest.get j.sp
      if d == j.frame.port then ([], true) else ([d], false)

/-- The class of a job on an Ethernet port (R233), and the class that selects its queue elsewhere (R248). -/
def jobTc (j : Job) (port : Nat) : Nat :=
  match j.markTc with
  | some c => c
  | none => if isEthPort port && Sp.pcpTc.on j.sp && j.frame.fmt == 8 then framePcp j.frame else Sp.tc.get j.sp

def jobCopy (j : Job) (port : Nat) : Copy :=
  { frame := j.frame, sp := j.sp, tc := jobTc j port, dei := j.dei, tiles := frameTiles j.frame }

/-- A mirror copy crosses I0 and a junction copy I1 beside the destinations. -/
def sideCopies (j : Job) : Nat × Nat :=
  let forward := Sp.action.get j.sp == 0 && !j.own
  (b2n (j.mirrorOnly || (!j.own && (j.mirror || Sp.mirror.on j.sp)
      && (forward || Sp.action.get j.sp == 2))),
    b2n (forward && !j.mirrorOnly && !j.noJunction && Sp.junction.on j.sp && j.frame.port != 12))

/-- The destination list that a job reads. -/
def jobList (j : Job) : List Nat :=
  if j.mask.isNone && Sp.action.get j.sp != 3 && Sp.destList.on j.sp then [entryKey 6 (Sp.dest.get j.sp)] else []

/-- A frame still arriving is enqueued only for egress queues; any other destination, and the fast lane's stored copy,
wait for its end (R212; notes/assumptions/89.md). -/
def jobReady (m : Module) (j : Job) : Bool :=
  !j.frame.unfinished ||
    (j.frame.fmt == 8 && j.fl.isNone && sideCopies j == (0, 0) && (jobPorts m j).1.all (fun p => isEthPort p || isCanPort p))

/-- Enqueue one frame for all its destinations (R204): side copies first, then each port. -/
def enqueueJob (v : View) (t : Option TileFault) (ringFull : Bool) (j : Job) (w : W) : W :=
  let seq := j.frame.seq
  let (mir, jun) := sideCopies j
  let side := fun (w : W) =>
    let w := if mir = 0 then w else enqueueWith t ringFull v 11 (jobCopy j 11) w
    if jun = 0 then w else enqueueCopy v 12 (jobCopy j 12) w
  match j.fl with
  | some k =>
    match w.m.fab.fl.get? seq with
    | none => side (replaceRef seq (mir + jun) w)
    | some x =>
      let late := x.open_
      let fb := fun (port : Nat) => { jobCopy j port with fallback := some k }
      let w := replaceRef seq (mir + jun + late.length + x.fallback.length) w
      let w := w.fab fun y => { y with
        fl := if late.isEmpty then y.fl.erase seq else y.fl.put seq { x with ready := some (fb 0), fallback := [] } }
      (side w).each x.fallback (fun p w => enqueueCopy v p { fb p with collided := x.collided.contains p } w)
  | none =>
    let w := touch v (jobList j) w
    let (ports, hair) := if j.mirrorOnly then ([], false) else jobPorts w.m j
    let w := if hair then w.count C.class_hairpin j.frame.port else w
    let w := replaceRef seq (mir + jun + ports.length) w
    (side w).each ports fun p w => enqueueWith t ringFull v p (jobCopy j p) w

/-- FRAME_ENQUEUE: the queue manager takes the next frame that can be enqueued; a read may fail on tile `t`, or the
manager's own memory may fail uncorrectably (R538); `ringFull`: the management receive ring takes nothing (R208). -/
def frameEnqueueCore (t : Option TileFault) (ringFull : Bool) (v : View) (w : W) : W :=
  if !powered w.m then w
  else match w.m.flow.enq.find? (jobReady w.m) with
    | none => w
    | some j =>
      let w := (w.flow fun x => { x with enq := x.enq.erase j }).fab fun x => { x with ringFull := ringFull }
      if (match t with | some x => x.cause == 3 | none => false) then faultData v 0 (t.map TileFault.tile |>.getD 0) w
      else settle v (enqueueJob v t ringFull j w)

def execFrameEnqueue (t : EnqueueMet) (s : State) : Host.Outcome State Fault Refusal :=
  run true (frameEnqueueCore t.fault t.ringFull) s

/-- Copies whose hold has passed are skipped (R206). -/
def enqueueHoldExpiryCore (v : View) (w : W) : W :=
  let hold := prmNs w.m P.fabric_multicast_hold
  let due := w.m.fab.waiting.filter (fun x => v.expired (x.since + hold))
  let w := w.fab fun x => { x with waiting := x.waiting.filter (fun x => !v.expired (x.since + hold)) }
  settle v (w.each due fun x w => skipCopy v x.port x.copy w)

def execEnqueueHoldExpiry (s : State) : Host.Outcome State Fault Refusal := run true enqueueHoldExpiryCore s

/-! ### Lane allotments (R214-R219) -/

/-- The fixed, reserved pairs of R214. -/
def reservedPair (i : Nat) : Bool := i == 32 || i == 33

/-- Pairs of Table 07-4 that are used. -/
def usedPair (i : Nat) : Bool := allotPreset 0 i != 0

/-- fabric.starvation_possible for the values of the parameters (R219). -/
def starvationMask (m : Module) (r : Nat) : Nat :=
  let value := fun q => if reservedPair (16 * r + q) then 0 else prm m P.fabric_allot 0 (16 * r + q)
  let before := fun k => ((List.range k).map value).sum
  maskOf ((List.range 16).filter (fun k =>
    usedPair (16 * r + k) && !reservedPair (16 * r + k) && decide (resourceSlots r ≤ before k)))

/-- The check of R219 at a change of fabric.allot. -/
def checkStarvation (v : View) (w : W) : W :=
  w.each (List.range 6) fun r w =>
    let old := atD w.m.fab.starvation r 0
    let new := starvationMask w.m r
    let added := maskOf ((List.range 16).filter (fun k => bit new k && !bit old k))
    let w := w.fab fun x => { x with starvation := upd x.starvation r (fun _ => new) }
    if added = 0 then w else w.event v 0x0701 1 (u8 r ++ u8 0 ++ u16 new ++ u16 added ++ zeros 2)

/-- Allottable slots of resource `r` in cycle `t` of a period: of the tile banks 16 in every other cycle (R192), of the
others as many as Table 07-3 gives a period, spread evenly (notes/assumptions/12.md). -/
def slotsAt (r t : Nat) : Nat :=
  if r < 2 then (if t % 2 == r then 16 else 0) else (t + 1) * resourceSlots r / 400 - t * resourceSlots r / 400

/-- The arbiter of one resource inside a period: by requester the slots still asked for, the budgets left, the borrowed
grants and whether the budget ran out; and the accesses that closures still have to make, which come first (R223). -/
structure Arbiter where
  asked : List Nat
  left : List Nat
  borrowed : List Nat := List.replicate 16 0
  out : List Bool := List.replicate 16 false
  closures : Nat
  deriving DecidableEq, Repr

/-- Grant up to `n` slots by rank, to each requester no more than `most` says; answers the grants and the slots left. -/
def grantByRank (most : List Nat) (n : Nat) : List Nat × Nat :=
  most.foldl (fun acc k => (acc.1 ++ [min k acc.2], acc.2 - min k acc.2)) ([], n)

/-- One cycle with `n` slots and newly asked slots (R216): under budgets by rank, then, where `borrow`, whatever the
budget. A budget has run out when it is used up and slots are still asked for. -/
def Arbiter.cycle (borrow : Bool) (x : Arbiter) (new : List Nat) (n : Nat) : Arbiter :=
  let asked := x.asked.zipWith (· + ·) new
  let n1 := n - min n x.closures
  let (own, n2) := grantByRank (asked.zipWith min x.left) n1
  let asked := asked.zipWith (· - ·) own
  let left := x.left.zipWith (· - ·) own
  let out := x.out.zipWith (· || ·) (asked.zipWith (fun a l => decide (0 < a) && l == 0) left)
  let (more, _) := grantByRank asked (if borrow then n2 else 0)
  { asked := asked.zipWith (· - ·) more, left := left, borrowed := x.borrowed.zipWith (· + ·) more, out := out
    closures := x.closures - min n x.closures }

/-- The arbiter of resource `r` over period `p`, cycle by cycle (R216, R217). -/
def arbiterOf (m : Module) (p : Nat) (d : List Demand) (r : Nat) : Arbiter :=
  let mine := d.filter (fun x => x.index / 16 == r && !reservedPair x.index)
  let new := fun (t : Nat) => (List.range 16).map (fun q => ((mine.filter (fun x => x.at_ == t && x.index % 16 == q)).map Demand.slots).sum)
  let start : Arbiter :=
    { asked := List.replicate 16 0
      left := (List.range 16).map (fun q => allotted m (16 * r + q) - closureUsed m.fab p r q)
      closures := ((List.range 16).map (closureUsed m.fab p r)).sum }
  if mine.isEmpty then start
  else (List.range 400).foldl (fun x t => x.cycle (bit (prm m P.fabric_allot_borrow) r) (new t) (slotsAt r t)) start

/-- ALLOTMENT_MILESTONE: the period that ends is arbitrated from the slots each requester asked for, every budget is
restored, and written allotments take effect (R216, R217, R219). -/
def allotmentMilestoneCore (d : List Demand) (v : View) (w : W) : W :=
  let p := v.cycle / 400 - 1
  let w := w.each (List.range 6) fun r w =>
    let x := arbiterOf w.m p d r
    w.each (List.range 16) fun q w =>
      let i := 16 * r + q
      (if atD x.out q false then w.count C.allot_exhausted i else w).count C.allot_borrowed i (atD x.borrowed q 0)
  w.fab fun x => { x with
    periods := x.periods + 1
    allotInForce := (List.range 96).foldl (fun m i => m.put i (prm w.m P.fabric_allot 0 i)) [] }

def execAllotmentMilestone (d : List Demand) (s : State) : Host.Outcome State Fault Refusal :=
  run (d.all (fun x => decide (x.index < 96 ∧ x.at_ < 400))) (allotmentMilestoneCore d) s

/-- A table entry as CLASSIFY names it: 2^24 × table + index. -/
def entryAddrOk (a : Nat) : Bool :=
  match tableShape (a / 2 ^ 24) with
  | some s => decide (a % 2 ^ 24 < s.2)
  | none => false

end Sys2Proof.Machine
end

