-- ==== Sys2Proof/Machine/Time.lean ====
section
/-! DEFINITION. Time base control (spec/12): corrections and arrival stamps, the servo of R377 to R380, steps and
slews, gPTP, checkpoints and the TIME family. -/

namespace Sys2Proof.Machine

/-! ### Arrival stamps (R82, R83, R369) -/

/-- Receive and transmit corrections of Table 12-2 for an Ethernet PHY mode. -/
def ethCorrection (mode : Nat) : Nat × Nat :=
  match mode with
  | 1 => (1240, 610) | 2 => (1880, 940) | 3 => (2120, 1050) | 4 => (584, 312) | 5 => (968, 644)
  | 6 => (2080, 1220) | 7 => (300, 220) | _ => (0, 0)

def canCorrection (ch : Nat) : Nat × Nat := if ch < 20 then (128, 128) else (480, 360)

/-- The correction added to a receive capture at a port. -/
def rxAdjust (m : Module) (port : Nat) : Int :=
  if port < 11 then
    (if port < 10 then prmI m P.time_delay_asymmetry 0 port else 0) - (ethCorrection (prm m P.eth_phy_mode port)).1
  else if isCanPort port then prmI m P.time_can_rx_adjust 0 (port - 14) - (canCorrection (port - 14)).1
  else if isLinPort port then -2000
  else 0

/-- A full time moved by a correction, as 64 bits. -/
def moved (t : Nat) (d : Int) : Nat := twos 64 (t + d)

/-- Code of time.tb0_state (R376) and time.tb1_state. -/
def tb0State (m : Module) : Nat := if prm m P.time_tb0_mode == 2 then 5 else m.tc.s0.st
def tb1State (m : Module) : Nat := if prm m P.time_tb1_mode == 1 then tb0State m else m.tc.s1.st
def synced (st : Nat) : Bool := st == 2 || st == 3 || st == 5

/-! ### Steps, increments and states (R365, R377-R380) -/

def W.servo (w : W) (tb : Nat) (f : Servo → Servo) : W :=
  w.tc fun t => if tb == 0 then { t with s0 := f t.s0 } else { t with s1 := f t.s1 }

def servoOf (m : Module) (tb : Nat) : Servo := if tb == 0 then m.tc.s0 else m.tc.s1

/-- TB1 copies TB0 in FOLLOW_TB0; TB0 copies TB1 in a failover of source 1. -/
def setIncr (tb incr : Nat) (w : W) : W :=
  let w := w.eff (.setIncr tb incr)
  if tb == 0 then if prm w.m P.time_tb1_mode == 1 then w.eff (.setIncr 1 incr) else w
  else if w.m.tc.s0.follow then w.eff (.setIncr 0 incr) else w

/-- Step TB0 or TB1 (R365, R378): counted, event 0x0C02; on TB0 also the epoch and the gate lists. -/
def stepTb (v : View) (tb : Nat) (off : Int) (cause : Nat) (w : W) : W :=
  let old := (w.base v).time.tb0.full
  let w := w.eff (.step tb off)
  let w := if tb == 0 && prm w.m P.time_tb1_mode == 1 then w.eff (.step 1 off) else w
  let w := (w.count C.time_step tb).event v 0x0C02 1 (u8 tb ++ u8 cause ++ zeros 2 ++ s64 off)
  if tb != 0 then w
  else freezeGates v old (w.tc fun t => { t with epoch := (t.epoch + 1) % 16, lastStep := v.now })

/-- Event 0x0C01 for each of TB0 and TB1 whose state differs from what it was (R380, R388). -/
def noteTbStates (v : View) (old : Module) (w : W) : W :=
  let note := fun (tb was now : Nat) (w : W) =>
    if was == now then w
    else w.event v 0x0C01 (if now == 3 || now == 4 then 1 else 0) (u8 tb ++ u8 was ++ u8 now ++ u8 0)
  note 1 (tb1State old) (tb1State w.m) (note 0 (tb0State old) (tb0State w.m) w)

/-- A servo's state changes; TB1 in FOLLOW_TB0 reads as TB0. -/
def setTbState (v : View) (tb new : Nat) (w : W) : W :=
  noteTbStates v w.m (w.servo tb fun s => { s with st := new })

/-- Round half away from zero. -/
def roundDiv (a : Int) (b : Nat) : Int :=
  if b = 0 then 0 else if 0 ≤ a then (2 * a + b) / (2 * b) else -((-2 * a + b) / (2 * b))

def incrLow : Int := 0x03FF7CED92
def incrHigh : Int := 0x040083126E
def clampIncr (i : Int) : Nat := (max incrLow (min incrHigh i)).toNat
def incrValid (i : Int) : Bool := decide (incrLow ≤ i ∧ i ≤ incrHigh)

/-- Entry into HOLDOVER (R379). -/
def enterHoldover (v : View) (tb : Nat) (w : W) : W :=
  let b := w.base v
  let w := if tb == 0 then w.count C.gptp_sync_timeout else w
  setTbState v tb 3 (w.servo tb fun s => { s with
    heldAt := v.now, heldOffset := (b.time.tb0.full : Int) - b.time.tb1.full, big := [], rejects := 0 })

/-- A rejected sample (R378, R379). -/
def rejectSample (v : View) (tb cause : Nat) (o ppb : Int) (w : W) : W :=
  let w := (w.count C.time_sample_reject tb).event v 0x0C03 1
    (u8 tb ++ u8 cause ++ zeros 2 ++ s64 o ++ s32 (satS 32 ppb))
  let w := w.servo tb fun s => { s with rejects := s.rejects + 1 }
  let s := servoOf w.m tb
  if s.st == 2 && decide (prm w.m P.time_reject_limit ≤ s.rejects) then enterHoldover v tb w else w

/-- An accepted sample: step or slew (R377). `dm` and `dl` are the master's and TB2's advance over the last two
accepted samples. -/
def applySample (v : View) (tb : Nat) (doStep : Bool) (o : Int) (master l dm dl : Nat) (w : W) : W :=
  let base := (nominalIncr : Int) * dm
  let slewNs := prm w.m P.time_slew_window * 1000
  let incr := if doStep then roundDiv base dl
    else roundDiv (base * slewNs - (nominalIncr : Int) * o * dl) (dl * slewNs)
  let w := if doStep then stepTb v tb (-o) 0 w else w
  let w := setIncr tb (clampIncr incr) w
  let w := w.servo tb fun s => { s with
    prev := some (master, l), big := [], rejects := 0, rateBad := false, follow := false, slew := none
    ratePpb := roundDiv (((dm : Int) - dl) * 1000000000) dl }
  setTbState v tb 2 w

/-- Span after which a servo without a sample holds over (R379). -/
def syncTimeoutNs (m : Module) : Nat :=
  prm m P.time_sync_receipt_timeout * 1000000000 / 2 ^ (-(prmI m P.time_gptp_log_sync_interval)).toNat

/-- A sample timestamped at or past the timeout finds the time base in HOLDOVER already (R379, R42). -/
def overdue (v : View) (tb l : Nat) (w : W) : W :=
  let s := servoOf w.m tb
  if s.st == 2 && s.prev.any (fun p => decide (p.2 + syncTimeoutNs w.m ≤ l)) then enterHoldover v tb w else w

/-- One servo sample: offset `o`, master time, TB2 time of the receipt (R377, R378). -/
def servoSample (v : View) (tb : Nat) (o : Int) (master l : Nat) (w : W) : W :=
  let w := overdue v tb l (w.servo tb fun s => { s with lastOffset := satS 32 o })
  let s := servoOf w.m tb
  match s.prev with
  | none => setTbState v tb 1 (w.servo tb fun s => { s with prev := some (master, l) })
  | some (m0, l0) =>
    let dm := (master - m0).toNat
    let dl := l - l0
    let thr : Int := prm w.m P.time_servo_step_threshold
    let large := decide (thr < o.natAbs)
    let ahead : Int := (master : Int) - m0 - dl
    let w := useTwin v P.time_rate_limit_ppm 0 0 w
    let ppb := roundDiv (ahead * 1000000000) dl
    let rateBad := dl == 0 || decide (prm w.m P.time_rate_limit_ppm * dl < ahead.natAbs * 1000000)
    if rateBad then
      rejectSample v tb 0 o ppb
        (w.servo tb fun s => { s with rateBad := true, big := if large then s.big else [] })
    else if s.st == 2 && large then
      let big := s.big ++ [o]
      let confirm := prm w.m P.time_servo_step_confirm
      if big.length < confirm then
        rejectSample v tb 1 o ppb
          (w.servo tb fun s => { s with big := big, rateBad := false })
      else if big.all (fun x => decide ((x - big.headD 0).natAbs ≤ thr)) then
        applySample v tb true o master l dm dl w
      else
        rejectSample v tb 1 o ppb
          (w.servo tb fun s => { s with big := [o], rateBad := false })
    else applySample v tb (s.st != 2) o master l dm dl w

/-! ### gPTP (R373-R376) -/

def gptpRunning (m : Module) : Bool := prmB m P.time_gptp_enable && managed m && fullService m

def gptpPort (m : Module) (p : Nat) : GptpPort := m.tc.ports.getD p {}

/-- 0 off, 1 master, 2 slave. -/
def gptpRole (m : Module) (p : Nat) : Nat :=
  if 10 ≤ p then 0
  else if prm m P.time_gptp_slave_port == p then 2
  else b2n (bit (prm m P.time_gptp_master_ports) p)

def gptpBlocked (m : Module) (p : Nat) : Bool :=
  prmB m P.eth_macsec_enable p && !bit (prm m P.eth_macsec_bypass p) 0

def linkDelay (m : Module) (p : Nat) : Option Nat :=
  if prm m P.time_gptp_pdelay_mode == 1 then some (prm m P.time_gptp_pdelay_static 0 p) else (gptpPort m p).delay

def asCapable (m : Module) (p : Nat) : Bool :=
  prmB m P.time_gptp_enable && gptpRole m p != 0 && (ethAt m p).up && !gptpBlocked m p
    && (match linkDelay m p with
      | some d => decide (d ≤ prm m P.time_gptp_pdelay_thresh)
      | none => false)

/-- Transmit capture of a gPTP event message whose timestamp point passes `d` ns of TB2 from now: TB0, TB1 and TB2 at that
edge, with the transmit correction (R369, R370). -/
def gptpCapture (v : View) (w : W) (port : Nat) (d : Int) : Nat × Nat × Nat :=
  let c : Int := (ethCorrection (prm w.m P.eth_phy_mode port)).2
  let t := (w.base v).time
  let on := fun (b : TimeBase) => moved b.full (roundDiv (d * b.incr.toNat) nominalIncr + c)
  (on t.tb0, on t.tb1, moved v.now (d + c))

/-- Send a Sync on every asCapable master port; `time` makes its time and its capture. -/
def sendSync (domain : Nat) (quality : List Nat) (time : Nat → W → W × Int × (Nat × Nat × Nat)) (w : W) : W :=
  w.each ((List.range 10).filter (fun p => gptpRole w.m p == 1 && asCapable w.m p)) fun p w =>
    let (w, t, c) := time p w
    (w.send (.gptp p domain 0 t c quality)).count C.gptp_sync_tx p

/-- Relay a received Sync (R375): its time at receipt, link delay included, and the residence time by TB2 times the
cumulative rate ratio. The residence, from receipt `l` to the transmit capture and at most 10 ms, is a free value. -/
def relaySync (v : View) (domain l : Nat) (t ppb : Int) (w : W) : W :=
  sendSync domain [] (fun p w =>
    let (w, res) := w.free v 10000001
    let late : Int := (l : Int) + res - v.now - (ethCorrection (prm w.m P.eth_phy_mode p)).2
    (w, t + res + roundDiv (res * ppb) 1000000000, gptpCapture v w p late)) w

/-- Clock quality of the grandmaster: indices 18 to 22 of the time block (R376). -/
def clockQuality (m : Module) : List Nat :=
  [P.time_gm_priority1, P.time_gm_clock_class, P.time_gm_clock_accuracy, P.time_gm_variance, P.time_gm_time_source].map (prm m ·)

/-- The grandmaster of a domain changes (Table 12-8). -/
def noteGm (v : View) (second : Bool) (domain gm : Nat) (w : W) : W :=
  if (if second then w.m.tc.gmB else w.m.tc.gm) == gm then w
  else (w.tc fun t => if second then { t with gmB := gm } else { t with gm := gm }).event v 0x0C04 0
    (u8 domain ++ zeros 7 ++ u64 gm)

/-- SYNC_RECEIVE: a Sync with its Follow_Up on the slave port (R375, R377); a grandmaster of domain 0 takes none of
that domain (R376). -/
def syncReceiveCore (g : GptpSync) (v : View) (w : W) : W :=
  if !gptpRunning w.m || gptpRole w.m g.port != 2 || !asCapable w.m g.port then w
  else
    let w := w.count C.gptp_sync_rx g.port
    let adj := rxAdjust w.m g.port
    let local0 : Int := v.time.tb0.full + adj
    let l := moved v.now adj
    let delay := (linkDelay w.m g.port).getD 0
    let master := g.master + delay
    let o := local0 - master
    let domainB := prm w.m P.time_gptp_domain_b
    if g.domain == 0 then
      let w := w.tc fun t => { t with ports := t.ports.put g.port { gptpPort w.m g.port with lastSync := l % 2 ^ 32 } }
      if prm w.m P.time_tb0_mode == 2 then w
      else
        let w := noteGm v false 0 g.gm w
        let w := if prm w.m P.time_tb0_mode == 1 then servoSample v 0 o master l w else w
        relaySync v 0 l master (g.rate + (gptpPort w.m g.port).ratioPpb) w
    else if domainB != 0 && g.domain == domainB then
      let w := noteGm v true g.domain g.gm w
      relaySync v g.domain l master (g.rate + (gptpPort w.m g.port).ratioPpb) (w.tc fun t => { t with offsetB := satS 32 o })
    else w

def execSyncReceive (g : GptpSync) (s : State) : Host.Outcome State Fault Refusal :=
  run (decide (g.port < 10)) (syncReceiveCore g) s

/-- GPTP_SYNC_SEND: the grandmaster's Sync, with the time of TB0 at its transmit capture (R370, R376). -/
def gptpSyncSendCore (v : View) (w : W) : W :=
  if gptpRunning w.m && prm w.m P.time_tb0_mode == 2 then
    sendSync 0 (clockQuality w.m) (fun p w => let c := gptpCapture v w p 0; (w, c.1, c)) w
  else w

def execGptpSyncSend (s : State) : Host.Outcome State Fault Refusal := run true gptpSyncSendCore s

/-- Whether a port is asCapable is known anew: `cause` says why it is not (R374). -/
def judgePort (v : View) (port : Nat) (cause : Option Nat) (delay : Nat) (w : W) : W :=
  let old := gptpPort w.m port
  let w := w.tc fun t => { t with ports := t.ports.put port { old with lost := cause.isSome } }
  match cause with
  | some c => if old.lost then w else w.event v 0x0C08 1 (u8 port ++ u8 c ++ zeros 2 ++ u32 delay)
  | none => w

/-- With gptp_pdelay_mode 1 the static delays decide, when a link comes up and when parameters change. -/
def judgeStatic (v : View) (ports : List Nat) (w : W) : W :=
  w.each ports fun p w =>
    if !gptpRunning w.m || gptpRole w.m p == 0 || !(ethAt w.m p).up || prm w.m P.time_gptp_pdelay_mode != 1 then w
    else
      let d := prm w.m P.time_gptp_pdelay_static 0 p
      judgePort v p (if gptpBlocked w.m p then some 1 else if prm w.m P.time_gptp_pdelay_thresh < d then some 0 else none) d w

/-- GPTP_PDELAY_EXCHANGE: a Pdelay_Req of a port and what came back: mean link delay in ns and neighbour rate ratio
in ppb, or nothing (R374). -/
def gptpPdelayExchangeCore (port : Nat) (answer : Option (Nat × Int)) (v : View) (w : W) : W :=
  if !gptpRunning w.m || gptpRole w.m port == 0 || !(ethAt w.m port).up || prm w.m P.time_gptp_pdelay_mode == 1 then w
  else
    let old := gptpPort w.m port
    let blocked := gptpBlocked w.m port
    let w := if blocked then w else (w.send (.gptp port 0 1 (gptpCapture v w port 0).1 (gptpCapture v w port 0))).count C.gptp_pdelay_tx port
    let thresh := prm w.m P.time_gptp_pdelay_thresh
    let d := match answer with | some a => a.1 | none => 0
    let cause : Option Nat :=
      if blocked then some 1 else match answer with
        | none => some 2
        | some a => if thresh < a.1 then some 0 else none
    let new : GptpPort := { old with
      delay := if blocked then none else answer.map Prod.fst
      ratioPpb := match answer with | some a => if blocked then old.ratioPpb else satS 32 a.2 | none => old.ratioPpb }
    judgePort v port cause d (w.tc fun t => { t with ports := t.ports.put port new })

def execGptpPdelayExchange (port : Nat) (answer : Option (Nat × Int)) (s : State) : Host.Outcome State Fault Refusal :=
  run (decide (port < 10)) (gptpPdelayExchangeCore port answer) s

def servoActive (m : Module) (tb : Nat) : Bool :=
  if tb == 0 then prm m P.time_tb0_mode == 1 else prm m P.time_tb1_mode == 2

def syncReceiptTimeoutCore (tb : Nat) (v : View) (w : W) : W :=
  let s := servoOf w.m tb
  if !managed w.m || !fullService w.m || !servoActive w.m tb || s.st != 2 then w
  else match s.prev with
    | some (_, l) => if v.expired (l + syncTimeoutNs w.m) then enterHoldover v tb w else w
    | none => w

def execSyncReceiptTimeout (tb : Nat) (s : State) : Host.Outcome State Fault Refusal :=
  run (decide (tb < 2)) (syncReceiptTimeoutCore tb) s

/-- HOLDOVER_LIMIT (R380): TB0 fails over, TB1 becomes FREE and holds its increment. No servo runs in FOOTPATH and SAFE
(R371) or while the firmware does not (R376). -/
def holdoverLimitCore (tb : Nat) (v : View) (w : W) : W :=
  let s := servoOf w.m tb
  if s.st != 3 || !managed w.m || !fullService w.m || !v.expired (s.heldAt + prmNs w.m P.time_holdover_limit) then w
  else if tb == 1 then setTbState v 1 0 (w.servo 1 fun s => { s with prev := none })
  else
    let src := prm w.m P.time_tb0_failover
    let tracking := prm w.m P.time_tb1_mode == 2 && w.m.tc.s1.st == 2
    let w := setTbState v 0 4 w
    let b := w.base v
    if src == 1 && tracking then
      let w := stepTb v 0 ((b.time.tb1.full : Int) + s.heldOffset - b.time.tb0.full) 2 w
      (setIncr 0 b.time.tb1.incr.toNat w).servo 0 fun s => { s with follow := true }
    else if src == 2 then setIncr 0 nominalIncr w
    else w

def execHoldoverLimit (tb : Nat) (s : State) : Host.Outcome State Fault Refusal :=
  run (decide (tb < 2)) (holdoverLimitCore tb) s

/-! ### Counting, checkpoints (R363, R372) -/

/-- MILESTONE_WRAP: the clock runs up to and over the next carry of a time base. -/
def milestoneWrapCore (tb : Nat) (v : View) (w : W) : W :=
  if clockRuns w.m then w.eff (.edges (v.time.get tb).toWrap) else w

def execMilestoneWrap (tb : Nat) (s : State) : Host.Outcome State Fault Refusal :=
  run (decide (tb < 4)) (milestoneWrapCore tb) s

/-- A checkpoint of TB0, TB1 and TB3 in MRAM. -/
def takeCheckpoint (v : View) (w : W) : W :=
  let b := w.base v
  (w.tc fun t => { t with checkpoint := (b.time.tb0.full, b.time.tb1.full, b.time.tb3.full)
                          checkpoints := t.checkpoints + 1 }).count C.tb3_checkpoint

def tb3CheckpointCore (v : View) (w : W) : W :=
  match w.m.mod.state with
  | .off | .sleep => w
  | _ => takeCheckpoint v w

def execTb3Checkpoint (s : State) : Host.Outcome State Fault Refusal := run true tb3CheckpointCore s

/-! ### TIME family (R385) -/

def timeEntry (t : TimeBase) (st epoch : Nat) (isSynced : Bool) : List Byte :=
  u32 t.n.toNat ++ u32 t.m.toNat ++ u8 st ++ u8 (b2n isSynced) ++ u8 epoch ++ u8 0

def timeReadBody : Body := fun _ _ v w =>
  let t := v.time
  let s0 := tb0State w.m
  let s1 := tb1State w.m
  answer w (timeEntry t.tb0 s0 w.m.tc.epoch (synced s0) ++ timeEntry t.tb1 s1 0 (synced s1)
    ++ timeEntry t.tb2 0 0 false ++ timeEntry t.tb3 0 0 false)

def opTimeRead : OpInfo := { code := 0x0801, role := 1 }
def execTimeRead (r : Request) (s : State) : Host.Outcome State Fault Refusal :=
  run true (request opTimeRead r timeReadBody) s

/-- R385: TIME_ADJUST and TIME_SET_RATE reach TB0 in modes 0 and 2, TB1 in modes 0 and 1 (steps only in 1). -/
def hostMayAdjust (m : Module) (tb : Nat) (isStep : Bool) : Bool :=
  if tb == 0 then prm m P.time_tb0_mode != 1
  else prm m P.time_tb1_mode == 0 || (prm m P.time_tb1_mode == 1 && isStep)

def nowOf (v : View) (w : W) (tb : Nat) : List Byte :=
  let t := (w.base v).time.get tb
  u32 t.n.toNat ++ u32 t.m.toNat

/-- The increment of a slew: the rate in force before any slew, and the offset spread over slew_window. -/
def slewIncr (m : Module) (rate : Nat) (off : Int) : Int :=
  rate + roundDiv ((nominalIncr : Int) * off) (prm m P.time_slew_window * 1000)

def timeAdjustBody : Body := need 12 fun _ p v w =>
  let tb := leAt p 0 1
  let mode := leAt p 1 1
  let off := signed 64 (leAt p 4 8)
  if 2 ≤ tb ∨ 2 ≤ mode then refuse w St.badParam
  else
    let rate := match (servoOf w.m tb).slew with
      | some (r, _) => r
      | none => (v.time.get tb).incr.toNat
    let i := slewIncr w.m rate off
    if mode == 1 && !incrValid i then refuse w St.outOfRange
    else if !hostMayAdjust w.m tb (mode == 0) then refuse w St.wrongState
    else
      let w := if mode == 0 then stepTb v tb off 1 w
        else (setIncr tb i.toNat w).servo tb fun s => { s with
          slew := some (rate, v.now + prmNs w.m P.time_slew_window) }
      answer w (nowOf v w tb)

def opTimeAdjust : OpInfo := { code := 0x0802, role := 2 }
def execTimeAdjust (r : Request) (s : State) : Host.Outcome State Fault Refusal :=
  run true (request opTimeAdjust r timeAdjustBody) s

def timeSetRateBody : Body := need 12 fun _ p _ w =>
  let tb := leAt p 0 1
  let i := leAt p 4 8
  if 2 ≤ tb then refuse w St.badParam
  else if !incrValid i then refuse w St.outOfRange
  else if !hostMayAdjust w.m tb false then refuse w St.wrongState
  else answer ((setIncr tb i w).servo tb fun s => { s with slew := none }) []

def opTimeSetRate : OpInfo := { code := 0x0803, role := 2 }
def execTimeSetRate (r : Request) (s : State) : Host.Outcome State Fault Refusal :=
  run true (request opTimeSetRate r timeSetRateBody) s

def timeTb3AdvanceBody : Body := need 8 fun _ p v w =>
  let a := leAt p 0 8
  if a = 0 ∨ prm w.m P.time_tb3_max_step < a then refuse w St.outOfRange
  else
    let w := w.eff (.tb3To (v.time.tb3.full + a))
    let t := (w.base v).time.tb3
    answer (w.event v 0x0C06 1 (u64 a ++ u32 t.m.toNat ++ u32 t.n.toNat)) (nowOf v w 3)

def opTimeTb3Advance : OpInfo := { code := 0x0804, role := 3 }
def execTimeTb3Advance (r : Request) (s : State) : Host.Outcome State Fault Refusal :=
  run true (request opTimeTb3Advance r timeTb3AdvanceBody) s

def timePortEntry (m : Module) (p : Nat) : List Byte :=
  let g := gptpPort m p
  u8 (if prmB m P.time_gptp_enable then gptpRole m p else 0) ++ u8 (b2n (asCapable m p)) ++ zeros 2
    ++ u32 ((linkDelay m p).getD 0) ++ s32 g.ratioPpb ++ u32 g.lastSync

def timePortStatusBody : Body := fun _ _ _ w =>
  answer w ((List.range 10).map (timePortEntry w.m)).flatten

def opTimePortStatus : OpInfo := { code := 0x0805, role := 1, rev := 2 }
def execTimePortStatus (r : Request) (s : State) : Host.Outcome State Fault Refusal :=
  run true (request opTimePortStatus r timePortStatusBody) s

/-- TIME_SLEW_END: a slew has run its window; the time base's rate returns. In UNMANAGED it keeps its last increment
(R376). -/
def timeSlewEndCore (tb : Nat) (v : View) (w : W) : W :=
  match (servoOf w.m tb).slew with
  | some (rate, until_) =>
    if v.expired until_ && managed w.m then (setIncr tb rate w).servo tb fun s => { s with slew := none } else w
  | none => w

def execTimeSlewEnd (tb : Nat) (s : State) : Host.Outcome State Fault Refusal :=
  run (decide (tb < 2)) (timeSlewEndCore tb) s

/-! ### Mode changes by parameter (R376, CTS modes) -/

/-- The module's own clockIdentity: its lowest MAC address as EUI-64. PRESUMED from IEEE 802.1AS. -/
def ownClock (m : Module) : Nat :=
  m.ident.macBase / 2 ^ 24 * 2 ^ 40 + 0xFFFE * 2 ^ 24 + m.ident.macBase % 2 ^ 24

/-- A new value of time.tb0_mode takes effect; `noteTbStates` reports the state it gives. -/
def tb0ModeSet (v : View) (mode : Nat) (w : W) : W :=
  let w := w.servo 0 fun s => { s with st := 0, prev := none, big := [], rejects := 0, follow := false, slew := none }
  if mode == 2 then noteGm v false 0 (ownClock w.m) w else w

/-- A new value of time.tb1_mode takes effect: FOLLOW_TB0 begins with offset 0. -/
def tb1ModeSet (v : View) (mode : Nat) (w : W) : W :=
  let w := w.servo 1 fun s => { s with st := 0, prev := none, big := [], rejects := 0, slew := none }
  if mode == 1 then
    let b := w.base v
    (w.eff (.step 1 ((b.time.tb0.full : Int) - b.time.tb1.full))).eff (.setIncr 1 b.time.tb0.incr.toNat)
  else w

end Sys2Proof.Machine
end

