-- ==== Sys2Proof/Machine/CanBase.lean ====
section
/-! DEFINITION. CAN controllers as a resource (spec/10, R300-R321): modes, formats, message objects and their loading,
error confinement, collisions, and the fast lane's report of an outcome (R255). -/

namespace Sys2Proof.Machine

/-! ### Rates and segments (R302, R303) -/

/-- Clock of the controllers in Hz. -/
def canClock : Nat := 80000000

/-- brp, tseg1, tseg2 and sjw of a phase: 0 nominal, 1 FD data, 2 XL data. -/
def phaseRows (ph : Nat) : PRef × PRef × PRef × PRef :=
  if ph == 0 then (P.can_nominal_brp, P.can_nominal_tseg1, P.can_nominal_tseg2, P.can_nominal_sjw)
  else if ph == 1 then (P.can_data_brp, P.can_data_tseg1, P.can_data_tseg2, P.can_data_sjw)
  else (P.can_xl_brp, P.can_xl_tseg1, P.can_xl_tseg2, P.can_xl_sjw)

/-- The rate that stored segments give, rounded down to a whole bit/s. -/
def phaseRate (get : PRef → Nat) (ph : Nat) : Nat :=
  let (b, t1, t2, _) := phaseRows ph
  canClock / (get b * (1 + get t1 + get t2))

/-- The sample point that stored segments give, in per mille, rounded half up. -/
def phasePoint (get : PRef → Nat) (ph : Nat) : Nat :=
  let (_, t1, t2, _) := phaseRows ph
  let n := 1 + get t1 + get t2
  (2000 * (1 + get t1) + n) / (2 * n)

def canRate (m : Module) (ch ph : Nat) : Nat := phaseRate (fun r => prm m r ch) ph

/-- Limits of the expert parameters: brp, tseg1, tseg2. -/
def phaseLimits (ph : Nat) : Nat × Nat × Nat :=
  if ph == 0 then (512, 256, 128) else if ph == 1 then (32, 32, 16) else (4, 32, 16)

/-- Segments tseg1 and tseg2 for one brp, where the derivation of R302 stops. -/
def segmentsAt (ph rate sp brp : Nat) : Option (Nat × Nat) :=
  let (_, m1, m2) := phaseLimits ph
  let n := canClock / (brp * rate)
  let t1 := (n * sp + 500) / 1000 - 1
  let t2 := n - 1 - t1
  if canClock % (brp * rate) = 0 ∧ n ≤ 1 + m1 + m2 ∧ 4 ≤ n ∧ t1 ≤ m1 ∧ 1 ≤ t2 ∧ t2 ≤ m2 then some (t1, t2) else none

/-- R302: the first brp that gives segments, with them. -/
def deriveSegments (ph rate sp : Nat) : Option (Nat × Nat × Nat) :=
  ((List.range (phaseLimits ph).1).map (· + 1)).findSome? (fun b => (segmentsAt ph rate sp b).map (fun t => (b, t)))

def footRecord (m : Module) (ch : Nat) : FootChan := atD m.mod.foot.chans ch {}

/-- The controllers run from the footpath table's channel records. -/
def onFootRecords (m : Module) : Bool := m.mod.state == .footpath || m.mod.state == .safe

/-- Segments in force of data phase `ph`: brp, tseg1 and tseg2, of the channel record in footpath service (R503, R504). -/
def segmentsOf (m : Module) (ch ph : Nat) : Nat × Nat × Nat :=
  if onFootRecords m then
    let l := if ph == 1 then (footRecord m ch).data else (footRecord m ch).xl
    (atD l 0 1, atD l 1 1, atD l 2 1)
  else
    let (b, t1, t2, _) := phaseRows ph
    (prm m b ch, prm m t1 ch, prm m t2 ch)

/-- R304: where the transmitter samples its own bits in data phase `ph`: whether from the measured loop delay on, and the
clock cycles after it. In footpath service tdc_mode is 1 (Table 18-5), and the offset derived (notes/assumptions/112.md). -/
def secondaryPoint (m : Module) (ch ph : Nat) : Option (Bool × Nat) :=
  let (b, t1, _) := segmentsOf m ch ph
  let foot := onFootRecords m
  let off := if foot then 0 else prm m P.can_tdc_offset ch
  match if foot then 1 else prm m P.can_tdc_mode ch with
  | 0 => none
  | k => some (k == 1, if off = 0 then b * (1 + t1) else off)

/-- The controller switches the transceiver to FAST mode for the data phase of an XL frame (R305). -/
def fastMode (m : Module) (ch : Nat) : Bool :=
  decide (ch < 8) && (onFootRecords m || prm m P.can_xl_transceiver_mode ch == 1)

/-- PWM symbols of FAST mode in clock cycles: short, long, offset (R305). -/
def pwmSymbols (m : Module) (ch : Nat) : Nat × Nat × Nat :=
  let x := if onFootRecords m then 0 else prm m P.can_xl_pwm ch
  let (p, t1, t2) := segmentsOf m ch 2
  let b := p * (1 + t1 + t2)
  if x = 0 then (b / 4, b - b / 4, 0) else (fld x 0 8, fld x 8 8, fld x 16 8)

/-- The data phase that an attempt to send a frame of this format will have. -/
def dataPhase (ch fmt : Nat) (brs : Bool) (w : W) : W :=
  if fmt == 4 then
    w.send (.canDataPhase ch (secondaryPoint w.m ch 2) (if fastMode w.m ch then some (pwmSymbols w.m ch) else none))
  else if (fmt == 2 || fmt == 3) && brs then w.send (.canDataPhase ch (secondaryPoint w.m ch 1) none)
  else w

/-! ### Modes and formats (R300, R306, R503, R504) -/

/-- Mode of Table 10-3: 0 OFF, 1 NORMAL, 2 LISTEN_ONLY, 3 RATE_DETECT. -/
def canMode (m : Module) (ch : Nat) : Nat :=
  if !powered m || portAsleep m (canPort ch) then 0
  else if onFootRecords m then (footRecord m ch).mode
  else if (canAt m ch).detect.isSome then 3
  else if (canAt m ch).listen then 2
  else prm m P.can_mode ch

def canFormats (m : Module) (ch : Nat) : Nat :=
  if onFootRecords m then (footRecord m ch).formats else prm m P.can_formats ch

def autoRetransmit (m : Module) (ch : Nat) : Bool :=
  if onFootRecords m then (footRecord m ch).autoRetransmit else prmB m P.can_auto_retransmit ch

/-- The channel sends: NORMAL, not bus-off, not held. -/
def canSends (m : Module) (ch : Nat) : Bool :=
  canMode m ch == 1 && (canAt m ch).conf != 2 && !portHeld m (canPort ch)

/-- A hold leaves the controller on its bus for the frames of the Borul pairs alone, whose traffic to and from I0
continues during any hold (R69; notes/assumptions/27.md). -/
def canPairsOnly (m : Module) (ch : Nat) : Bool := portHeld m (canPort ch)

/-- A frame format the channel is configured to send (R250, R300). -/
def formatSendable (m : Module) (ch fmt : Nat) : Bool :=
  match fmt with
  | 0 | 1 | 7 => true
  | 2 | 3 => bit (canFormats m ch) 0 && decide (ch < 20)
  | 4 => bit (canFormats m ch) 1 && decide (ch < 8)
  | _ => false

/-! ### Message objects (R310, Table 10-6) -/

def objAt (c : CanCh) (n : Nat) : MsgObj := (c.objs.get? n).getD {}

def W.obj (w : W) (ch n : Nat) (f : MsgObj → MsgObj) : W :=
  w.can ch fun c => { c with objs := c.objs.put n (f (objAt c n)) }

/-- Identifier word of Table 10-6. -/
def MsgObj.word (o : MsgObj) : Nat := o.id + b2n o.ide * 2 ^ 29 + b2n o.fdf * 2 ^ 30 + b2n o.brs * 2 ^ 31

/-- Format code of what an object holds. -/
def MsgObj.fmt (o : MsgObj) : Nat :=
  match o.copy with
  | some c => c.frame.fmt
  | none => if o.remote then 7 else b2n o.ide + 2 * b2n o.fdf

/-- First object of the pool part of queue `q`, and its size (R310). -/
def poolPart (m : Module) (ch q : Nat) : Nat × Nat :=
  let n := fun q => prm m P.egressCan_queue_objects (32 + ch) q
  let first := ((List.range 4).map (fun k => if q < k then n k else 0)).sum
  (first, min (n q) (64 - min first 64))

/-- Put a frame into an object and set it pending. -/
def fillObj (ch n : Nat) (o : MsgObj) (w : W) : W :=
  w.can ch fun c => { c with
    objs := c.objs.put n { o with st := 1, order := c.loads, kind := if n < 64 then 3 else if n < 96 then 4 else 2 }
    loads := c.loads + 1 }

/-- A frame of a module function waits for one of its objects, or takes a free one at once. -/
def sendFrom (ch lo hi : Nat) (o : MsgObj) (w : W) : W :=
  let c := canAt w.m ch
  let behind := c.backlog.any (fun x => x.1 == lo)
  match (List.range (hi + 1 - lo)).find? (fun k => (c.objs.get? (lo + k)).isNone) with
  | some k => if behind then w.can ch (fun c => { c with backlog := c.backlog ++ [(lo, hi, o)] })
    else fillObj ch (lo + k) o w
  | none => w.can ch fun c => { c with backlog := c.backlog ++ [(lo, hi, o)] }

/-- Waiting frames of module functions take the objects that are free. -/
def drainBacklog (ch : Nat) (w : W) : W :=
  let l := (canAt w.m ch).backlog
  (w.can ch fun c => { c with backlog := [] }).each l fun x w => sendFrom ch x.1 x.2.1 x.2.2 w

/-- A classic or FD data frame of a module function. -/
def funcObj (ide fdf brs : Bool) (id : Nat) (data : List Byte) : MsgObj :=
  { id := id, ide := ide, fdf := fdf, brs := fdf && brs, length := data.length, data := data }

/-- BRS of sent FD frames (R250). -/
def sentBrs (m : Module) (ch : Nat) : Bool := bit (canFormats m ch) 2

/-- The object that holds a queued copy. -/
def poolObj (m : Module) (ch q : Nat) (c : Copy) : MsgObj :=
  let f := c.frame
  let fd := f.fmt == 2 || f.fmt == 3
  { id := f.id, ide := if f.fmt == 7 then f.ide else f.fmt == 1 || f.fmt == 3, fdf := fd
    brs := fd && sentBrs m ch, remote := f.fmt == 7, collisions := b2n c.collided
    length := if f.fmt == 7 then f.dlc else if f.fmt == 4 then 64 else f.data.length
    data := f.data.take 64, copy := some c, queue := q }

/-- XL buffers in use (R310). -/
def xlBuffers (c : CanCh) : Nat := (c.objs.filter (fun p => p.2.fmt == 4 && p.2.copy.isSome)).length

/-- Load the next frame of a queue into a free object, past frames that must be discarded (R249, R250, R585). The
read may fail on tile `t`. -/
def loadPool (v : View) (ch q : Nat) (t : Option TileFault) : Nat → W → W
  | 0, w => w
  | k + 1, w =>
    let port := canPort ch
    let (first, n) := poolPart w.m ch q
    if !canSends w.m ch then w
    else match (List.range n).find? (fun i => ((canAt w.m ch).objs.get? (first + i)).isNone) with
      | none => w
      | some i =>
        match queueOf w.m port q with
        | [] => w
        | c :: r =>
          if !formatSendable w.m ch c.frame.fmt then
            loadPool v ch q t k ((dropRef v c.frame.seq (setQueue port q r w)).count C.egress_format_drop port)
          else if c.frame.fmt == 4 && decide (8 ≤ xlBuffers (canAt w.m ch)) then w
          else
            let w := corrected c.frame t w
            match readFault w.m c.frame t with
            | some x => dropRef v c.frame.seq (tileFail v 6 c.frame x (setQueue port q r w))
            | none => fillObj ch (first + i) (poolObj w.m ch q c) (setQueue port q r w)

/-- Give back a pool object's frame and settle the queue. -/
def releasePool (v : View) (ch n : Nat) (w : W) : W :=
  match ((canAt w.m ch).objs.get? n).bind MsgObj.copy with
  | some c => settle v (dropRef v c.frame.seq (emptyObj ch n w))
  | none => emptyObj ch n w

/-! ### Arbitration (R249) -/

/-- Bus order of identifiers: lower wins; a base identifier beats an extended one that begins with it. -/
def busRank (ide : Bool) (id : Nat) : Nat :=
  if ide then id / 2 ^ 18 * 2 ^ 19 + 2 ^ 18 + id % 2 ^ 18 else id * 2 ^ 19

def MsgObj.rank (o : MsgObj) : Nat := busRank o.ide o.id

/-- The pending object that goes first: identifier, then higher queue, then earlier loading. -/
def before (a b : MsgObj) : Bool :=
  if a.rank != b.rank then decide (a.rank < b.rank)
  else if a.queue != b.queue then decide (b.queue < a.queue)
  else decide (a.order < b.order)

def nextObj (c : CanCh) : Option (Nat × MsgObj) :=
  (c.objs.filter (fun p => p.2.st == 1)).foldl (fun best p => match best with
    | none => some p
    | some b => if before p.2 b.2 then some p else best) none

/-! ### Error confinement (R317, R260) -/

def confBits (c : CanCh) : List Byte := u8 (min c.tec 255) ++ u8 (min c.rec_ 255)

/-- Suspension of the fast lane on an output by its transmit error counter (R260). -/
def checkSuspension (v : View) (ch : Nat) (w : W) : W :=
  let c := canAt w.m ch
  if !c.suspended && decide (96 ≤ c.tec) then
    ((w.can ch fun c => { c with suspended := true }).count C.fl_suspended ch).event v 0x0802 1
      (u8 (canPort ch) ++ u8 (min c.tec 255) ++ zeros 2)
  else if c.suspended && decide (c.tec < 32) then
    (w.can ch fun c => { c with suspended := false }).event v 0x0803 0 (u8 (canPort ch) ++ u8 (min c.tec 255) ++ zeros 2)
  else w

def passiveEvent (v : View) (ch : Nat) (entered : Bool) (w : W) : W :=
  let c := canAt w.m ch
  w.limited v 0x0A01 1 ch (prmNs w.m P.can_error_event_interval ch) fun _ =>
    u8 (canPort ch) ++ u8 (b2n entered) ++ confBits c

/-- The confinement state after a change of the counters. -/
def checkConfinement (v : View) (ch : Nat) (w : W) : W :=
  let c := canAt w.m ch
  let w := checkSuspension v ch w
  if c.conf == 2 then w
  else if 256 ≤ c.tec then
    ((w.can ch fun c => { c with conf := 2, busOffAt := v.now }).count C.can_bus_off ch).event v 0x0A02 2
      (u8 (canPort ch) ++ u8 (c.lastError % 8) ++ zeros 2)
  else if c.conf == 0 && (decide (128 ≤ c.tec) || decide (128 ≤ c.rec_)) then
    passiveEvent v ch true ((w.can ch fun c => { c with conf := 1 }).count C.can_error_passive ch)
  else if c.conf == 1 && decide (c.tec < 128 ∧ c.rec_ < 128) then
    passiveEvent v ch false (w.can ch fun c => { c with conf := 0 })
  else w

def setCounters (v : View) (ch tec rec : Nat) (w : W) : W :=
  checkConfinement v ch (w.can ch fun c => { c with tec := tec, rec_ := rec })

/-- Code of can.last_error (Table 10-10, index 39). -/
def errorCode : CanError → Nat
  | .stuff => 1 | .form => 2 | .ack => 3 | .bit1 => 4 | .bit0 => 5 | .crc => 6

/-! ### The fast lane's outcomes (R255, R207) -/

inductive FlOutcome where
  | sent
  | fallback (arbitration : Bool)
  | aborted
  deriving DecidableEq, Repr

def W.flFrame (w : W) (seq : Nat) (f : FlFrame → FlFrame) : W :=
  w.fab fun x => match x.fl.get? seq with
    | some y => { x with fl := x.fl.put seq (f y) }
    | none => x

/-- An output reports its one outcome of a frame. -/
def flOutcome (v : View) (seq port : Nat) (o : FlOutcome) (w : W) : W :=
  match w.m.fab.fl.get? seq with
  | none => w
  | some x =>
    if !x.open_.contains port then w
    else
      let w := match o with
        | .sent =>
          let w := w.count C.fl_sent port
          if isCanPort port && x.buffered.contains port then w.count C.fl_buffered port else w
        | .fallback true => w.count C.fl_fallback_arbitration port
        | .fallback false => w.count C.fl_fallback_other port
        | .aborted => w.count C.fl_abort_input port
      let w := if o == .sent then w.flow fun x => { x with
          layby := x.layby.map (fun h => if h.frame.seq == seq then { h with flSent := true } else h) } else w
      let w := w.flFrame seq fun x => { x with
        open_ := x.open_.filter (· != port)
        sent := x.sent || o == .sent
        fallback := match o, x.ready with
          | .fallback _, none => x.fallback ++ [port]
          | _, _ => x.fallback }
      let w := match x.ready with
        | none => w
        | some c => match o with
          | .fallback _ => settle v (enqueueCopy v port { c with collided := x.collided.contains port } w)
          | _ => settle v (dropRef v seq w)
      if (x.ready.isSome || x.gone) && (x.open_.filter (· != port)).isEmpty then w.fab fun y => { y with fl := y.fl.erase seq }
      else w

/-- The frame an output's cut-through transmitter serves. -/
def served (m : Module) (port : Nat) : Option (Nat × FlFrame) := m.fab.fl.find? (fun p => p.2.open_.contains port)

/-! ### Collision table (R321) -/

def collWord (o : MsgObj) : Nat := o.id + b2n o.ide * 2 ^ 29

/-- Note a collision of an identifier, replacing the entry whose last collision is oldest when 32 are in use. -/
def noteCollision (v : View) (ch : Nat) (o : MsgObj) (w : W) : W :=
  let t := (w.base v).time.tb0
  let c := canAt w.m ch
  let id := collWord o
  let stamp := fun (e : CollEntry) => { e with
    total := e.total + 1, consecutive := min (e.consecutive + 1) 65535, ms := t.m.toNat % 65536, ts := t.n.toNat
    at_ := t.full }
  if c.colls.any (fun e => e.id == id) then
    w.can ch fun c => { c with colls := c.colls.map (fun e => if e.id == id then stamp e else e) }
  else
    let fresh := stamp ⟨id, 0, 0, 0, 0, 0⟩
    if c.colls.length < 32 then w.can ch fun c => { c with colls := c.colls ++ [fresh] }
    else
      let oldest := c.colls.foldl (fun (a : Nat) e => min a e.at_) (2 ^ 64)
      let k := c.colls.findIdx (fun e => e.at_ == oldest)
      (w.can ch fun c => { c with colls := c.colls.set k fresh }).count C.can_collision_table_replace ch

def clearConsecutive (ch : Nat) (o : MsgObj) (w : W) : W :=
  w.can ch fun c => { c with
    colls := c.colls.map (fun e => if e.id == collWord o then { e with consecutive := 0 } else e) }

/-- A collision of an object's attempt (R319, R320). An expert object that was cancelled keeps its field, so that its
next collision stops it again (notes/assumptions/23.md). -/
def objCollision (v : View) (ch n : Nat) (w : W) : W :=
  let o := objAt (canAt w.m ch) n
  let k := min (o.collisions + 1) 255
  let w := noteCollision v ch o (w.count C.can_collision ch)
  let w := w.obj ch n fun o => { o with collisions := k }
  if 16 ≤ k then
    ((w.obj ch n fun o => { o with st := 3, since := v.now }).count C.can_collision_stop ch).event v 0x0A04 1
      (u8 (canPort ch) ++ u8 n ++ zeros 2 ++ u32 o.word)
  else w

/-- The time format of a capture in an object: TB0. -/
def stampObj (ch n t : Nat) (w : W) : W := w.obj ch n fun o => { o with ms := t / 2 ^ 32 % 65536, ts := t % 2 ^ 32 }

end Sys2Proof.Machine
end

