-- ==== Sys2Proof/Machine/IsoTp.lean ====
section
/-! DEFINITION. ISO 15765-2 transfers of the Borul pairs (R15, R18, R19) and of the DoIP diagnostic channels (R357):
segmentation, flow control, reassembly and timeouts. -/

namespace Sys2Proof.Machine

/-! ### Frames -/

/-- Data length of a frame of this format: 0 classic 11-bit, 1 classic 29-bit, 2 FD 11-bit, 3 FD 29-bit. -/
def tpLen (fmt : Nat) : Nat := if 2 ≤ fmt then 64 else 8

/-- Pad to full length with 0xAA (R18). -/
def tpPad (fmt : Nat) (bs : List Byte) : List Byte := bs ++ List.replicate (tpLen fmt - bs.length) 0xAA

/-- Longest single frame. -/
def tpSingle (fmt : Nat) : Nat := if 2 ≤ fmt then 62 else 7

def singleFrame (fmt : Nat) (d : List Byte) : List Byte :=
  tpPad fmt (if d.length ≤ 7 then u8 d.length ++ d else u8 0 ++ u8 d.length ++ d)

/-- PCI of a first frame; messages above 4,095 bytes use the 32-bit length. -/
def firstPci (n : Nat) : List Byte :=
  if n ≤ 4095 then u8 (0x10 + n / 256) ++ u8 n else u8 0x10 ++ u8 0 ++ beBytes 4 n

def tpOwnerFirst : TpOwner → Nat
  | .pair n => 64 + n
  | .diag _ => 77

def tpOwnerLast : TpOwner → Nat
  | .pair n => 64 + n
  | .diag _ => 84

/-- Hand a frame of a transfer to its message objects. -/
def tpSend (m : Module) (o : TpOwner) (ch fmt id : Nat) (bs : List Byte) (w : W) : W :=
  let fd := decide (2 ≤ fmt)
  sendFrom ch (tpOwnerFirst o) (tpOwnerLast o) (funcObj (fmt % 2 == 1) fd (sentBrs m ch) id bs) w

def tpSpan : Nat := 1000000000

/-! ### Transfers -/

def sameTp (a b : IsoTp) : Bool := a.owner == b.owner && a.sending == b.sending && a.ch == b.ch && a.txId == b.txId

def setTp (t : IsoTp) (w : W) : W :=
  w.borul fun b => { b with isotp := b.isotp.map (fun x => if sameTp x t then t else x) }

def dropTp (t : IsoTp) (w : W) : W := w.borul fun b => { b with isotp := b.isotp.filter (fun x => !sameTp x t) }

def addTp (t : IsoTp) (w : W) : W :=
  w.borul fun b => { b with isotp := b.isotp.filter (fun x => !sameTp x t) ++ [t] }

/-- Begin a transmission: a single frame, or a first frame and the wait for its flow control. -/
def startTp (v : View) (o : TpOwner) (ch fmt txId rxId : Nat) (d : List Byte) (w : W) : W :=
  if d.length ≤ tpSingle fmt then tpSend w.m o ch fmt txId (singleFrame fmt d) w
  else
    let pci := firstPci d.length
    let n := tpLen fmt - pci.length
    let t : IsoTp := { owner := o, sending := true, ch := ch, fmt := fmt, txId := txId, rxId := rxId, data := d
                       total := d.length, done := n, nextSn := 1, block := 0, stmin := 0, waitFc := true
                       deadline := v.now + tpSpan, inFlight := true }
    tpSend w.m o ch fmt txId (pci ++ d.take n) (addTp t w)

/-- Send the next consecutive frame. -/
def nextCf (t : IsoTp) (w : W) : W :=
  let n := tpLen t.fmt - 1
  let bs := u8 (0x20 + t.nextSn % 16) ++ slice t.data t.done n
  setTp { t with done := t.done + n, nextSn := (t.nextSn + 1) % 16, block := t.block - 1, inFlight := true
                 waitFc := t.block == 1 && decide (t.done + n < t.total), gap := none }
    (tpSend w.m t.owner t.ch t.fmt t.txId (tpPad t.fmt bs) w)

/-- A DoIP message (ISO 13400-2): version 2, payload type, length, payload. -/
def doipMsg (type : Nat) (p : List Byte) : List Byte := [0x02, 0xFD] ++ beBytes 2 type ++ beBytes 4 p.length ++ p

/-- Negative acknowledgement of a diagnostic message (R358). -/
def doipNack (conn target tester code : Nat) (w : W) : W :=
  (w.send (.doip conn (doipMsg 0x8003 (beBytes 2 target ++ beBytes 2 tester ++ u8 code)))).count C.doip_nack 10

/-- The ECU address a diagnostic transfer talks to (R357). -/
def diagTarget (t : IsoTp) : Nat := 0x4000 + 256 * t.ch + t.txId / 256 % 256

/-- The open diagnostic channel of a tester's low byte (R358). -/
def diagChannel (m : Module) (s : Nat) : Option DoipConn := m.doip.conns.find? (fun c => c.tester % 256 == s)

/-- The tester of a diagnostic transfer. -/
def testerOf (m : Module) (t : IsoTp) : Nat :=
  match diagChannel m (t.txId % 256) with
  | some c => c.tester
  | none => 0

/-- A transmission ends by timeout or abort. -/
def failTp (t : IsoTp) (w : W) : W :=
  let w := dropTp t w
  match t.owner with
  | .pair _ => w
  | .diag n => if t.sending then doipNack n (diagTarget t) (testerOf w.m t) 8 w else w

/-- The next message of a pair starts when its own transmission and objects are idle (R19). -/
def startPair (v : View) (n : Nat) (w : W) : W :=
  match w.m.borul.pairQueue.find? (fun x => x.1 == n) with
  | none => w
  | some x =>
    let p := x.2.1
    let busy := w.m.borul.isotp.any (fun t => t.owner == .pair n && t.sending)
      || ((canAt w.m p.ch).objs.get? (64 + n)).isSome
    if busy || decide (22 ≤ p.ch) then w
    else startTp v (.pair n) p.ch p.fmt p.txId p.rxId x.2.2 (w.borul fun b => { b with pairQueue := b.pairQueue.erase x })

/-- A frame of a module object has been sent: its transfer goes on. -/
def tpSent (v : View) (ch n : Nat) (o : MsgObj) (w : W) : W :=
  if !((64 ≤ n ∧ n < 66) ∨ (77 ≤ n ∧ n < 85)) then w
  else if leAt o.data 0 1 / 16 == 3 then w
  else match w.m.borul.isotp.find? (fun t => t.sending && t.ch == ch && t.txId == o.id && t.inFlight) with
    | none => if n < 66 then startPair v (n - 64) w else w
    | some t =>
      if t.total ≤ t.done then
        let w := dropTp t w
        if n < 66 then startPair v (n - 64) w else w
      else if t.waitFc then setTp { t with inFlight := false, deadline := v.now + tpSpan } w
      else if t.stmin = 0 then nextCf { t with inFlight := false } w
      else setTp { t with inFlight := false, gap := some (v.now + t.stmin) } w

/-- STmin in nanoseconds: 0 to 127 ms, or 100 to 900 µs; a reserved value counts as 127 ms. -/
def stminNs (b : Nat) : Nat :=
  if b ≤ 0x7F then b * 1000000 else if 0xF1 ≤ b ∧ b ≤ 0xF9 then (b - 0xF0) * 100000 else 127000000

/-- A flow control for a transmission, of arrival time `at_`; one that is late by it ends it (R18, R42). -/
def gotFc (at_ : Nat) (t : IsoTp) (bs : List Byte) (w : W) : W :=
  let fs := leAt bs 0 1 % 16
  if !t.waitFc then w
  else if t.deadline ≤ at_ then failTp t w
  else if fs == 1 then setTp { t with deadline := at_ + tpSpan } w
  else if fs == 0 then
    nextCf { t with waitFc := false, inFlight := false, block := leAt bs 1 1, stmin := stminNs (leAt bs 2 1) } w
  else failTp t w

/-- Send a flow control with this flow status (R18). -/
def sendFc (t : IsoTp) (fs : Nat) (w : W) : W :=
  tpSend w.m t.owner t.ch t.fmt t.txId (tpPad t.fmt (u8 (0x30 + fs) ++ u8 t.ownBs ++ u8 t.ownSt)) w

/-- A whole message has arrived: a Borul packet, or a diagnostic response for its tester. -/
def tpDone (t : IsoTp) (d : List Byte) (w : W) : W :=
  match t.owner with
  | .pair n => w.send (.delivered (.isotp n) d)
  | .diag n =>
    w.send (.doip n (doipMsg 0x8001 (beBytes 2 (0x4000 + 256 * t.ch + t.rxId % 256) ++ beBytes 2 (testerOf w.m t) ++ d)))

/-- The transmission that a flow control from this peer belongs to: its response identifier may have changed since (R54). -/
def sendingTo (m : Module) (peer : IsoTp) : Option IsoTp :=
  m.borul.isotp.find? (fun t => t.owner == peer.owner && t.sending && t.ch == peer.ch && t.rxId == peer.rxId)

/-- One received frame of a peer (R18), of TB2 arrival time `at_`: owner, channel, format and identifiers as in a fresh
transfer record. -/
def tpReceive (at_ : Nat) (peer : IsoTp) (bs : List Byte) (w : W) : W :=
  let kind := leAt bs 0 1 / 16
  let lo := leAt bs 0 1 % 16
  let rx := w.m.borul.isotp.find? (fun t => sameTp t { peer with sending := false })
  match kind with
  | 0 =>
    let w := match rx with | some t => dropTp t w | none => w
    let d := if lo == 0 && decide (8 < bs.length) then slice bs 2 (leAt bs 1 1) else slice bs 1 lo
    if d.isEmpty then w else tpDone peer d w
  | 1 =>
    let w := match rx with | some t => dropTp t w | none => w
    let short := lo * 256 + leAt bs 1 1
    let total := if short == 0 then beAt bs 2 4 else short
    let d := bs.drop (if short == 0 then 6 else 2)
    if 4095 < total then sendFc peer 2 w
    else
      let t := { peer with sending := false, data := d.take total, total := total, done := d.length, nextSn := 1
                           block := peer.ownBs, deadline := at_ + tpSpan }
      sendFc t 0 (addTp t w)
  | 2 =>
    match rx with
    | none => w
    | some t =>
      if decide (t.deadline ≤ at_) || lo != t.nextSn then dropTp t w
      else
        let d := (t.data ++ bs.drop 1).take t.total
        if t.total ≤ d.length then tpDone t d (dropTp t w)
        else
          let t' := { t with data := d, nextSn := (t.nextSn + 1) % 16, deadline := at_ + tpSpan
                             block := if t.block == 1 then t.ownBs else t.block - 1 }
          if t.block == 1 then sendFc t' 0 (setTp t' w) else setTp t' w
  | 3 =>
    match sendingTo w.m peer with
    | some t => gotFc at_ t bs w
    | none => w
  | _ => w

/-- A transfer record that only names its peer. -/
def peerOf (o : TpOwner) (p : Pair) : IsoTp :=
  { owner := o, sending := false, ch := p.ch, fmt := p.fmt, txId := p.txId, rxId := p.rxId, data := [], total := 0
    done := 0, ownBs := p.bs, ownSt := p.stmin, nextSn := 0, block := 0, stmin := 0, waitFc := false, deadline := 0 }

/-- The settings under which a pair receives: those of the sessions that were opened over it, and its present ones
(R54). -/
def pairsInForce (m : Module) (n : Nat) : List Pair :=
  (m.borul.slots.filter (fun s => s.st != .free && s.src == .isotp n)).map (fun s => s.via.pair)
    ++ (if pairEnabled m n then [pairNow m n] else [])

/-- The pair a received frame belongs to, and its settings (R15, R503). -/
def pairOfFrame (m : Module) (ch fmt id : Nat) : Option (Nat × Pair) :=
  (List.range 2).findSome? (fun n => ((pairsInForce m n).find? (fun p => p.ch == ch && p.fmt == fmt && p.rxId == id)).map
    (fun p => (n, p)))

/-- A frame of the peer that was stamped before the deadline is still arriving (R42). -/
def peerInTime (m : Module) (t : IsoTp) : Bool :=
  match m.ing.arriving.get? (canPort t.ch) with
  | some a => a.head.fmt == t.fmt && a.head.id == t.rxId && decide (a.tb2 < t.deadline)
  | none => false

/-- ISOTP_TIMEOUT: transfer `k` waits too long for a consecutive frame or a flow control (R18, R42). -/
def isotpTimeoutCore (k : Nat) (v : View) (w : W) : W :=
  match w.m.borul.isotp[k]? with
  | none => w
  | some t =>
    if (!t.sending || (t.waitFc && !t.inFlight)) && v.expired t.deadline && !peerInTime w.m t then failTp t w else w

def execIsotpTimeout (k : Nat) (s : State) : Host.Outcome State Fault Refusal := run true (isotpTimeoutCore k) s

/-- ISOTP_STMIN_EXPIRY: the separation time of transfer `k` has passed and the next frame is loaded. -/
def isotpStminExpiryCore (k : Nat) (v : View) (w : W) : W :=
  match w.m.borul.isotp[k]? with
  | none => w
  | some t => match t.gap with
    | none => w
    | some g => if g ≤ v.now then nextCf t w else w

def execIsotpStminExpiry (k : Nat) (s : State) : Host.Outcome State Fault Refusal := run true (isotpStminExpiryCore k) s

end Sys2Proof.Machine
end

