-- ==== Sys2Proof/Machine/J1939.lean ====
section
/-! DEFINITION. The J1939 claim tracker and transport unit (spec/04, R107-R117; spec/10, R322-R324). -/

namespace Sys2Proof.Machine

/-! ### Channel modes and identifiers -/

/-- j1939_mode of a CAN channel (Table 04-14). -/
def jMode (m : Module) (ch : Nat) : Nat := prm m P.ingress_port_mode 0 (canPort ch) / 16 % 4

def jPf (id : Nat) : Nat := id / 2 ^ 16 % 256
def jPs (id : Nat) : Nat := id / 2 ^ 8 % 256
def jSa (id : Nat) : Nat := id % 256
def isExt (fmt : Nat) : Bool := fmt == 1 || fmt == 3

/-- Address claim PGN 0xEE00 (R110). -/
def isClaimId (fmt id : Nat) : Bool := isExt fmt && jPf id == 0xEE && id / 2 ^ 24 % 4 == 0

/-! ### Claim map and NAME table (R107-R109) -/

def claimKey (ch a : Nat) : Nat := 256 * ch + a

def nameEntry (m : Module) (i : Nat) : NameEntry := m.ing.names.getD i {}

/-- Set or clear map[A], noting the old value for frames still in parse; `seq` is the causing frame's order. -/
def setClaim (seq ch a : Nat) (r : Option Nat) (w : W) : W :=
  w.ing fun x => { x with
    claims := match r with
      | some i => x.claims.put (claimKey ch a) i
      | none => x.claims.erase (claimKey ch a)
    claimLog := x.claimLog ++ [(seq, claimKey ch a, x.claims.get? (claimKey ch a))] }

/-- The binding of an address in force when the frame of order `seq` arrived (R110). -/
def bindingAt (m : Module) (seq ch a : Nat) : Option Nat :=
  match m.ing.claimLog.find? (fun e => decide (seq < e.1) && e.2.1 == claimKey ch a) with
  | some e => e.2.2
  | none => m.ing.claims.get? (claimKey ch a)

/-- Bindings to the NAME entries that `gone` selects end without a claim frame, by a change of the table: frames that have
arrived before it keep them (R110). -/
def endBindings (gone : Nat → Bool) (w : W) : W :=
  w.each (w.m.ing.claims.filter (fun p => gone p.2)) fun p w =>
    setClaim (2 * w.m.ing.seq + 1) (p.1 / 256) (p.1 % 256) none w

/-- Log entries that no frame in parse, in a DCQ, in the injection queue or still arriving can need. -/
def pruneClaims (w : W) : W :=
  let live := w.m.ing.ctxs.filterMap (fun c => c.frame.map Frame.seq)
    ++ w.m.ing.dcq.flatMap (fun p => p.2.map Frame.seq) ++ w.m.ing.arriving.map (fun p => p.2.seq)
    ++ w.m.ing.inject.map Frame.seq
  w.ing fun x => { x with claimLog := x.claimLog.filter (fun e => live.any (fun q => decide (q < e.1))) }

def W.name (w : W) (i : Nat) (f : NameEntry → NameEntry) : W :=
  w.ing fun x => { x with names := x.names.set {} i (f (x.names.getD i {})) }

/-- The entry of a NAME on a channel. -/
def findName (m : Module) (ch name : Nat) : Option Nat :=
  (m.ing.names.find? (fun p => p.2.valid && p.2.name == name && p.2.channel == ch)).map Prod.fst

/-- The entry of a NAME, allotted when it has none; none when the table is full (R108, R109). -/
def takeName (v : View) (ch name : Nat) (own : Bool) (w : W) : W × Option Nat :=
  match findName w.m ch name with
  | some i => (if own then w.name i (fun e => { e with own := true }) else w, some i)
  | none =>
    match (List.range 1024).find? (fun i => !(nameEntry w.m i).valid) with
    | some i => (w.name i fun e => { e with name := name, valid := true, bound := false, own := own, channel := ch
                                            claimed := false, address := 255 }, some i)
    | none => ((w.count C.name_table_full).event v 0x0407 1 (u8 ch ++ zeros 7 ++ u64 name), none)

/-- Event 0x0405: map[A] has changed. -/
def addressClaimed (v : View) (ch a ref name : Nat) (w : W) : W :=
  w.event v 0x0405 0 (u8 ch ++ u8 a ++ zeros 2 ++ u16 ref ++ zeros 2 ++ u64 name)

/-- Event 0x0406: a NAME has lost its address or cannot claim one. -/
def addressLost (v : View) (ch old cause ref name : Nat) (w : W) : W :=
  w.event v 0x0406 1 (u8 ch ++ u8 old ++ u8 cause ++ u8 0 ++ u16 ref ++ zeros 2 ++ u64 name)

/-- Free every address of the channel that the map gives to an entry, but not `keep`. -/
def freeAddress (seq ch i keep : Nat) (w : W) : W :=
  w.each (w.m.ing.claims.filter (fun p => p.2 == i && p.1 / 256 == ch && p.1 % 256 != keep)) fun p w =>
    setClaim seq ch (p.1 % 256) none w

/-- Address Claimed for A by N (R108). A contest that N loses leaves the map unchanged, and is applied all the same: it
sets N's claim_time (R107). Answers the entry that lost its address in the contest, if any. -/
def applyClaim (v : View) (seq ch name a time : Nat) (own : Bool) (w : W) : W × Option Nat :=
  let (w, ref) := takeName v ch name own w
  let holder := w.m.ing.claims.get? (claimKey ch a)
  let lose := fun (i : Nat) (w : W) =>
    let e := nameEntry w.m i
    addressLost v ch e.address 0 i e.name (w.name i fun e => { e with address := 255, claimed := false })
  let win := fun (w : W) =>
    match ref with
    | none => if holder.isSome then addressClaimed v ch a 0x3FF name (setClaim seq ch a none w) else w
    | some i =>
      let changed := holder != some i
      let w := freeAddress seq ch i a w
      let w := if changed then setClaim seq ch a (some i) w else w
      let w := w.name i fun e => { e with address := a, claimed := true, claimTime := time }
      if changed then addressClaimed v ch a i name w else w
  match holder with
  | none => (win w, none)
  | some j =>
    if ref == some j then (win w, none)
    else if name < (nameEntry w.m j).name then (win (lose j w), some j)
    else match ref with
      | none => (addressLost v ch 255 0 0x3FF name w, none)
      | some i => (lose i (w.name i fun e => { e with claimTime := time }), some i)

/-- Cannot Claim from N (R108, R109). One from a NAME that has no entry changes nothing and raises no event (DESIGN CHOICE,
notes/assumptions/110.md). -/
def applyCannot (v : View) (seq ch name time : Nat) (w : W) : W :=
  match findName w.m ch name with
  | none => w
  | some i =>
    let e := nameEntry w.m i
    let w := freeAddress seq ch i 256 w
    let w := addressLost v ch e.address 1 i name w
    if e.bound || e.own then w.name i fun e => { e with address := 254, claimed := false, claimTime := time }
    else w.name i fun _ => {}

/-! ### The module's own NAMEs (R322-R324) -/

/-- Address Claimed or Cannot Claim from `sa`, priority 6 (SAE J1939-81). -/
def sendClaim (ch sa : Nat) (w : W) : W :=
  sendFrom ch 66 66 (funcObj true false false (0x18EEFF00 + sa) (u64 (prm w.m P.can_own_name ch))) w

def ownClaimReady (m : Module) (ch : Nat) : Bool :=
  decide (1 ≤ jMode m ch) && prmB m P.can_claim_enable ch && prm m P.can_own_name ch != 0 && canMode m ch == 1
    && (m.mod.state == .run || m.mod.state == .unmanaged)

/-- The addresses of the range above the lost one, wrapping within it (R323). -/
def rangeFrom (lo hi lost : Nat) : List Nat :=
  let all := (List.range (hi + 1 - lo)).map (fun k => lo + k)
  all.filter (fun a => decide (lost < a)) ++ all.filter (fun a => decide (a < lost))

/-- The own NAME has lost its address: another of its range, or a Cannot Claim after a random delay (R323). -/
def ownLost (v : View) (seq ch lost : Nat) (w : W) : W :=
  let r := prm w.m P.can_address_range ch
  let free := if r == 0xFFFF then none
    else (rangeFrom (r % 256) (r / 256) lost).find? (fun a => (w.m.ing.claims.get? (claimKey ch a)).isNone)
  match free with
  | some a =>
    let name := prm w.m P.can_own_name ch
    let (w, _) := applyClaim v seq ch name a (w.base v).time.tb0.n.toNat true w
    let w := w.can ch fun c => { c with ownAddr := a, claimSof := none, claimed := false, cannot := none }
    (sendClaim ch a w).event v 0x0A09 0 (u8 (canPort ch) ++ u8 a ++ u8 lost ++ u8 0 ++ u64 name)
  | none =>
    let ms := (Config.random (w.base v).fresh).toNat % 154
    (w.can ch fun c => { c with
      ownAddr := 255, claimSof := none, claimed := false, cannot := some (lost, v.now + ms * 1000000) }).eff .draw

/-- A contest has been decided; the loser may be the own NAME. -/
def afterContest (v : View) (seq ch : Nat) (loser : Option Nat) (lost : Nat) (w : W) : W :=
  match loser with
  | some i => if (nameEntry w.m i).own then ownLost v seq ch lost w else w
  | none => w

/-- Claim the configured address at a start of the channel or after bus-off recovery (R322): the claim is sent, and one
that the claim map already decides against it goes on as R323 says. -/
def claimOwn (v : View) (ch : Nat) (w : W) : W :=
  if !ownClaimReady w.m ch then w
  else
    let a := prm w.m P.can_own_address ch
    let name := prm w.m P.can_own_name ch
    if 253 < a then w
    else
      let seq := 2 * w.m.ing.seq + 1
      let w := w.can ch fun c => { c with ownAddr := a, claimSof := none, claimed := false, cannot := none }
      let (w, loser) := applyClaim v seq ch name a (w.base v).time.tb0.n.toNat true w
      let w := sendClaim ch a w
      if loser.isSome && loser == findName w.m ch name then ownLost v seq ch a w else w

/-- Full TB2 time of a frame's arrival. -/
def arrivedAt (v : View) (f : Frame) : Nat := extend32 v.time.tb2 f.tb2

/-- A frame of a port that `p` selects by its format and identifier, timestamped before `deadline`, is still on its way:
arriving, in its DCQ, or in a context that `c` selects. -/
def onItsWay (m : Module) (v : View) (port deadline : Nat) (c : ParseCtx → Bool) (p : Nat → Nat → Bool) : Bool :=
  let early := fun (f : Frame) => f.port == port && p f.fmt f.id && decide (arrivedAt v f < deadline)
  (match m.ing.arriving.get? port with
    | some a => p a.head.fmt a.head.id && decide (a.tb2 < deadline)
    | none => false)
    || (m.ing.dcq.getD port []).any early
    || m.ing.ctxs.any (fun x => c x && (match x.frame with | some f => early f | none => false))

/-- A claim of the own address timestamped before `deadline` has not reached the claim tracker yet (R322, R42). -/
def contestOnTheWay (m : Module) (v : View) (ch deadline : Nat) : Bool :=
  onItsWay m v (canPort ch) deadline (fun _ => true) fun fmt id => isClaimId fmt id && jSa id == (canAt m ch).ownAddr

/-- ADDRESS_CLAIM_CONFIRM (R322): 250 ms after the SOF of the own claim, with no contest lost. -/
def addressClaimConfirmCore (ch : Nat) (v : View) (w : W) : W :=
  let c := canAt w.m ch
  match c.claimSof with
  | some t =>
    if c.ownAddr ≤ 253 && !c.claimed && v.expired (t + 250000000) && !contestOnTheWay w.m v ch (t + 250000000) then
      w.can ch fun c => { c with claimed := true }
    else w
  | none => w

def execAddressClaimConfirm (ch : Nat) (s : State) : Host.Outcome State Fault Refusal :=
  run (decide (ch < 22)) (addressClaimConfirmCore ch) s

/-- CANNOT_CLAIM_SEND (R323). -/
def cannotClaimSendCore (ch : Nat) (v : View) (w : W) : W :=
  match (canAt w.m ch).cannot with
  | none => w
  | some (lost, until_) =>
    if !v.expired until_ then w
    else if !ownClaimReady w.m ch then w.can ch fun c => { c with cannot := none }
    else
      let name := prm w.m P.can_own_name ch
      let w := w.can ch fun c => { c with ownAddr := 254, cannot := none }
      let w := match findName w.m ch name with
        | some i => w.name i fun e => { e with address := 254, claimed := false }
        | none => w
      (sendClaim ch 254 w).event v 0x0A09 1 (u8 (canPort ch) ++ u8 254 ++ u8 lost ++ u8 0 ++ u64 name)

def execCannotClaimSend (ch : Nat) (s : State) : Host.Outcome State Fault Refusal :=
  run (decide (ch < 22)) (cannotClaimSendCore ch) s

/-- A Request (PGN 0xEA00, data page 0) for PGN 0xEE00 to the global or the own address is answered (R324). -/
def claimRequest (v : View) (ch id : Nat) (data : List Byte) (w : W) : W :=
  let c := canAt w.m ch
  if jPf id == 0xEA && id / 2 ^ 24 % 4 == 0 && leAt data 0 3 == 0xEE00 && ownClaimReady w.m ch
      && (jPs id == 255 || (jPs id == c.ownAddr && decide (c.ownAddr ≤ 253))) then
    if c.ownAddr ≤ 253 then sendClaim ch c.ownAddr w
    else if c.ownAddr == 254 && c.cannot.isNone then
      let ms := (Config.random (w.base v).fresh).toNat % 154
      (w.can ch fun c => { c with cannot := some (254, v.now + ms * 1000000) }).eff .draw
    else w
  else w

/-- A claim frame that reaches ACSUB (R108). -/
def claimFrame (v : View) (f : Frame) (w : W) : W :=
  let ch := f.port - 14
  let name := leAt f.data 0 8
  let a := jSa f.id
  if a == 255 then w
  else if a == 254 then applyCannot v f.seq ch name f.tb0 (w.count C.j1939_claims ch)
  else
    let w := w.count C.j1939_claims ch
    let (w, loser) := applyClaim v f.seq ch name a f.tb0 false w
    afterContest v f.seq ch loser a w

/-! ### Transport unit (R111-R116) -/

/-- The module answers for an own address on this channel in mode 3: only while it is claimed (R322). -/
def isResponder (m : Module) (ch da : Nat) : Bool :=
  jMode m ch == 3 && (canAt m ch).claimed && (canAt m ch).ownAddr == da && decide (da ≤ 253)

/-- A frame of the responder: TP.CM from the own address, priority 7 (SAE J1939-21); none once that address is lost or not
yet usable (R322). -/
def sendTpCm (ch sa da : Nat) (bs : List Byte) (pgn : Nat) (w : W) : W :=
  if !isResponder w.m ch sa then w
  else sendFrom ch 67 70 { funcObj true false false (0x1CEC0000 + da * 256 + sa) (bs ++ leBytes 3 pgn) with queue := 3 } w

def sendAbort (s : TpSession) (reason : Nat) (w : W) : W :=
  sendTpCm s.ch s.da s.sa (u8 255 ++ u8 reason ++ [0xFF, 0xFF, 0xFF]) s.pgn w

def sameSession (a b : TpSession) : Bool := a.ch == b.ch && a.sa == b.sa && a.da == b.da

def dropSession (s : TpSession) (w : W) : W := w.ing fun x => { x with tp := x.tp.filter (fun t => !sameSession t s) }

def putSession (s : TpSession) (w : W) : W :=
  w.ing fun x => { x with tp := x.tp.map (fun t => if sameSession t s then s else t) }

def sessionOf (m : Module) (ch sa da : Nat) : Option TpSession :=
  m.ing.tp.find? (fun t => t.ch == ch && t.sa == sa && t.da == da)

/-- Duration of timer T1 to T4 in nanoseconds. -/
def jTimer (m : Module) : Nat → Nat
  | 1 => prmNs m P.ingress_j1939_t1
  | 2 => prmNs m P.ingress_j1939_t2
  | 3 => prmNs m P.ingress_j1939_t3
  | _ => prmNs m P.ingress_j1939_t4

def TpSession.arm (s : TpSession) (m : Module) (t at_ : Nat) : TpSession := { s with timer := t, deadline := at_ + jTimer m t }

/-- The responder's CTS for the next window (R113); one for no packets holds the connection open (R115). A frame the module
sends has no arrival stamp: T2 and T4 of its CTS start at the stamp of the frame that prompts it (DESIGN CHOICE,
notes/assumptions/110.md). -/
def sendCts (at_ : Nat) (s : TpSession) (w : W) : W :=
  let left := s.packets + 1 - s.next
  let n := min (min (prm w.m P.ingress_j1939_cts_packets) s.maxCts) left
  let s := ({ s with window := n } : TpSession).arm w.m (if n = 0 then 4 else 2) at_
  sendTpCm s.ch s.da s.sa (u8 17 ++ u8 n ++ u8 s.next ++ [0xFF, 0xFF]) s.pgn (putSession s w)

/-- RTS or BAM. Event 0x0404 names one bound: the module's where both are reached (DESIGN CHOICE,
notes/assumptions/110.md). -/
def tpOpen (v : View) (f : Frame) (bam : Bool) (w : W) : W :=
  let ch := f.port - 14
  let sa := jSa f.id
  let da := if bam then 255 else jPs f.id
  let size := leAt f.data 1 2
  let at_ := arrivedAt v f
  let w := match sessionOf w.m ch sa da with
    | some s => (dropSession s w).count C.j1939_tp_aborted ch
    | none => w
  let s : TpSession :=
    { port := f.port, ch := ch, sa := sa, da := da, bam := bam, responder := !bam && isResponder w.m ch da, size := size
      packets := (size + 6) / 7, maxCts := leAt f.data 4 1, prio := f.id / 2 ^ 26 % 8, pgn := leAt f.data 5 3
      window := 0, next := 1, data := [], timer := 0, deadline := 0 }
  if size < 9 ∨ prm w.m P.ingress_j1939_max_size < size then w.count C.j1939_tp_invalid ch
  else
    let full := decide (64 ≤ w.m.ing.tp.length)
    let fullCh := decide (prm w.m P.ingress_j1939_sessions_per_channel ≤ (w.m.ing.tp.filter (fun t => t.ch == ch)).length)
    if full || fullCh then
      let w := (w.count C.j1939_tp_refused ch).event v 0x0404 1 (u8 ch ++ u8 sa ++ u8 da ++ u8 (if full then 0 else 1))
      if s.responder then sendAbort s 1 w else w
    else
      let s := if bam then { s with window := s.packets }.arm w.m 1 at_ else s.arm w.m 3 at_
      let w := w.ing fun x => { x with tp := x.tp ++ [s] }
      if s.responder then sendCts at_ s w else w

/-- CTS, End of Message Acknowledgement and Abort from the receiver of an observed transfer, or an Abort of either: it ends
the sessions of both directions between the two nodes, whatever PGN it names (DESIGN CHOICE, notes/assumptions/110.md). -/
def tpControl (v : View) (f : Frame) (kind : Nat) (w : W) : W :=
  let ch := f.port - 14
  let back := sessionOf w.m ch (jPs f.id) (jSa f.id)
  let at_ := arrivedAt v f
  if kind == 17 then
    match back with
    | some s =>
      if s.bam || s.responder then w
      else if s.deadline ≤ at_ then (dropSession s w).count C.j1939_tp_timeout ch
      else
        let n := leAt f.data 1 1
        if n == 0 then putSession (s.arm w.m 4 at_) w else putSession ({ s with window := n }.arm w.m 2 at_) w
    | none => w
  else if kind == 19 then
    match back with
    | some s =>
      if s.responder then w
      else if s.timer != 0 && decide (s.deadline ≤ at_) then (dropSession s w).count C.j1939_tp_timeout ch
      else dropSession s w
    | none => w
  else
    let w := match back with
      | some s => (dropSession s w).count C.j1939_tp_aborted ch
      | none => w
    match sessionOf w.m ch (jSa f.id) (jPs f.id) with
    | some s => (dropSession s w).count C.j1939_tp_aborted ch
    | none => w

/-- The identifier of a reassembled message (R114). -/
def messageId (s : TpSession) : Nat :=
  let pgn := s.pgn % 2 ^ 18
  let low := if pgn / 2 ^ 8 % 256 < 240 then pgn / 2 ^ 8 * 2 ^ 8 + s.da else pgn
  s.prio * 2 ^ 26 + low * 2 ^ 8 + s.sa

/-- The last packet has arrived: the message enters the injection queue (R114). An observed connection stays open for its
End of Message Acknowledgement (R115). -/
def tpComplete (v : View) (s : TpSession) (f : Frame) (data : List Byte) (w : W) : W :=
  let g : Frame := { f with fmt := 5, id := messageId s, data := data.take s.size, seq := f.seq + 1, cand := false
                            taken := none, marked := false, brs := false, esi := false }
  let w := if s.bam || s.responder then dropSession s w
    else putSession (({ s with data := [], next := s.packets + 1, window := 0, complete := true } : TpSession).arm w.m 3
      (arrivedAt v f)) w
  let w := storeFrame v acctReassembly g w
  let w := (w.ing fun x => { x with inject := x.inject ++ [g] }).count C.j1939_tp_complete s.ch
  if s.responder then
    sendTpCm s.ch s.da s.sa (u8 19 ++ u16 s.size ++ u8 s.packets ++ [0xFF]) s.pgn w
  else w

/-- TP.DT of a tracked transfer (R112, R113, R201). -/
def tpData (v : View) (f : Frame) (w : W) : W :=
  let ch := f.port - 14
  match sessionOf w.m ch (jSa f.id) (jPs f.id) with
  | none => w
  | some s =>
    let at_ := arrivedAt v f
    let n := leAt f.data 0 1
    if s.timer != 0 && decide (s.deadline ≤ at_) then
      let w := (dropSession s w).count C.j1939_tp_timeout ch
      if s.responder then sendAbort s 3 w else w
    else if n != s.next || s.window == 0 || s.complete then
      let w := (dropSession s w).count C.j1939_tp_sequence_error ch
      if s.responder then sendAbort s (if n < s.next then 8 else 7) w else w
    else
      let data := (s.data ++ slice f.data 1 7).take s.size
      let more := tilesFor (8 + data.length) - partialTiles s
      if 0 < more ∧ reserved w.m acctReassembly < charged w.m acctReassembly + more then
        (((dropSession s w).count C.j1939_tp_aborted ch).count C.tile_drop f.port).limited v 0x0707 1 f.port 1000000000
          (fun k => u8 f.port ++ u8 1 ++ zeros 2 ++ u32 k)
      else
        let s' : TpSession := { s with data := data, next := s.next + 1, window := s.window - 1 }
        if s.size ≤ data.length then tpComplete v s f data w
        else if s'.window == 0 && !s.bam then
          if s.responder then sendCts at_ s' w else putSession (s'.arm w.m 3 at_) w
        else putSession (s'.arm w.m 1 at_) w

/-- TPSUB: submit a frame to the transport unit (R111). -/
def tpSubmit (v : View) (f : Frame) (w : W) : W :=
  if !isCanPort f.port || !isExt f.fmt || jMode w.m (f.port - 14) < 2 then w
  else if jPf f.id == 0xEB then tpData v f w
  else if jPf f.id == 0xEC then
    let kind := leAt f.data 0 1
    if kind == 32 then tpOpen v f true w
    else if kind == 16 then tpOpen v f false w
    else if kind == 17 || kind == 19 || kind == 255 then tpControl v f kind w
    else w
  else w

/-- A frame the running timer of a session awaits: a packet of the sender (T1, T2), or the receiver's CTS or
acknowledgement (T3, T4). -/
def awaited (s : TpSession) (fmt id : Nat) : Bool :=
  isExt fmt &&
    (if s.timer ≤ 2 then jPf id == 0xEB && jSa id == s.sa && jPs id == s.da
    else jPf id == 0xEC && jSa id == s.da && jPs id == s.sa)

/-- An awaited frame timestamped before the deadline is still on its way to TPSUB: arriving, in its DCQ, or in a context
(R115). -/
def awaitedInTime (m : Module) (v : View) (s : TpSession) : Bool :=
  onItsWay m v s.port s.deadline (fun c => !c.tpDone) (awaited s)

/-- J1939_TP_TIMEOUT: the timer of transport session `k` has run out (R115). -/
def j1939TpTimeoutCore (k : Nat) (v : View) (w : W) : W :=
  match w.m.ing.tp[k]? with
  | none => w
  | some s =>
    if s.timer != 0 && v.expired s.deadline && !awaitedInTime w.m v s then
      let w := (dropSession s w).count C.j1939_tp_timeout s.ch
      if s.responder then sendAbort s 3 w else w
    else w

def execJ1939TpTimeout (k : Nat) (s : State) : Host.Outcome State Fault Refusal := run true (j1939TpTimeoutCore k) s

end Sys2Proof.Machine
end

