-- ==== Sys2Proof/Machine/Ingress.lean ====
section
/-! DEFINITION. Ingress (spec/04): dual-clock queues and their flow control, admission to the tile buffer, parse
contexts and their end, the fixed key builder, release in arrival order, and the layby that frames may go to. -/

namespace Sys2Proof.Machine

/-! ### Dual-clock queues (R86-R88) -/

/-- DCQ size in bytes (Table 04-2). -/
def dcqSize (port : Nat) : Nat :=
  if port < 2 then 65536 else if port < 8 then 16384 else if port < 14 then 4096 else if port < 36 then 2048 else 1024

/-- What a frame fills of its DCQ: header, data and, once it has ended, end words (R84). The spec gives no size for the end word: one word of
the port's width, 16 bytes for Ethernet and internal ports and 8 for CAN and LIN (DESIGN CHOICE, notes/assumptions/90.md). -/
def dcqBytes (f : Frame) : Nat :=
  if f.port < 14 then (f.data.length + 15) / 16 * 16 + 16 * b2n (!f.unfinished)
  else 8 + (f.data.length + 7) / 8 * 8 + 8 * b2n (!f.unfinished)

def dcqOf (m : Module) (port : Nat) : List Frame := m.ing.dcq.getD port []
def dcqFill (m : Module) (port : Nat) : Nat := ((dcqOf m port).map dcqBytes).sum

def setDcq (port : Nat) (l : List Frame) (w : W) : W := w.ing fun x => { x with dcq := x.dcq.set [] port l }

def portMode (m : Module) (port : Nat) : Nat := prm m P.ingress_port_mode 0 port
def xoffLevel (m : Module) (port : Nat) : Nat := fld (portMode m port) 8 8 * 256
def xonLevel (m : Module) (port : Nat) : Nat := fld (portMode m port) 16 8 * 256

def portMac (m : Module) (port : Nat) : Nat := m.ident.macBase + port

/-- A PAUSE frame (IEEE 802.3x), or a PFC frame for priority `k` (IEEE 802.1Qbb), without FCS. -/
def pauseFrame (m : Module) (port : Nat) (pfc : Option Nat) (quanta : Nat) : List Byte :=
  let head := beBytes 6 0x0180C2000001 ++ beBytes 6 (portMac m port) ++ beBytes 2 0x8808
  let body := match pfc with
    | none => beBytes 2 1 ++ beBytes 2 quanta
    | some k => beBytes 2 0x0101 ++ beBytes 2 (2 ^ k)
        ++ ((List.range 8).map (fun i => beBytes 2 (if i == k then quanta else 0))).flatten
  head ++ body ++ zeros (60 - (head ++ body).length)

/-- Send the port's flow-control frames (R342). -/
def sendPause (port quanta : Nat) (w : W) : W :=
  let mode := prm w.m P.eth_pause_mode port
  if mode == 1 then (w.send (.eth port (pauseFrame w.m port none quanta))).count C.eth_tx_pause port
  else if mode == 2 then
    w.each (bitsOf 8 (prm w.m P.eth_pfc_priorities port)) fun k w =>
      (w.send (.eth port (pauseFrame w.m port (some k) quanta))).count C.eth_tx_pause port
  else w

/-- Flow control follows the fill of a DCQ (R87): none on an Ethernet port without PAUSE or PFC. -/
def flowControl (v : View) (port : Nat) (w : W) : W :=
  if 14 ≤ port then w
  else
    let fill := dcqFill w.m port
    let on := w.m.ing.xoff.contains port
    let enabled := !isEthPort port || prm w.m P.eth_pause_mode port != 0
    if !on && enabled && decide (xoffLevel w.m port ≤ fill ∧ 0 < xoffLevel w.m port) then
      let w := (w.ing fun x => { x with xoff := port :: x.xoff }).count C.dcq_xoff port
      let w := if port < 11 then sendPause port (prm w.m P.eth_pause_quanta port) w else w
      updateBlocking v w
    else if on && decide (fill < xonLevel w.m port) then
      let w := w.ing fun x => { x with xoff := x.xoff.filter (· != port) }
      let w := if port < 11 then sendPause port 0 w else w
      updateBlocking v w
    else w

/-- Event 0x0403 for a frame that found its DCQ full (R86). -/
def dcqDrop (v : View) (port : Nat) (w : W) : W :=
  (w.count C.dcq_drop port).limited v 0x0403 1 port 1000000000 (fun n => u8 port ++ zeros 3 ++ u32 n)

/-- The DCQ of a frame's port has no room for it. -/
def dcqFull (m : Module) (f : Frame) : Bool := decide (dcqSize f.port < dcqFill m f.port + dcqBytes f)

/-- Write a frame into its DCQ, or discard it when the DCQ is full; an Ethernet frame then ends with drop status (R86,
R89). -/
def intoDcq (v : View) (f : Frame) (w : W) : W :=
  if dcqFull w.m f then
    let w := dcqDrop v f.port w
    if f.port < 14 then w.count C.pf_bad_end f.port else w
  else flowControl v f.port (setDcq f.port (dcqOf w.m f.port ++ [f]) w)

/-- An internal source may write a frame: it stalls from the XOFF fill until the fill is below XON, so that its DCQ is
never full (R86, R87). -/
def internalRoom (m : Module) (f : Frame) : Bool := !m.ing.xoff.contains f.port && !dcqFull m f

/-! ### Discarding and holding frames -/

/-- The stored copy leaves: a fast-lane output that still has it open finds no fallback copy. -/
def leaveLane (seq : Nat) (w : W) : W :=
  w.fab fun x => match x.fl.get? seq with
    | some y => { x with fl := if y.open_.isEmpty then x.fl.erase seq else x.fl.put seq { y with gone := true } }
    | none => x

def discardFrame (f : Frame) (w : W) : W := leaveLane f.seq (freeFrame f.seq w)

/-- Tiles of the frames the layby holds. -/
def laybyTiles (m : Module) : Nat := (m.flow.layby.map Held.tiles).sum

/-- Tiles of released frames, which stay in the layby account until their last reference ends (R202). -/
def releasedTiles (m : Module) : Nat := charged m acctLayby - laybyTiles m

/-- Layby ids rise by 1 and skip 0 (R181). -/
def nextId (i : Nat) : Nat := if (i + 1) % 2 ^ 32 = 0 then 1 else (i + 1) % 2 ^ 32

/-- Frames to drop, oldest first, until `n` more tiles and one more frame fit (R182). -/
def laybyVictims (tiles : Nat) : List Held → List Held
  | [] => []
  | h :: r =>
    if (h :: r).length < 2048 ∧ ((h :: r).map Held.tiles).sum + tiles ≤ 2048 then [] else h :: laybyVictims tiles r

/-- Held frames that are dropped give their tiles back, with event 0x0605 (R182). -/
def dropHeld (v : View) (gone : List Held) (w : W) : W :=
  if gone.isEmpty then w
  else
    let w := w.each gone fun h w => dropRef v h.frame.seq w
    let w := w.flow fun x => { x with layby := x.layby.filter (fun h => !gone.any (fun g => g.id == h.id)) }
    let kept := match w.m.flow.layby with | h :: _ => h.id | [] => w.m.flow.laybyNext
    (w.count C.layby_oldest_drop 0 gone.length).event v 0x0605 1 (u32 gone.length ++ u32 kept)

/-- Hold a frame in the layby (R181, R182, R202). Released frames count towards its 2,048 tiles; a frame that does not
fit beside them even with every held frame dropped is dropped itself (notes/assumptions/91.md). -/
def holdFrame (v : View) (f : Frame) (reason kinds sp waypoint : Nat) (w : W) : W :=
  let n := frameTiles f
  let other := releasedTiles w.m
  let w := dropHeld v (laybyVictims (n + other) w.m.flow.layby) w
  let sent := match w.m.fab.fl.get? f.seq with
    | some x => x.sent
    | none => false
  if 2048 < n + other then (discardFrame f w).count C.layby_oldest_drop
  else
    let h : Held := { id := w.m.flow.laybyNext, frame := f, reason := reason, kinds := kinds, sp := sp
                      waypoint := waypoint, tiles := n, flSent := sent, since := v.now
                      ms := extend32 v.time.tb0 f.tb0 / 2 ^ 32 % 65536 }
    let w := leaveLane f.seq w
    let w := w.fab fun x => match x.store.get? f.seq with
      | some s => { x with store := x.store.put f.seq { s with account := acctLayby, refs := 1 } }
      | none => x
    let w := lowerReservations w
    let w := w.flow fun x => { x with layby := x.layby ++ [h], laybyNext := nextId x.laybyNext }
    let w := w.count C.layby_in reason
    w.limited v 0x0604 0 0 (prmNs w.m P.flows_layby_event_interval) fun k =>
      u32 k ++ u16 (laybyTiles w.m) ++ u16 w.m.flow.layby.length

/-! ### Parse contexts (R94-R99) -/

def ctxAt (m : Module) (i : Nat) : ParseCtx := atD m.ing.ctxs i {}
def W.ctx (w : W) (i : Nat) (f : ParseCtx → ParseCtx) : W := w.ing fun x => { x with ctxs := upd x.ctxs i f }

/-- A parsed frame may be released: no earlier frame of its port is still on its way (R95). -/
def releasable (m : Module) (r : Released) : Bool :=
  let earlier := fun (f : Frame) => f.port == r.frame.port && decide (f.seq < r.frame.seq)
  !(m.ing.ctxs.any (fun c => match c.frame with | some f => earlier f | none => false))
    && !(m.ing.inject.any earlier) && !(m.ing.done.any (fun d => earlier d.frame))

/-- Release what arrival order allows. -/
def releaseDone : Nat → W → W
  | 0, w => w
  | n + 1, w =>
    match w.m.ing.done.find? (releasable w.m) with
    | none => w
    | some r => releaseDone n (w.ing fun x => { x with done := x.done.erase r, released := x.released ++ [r] })

def releaseAll (w : W) : W := releaseDone w.m.ing.done.length w

/-- Queue a parsed frame for classification. -/
def parsed (r : Released) (w : W) : W := releaseAll (w.ing fun x => { x with done := x.done ++ [r] })

/-- A context ends; what it released follows arrival order. -/
def freeCtx (i : Nat) (w : W) : W := releaseAll (pruneClaims (w.ctx i fun _ => {}))

/-- A program that ends without a key vector takes the overrun action (R97, R98). -/
def overrunAction (v : View) (i : Nat) (w : W) : W :=
  let c := ctxAt w.m i
  match c.frame with
  | none => w
  | some f =>
    let act := portMode w.m f.port % 4
    if act == 1 then freeCtx i (holdFrame v f 2 0 0 0xFFFF w)
    else if act == 2 then
      freeCtx i (w.ing fun x => { x with done := x.done ++
        [{ frame := f, key := c.key.toNat, ending := .miss, mirror := c.mirror, noLearn := c.noLearn }] })
    else freeCtx i (discardFrame f w)

/-- A parse fault (R98): cause and word address as in event 0x0401. -/
def parseFault (v : View) (i cause addr : Nat) (w : W) : W :=
  match (ctxAt w.m i).frame with
  | none => w
  | some f =>
    overrunAction v i ((w.count C.pf_fault f.port).event v 0x0401 2 (u8 f.port ++ u8 cause ++ u16 addr))

/-- The fixed key builder (R93): port, key type 0, format, identifier and length. An Ethernet frame, which has no format
code and no identifier, gives 0 for both (DESIGN CHOICE, notes/assumptions/92.md). -/
def fixedKey (f : Frame) : Nat :=
  let fmt := if f.fmt == 8 then 0 else f.fmt
  let id := if f.fmt == 8 then 0 else f.id
  let len := if f.fmt == 7 then b2n f.ide * 2 ^ 11 + f.dlc % 16 else f.size % 4096
  f.port * 2 ^ 154 + fmt % 8 * 2 ^ 149 + id % 2 ^ 29 * 2 ^ 120 + len * 2 ^ 108 + 0x3FF * 2 ^ 98

/-- The program starts for a frame (R96). -/
def startCtx (i : Nat) (f : Frame) (w : W) : W :=
  w.ctx i fun _ => { frame := some f, pc := prm w.m P.ingress_parse_entry 0 f.port
                     from_ := prm w.m P.ingress_parse_entry 0 f.port, key := BitVec.ofNat 160 (f.port * 2 ^ 154) }

/-- A frame passes the entry of the pipeline: the key builder or a free context. -/
def enterPipeline (i : Nat) (f : Frame) (w : W) : W :=
  let w := w.count C.ingress_frames f.port
  if footService w.m || bit (portMode w.m f.port) 6 then
    parsed { frame := f, key := fixedKey f, ending := .key } w
  else startCtx i f w

/-- Ports in round-robin order from the current position (R94). -/
def portOrder (m : Module) : List Nat := (List.range 44).map (fun k => (m.ing.rr + k) % 44)

/-- The key builder, which writes the frame's length, waits for the end of an Ethernet frame still arriving; a CAN header
word announces it. -/
def keyWaits (m : Module) (f : Frame) : Bool := f.unfinished && f.fmt == 8 && bit (portMode m f.port) 6

/-- Offer the DCQs to a free context, in round-robin order. An Ethernet or internal head that is not admissible waits
(R200); a CAN or LIN head is discarded (R199). -/
def acceptFrom (v : View) (i : Nat) : List Nat → W → W
  | [], w => w
  | p :: r, w =>
    match dcqOf w.m p with
    | [] => acceptFrom v i r w
    | f :: rest =>
      let take := fun (w : W) => flowControl v p (setDcq p rest w)
      if footService w.m && (f.fmt == 8 || f.fmt == 6) then (take w).count C.footpath_discard p
      else if keyWaits w.m f then acceptFrom v i r w
      else if admissible w.m p (admissionTiles w.m f) then
        let w := (take w).ing fun x => { x with rr := (p + 1) % 44, waitCounted := x.waitCounted.filter (· != f.seq) }
        enterPipeline i f (storeFrame v p f w)
      else if p < 14 then
        let w := if w.m.ing.waitCounted.contains f.seq then w
          else (w.ing fun x => { x with waitCounted := f.seq :: x.waitCounted }).count C.tile_admit_wait p
        acceptFrom v i r w
      else ((take w).count C.tile_drop p).limited v 0x0707 1 p 1000000000 (fun n => u8 p ++ u8 0 ++ zeros 2 ++ u32 n)

def isBookSwitch : OpKind → Bool
  | .book _ => true
  | _ => false

/-- A route book switch waits for the contexts that run the old program; classification pauses (R99, R524). -/
def switching (m : Module) : Bool := m.borul.ops.any (fun o => isBookSwitch o.kind)

/-- PARSE_ACCEPT (R94). -/
def parseAcceptCore (v : View) (w : W) : W :=
  if switching w.m then w else
  match (List.range 64).find? (fun i => (ctxAt w.m i).frame.isNone) with
  | none => w
  | some i =>
    if !powered w.m then w
    else match w.m.ing.inject with
      | f :: r => enterPipeline i f (w.ing fun x => { x with inject := r })
      | [] => acceptFrom v i (portOrder w.m) w

def execParseAccept (s : State) : Host.Outcome State Fault Refusal := run true parseAcceptCore s

/-- PAUSE_RESEND: while flow control is asserted the port repeats its frame (R342). -/
def pauseResendCore (port : Nat) (_v : View) (w : W) : W :=
  if powered w.m && w.m.ing.xoff.contains port then sendPause port (prm w.m P.eth_pause_quanta port) w else w

def execPauseResend (port : Nat) (s : State) : Host.Outcome State Fault Refusal :=
  run (isEthPort port) (pauseResendCore port) s

/-- PAUSE_QUANTA_EXPIRY: the stop of these classes is over (R343). -/
def pauseQuantaExpiryCore (port : Nat) (v : View) (w : W) : W :=
  w.fab fun x => { x with paused := x.paused.filter (fun p => !(p.1 / 8 == port && decide (p.2 ≤ v.now))) }

def execPauseQuantaExpiry (port : Nat) (s : State) : Host.Outcome State Fault Refusal :=
  run (isEthPort port) (pauseQuantaExpiryCore port) s

end Sys2Proof.Machine
end

