-- ==== Sys2Proof/Machine/Parse.lean ====
section
/-! DEFINITION. The parse instructions (spec/04, R96-R110): one meaning each over the shared issue of an instruction
to a context. A command of this family is that instruction issuing in the context; where the word at the context's
program counter is another instruction, or the budget is used up, nothing issues. -/

namespace Sys2Proof.Machine

/-! ### Fetch and fields (R101, R105) -/

/-- The word at a word address; that of a poisoned entry is a free value (notes/assumptions/112.md). -/
def parseWord (m : Module) (pc : Nat) : Nat :=
  if m.tab.isPoisoned 8 (pc / 4) then (Config.poisonedWord pc (m.tab.get 8 (pc / 4))).toNat
  else fld (m.tab.get 8 (pc / 4)) (32 * (pc % 4)) 32

/-- A fetch finds an uncorrectable error in its entry (R152). -/
def fetch (v : View) (pc : Nat) (w : W) : W := touch v [entryKey 8 (pc / 4)] w

def opOf (w : Nat) : Nat := fld w 26 6
def gdOf (w : Nat) : Nat := fld w 23 3
def gsOf (w : Nat) : Nat := fld w 20 3
def immOf (w : Nat) : Nat := fld w 0 16
def offOf (w : Nat) : Nat := fld w 0 8
def targetOf (w : Nat) : Nat := fld w 0 13
/-- Length of an E or K field. -/
def lenOf (w : Nat) : Nat := fld w 0 5 + 1

def ParseCtx.reg (c : ParseCtx) (i : Nat) : Word := atD c.g i 0
def ParseCtx.setReg (c : ParseCtx) (i : Nat) (x : Word) : ParseCtx := { c with g := upd c.g i (fun _ => x) }

/-- An ALU result: gd and Z (R103). -/
def ParseCtx.alu (c : ParseCtx) (i : Nat) (x : Word) : ParseCtx := { c.setReg i x with z := x == 0 }

/-- CMP and CMPI: Z and C (Table 04-9). -/
def ParseCtx.compare (c : ParseCtx) (a b : Word) : ParseCtx := { c with z := a == b, c := decide (a < b) }

/-- How an instruction ends. -/
inductive Issue where
  /-- The context goes on at a word address. -/
  | go (pc : Nat) (c : ParseCtx)
  | done
  | drop
  | fault (cause : Nat)
  | waits (c : ParseCtx)
  /-- What it reads has not arrived, or an earlier frame goes first: it does not issue yet. -/
  | stall
  deriving DecidableEq, Repr

/-- A fetch from above 8,191 is a fault while budget is left (R98). -/
def checkFetch (v : View) (i : Nat) (w : W) : W :=
  let c := ctxAt w.m i
  if c.frame.isSome && decide (8191 < c.pc) && decide (c.issued < prm w.m P.ingress_parse_budget) then
    parseFault v i 4 c.from_ w
  else w

/-- The end of a program with its key vector (R97). -/
def parseDoneAt (i : Nat) (w : W) : W :=
  let c := ctxAt w.m i
  match c.frame with
  | none => w
  | some f => freeCtx i (w.ing fun x => { x with done := x.done ++
      [{ frame := f, key := c.key.toNat, ending := .key, mirror := c.mirror, noLearn := c.noLearn }] })

def parseDropAt (i : Nat) (w : W) : W :=
  match (ctxAt w.m i).frame with
  | none => w
  | some f => freeCtx i ((discardFrame f w).count C.pf_program_drop f.port)

/-- In FOOTPATH and SAFE the engines run no programs: a frame whose program was under way leaves by the fixed key
builder, and an Ethernet or LIN frame is discarded (R93; notes/assumptions/93.md). -/
def endProgram (i : Nat) (w : W) : W :=
  match (ctxAt w.m i).frame with
  | none => w
  | some f =>
    if f.fmt == 8 || f.fmt == 6 then freeCtx i ((discardFrame f w).count C.footpath_discard f.port)
    else freeCtx i (w.ing fun x => { x with done := x.done ++ [{ frame := f, key := fixedKey f, ending := .key }] })

/-- Issue the instruction of opcode `op` in context `i` (R102): `f` gives its effect from the context and the word;
`side` is what it does beyond the context. -/
def issue (i op : Nat) (f : ParseCtx → Nat → Issue) (side : View → W → W) (v : View) (w : W) : W :=
  let c := ctxAt w.m i
  if !powered w.m then w
  else if footService w.m then endProgram i w
  else if c.frame.isNone || c.waiting.isSome || decide (prm w.m P.ingress_parse_budget ≤ c.issued) || decide (8191 < c.pc)
      || opOf (parseWord (fetch v c.pc w).m c.pc) != op then w
  else
    let w := fetch v c.pc w
    let word := parseWord w.m c.pc
    let c1 := { c with issued := c.issued + 1, from_ := c.pc }
    match f c1 word with
    | .go pc c' => checkFetch v i (side v (w.ctx i fun _ => { c' with pc := pc }))
    | .done => parseDoneAt i w
    | .drop => parseDropAt i w
    | .fault cause => parseFault v i cause c.pc w
    | .waits c' => w.ctx i fun _ => c'
    | .stall => w

/-- Go on with the next word. -/
def next (c : ParseCtx) : Issue := .go (c.pc + 1) c

def noSide (_ : View) (w : W) : W := w

/-- Jump to the J target when `b`, else go on. -/
def jumpIf (b : Bool) (c : ParseCtx) (w : Nat) : Issue := if b then .go (targetOf w) c else next c

/-- A context number of the 64 (R94). -/
def ctxOk (i : Nat) : Bool := decide (i < 64)

/-! ### The window (R103) -/

/-- Frame bytes under the window: data from offset 0. -/
def ctxBytes (c : ParseCtx) : List Byte := match c.frame with | some f => f.data | none => []

/-- Length of the context's frame. -/
def ctxSize (c : ParseCtx) : Nat := match c.frame with | some f => f.size | none => 0

/-- `n` bytes at cursor + offset; beyond offset 256 or the frame's end they read as 0. -/
def window (c : ParseCtx) (off n : Nat) : List Byte :=
  (List.range n).map (fun k => let a := c.cursor + off + k
    if a < 256 then ((ctxBytes c)[a]?).getD 0 else 0)

def beyond (c : ParseCtx) (off n : Nat) : Bool :=
  decide (min 256 (ctxSize c) < c.cursor + off + n)

/-- Bytes below offset 256 that a frame still arriving has not brought yet, unless its header word says that it has none
there: a load of them waits (notes/assumptions/89.md). -/
def notArrived (c : ParseCtx) (off n : Nat) : Bool :=
  match c.frame with
  | some f => f.unfinished && decide (f.data.length < min (c.cursor + off + n) (min 256 (f.announced.getD 256)))
  | none => false

/-- A load of `n` bytes: gd and S. -/
def load (c : ParseCtx) (w n : Nat) (value : List Byte → Nat) : Issue :=
  if notArrived c (offOf w) n then .stall
  else next { c.setReg (gdOf w) (BitVec.ofNat 32 (value (window c (offOf w) n))) with s := beyond c (offOf w) n }

/-- LDM items (Table 04-10). An Ethernet frame has no format code: item 3 reads 0 (DESIGN CHOICE,
notes/assumptions/92.md). -/
def ldmItem (f : Frame) (item : Nat) : Nat :=
  let eth := f.fmt == 8
  match item with
  | 0 => f.size
  | 1 => f.port
  | 2 => if eth then 0 else f.id
  | 3 => if eth then 0 else f.fmt
  | 4 => b2n f.cand + 2 * b2n f.trunc + 4 * b2n f.tagged + 8 * b2n f.macsec + 16 * b2n f.sync
  | 5 => f.tb0
  | 6 => f.tci
  | 7 => f.af
  | 8 => f.sdt * 256 + f.vcid
  | _ => 0

/-- Write key bits, or fault where bit 154 or above is reached (R98). -/
def writeKey (c : ParseCtx) (x p l : Nat) : Issue :=
  if 154 ≤ p + l - 1 then .fault 3
  else next { c with key := BitVec.ofNat 160 (setFld c.key.toNat p l x) }

/-! ### NAME (R110) -/

/-- An earlier marked frame of the port is in parse and has not executed ACSUB. -/
def claimAhead (m : Module) (f : Frame) : Bool :=
  m.ing.ctxs.any (fun c => match c.frame with
    | some g => g.port == f.port && g.marked && !c.acDone && decide (g.seq < f.seq)
    | none => false)

def nameValue (m : Module) (f : Frame) (sa : Nat) : Nat :=
  if !isCanPort f.port || jMode m (f.port - 14) == 0 || 254 ≤ sa then 0x3FF
  else (bindingAt m f.seq (f.port - 14) sa).getD 0x3FF

/-- Give a waiting NAME its answer. -/
def resumeName (i : Nat) (w : W) : W :=
  let c := ctxAt w.m i
  match c.frame, c.waiting with
  | some f, some (gd, sa) =>
    if claimAhead w.m f then w
    else w.ctx i fun c => { c.setReg gd (BitVec.ofNat 32 (nameValue w.m f sa)) with waiting := none, pc := c.pc + 1 }
  | _, _ => w

/-- No operation. -/
def nopIssue : ParseCtx → Nat → Issue :=
  fun c _ => next c

def execNop (ctx : Nat) (s : State) : Host.Outcome State Fault Refusal :=
  run (ctxOk ctx) (issue ctx 0x00 nopIssue noSide) s

/-! ### Control (opcodes 0x01 to 0x0C) -/

/-- Jump. -/
def jmpIssue : ParseCtx → Nat → Issue :=
  jumpIf true

def execJmp (ctx : Nat) (s : State) : Host.Outcome State Fault Refusal :=
  run (ctxOk ctx) (issue ctx 0x01 jmpIssue noSide) s

/-- Jump if Z. -/
def bzIssue : ParseCtx → Nat → Issue :=
  fun c w => jumpIf c.z c w

def execBz (ctx : Nat) (s : State) : Host.Outcome State Fault Refusal :=
  run (ctxOk ctx) (issue ctx 0x02 bzIssue noSide) s

/-- Jump if not Z. -/
def bnzIssue : ParseCtx → Nat → Issue :=
  fun c w => jumpIf (!c.z) c w

def execBnz (ctx : Nat) (s : State) : Host.Outcome State Fault Refusal :=
  run (ctxOk ctx) (issue ctx 0x03 bnzIssue noSide) s

/-- Jump if C. -/
def bcIssue : ParseCtx → Nat → Issue :=
  fun c w => jumpIf c.c c w

def execBc (ctx : Nat) (s : State) : Host.Outcome State Fault Refusal :=
  run (ctxOk ctx) (issue ctx 0x04 bcIssue noSide) s

/-- Jump if not C. -/
def bncIssue : ParseCtx → Nat → Issue :=
  fun c w => jumpIf (!c.c) c w

def execBnc (ctx : Nat) (s : State) : Host.Outcome State Fault Refusal :=
  run (ctxOk ctx) (issue ctx 0x05 bncIssue noSide) s

/-- Jump if S. -/
def bsIssue : ParseCtx → Nat → Issue :=
  fun c w => jumpIf c.s c w

def execBs (ctx : Nat) (s : State) : Host.Outcome State Fault Refusal :=
  run (ctxOk ctx) (issue ctx 0x06 bsIssue noSide) s

/-- Save the return address and jump. -/
def callIssue : ParseCtx → Nat → Issue :=
  fun c w => .go (targetOf w) { c with ret := some (c.pc + 1) }

def execCall (ctx : Nat) (s : State) : Host.Outcome State Fault Refusal :=
  run (ctxOk ctx) (issue ctx 0x07 callIssue noSide) s

/-- Jump to the saved address; none pending is a parse fault. -/
def retIssue : ParseCtx → Nat → Issue :=
  fun c _ => match c.ret with
    | some a => .go a { c with ret := none }
    | none => .fault 1

def execRet (ctx : Nat) (s : State) : Host.Outcome State Fault Refusal :=
  run (ctxOk ctx) (issue ctx 0x08 retIssue noSide) s

/-- End; release the key vector. -/
def parseDoneIssue : ParseCtx → Nat → Issue :=
  fun _ _ => .done

def execParseDone (ctx : Nat) (s : State) : Host.Outcome State Fault Refusal :=
  run (ctxOk ctx) (issue ctx 0x09 parseDoneIssue noSide) s

/-- End; discard the frame. -/
def dropFrameIssue : ParseCtx → Nat → Issue :=
  fun _ _ => .drop

def execDropFrame (ctx : Nat) (s : State) : Host.Outcome State Fault Refusal :=
  run (ctxOk ctx) (issue ctx 0x0A dropFrameIssue noSide) s

/-- Jump to t + gs if gs < 256. -/
def jtabIssue : ParseCtx → Nat → Issue :=
  fun c w =>
    let x := (c.reg (gsOf w)).toNat
    if x < 256 then .go (targetOf w + x) c else next c

def execJtab (ctx : Nat) (s : State) : Host.Outcome State Fault Refusal :=
  run (ctxOk ctx) (issue ctx 0x0C jtabIssue noSide) s

/-! ### Loads and the cursor (0x10 to 0x1B) -/

/-- Load a byte. -/
def ldbIssue : ParseCtx → Nat → Issue :=
  fun c w => load c w 1 leVal

def execLdb (ctx : Nat) (s : State) : Host.Outcome State Fault Refusal :=
  run (ctxOk ctx) (issue ctx 0x10 ldbIssue noSide) s

/-- Load 16 bits, big-endian. -/
def ldhIssue : ParseCtx → Nat → Issue :=
  fun c w => load c w 2 beVal

def execLdh (ctx : Nat) (s : State) : Host.Outcome State Fault Refusal :=
  run (ctxOk ctx) (issue ctx 0x11 ldhIssue noSide) s

/-- Load 32 bits, big-endian. -/
def ldwIssue : ParseCtx → Nat → Issue :=
  fun c w => load c w 4 beVal

def execLdw (ctx : Nat) (s : State) : Host.Outcome State Fault Refusal :=
  run (ctxOk ctx) (issue ctx 0x12 ldwIssue noSide) s

/-- Load 16 bits, little-endian. -/
def ldhlIssue : ParseCtx → Nat → Issue :=
  fun c w => load c w 2 leVal

def execLdhl (ctx : Nat) (s : State) : Host.Outcome State Fault Refusal :=
  run (ctxOk ctx) (issue ctx 0x13 ldhlIssue noSide) s

/-- Load 32 bits, little-endian. -/
def ldwlIssue : ParseCtx → Nat → Issue :=
  fun c w => load c w 4 leVal

def execLdwl (ctx : Nat) (s : State) : Host.Outcome State Fault Refusal :=
  run (ctxOk ctx) (issue ctx 0x14 ldwlIssue noSide) s

/-- Load a metadata item. -/
def ldmIssue : ParseCtx → Nat → Issue :=
  fun c w => match c.frame with
    | some f =>
      if f.unfinished && f.fmt == 8 && (offOf w == 0 || offOf w == 4) then .stall
      else next (c.setReg (gdOf w) (BitVec.ofNat 32 (ldmItem f (offOf w))))
    | none => next c

def execLdm (ctx : Nat) (s : State) : Host.Outcome State Fault Refusal :=
  run (ctxOk ctx) (issue ctx 0x15 ldmIssue noSide) s

/-- Advance the cursor. -/
def adviIssue : ParseCtx → Nat → Issue :=
  fun c w => next { c with cursor := min (c.cursor + offOf w) 256 }

def execAdvi (ctx : Nat) (s : State) : Host.Outcome State Fault Refusal :=
  run (ctxOk ctx) (issue ctx 0x18 adviIssue noSide) s

/-- Advance the cursor by a register. -/
def advrIssue : ParseCtx → Nat → Issue :=
  fun c w => next { c with cursor := min (c.cursor + (c.reg (gsOf w)).toNat) 256 }

def execAdvr (ctx : Nat) (s : State) : Host.Outcome State Fault Refusal :=
  run (ctxOk ctx) (issue ctx 0x19 advrIssue noSide) s

/-- Set the cursor. -/
def setcIssue : ParseCtx → Nat → Issue :=
  fun c w => next { c with cursor := offOf w }

def execSetc (ctx : Nat) (s : State) : Host.Outcome State Fault Refusal :=
  run (ctxOk ctx) (issue ctx 0x1A setcIssue noSide) s

/-- Read the cursor. -/
def getcIssue : ParseCtx → Nat → Issue :=
  fun c w => next (c.setReg (gdOf w) (BitVec.ofNat 32 c.cursor))

def execGetc (ctx : Nat) (s : State) : Host.Outcome State Fault Refusal :=
  run (ctxOk ctx) (issue ctx 0x1B getcIssue noSide) s

/-! ### ALU (0x20 to 0x2F) -/

/-- Load an immediate. -/
def moviIssue : ParseCtx → Nat → Issue :=
  fun c w => next (c.alu (gdOf w) (BitVec.ofNat 32 (immOf w)))

def execMovi (ctx : Nat) (s : State) : Host.Outcome State Fault Refusal :=
  run (ctxOk ctx) (issue ctx 0x20 moviIssue noSide) s

/-- Load the upper half. -/
def movhiIssue : ParseCtx → Nat → Issue :=
  fun c w =>
    next (c.alu (gdOf w) (BitVec.ofNat 32 ((c.reg (gdOf w)).toNat % 2 ^ 16 + immOf w * 2 ^ 16)))

def execMovhi (ctx : Nat) (s : State) : Host.Outcome State Fault Refusal :=
  run (ctxOk ctx) (issue ctx 0x21 movhiIssue noSide) s

/-- Copy a register. -/
def movIssue : ParseCtx → Nat → Issue :=
  fun c w => next (c.alu (gdOf w) (c.reg (gsOf w)))

def execMov (ctx : Nat) (s : State) : Host.Outcome State Fault Refusal :=
  run (ctxOk ctx) (issue ctx 0x22 movIssue noSide) s

/-- Add. -/
def addIssue : ParseCtx → Nat → Issue :=
  fun c w => next (c.alu (gdOf w) (c.reg (gdOf w) + c.reg (gsOf w)))

def execAdd (ctx : Nat) (s : State) : Host.Outcome State Fault Refusal :=
  run (ctxOk ctx) (issue ctx 0x23 addIssue noSide) s

/-- Add an immediate. -/
def addiIssue : ParseCtx → Nat → Issue :=
  fun c w => next (c.alu (gdOf w) (c.reg (gdOf w) + BitVec.ofNat 32 (immOf w)))

def execAddi (ctx : Nat) (s : State) : Host.Outcome State Fault Refusal :=
  run (ctxOk ctx) (issue ctx 0x24 addiIssue noSide) s

/-- Subtract. -/
def subIssue : ParseCtx → Nat → Issue :=
  fun c w => next (c.alu (gdOf w) (c.reg (gdOf w) - c.reg (gsOf w)))

def execSub (ctx : Nat) (s : State) : Host.Outcome State Fault Refusal :=
  run (ctxOk ctx) (issue ctx 0x25 subIssue noSide) s

/-- And. -/
def andRIssue : ParseCtx → Nat → Issue :=
  fun c w => next (c.alu (gdOf w) (c.reg (gdOf w) &&& c.reg (gsOf w)))

def execAndR (ctx : Nat) (s : State) : Host.Outcome State Fault Refusal :=
  run (ctxOk ctx) (issue ctx 0x26 andRIssue noSide) s

/-- And with an immediate. -/
def andiIssue : ParseCtx → Nat → Issue :=
  fun c w => next (c.alu (gdOf w) (c.reg (gdOf w) &&& BitVec.ofNat 32 (immOf w)))

def execAndi (ctx : Nat) (s : State) : Host.Outcome State Fault Refusal :=
  run (ctxOk ctx) (issue ctx 0x27 andiIssue noSide) s

/-- Or. -/
def orRIssue : ParseCtx → Nat → Issue :=
  fun c w => next (c.alu (gdOf w) (c.reg (gdOf w) ||| c.reg (gsOf w)))

def execOrR (ctx : Nat) (s : State) : Host.Outcome State Fault Refusal :=
  run (ctxOk ctx) (issue ctx 0x28 orRIssue noSide) s

/-- Or with an immediate. -/
def oriIssue : ParseCtx → Nat → Issue :=
  fun c w => next (c.alu (gdOf w) (c.reg (gdOf w) ||| BitVec.ofNat 32 (immOf w)))

def execOri (ctx : Nat) (s : State) : Host.Outcome State Fault Refusal :=
  run (ctxOk ctx) (issue ctx 0x29 oriIssue noSide) s

/-- Exclusive or. -/
def xorIssue : ParseCtx → Nat → Issue :=
  fun c w => next (c.alu (gdOf w) (c.reg (gdOf w) ^^^ c.reg (gsOf w)))

def execXor (ctx : Nat) (s : State) : Host.Outcome State Fault Refusal :=
  run (ctxOk ctx) (issue ctx 0x2A xorIssue noSide) s

/-- Shift left. -/
def shliIssue : ParseCtx → Nat → Issue :=
  fun c w => next (c.alu (gdOf w) (c.reg (gdOf w) <<< fld w 0 5))

def execShli (ctx : Nat) (s : State) : Host.Outcome State Fault Refusal :=
  run (ctxOk ctx) (issue ctx 0x2B shliIssue noSide) s

/-- Logical shift right. -/
def shriIssue : ParseCtx → Nat → Issue :=
  fun c w => next (c.alu (gdOf w) (c.reg (gdOf w) >>> fld w 0 5))

def execShri (ctx : Nat) (s : State) : Host.Outcome State Fault Refusal :=
  run (ctxOk ctx) (issue ctx 0x2C shriIssue noSide) s

/-- Extract a field. -/
def extIssue : ParseCtx → Nat → Issue :=
  fun c w => next (c.alu (gdOf w) (BitVec.ofNat 32 (fld (c.reg (gsOf w)).toNat (fld w 5 5) (lenOf w))))

def execExt (ctx : Nat) (s : State) : Host.Outcome State Fault Refusal :=
  run (ctxOk ctx) (issue ctx 0x2D extIssue noSide) s

/-- Compare registers. -/
def cmpIssue : ParseCtx → Nat → Issue :=
  fun c w => next (c.compare (c.reg (gdOf w)) (c.reg (gsOf w)))

def execCmp (ctx : Nat) (s : State) : Host.Outcome State Fault Refusal :=
  run (ctxOk ctx) (issue ctx 0x2E cmpIssue noSide) s

/-- Compare with an immediate. -/
def cmpiIssue : ParseCtx → Nat → Issue :=
  fun c w => next (c.compare (c.reg (gdOf w)) (BitVec.ofNat 32 (immOf w)))

def execCmpi (ctx : Nat) (s : State) : Host.Outcome State Fault Refusal :=
  run (ctxOk ctx) (issue ctx 0x2F cmpiIssue noSide) s

/-! ### Key, hash and marks (0x30 to 0x3C) -/

/-- Write key bits from a register. -/
def keywIssue : ParseCtx → Nat → Issue :=
  fun c w => writeKey c (c.reg (gsOf w)).toNat (fld w 5 8) (lenOf w)

def execKeyw (ctx : Nat) (s : State) : Host.Outcome State Fault Refusal :=
  run (ctxOk ctx) (issue ctx 0x30 keywIssue noSide) s

/-- Write key bits from an immediate. -/
def keyiIssue : ParseCtx → Nat → Issue :=
  fun c w =>
    if 12 < lenOf w then .fault 2 else writeKey c (fld w 14 12) (fld w 5 8) (lenOf w)

def execKeyi (ctx : Nat) (s : State) : Host.Outcome State Fault Refusal :=
  run (ctxOk ctx) (issue ctx 0x31 keyiIssue noSide) s

/-- CRC-32C update, most significant byte first. -/
def hashIssue : ParseCtx → Nat → Issue :=
  fun c w =>
    next (c.setReg (gdOf w) (crcRun (c.reg (gdOf w)) (beBytes 4 (c.reg (gsOf w)).toNat)))

def execHash (ctx : Nat) (s : State) : Host.Outcome State Fault Refusal :=
  run (ctxOk ctx) (issue ctx 0x38 hashIssue noSide) s

/-- Mark for the mirror or against learning. -/
def markIssue : ParseCtx → Nat → Issue :=
  fun c w =>
    next { c with mirror := c.mirror || bit w 0, noLearn := c.noLearn || bit w 1 }

def execMark (ctx : Nat) (s : State) : Host.Outcome State Fault Refusal :=
  run (ctxOk ctx) (issue ctx 0x3C markIssue noSide) s

/-- NAME: the binding in force at the frame's arrival, after earlier claim frames (R110). -/
def nameRefIssue (m : Module) (c : ParseCtx) (w : Nat) : Issue :=
  match c.frame with
  | none => next c
  | some f =>
    let sa := (c.reg (gsOf w)).toNat % 256
    if claimAhead m f then .waits { c with waiting := some (gdOf w, sa) }
    else next (c.setReg (gdOf w) (BitVec.ofNat 32 (nameValue m f sa)))

def nameRefCore (ctx : Nat) (v : View) (w : W) : W := issue ctx 0x39 (nameRefIssue w.m) noSide v w

def execNameRef (ctx : Nat) (s : State) : Host.Outcome State Fault Refusal := run (ctxOk ctx) (nameRefCore ctx) s

/-- NAME_WAIT_RESUME: the wait of R110 is over. -/
def nameWaitResumeCore (ctx : Nat) (v : View) (w : W) : W := checkFetch v ctx (resumeName ctx w)

def execNameWaitResume (ctx : Nat) (s : State) : Host.Outcome State Fault Refusal :=
  run (ctxOk ctx) (nameWaitResumeCore ctx) s

/-- TPSUB and ACSUB submit the frame's data: they wait for the end of a frame still arriving. -/
def submitWaits (c : ParseCtx) : Bool := match c.frame with | some f => f.unfinished | none => false

def tpsubIssue : ParseCtx → Nat → Issue := fun c _ => if submitWaits c then .stall else next c

/-- TPSUB: the context's frame goes to the transport unit. -/
def tpsubSide (ctx : Nat) (v : View) (w : W) : W :=
  match (ctxAt w.m ctx).frame with
  | some f => tpSubmit v f (w.ctx ctx fun c => { c with tpDone := true })
  | none => w

def execTpsub (ctx : Nat) (s : State) : Host.Outcome State Fault Refusal :=
  run (ctxOk ctx) (issue ctx 0x3A tpsubIssue (tpsubSide ctx)) s

/-- ACSUB: the context's frame goes to the claim tracker. -/
def acsubSide (ctx : Nat) (v : View) (w : W) : W :=
  match (ctxAt w.m ctx).frame with
  | some f =>
    let w := w.ctx ctx fun c => { c with acDone := true }
    if isCanPort f.port && isClaimId f.fmt f.id && decide (1 ≤ jMode w.m (f.port - 14)) then claimFrame v f w else w
  | none => w

/-- Claims apply in arrival order for each channel (R108): ACSUB waits for the earlier marked frames in parse. -/
def acsubIssue (m : Module) (c : ParseCtx) (_w : Nat) : Issue :=
  match c.frame with
  | some f => if f.unfinished || (f.marked && claimAhead m f) then .stall else next c
  | none => next c

def acsubCore (ctx : Nat) (v : View) (w : W) : W := issue ctx 0x3B (acsubIssue w.m) (acsubSide ctx) v w

def execAcsub (ctx : Nat) (s : State) : Host.Outcome State Fault Refusal := run (ctxOk ctx) (acsubCore ctx) s

/-- Opcodes that no row of Table 04-9 uses. -/
def reservedOp (op : Nat) : Bool :=
  op == 0x0B || (decide (0x0D ≤ op) && decide (op < 0x10)) || op == 0x16 || op == 0x17
    || (decide (0x1C ≤ op) && decide (op < 0x20)) || (decide (0x32 ≤ op) && decide (op < 0x38)) || decide (0x3D ≤ op)

/-- PARSE_OVERRUN: the next issue of the context does not take place, because the budget is used up (R97), or because
the fetch finds no instruction (R98). -/
def parseOverrunCore (ctx : Nat) (v : View) (w : W) : W :=
  let c := ctxAt w.m ctx
  match c.frame with
  | none => w
  | some f =>
    if c.waiting.isSome || !powered w.m then w
    else if footService w.m then endProgram ctx w
    else if prm w.m P.ingress_parse_budget ≤ c.issued then
      overrunAction v ctx ((w.count C.pf_overrun f.port).limited v 0x0402 1 f.port 1000000000
        (fun n => u8 f.port ++ zeros 3 ++ u32 n))
    else if 8191 < c.pc then parseFault v ctx 4 c.from_ w
    else if reservedOp (opOf (parseWord (fetch v c.pc w).m c.pc)) then parseFault v ctx 0 c.pc (fetch v c.pc w)
    else w

def execParseOverrun (ctx : Nat) (s : State) : Host.Outcome State Fault Refusal :=
  run (ctxOk ctx) (parseOverrunCore ctx) s

end Sys2Proof.Machine
end

