-- ==== Sys2Proof/Machine/Streams.lean ====
section
/-! DEFINITION. Ethernet frames that stream through the normal path while they arrive (spec/04, R84, R89, R90; spec/07,
R199, R212, R213): which frames do, what their end brings, and their removal after a bad end. -/

namespace Sys2Proof.Machine

/-! ### Frames that are not forwarded (R16, R340-R343, R354, R374, R498) -/

/-- The data plane takes the datagram for Borul traffic: the service path, the session block, or the settings a session was
opened under (R54). -/
def isBorulUdp (m : Module) (port vlan : Nat) (u : Udp) : Bool :=
  isService m (.udp port vlan u.ip.v6 u.ip.src u.sport u.ip.dst u.dport)
    || (fullService m || noBook m) && ethPowered m port
      && (matchesUdp (transportNow m) port vlan u.ip.v6 u.ip.dst u.dport
        || m.borul.slots.any (fun s => s.st != .free && matchesUdp s.via port vlan u.ip.v6 u.ip.dst u.dport))

/-- UDP ports at which the module takes Borul: the service path's, the present one, and those of the sessions (R54). -/
def borulUdpPorts (m : Module) : List Nat :=
  48400 :: prm m P.session_borul_udp_port :: (m.borul.slots.filter (fun s => s.st != .free)).map (fun s => s.via.udpPort)

/-- Fragments to the Borul address are taken for reassembly. -/
def isBorulFragment (m : Module) (port vlan : Nat) (ip : Ip) : Bool :=
  ip.proto == 17 && (ip.more || ip.offset != 0) && (borulUdpPorts m).any (fun d => isBorulUdp m port vlan ⟨ip, 0, d, []⟩)

/-- VLAN of a frame of a port as R16 sees it, 0 when untagged: a priority-tagged frame is on the port's default VLAN, and so
is an untagged one where that is the Borul VLAN (R341; DEDUCED, notes/assumptions/113.md). -/
def ethVlan (m : Module) (port : Nat) (bs : List Byte) : Nat :=
  let own := prm m P.eth_default_vid port
  match (ethParts bs).1 with
  | some t => if t % 4096 == 0 then own else t % 4096
  | none => if prm m P.session_borul_vlan == own && !(port == 10 && serviceOpen m) then own else 0

def arpTarget (bs : List Byte) : Option Nat :=
  let (_, type, p) := ethParts bs
  if type == 0x0806 && beAt p 6 2 == 1 then some (beAt p 24 4) else none

/-- The DoIP address of E10 (R354). -/
def doipAddress (m : Module) : Nat :=
  let a := prm m P.eth_doip_ipv4_addr 10
  if a != 0 then a else m.doip.addr

/-- DoIP traffic of E10: UDP and TCP port 13400 to the DoIP address. -/
def isDoip (m : Module) (port : Nat) (bs : List Byte) : Bool :=
  port == 10 && prmB m P.eth_doip_enable 10 && fullService m &&
    (match ipOf bs with
    | some ip => !ip.v6 && ip.dst == doipAddress m && (ip.proto == 17 || ip.proto == 6) && beAt ip.payload 2 2 == 13400
    | none => false)

/-- gPTP on a participating port. -/
def isPtp (m : Module) (port : Nat) (bs : List Byte) : Bool :=
  (ethParts bs).2.1 == 0x88F7 && prmB m P.time_gptp_enable && gptpRole m port != 0 && !gptpBlocked m port
    && fullService m

/-- A PAUSE frame (MAC control opcode 1), to the reserved address or the port's own, or a PFC frame (opcode 0x0101). -/
def isPause (m : Module) (port : Nat) (bs : List Byte) : Bool :=
  let all := beAt bs 0 6 == 0x0180C2000001
  beAt bs 12 2 == 0x8808
    && (if beAt bs 14 2 == 1 then all || beAt bs 0 6 == portMac m port else all && beAt bs 14 2 == 0x0101)

def vlanAccepted (m : Module) (port : Nat) (tag : Option Nat) : Bool :=
  let vid := match tag with | some t => t % 4096 | none => 0
  match prm m P.eth_accept_frames port with
  | 1 => vid != 0
  | 2 => vid == 0
  | _ => true

/-- An ARP request for an address at which the module answers (R354, R498). -/
def arpForUs (m : Module) (port : Nat) (bs : List Byte) : Bool :=
  port == 10 && (match arpTarget bs with
    | some t => (prmB m P.eth_doip_enable 10 && fullService m && t == doipAddress m)
        || (serviceOpen m && serviceAddress m == some t)
    | none => false)

/-- A Borul datagram or a fragment of one. -/
def isBorul (m : Module) (port : Nat) (bs : List Byte) : Bool :=
  match ipOf bs with
  | some ip => isBorulFragment m port (ethVlan m port bs) ip || (match udpIn ip with
      | some u => isBorulUdp m port (ethVlan m port bs) u
      | none => false)
  | none => false

/-- The bytes captured so far hold every header that decides where the frame goes: the tag, and of an IP packet the
ports. -/
def headersCaptured (bs : List Byte) : Bool :=
  let type := (ethParts bs).2.1
  decide (82 ≤ bs.length) || (decide (18 ≤ bs.length) && type != 0x0800 && type != 0x86DD && type != 0x0806)

/-- The MACsec engine of the port holds what it receives until its end (R348). -/
def macsecHolds (m : Module) (port : Nat) : Bool := decide (port < 8) && prmB m P.eth_macsec_enable port

/-- An Ethernet frame with these first bytes streams into its DCQ as it arrives (R84): it is neither for the module itself
nor one that the MAC discards, and no MACsec engine holds it until its end (R348). -/
def ethStreams (m : Module) (port : Nat) (bs : List Byte) : Bool :=
  isEthPort port && headersCaptured bs && !macsecHolds m port
    && !isPause m port bs && vlanAccepted m port (ethParts bs).1
    && !isPtp m port bs && !isDoip m port bs && !arpForUs m port bs && !isBorul m port bs

/-- A CAN frame with this header word streams into its DCQ (R84), unless it is one of a Borul pair (R15) or of a format that
the controller does not take (R300). -/
def canStreams (m : Module) (ch fmt id : Nat) : Bool := formatSendable m ch fmt && (pairOfFrame m ch fmt id).isNone

/-- The frame as it travels on; its TCI is the one received, 0 if untagged (Table 04-10). -/
def ethFrame (port : Nat) (bs : List Byte) (secured trunc : Bool) (a : Arriving) : Frame :=
  let tag := (ethParts bs).1
  { port := port, fmt := 8, data := bs, dlc := 0, trunc := trunc, tagged := tag.isSome, macsec := secured
    tci := tag.getD 0, cand := a.cand, sync := a.sync, tb0 := a.tb0 % 2 ^ 32, tb2 := a.tb2 % 2 ^ 32
    epoch := a.epoch, seq := a.seq, taken := a.taken }

/-! ### Frames the MACsec engine protects (R346, R349, R350, R352) -/

/-- Frames that need no protection (R350). -/
def macsecBypass (m : Module) (port : Nat) (bs : List Byte) : Bool :=
  let type := beAt bs 12 2
  type == 0x888E || (type == 0x88F7 && bit (prm m P.eth_macsec_bypass port) 0)

/-- Largest packet number of the port's cipher suite. -/
def maxPn (m : Module) (port : Nat) : Nat := if 2 ≤ prm m P.eth_macsec_cipher port then 2 ^ 64 - 1 else 2 ^ 32 - 1

def confOffset (m : Module) (port : Nat) : Nat :=
  match prm m P.eth_macsec_confidentiality port with
  | 2 => 30
  | 3 => 50
  | _ => 0

/-- What goes out in clear of a protected frame (IEEE 802.1AE): addresses, SecTAG, and the bytes before the confidentiality
offset. -/
def macsecHead (m : Module) (port : Nat) (sa : Sa) (bs : List Byte) : List Byte :=
  let enc := prm m P.eth_macsec_confidentiality port != 0
  let sc := prmB m P.eth_macsec_include_sci port
  let body := bs.drop 12
  let clear := if enc then min (confOffset m port) body.length else body.length
  let sl := if body.length < 48 then body.length else 0
  bs.take 12 ++ beBytes 2 0x88E5 ++ u8 (32 * b2n sc + (if enc then 12 else 0) + sa.an) ++ u8 sl ++ beBytes 4 sa.pn
    ++ (if sc then beBytes 8 sa.sci else []) ++ body.take clear

/-- A protected frame: its head, cipher text and ICV. -/
def macsecFrame (m : Module) (port : Nat) (sa : Sa) (bs : List Byte) : List Byte :=
  let enc := prm m P.eth_macsec_confidentiality port != 0
  let clear := if enc then min (confOffset m port) (bs.drop 12).length else (bs.drop 12).length
  let head := macsecHead m port sa bs
  head ++ Config.gcmSeal (prm m P.eth_macsec_cipher port) sa.key sa.sci sa.pn head (bs.drop (12 + clear))

/-- A frame that the association, if any, protects, padded to the Ethernet minimum; of one still arriving, what is known of
it by now. -/
def sentBytes (m : Module) (port : Nat) (sa : Option Sa) (unfinished : Bool) (bs : List Byte) : List Byte :=
  match sa with
  | some a => if unfinished then macsecHead m port a bs else
      let out := macsecFrame m port a bs
      out ++ zeros (60 - out.length)
  | none => if unfinished then bs else bs ++ zeros (60 - bs.length)

/-- The port protects this frame. -/
def needsMacsec (m : Module) (port : Nat) (bs : List Byte) : Bool :=
  decide (port < 8) && prmB m P.eth_macsec_enable port && !macsecBypass m port bs

/-- The MACsec engine lets nothing out that requires protection (R349, R352). -/
def macsecBlocks (m : Module) (port : Nat) (bs : List Byte) : Bool :=
  needsMacsec m port bs && (match (ethAt m port).txSa with
    | none => true
    | some sa => decide (maxPn m port < sa.pn))

/-! ### A frame wherever it is -/

/-- Bytes of an arriving Ethernet frame that have been written by now: what was captured with its head, and what its line
has brought since its arrival stamp. -/
def capturedBytes (m : Module) (v : View) (f : Frame) : Nat :=
  if !f.unfinished then f.data.length
  else max f.data.length ((v.now - arrivedAt v f) * (ethAt m f.port).rate / 8000)

def Copy.arrived (g : Frame) (c : Copy) : Copy :=
  if c.frame.seq == g.seq then { c with frame := g, tiles := frameTiles g } else c

def Job.arrived (g : Frame) (j : Job) : Job := if j.frame.seq == g.seq then { j with frame := g } else j

def Released.arrived (g : Frame) (r : Released) : Released := if r.frame.seq == g.seq then { r with frame := g } else r

/-- A transmission of the frame goes on with its whole bytes. -/
def EthTx.arrived (m : Module) (port : Nat) (g : Frame) (t : EthTx) : EthTx :=
  if t.copy.frame.seq == g.seq then
    let c := t.copy.arrived g
    { t with copy := c, bytes := if t.fastLane then g.data else sentBytes m port t.sa g.unfinished (egressEdit m port t.tc c) }
  else t

/-- The whole frame takes the place of what had arrived, wherever that has got to. -/
def arriveWhole (g : Frame) (w : W) : W :=
  let swap := fun (f : Frame) => if f.seq == g.seq then g else f
  let m := w.m
  let w := w.ing fun x => { x with
    dcq := x.dcq.map (fun p => (p.1, p.2.map swap))
    ctxs := x.ctxs.map (fun c => { c with frame := c.frame.map swap })
    done := x.done.map (Released.arrived g)
    released := x.released.map (Released.arrived g) }
  let w := w.flow fun x => { x with
    classified := x.classified.map (Job.arrived g)
    zsp := x.zsp.map (Job.arrived g)
    enq := x.enq.map (Job.arrived g)
    layby := x.layby.map (fun h => if h.frame.seq == g.seq then { h with frame := g, tiles := frameTiles g } else h) }
  w.fab fun x => { x with
    queues := x.queues.map (fun p => (p.1, p.2.map (Copy.arrived g)))
    waiting := x.waiting.map (fun y => { y with copy := y.copy.arrived g })
    tx := x.tx.map (fun p => (p.1, p.2.arrived m p.1 g))
    preempted := x.preempted.map (fun p => (p.1, p.2.arrived m p.1 g))
    fl := x.fl.map (fun p => (p.1, { p.2 with frame := swap p.2.frame, ready := p.2.ready.map (Copy.arrived g) })) }

/-- Take the copies of a frame out of every queue; what is on the wire ends with a stomped FCS (R245). -/
def recallCopies (v : View) (seq : Nat) (w : W) : W :=
  let mine := fun (t : EthTx) => !t.fastLane && t.copy.frame.seq == seq
  let w := w.each (w.m.fab.tx.filter (fun p => mine p.2)) fun p w => stompTx v p.1 p.2 (chargeTx v p.1 p.2 w)
  let w := w.each (w.m.fab.preempted.filter (fun p => mine p.2)) fun p w => stompTx v p.1 { p.2 with start := v.now } w
  w.fab fun x => { x with
    queues := (x.queues.map (fun p => (p.1, p.2.filter (fun c => c.frame.seq != seq)))).filter (fun p => !p.2.isEmpty)
    waiting := x.waiting.filter (fun y => y.copy.frame.seq != seq)
    tx := x.tx.filter (fun p => !mine p.2)
    preempted := x.preempted.filter (fun p => !mine p.2) }

/-- A frame whose end word is bad is discarded wherever it is: in its DCQ, in parse, or on its way to its queues (R89). -/
def purgeFrame (v : View) (port seq : Nat) (w : W) : W :=
  let w := w.ing fun x => { x with
    dcq := x.dcq.set [] port ((x.dcq.getD port []).filter (fun f => f.seq != seq))
    ctxs := x.ctxs.map (fun c => match c.frame with | some f => if f.seq == seq then {} else c | none => c)
    done := x.done.filter (fun r => r.frame.seq != seq)
    released := x.released.filter (fun r => r.frame.seq != seq) }
  let w := w.flow fun x => { x with
    classified := x.classified.filter (fun j => j.frame.seq != seq)
    zsp := x.zsp.filter (fun j => j.frame.seq != seq)
    enq := x.enq.filter (fun j => j.frame.seq != seq)
    layby := x.layby.filter (fun h => h.frame.seq != seq) }
  let w := flowControl v port (pruneClaims (recallCopies v seq w))
  settle v (releaseAll (freeFrame seq w))

/-- Hold a frame in the layby, with its mirror copy on the way to I0 where the signpost or a MARK asks for one (R124). -/
def holdJob (v : View) (j : Job) (reason kinds waypoint : Nat) (w : W) : W :=
  let w := holdFrame v j.frame reason kinds j.sp waypoint w
  if j.mirror || Sp.mirror.on j.sp then
    (setRefs j.frame.seq 2 w).flow fun x => { x with enq := x.enq ++ [{ j with mirrorOnly := true, fl := none }] }
  else w

/-- A truncated frame that classification has already passed takes what R128 gives it: before its waypoint its signpost is
marked and it goes to the layby; copies already queued are recalled for that, but the mirror copy made with them
(notes/assumptions/89.md). -/
def truncateLate (v : View) (g : Frame) (w : W) : W :=
  let mark := fun (sp : Nat) => Sp.action.set (Sp.truncated.set sp 1) 2
  let mine := fun (j : Job) => j.frame.seq == g.seq
  if w.m.flow.classified.any mine then
    (w.flow fun x => { x with
      classified := x.classified.map (fun j => if mine j then { j with sp := mark j.sp, layby := some 3 } else j) }).count
      C.class_truncated g.port
  else if w.m.flow.layby.any (fun h => h.frame.seq == g.seq) then
    (w.flow fun x => { x with layby := x.layby.map (fun h =>
      if h.frame.seq == g.seq then { h with sp := Sp.truncated.set h.sp 1 } else h) }).count C.class_truncated g.port
  else
    let queued := (w.m.fab.queues.flatMap Prod.snd ++ w.m.fab.waiting.map Waiting.copy
      ++ (w.m.fab.tx ++ w.m.fab.preempted).map (fun p => p.2.copy)).find? (fun c => c.frame.seq == g.seq)
    match w.m.flow.enq.find? mine, queued with
    | some j, _ =>
      let w := w.flow fun x => { x with enq := x.enq.filter (fun j => !mine j) }
      settle v (holdJob v { j with sp := mark j.sp } 3 0 0xFFFF (w.count C.class_truncated g.port))
    | none, some c => settle v (holdFrame v g 3 0 (mark c.sp) 0xFFFF ((recallCopies v g.seq w).count C.class_truncated g.port))
    | none, none => w

/-- The end word of a frame that has streamed in: it is whole from here on, wherever it is; its DCQ may lack the room for
the rest, and the tiles charged beyond its length are returned (R86, R199). Answers whether it ended well. -/
def streamEnd (v : View) (g : Frame) (w : W) : W × Bool :=
  let inDcq := (dcqOf w.m g.port).find? (fun f => f.seq == g.seq)
  let tooLong := match inDcq with
    | some f => decide (dcqSize g.port + dcqBytes f < dcqFill w.m g.port + dcqBytes g)
    | none => false
  if tooLong then
    let w := dcqDrop v g.port w
    (purgeFrame v g.port g.seq (arriveWhole g (if g.port < 14 then w.count C.pf_bad_end g.port else w)), false)
  else
    let w := arriveWhole g w
    let w := writeChain (tileWriter g.port) v g.seq (storedBytes g) true w
    let w := w.fab fun x => match x.store.get? g.seq with
      | some s => { x with store := x.store.put g.seq { s with tiles := frameTiles g } }
      | none => x
    let w := lowerReservations w
    let w := if g.trunc then truncateLate v g w else w
    (settle v (flowControl v g.port w), true)

end Sys2Proof.Machine
end

