-- ==== Sys2Proof/Machine/FastLane.lean ====
section
/-! DEFINITION. The pre-classifier and the fast lane (spec/04, R91, R92; spec/05, R125, R131; spec/08, R251-R262): the
match, the decision of lanes A and B, and the start of a cut-through output. -/

namespace Sys2Proof.Machine

/-! ### Fast-lane entries (Table 05-2) -/

namespace Fe
def valid : Fld := ⟨63, 1⟩
def kind : Fld := ⟨62, 1⟩
def port : Fld := ⟨56, 6⟩
def ide : Fld := ⟨29, 1⟩
def identifier : Fld := ⟨0, 29⟩
def dstMac : Fld := ⟨0, 48⟩
def vid : Fld := ⟨64, 12⟩
def sp : Fld := ⟨128, 64⟩
def spC : Fld := ⟨192, 64⟩
def mask : Fld := ⟨256, 64⟩
def maskC : Fld := ⟨320, 64⟩
end Fe

def flEntry (m : Module) (k : Nat) : Nat := m.tab.get 1 (fastBase + k)
def flUsable (m : Module) (k : Nat) : Bool := Fe.valid.on (flEntry m k) && !m.tab.isPoisoned 1 (fastBase + k)
def spTwinOk (e : Nat) : Bool := Fe.sp.get e + Fe.spC.get e == 2 ^ 64 - 1
def maskTwinOk (e : Nat) : Bool := Fe.mask.get e + Fe.maskC.get e == 2 ^ 64 - 1

/-- The CAN route a data frame matches: the lowest index (R251). -/
def canRoute (m : Module) (port fmt id : Nat) : Option Nat :=
  if 4 ≤ fmt then none
  else (List.range 64).find? fun k =>
    let e := flEntry m k
    flUsable m k && !Fe.kind.on e && Fe.port.get e == port && Fe.ide.get e == fmt % 2 && Fe.identifier.get e == id

/-- VLAN tag of the first bytes of an Ethernet frame. -/
def headTci (bs : List Byte) : Option Nat := if beAt bs 12 2 == 0x8100 && decide (16 ≤ bs.length) then some (beAt bs 14 2) else none

/-- The Ethernet flow a candidate matches. -/
def ethFlow (m : Module) (port : Nat) (bs : List Byte) : Option Nat :=
  match headTci bs with
  | none => none
  | some tci =>
    let vid := if tci % 4096 == 0 then prm m P.eth_default_vid port else tci % 4096
    ((List.range 16).find? fun j =>
      let e := flEntry m (64 + j)
      flUsable m (64 + j) && Fe.kind.on e && Fe.port.get e == port && Fe.dstMac.get e == beAt bs 0 6
        && Fe.vid.get e == vid).map (· + 64)

/-- The fast lane runs at this TB2 time (R71, R262). -/
def laneRuns (m : Module) (now : Nat) : Bool :=
  (match m.mod.state with | .run | .unmanaged => true | _ => false) && fullService m && !heldAllAt m now

/-! ### Outputs -/

/-- A fallback copy of route `k` is still queued for a CAN output, or will be once its stored copy is ready. -/
def flQueued (m : Module) (port k : Nat) : Bool :=
  m.fab.fl.any (fun p => p.2.entry == k && p.2.fallback.contains port) ||
  (queueOf m port 3 ++ loadedCopies m port 3).any (fun c => c.fallback == some k)
    || m.fab.waiting.any (fun x => x.port == port && x.copy.fallback == some k)

def classStopped (m : Module) (port q now : Nat) : Bool :=
  match m.fab.paused.get? (queueKey port q) with
  | some t => decide (now < t)
  | none => false

/-- A start request the output turns down at once (R256, R338, R343, R262). -/
def refusesStart (m : Module) (now port k fmt : Nat) (busy : Bool) : Bool :=
  if isCanPort port then
    busy || flQueued m port k || (canAt m (port - 14)).suspended || canMode m (port - 14) != 1 || portHeld m port
      || !formatSendable m (port - 14) fmt
  else busy || !linkUsable m port || portHeld m port || classStopped m port 7 now

/-! ### PRECLASSIFY -/

/-- A twin pair of an entry has failed in lane A (0), B (1) or both (2); pair 0 signpost, 1 port mask (R125). -/
def twinLaneFail (v : View) (k lane pair : Nat) (w : W) : W × Option Nat :=
  let w := w.tab fun x => x.poisonEntry 1 (fastBase + k)
  ((w.count C.fastlane_twin_fail).event v 0x0502 2 (u8 lane ++ u8 pair ++ zeros 2 ++ u32 (fastBase + k)), none)

/-- The decision of both lanes about a matched entry (R125, R254): none when the frame is NOT_TAKEN. -/
def laneDecision (v : View) (k lanes : Nat) (w : W) : W × Option Nat :=
  let e := flEntry w.m k
  if !spTwinOk e || !maskTwinOk e then twinLaneFail v k 2 (if spTwinOk e then 1 else 0) w
  else if 3 ≤ lanes ∧ lanes ≤ 6 then twinLaneFail v k ((lanes - 3) / 2) ((lanes - 3) % 2) w
  else if lanes == 1 then
    ((w.count C.fl_lockstep_mismatch).event v 0x0804 2 (u32 (fastBase + k) ++ u8 0 ++ u8 (Fe.port.get e) ++ zeros 2), none)
  else (w, some (Fe.mask.get e))

/-- The fast lane takes a frame: start requests go to every output of the port mask. -/
def takeFrame (v : View) (k mask lanes : Nat) (f : Frame) (w : W) : W :=
  let ports := (bitsOf 44 mask).filter (· != f.port)
  let armed := w.m.mod.injections.contains (3, k)
  let w := if armed then w.mod fun x => { x with injections := x.injections.erase (3, k) } else w
  let busy := ports.filter (fun p => (served w.m p).isSome ||
    (match w.m.fab.tx.get? p with | some t => t.fastLane | none => false))
  let rec0 : FlFrame := { entry := k, frame := f, open_ := ports, mismatch := armed || lanes == 2 }
  let w := w.fab fun x => { x with fl := x.fl.put f.seq rec0 }
  let w := w.count C.fl_taken k
  w.each ports fun p w =>
    if refusesStart w.m v.now p k f.fmt (busy.contains p) then flOutcome v f.seq p (.fallback false) w else w

/-- An uncorrectable error that waits in the entry is found when the entry is read. -/
def touchLane (v : View) (port : Nat) (w : W) : W :=
  touch v (((List.range 80).filter (fun k => Fe.port.get (flEntry w.m k) == port)).map
    (fun k => entryKey 1 (fastBase + k))) w

/-- The controller is on, on its bus or link; a hold may still keep it from receiving. -/
def portOn (m : Module) (port : Nat) : Bool :=
  powered m && !portAsleep m port &&
    (if isCanPort port then
      (canMode m (port - 14) == 1 || canMode m (port - 14) == 2) && (canAt m (port - 14)).conf != 2
    else linkUsable m port)

/-- The controller takes part in receiving. -/
def portReceives (m : Module) (now port : Nat) : Bool := portOn m port && !portHeldAt m now port

/-- The fast-lane entry that a frame with this head matches (R91). -/
def laneHit (m : Module) (port : Nat) (h : FrameHead) : Option Nat :=
  if isCanPort port then canRoute m port h.fmt h.id else ethFlow m port h.bytes

/-- A frame with this head is Borul traffic, which goes to I0 and to no other port (R15, R16). -/
def borulHead (m : Module) (port : Nat) (h : FrameHead) : Bool :=
  if isCanPort port then (pairOfFrame m (port - 14) h.fmt h.id).isSome else isBorul m port h.bytes

/-- The frame is a candidate of the fast lane (R91). -/
def isCandidate (m : Module) (now port : Nat) (h : FrameHead) : Bool :=
  let pcp7 := match headTci h.bytes with | some t => t / 8192 == 7 | none => false
  laneRuns m now && bit (portMode m port) 2 &&
    (if isCanPort port then (laneHit m port h).isSome else pcp7 && vlanAccepted m port (ethParts h.bytes).1)

/-- What is noted of a frame whose head has crossed: its stamps (R82), its place in the arrival order, and whether it
streams into its DCQ. -/
def arrivalOf (v : View) (m : Module) (port : Nat) (h : FrameHead) : Arriving :=
  let adj := rxAdjust m port
  { head := h, cand := false
    marked := isCanPort port && isClaimId h.fmt h.id && decide (1 ≤ jMode m (port - 14))
    tb0 := moved v.time.tb0.full adj, tb2 := moved v.now adj, tb1 := moved v.time.tb1.full adj
    sync := synced (tb0State m), epoch := m.tc.epoch, seq := 2 * (m.ing.seq + 1)
    streamed := if isCanPort port then canStreams m (port - 14) h.fmt h.id else ethStreams m port h.bytes }

/-- The fast lane's view of a frame whose head has crossed. -/
def headFrame (port : Nat) (h : FrameHead) (a : Arriving) : Frame :=
  if isCanPort port then
    { port := port, fmt := h.fmt, id := h.id, ide := h.ide, dlc := h.len, brs := h.brs, sdt := h.sdt, vcid := h.vcid
      af := h.af, sec := h.sec, cand := a.cand, sync := a.sync, tb0 := a.tb0 % 2 ^ 32, tb2 := a.tb2 % 2 ^ 32
      epoch := a.epoch, marked := a.marked, seq := a.seq, taken := a.taken, unfinished := true
      announced := some (if h.fmt == 7 then 0 else h.len) }
  else { ethFrame port h.bytes false false a with unfinished := true }

/-- The frame arrives: what of it streams into its DCQ does so. -/
def noteArrival (v : View) (port : Nat) (h : FrameHead) (a : Arriving) (w : W) : W :=
  let f := headFrame port h a
  let w := w.ing fun x => { x with
    seq := x.seq + 1, arriving := x.arriving.put port { a with dropped := a.streamed && dcqFull w.m f } }
  if a.streamed then intoDcq v f w else w

/-- The pre-classifier offers a frame to the fast lane: whether it is a candidate, and the entry and port mask with which
both lanes take it. -/
def laneOffer (v : View) (port : Nat) (h : FrameHead) (a : Arriving) (w : W) : W × Arriving × Option Nat :=
  let w := if laneRuns w.m v.now then touchLane v port w else w
  let cand := isCandidate w.m v.now port h
  let a := { a with cand := cand }
  let w := if cand then w.count C.fl_candidates port else w
  match cand && !borulHead w.m port h, laneHit w.m port h with
  | true, some k =>
    match laneDecision v k h.lanes w with
    | (w, some mask) => (w, { a with taken := some k }, some mask)
    | (w, none) => (w, a, none)
  | _, _ => (w, a, none)

/-- What the lanes have decided to take starts toward its outputs. -/
def laneTake (v : View) (port : Nat) (h : FrameHead) (a : Arriving) (mask : Option Nat) (w : W) : W :=
  match a.taken, mask with
  | some k, some m => takeFrame v k m h.lanes (headFrame port h a) w
  | _, _ => w

/-- PRECLASSIFY: the header word of a CAN frame, or the VLAN word of an Ethernet frame, has crossed (R91, R92). The
arrival stamps are taken here (R82). A frame that the MACsec engine holds is offered to the fast lane after it (R348). -/
def preclassifyCore (port : Nat) (h : FrameHead) (v : View) (w : W) : W :=
  if !portReceives w.m v.now port then w
  else
    let a := arrivalOf v w.m port h
    if macsecHolds w.m port then noteArrival v port h a w
    else
      let (w, a, mask) := laneOffer v port h a w
      laneTake v port h a mask (noteArrival v port h a w)

def execPreclassify (port : Nat) (h : FrameHead) (s : State) : Host.Outcome State Fault Refusal :=
  run (isEthPort port || isCanPort port) (preclassifyCore port h) s

/-! ### FASTLANE_CAN_SOF (R256, R257) -/

/-- The output may start before the input's end (R257). -/
def mayCutThrough (m : Module) (out_ : Nat) (f : Frame) : Bool :=
  let i := f.port - 14
  let fd := (f.fmt == 2 || f.fmt == 3) && f.brs
  decide (canRate m out_ 0 ≤ canRate m i 0) && (!fd || decide (canRate m out_ 1 ≤ canRate m i 1))

/-- The output bus is free for the transmitter: no loaded object goes first. -/
def laneMayStart (m : Module) (ch : Nat) (f : Frame) : Bool :=
  canSends m ch && (canAt m ch).attempt.isNone
    && !((canAt m ch).objs.any (fun p => p.2.st == 1 && decide (p.2.rank < busRank (f.fmt % 2 == 1) f.id)))

/-- Transmit capture of an attempt: TB0, TB1 and TB2 at the same edge (R370). -/
def txCapture (v : View) (ch : Nat) : Nat × Nat × Nat :=
  let c := (canCorrection ch).2
  (moved v.time.tb0.full c, moved v.time.tb1.full c, moved v.now c)

def fastlaneCanSofCore (ch : Nat) (v : View) (w : W) : W :=
  let port := canPort ch
  match served w.m port with
  | none => w
  | some (seq, x) =>
    let start := fun (w : W) =>
      (dataPhase ch x.frame.fmt x.frame.brs w).can ch fun c => { c with attempt := some (.fast seq), sof := txCapture v ch }
    if x.started.contains port then w
    else if mayCutThrough w.m ch x.frame then
      if laneMayStart w.m ch x.frame && !x.ended then
        (start w).flFrame seq fun x => { x with started := port :: x.started }
      else w
    else if x.ended then
      if laneMayStart w.m ch x.frame then
        (start w).flFrame seq fun x => { x with started := port :: x.started, buffered := port :: x.buffered }
      else flOutcome v seq port (.fallback false) w
    else w

def execFastlaneCanSof (ch : Nat) (s : State) : Host.Outcome State Fault Refusal :=
  run (decide (ch < 22)) (fastlaneCanSofCore ch) s

/-! ### Transmission time and FASTLANE_ETH_START (R236, R261) -/

/-- MACsec overhead M of R347. -/
def macsecOverhead (m : Module) (port : Nat) : Nat :=
  if prmB m P.eth_macsec_enable port then (if prmB m P.eth_macsec_include_sci port then 32 else 24) else 0

/-- T(f) in nanoseconds for a stored length after egress edits, rounded up (R236). -/
def txTime (m : Module) (port len : Nat) : Nat :=
  let r := max 1 (ethAt m port).rate
  (8000 * (max len 60 + 24 + macsecOverhead m port) + r - 1) / r

/-- The wire is free for an express frame: nothing on it, or a preemptable frame that can be cut now. -/
def wireFree (m : Module) (port now : Nat) : Bool := (m.fab.tx.get? port).isNone || preemptableNow m port now

/-- What has been captured of the frame tells that it is no Borul traffic (R16): its EtherType is not IP, or it shows the
UDP ports. -/
def laneForwards (m : Module) (f : Frame) : Bool :=
  let type := (ethParts f.data).2.1
  !isBorul m f.port f.data && (!f.unfinished || decide (64 ≤ f.data.length) || type != 0x0800 && type != 0x86DD)

/-- FASTLANE_ETH_START. At a rate not above the input's, the output starts once 64 bytes have been captured; a faster
output starts from its buffer after the input's end, and its outcome is final then (R255, R261). -/
def fastlaneEthStartCore (port : Nat) (v : View) (w : W) : W :=
  match served w.m port with
  | none => w
  | some (seq, x) =>
    let faster := decide ((ethAt w.m x.frame.port).rate < (ethAt w.m port).rate)
    let len := if x.ended then x.frame.data.length else prm w.m P.eth_max_frame_size x.frame.port
    let ok := linkUsable w.m port && !portHeld w.m port && wireFree w.m port v.now && !classStopped w.m port 7 v.now
      && !macsecBlocks w.m port x.frame.data && laneForwards w.m x.frame
      && gateOpen w.m port 7 v.time.tb0.full (txTime w.m port len)
    let start := fun (w : W) =>
      let w := preemptNow v port w
      let t : EthTx := { copy := { frame := x.frame, tc := 7 }, tc := 7, fastLane := true, start := v.now
                         bytes := x.frame.data }
      let w := w.fab fun y => { y with tx := y.tx.put port t }
      w.flFrame seq fun x => { x with
        started := port :: x.started, buffered := if faster then port :: x.buffered else x.buffered }
    if x.started.contains port || faster != x.ended then w
    else if faster then
      if ok then flOutcome v seq port .sent ((start w).count C.fl_buffered port)
      else flOutcome v seq port (.fallback false) w
    else if ok && decide (64 ≤ capturedBytes w.m v x.frame) then start w
    else w

def execFastlaneEthStart (port : Nat) (s : State) : Host.Outcome State Fault Refusal :=
  run (isEthPort port) (fastlaneEthStartCore port) s

/-! ### The input's end (R255, R257, R258, R261) -/

/-- A fast-lane output ends its Ethernet frame with a stomped FCS (R245). -/
def laneStomp (v : View) (port : Nat) (w : W) : W :=
  match w.m.fab.tx.get? port with
  | some t => stompTx v port t (w.fab fun y => { y with tx := y.tx.erase port })
  | none => w

/-- A data mismatch in lane B: each started output ends its frame and falls back (R254). -/
def laneMismatch (v : View) (seq : Nat) (w : W) : W :=
  match w.m.fab.fl.get? seq with
  | none => w
  | some x =>
    if !x.mismatch || x.started.isEmpty then w
    else
      let w := (w.count C.fl_lockstep_mismatch).event v 0x0804 2
        (u32 (fastBase + x.entry) ++ u8 1 ++ u8 x.frame.port ++ zeros 2)
      let w := w.flFrame seq fun x => { x with mismatch := false }
      w.each (x.started.filter (x.open_.contains ·)) fun p w =>
        let w := if isCanPort p then
            setCounters v (p - 14) ((canAt w.m (p - 14)).tec + 8) (canAt w.m (p - 14)).rec_
              ((w.can (p - 14) fun c => { c with attempt := none }).send (.canErrorFlag (p - 14)))
          else laneStomp v p w
        flOutcome v seq p (.fallback false) w

/-- The input frame has failed: every output that has started ends with an error (R258, R261), and the frame is
forgotten. -/
def laneAbort (v : View) (seq : Nat) (w : W) : W :=
  match w.m.fab.fl.get? seq with
  | none => w
  | some x =>
    let w := w.each x.open_ fun p w =>
      let w := if !x.started.contains p then w
        else if isCanPort p then
          setCounters v (p - 14) ((canAt w.m (p - 14)).tec + 8) (canAt w.m (p - 14)).rec_
            ((w.can (p - 14) fun c => { c with attempt := none }).send (.canErrorFlag (p - 14)))
        else laneStomp v p w
      flOutcome v seq p .aborted w
    w.fab fun y => { y with fl := y.fl.erase seq }

/-- The input frame has ended well: an Ethernet output under way is SENT, final at the end word (R255), and outputs that
had to start before it and have not give FALLBACK. -/
def laneEnd (v : View) (f : Frame) (w : W) : W :=
  match w.m.fab.fl.get? f.seq with
  | none => w
  | some _ =>
    let w := (arriveWhole f w).flFrame f.seq fun x => { x with frame := f, ended := true }
    let w := laneMismatch v f.seq w
    match w.m.fab.fl.get? f.seq with
    | none => w
    | some x => w.each x.open_ fun p w =>
      if x.started.contains p then (if isEthPort p then flOutcome v f.seq p .sent w else w)
      else
        let waits := if isCanPort p then !mayCutThrough w.m (p - 14) f
          else decide ((ethAt w.m f.port).rate < (ethAt w.m p).rate)
        if waits then w else flOutcome v f.seq p (.fallback false) w

/-- The input is intact, but no stored copy of it exists: it was for the module itself, or found its DCQ full. -/
def laneAlone (v : View) (f : Frame) (w : W) : W := leaveLane f.seq (laneEnd v f w)

end Sys2Proof.Machine
end

