-- ==== Sys2Proof/Machine/Can.lean ====
section
/-! DEFINITION. CAN transmission, collisions, bus-off, rate detection and the OBJECT family for CAN channels (spec/10,
R249, R306-R325, R331). -/

namespace Sys2Proof.Machine

/-! ### CAN_OBJECT_LOAD (R249, R310) -/

/-- `q` 0 to 3: the next frame of that queue enters a free pool object; 4: frames of module functions and the next
message of a Borul pair take theirs. -/
def canObjectLoadCore (ch q : Nat) (t : Option TileFault) (v : View) (w : W) : W :=
  if q < 4 then settle v (loadPool v ch q t ((queueOf w.m (canPort ch) q).length) w)
  else
    let w := drainBacklog ch w
    w.each (List.range 2) fun n w =>
      if (w.m.borul.pairQueue.find? (fun x => x.1 == n)).any (fun x => x.2.1.ch == ch) then startPair v n w else w

def execCanObjectLoad (ch q : Nat) (t : Option TileFault) (s : State) : Host.Outcome State Fault Refusal :=
  run (decide (ch < 22 ∧ q < 5)) (canObjectLoadCore ch q t) s

/-! ### CAN_TX_ATTEMPT_START -/

/-- What the module's own functions note of the SOF of one of their objects. -/
def noteSof (ch n : Nat) (sof : Nat × Nat × Nat) (w : W) : W :=
  if n == 66 then w.can ch fun c => { c with claimSof := some sof.2.2 }
  else if n == 71 then w.tc fun x => match x.ctsTx.get? ch with
    | some p => { x with ctsTx := x.ctsTx.put ch { p with sof := some sof.2.1, tb2 := sof.2.2 } }
    | none => x
  else w

/-- A SYNC that has not started within cts_fup_timeout no longer starts (R382). -/
def syncOverdue (m : Module) (now ch : Nat) : Bool :=
  match m.tc.ctsTx.get? ch with
  | some p => p.sof.isNone && decide (p.at_ + prmNs m P.time_cts_fup_timeout ≤ now)
  | none => false

/-- The object whose attempt may start, of those whose format the channel sends (R300): any, or that of a Borul pair
under a hold (R69). -/
def startable (m : Module) (now ch : Nat) : Option (Nat × MsgObj) :=
  let c := canAt m ch
  let c := { c with objs := c.objs.filter (fun p => formatSendable m ch p.2.fmt && !(p.1 == 71 && syncOverdue m now ch)) }
  if canSends m ch then nextObj c
  else if canMode m ch == 1 && c.conf != 2 && canPairsOnly m ch then
    nextObj { c with objs := c.objs.filter (fun p => p.1 == 64 || p.1 == 65) }
  else none

/-- The cut-through transmitter starts at this bit boundary: no loaded object has a higher-priority identifier (R256). -/
def laneFirst (m : Module) (ch : Nat) : Bool :=
  match served m (canPort ch) with
  | none => false
  | some (_, x) => !x.started.contains (canPort ch) && laneMayStart m ch x.frame
      && (x.ended == !mayCutThrough m ch x.frame)

/-- SOF of the pending object that goes first (R249, R315). -/
def canTxAttemptStartCore (ch : Nat) (v : View) (w : W) : W :=
  let c := canAt w.m ch
  if c.attempt.isSome || laneFirst w.m ch then w
  else match startable w.m v.now ch with
    | none => w
    | some (n, o) =>
      let sof := txCapture v ch
      let w := dataPhase ch o.fmt o.brs w
      let w := w.can ch fun c => { c with attempt := some (.obj n), sof := sof }
      let w := stampObj ch n sof.1 (w.obj ch n fun o => { o with st := 2 })
      noteSof ch n sof w

def execCanTxAttemptStart (ch : Nat) (s : State) : Host.Outcome State Fault Refusal :=
  run (decide (ch < 22)) (canTxAttemptStartCore ch) s

/-! ### CAN_TX_ATTEMPT_END -/

/-- A module-function object gives up its frame: the transfer it belonged to fails, and the next frame loads. -/
def dropFunction (v : View) (ch n : Nat) (w : W) : W :=
  let o := objAt (canAt w.m ch) n
  let w := emptyObj ch n w
  let w := match w.m.borul.isotp.find? (fun t => t.sending && t.ch == ch && t.txId == o.id && t.inFlight) with
    | some t => if (64 ≤ n ∧ n < 66) ∨ (77 ≤ n ∧ n < 85) then failTp t w else w
    | none => w
  let w := drainBacklog ch w
  if 64 ≤ n ∧ n < 66 then startPair v (n - 64) w else w

/-- The other fields of an object's frame as it is sent: a forwarded XL frame keeps its own (R300). -/
def MsgObj.more (o : MsgObj) : CanMore :=
  let own : CanMore := { ide := o.ide, dlc := o.length, brs := o.brs }
  match o.copy with
  | some c => { own with sdt := c.frame.sdt, vcid := c.frame.vcid, af := c.frame.af, sec := c.frame.sec }
  | none => own

/-- The object's frame has been sent. -/
def objSent (v : View) (ch n : Nat) (w : W) : W :=
  let o := objAt (canAt w.m ch) n
  let data := match o.copy with | some c => c.frame.data | none => o.data
  let w := clearConsecutive ch o (w.count C.can_tx_frames ch)
  let w := (w.send (.can ch o.fmt o.id data o.more)).count C.egress_bytes (canPort ch) data.length
  if n < 64 then releasePool v ch n (w.count C.egress_frames (queueKey (canPort ch) o.queue))
  else if n < 96 then tpSent v ch n o (drainBacklog ch (emptyObj ch n w))
  else w.obj ch n fun o => { o with st := 0, collisions := 0 }

/-- After a failed attempt: the object stays pending, or a single shot is over (R314, R316). -/
def objFailed (v : View) (ch n : Nat) (w : W) : W :=
  let o := objAt (canAt w.m ch) n
  if o.st == 3 then w
  else if n < 64 && !autoRetransmit w.m ch then releasePool v ch n (w.count C.can_tx_single_shot_fail ch)
  else if 96 ≤ n && o.singleShot then
    (w.obj ch n fun o => { o with st := 0 }).count C.can_tx_single_shot_fail ch
  else w.obj ch n fun o => { o with st := 1 }

/-- An error of the controller's own attempt: counters, last error, error flag (R305, R317). -/
def txError (v : View) (ch : Nat) (e : CanError) (phase fast exempt : Bool) (more : Nat) (w : W) : W :=
  let w := (w.count C.can_tx_error ch).send (.canErrorFlag ch fast)
  let w := w.can ch fun c => { c with lastError := errorCode e + 8 * b2n phase }
  let c := canAt w.m ch
  setCounters v ch ((if exempt then c.tec else c.tec + 8) + 8 * more) c.rec_ w

def isBitError : CanError → Bool
  | .bit0 => true
  | .bit1 => true
  | _ => false

/-- An attempt of message object `n` ends. -/
def endObj (v : View) (ch n : Nat) (e : CanTxEnd) (w : W) : W :=
  let o := objAt (canAt w.m ch) n
  match e with
  | .sent more =>
    let c := canAt w.m ch
    objSent v ch n (setCounters v ch (c.tec - 1 + 8 * more) c.rec_ w)
  | .lost => objFailed v ch n (w.count C.can_arbitration_lost ch)
  | .failed x dataField exempt more =>
    let w := txError v ch x (dataField && (o.brs || o.fmt == 4)) (dataField && o.fmt == 4 && fastMode w.m ch) exempt more w
    objFailed v ch n (if dataField && isBitError x then objCollision v ch n w else w)

/-- The object that stands for a fast-lane frame in the collision table. -/
def laneObj (f : Frame) : MsgObj := { id := f.id, ide := f.fmt % 2 == 1 }

/-- An attempt of the cut-through transmitter ends (R255, R259). -/
def endFast (v : View) (ch seq : Nat) (e : CanTxEnd) (w : W) : W :=
  let port := canPort ch
  match w.m.fab.fl.get? seq with
  | none => w
  | some x =>
    let f := x.frame
    match e with
    | .sent more =>
      let c := canAt w.m ch
      let w := setCounters v ch (c.tec - 1 + 8 * more) c.rec_ (w.count C.can_tx_frames ch)
      let bits : CanMore := { ide := f.fmt % 2 == 1, dlc := f.dlc, brs := f.brs, esi := f.esi }
      let w := (w.send (.can ch f.fmt f.id f.data bits)).count C.egress_bytes port f.data.length
      flOutcome v seq port .sent w
    | .lost => flOutcome v seq port (.fallback true) (w.count C.can_arbitration_lost ch)
    | .failed err dataField exempt more =>
      let w := txError v ch err (dataField && x.frame.brs) false exempt more w
      let w := if dataField && isBitError err then
          let w := noteCollision v ch (laneObj x.frame) (w.count C.can_collision ch)
          w.flFrame seq fun x => { x with collided := port :: x.collided }
        else w
      flOutcome v seq port (.fallback false) w

/-- The attempt is over; the bus carried its frame since SOF, unless another node won (Table 10-10, bus_load). -/
def endAttempt (v : View) (ch : Nat) (onBus : Bool) (w : W) : W :=
  w.can ch fun c => { c with attempt := none, load := if onBus then addLoad c.load c.sof.2.2 v.now else c.load }

/-- The SYNC of a CTS pair is not sent by an attempt that fails: its capture is not T_sof (R382; DEDUCED,
notes/assumptions/114.md). -/
def forgetSof (ch : Nat) (a : Attempt) (e : CanTxEnd) (w : W) : W :=
  match a, e with
  | .obj 71, .lost | .obj 71, .failed .. => w.tc fun x => match x.ctsTx.get? ch with
    | some p => { x with ctsTx := x.ctsTx.put ch { p with sof := none } }
    | none => x
  | _, _ => w

/-- The output trails its input, and cannot have sent the frame whole before the input's end (R257). -/
def trailing (m : Module) (ch : Nat) (e : CanTxEnd) : Bool :=
  match (canAt m ch).attempt, e with
  | some (.fast seq), .sent _ => match m.fab.fl.get? seq with
    | some x => !x.ended
    | none => false
  | _, _ => false

def canTxAttemptEndCore (ch : Nat) (e : CanTxEnd) (v : View) (w : W) : W :=
  match (canAt w.m ch).attempt, trailing w.m ch e with
  | none, _ => w
  | _, true => w
  | some a, false =>
    let w := forgetSof ch a e (endAttempt v ch (e != .lost) w)
    match a with
    | .obj n => settle v (endObj v ch n e w)
    | .fast seq => endFast v ch seq e w

def execCanTxAttemptEnd (ch : Nat) (e : CanTxEnd) (s : State) : Host.Outcome State Fault Refusal :=
  run (decide (ch < 22)) (canTxAttemptEndCore ch e) s

/-! ### COLLISION_HOLD_EXPIRY (R320) -/

def collisionHoldExpiryCore (ch n : Nat) (v : View) (w : W) : W :=
  let o := objAt (canAt w.m ch) n
  if o.st != 3 || !v.expired (o.since + prmNs w.m P.can_collision_hold ch) then w
  else
    let w := w.count C.can_cancel ch
    if n < 64 then releasePool v ch n w else dropFunction v ch n w

def execCollisionHoldExpiry (ch n : Nat) (s : State) : Host.Outcome State Fault Refusal :=
  run (decide (ch < 22 ∧ n < 96)) (collisionHoldExpiryCore ch n) s

/-! ### BUS_OFF_RECOVERED (R318) -/

/-- A held controller takes no part in the bus, and so counts no recessive bits (R308). -/
def busOffRecoveredCore (ch : Nat) (v : View) (w : W) : W :=
  let c := canAt w.m ch
  if c.conf != 2 || !c.recovering || portHeldAt w.m v.now (canPort ch) then w
  else
    let w := w.can ch fun c => { c with conf := 0, recovering := false, tec := 0, rec_ := 0 }
    let w := w.event v 0x0A03 0 (u8 (canPort ch) ++ zeros 3 ++ u32 ((v.now - c.busOffAt) / 1000000))
    claimOwn v ch (checkSuspension v ch w)

def execBusOffRecovered (ch : Nat) (s : State) : Host.Outcome State Fault Refusal :=
  run (decide (ch < 22)) (busOffRecoveredCore ch) s

/-! ### Rate detection (R309) -/

/-- Table 10-4. -/
def candidateRate (b : Nat) : Nat := atD [50000, 100000, 125000, 250000, 500000, 800000, 1000000] b 0

/-- Detection ends with a rate, 0 for none. -/
def endDetect (v : View) (ch rate : Nat) (w : W) : W :=
  (w.can ch fun c => { c with detect := none, listen := true, detectedRate := rate }).event v 0x0A05
    (if rate = 0 then 1 else 0) (u8 (canPort ch) ++ zeros 3 ++ u32 rate)

/-- A frame was received at the current candidate, with or without an error. -/
def detectFrame (v : View) (ch : Nat) (good : Bool) (w : W) : W :=
  match (canAt w.m ch).detect with
  | none => w
  | some (pos, n, until_) =>
    if until_ ≤ v.now then w
    else
    let cands := bitsOf 7 (prm w.m P.can_rate_detect_candidates ch)
    match cands[pos]? with
    | none => w
    | some b =>
      if !good then w.can ch fun c => { c with detect := some ((pos + 1) % cands.length, 0, until_) }
      else if prm w.m P.can_rate_detect_frames ch ≤ n + 1 then endDetect v ch (candidateRate b) w
      else w.can ch fun c => { c with detect := some (pos, n + 1, until_) }

def rateDetectTimeoutCore (ch : Nat) (v : View) (w : W) : W :=
  match (canAt w.m ch).detect with
  | none => w
  | some (_, _, until_) => if v.expired until_ then endDetect v ch 0 w else w

def execRateDetectTimeout (ch : Nat) (s : State) : Host.Outcome State Fault Refusal :=
  run (decide (ch < 22)) (rateDetectTimeoutCore ch) s

/-! ### TRAILER_LINE (R325) -/

/-- The trailer transceiver reports its line bits: CAN_H fault, CAN_L fault, single-wire operation. -/
def trailerLineCore (ch lines : Nat) (v : View) (w : W) : W :=
  let old := (canAt w.m ch).transceiver
  let new := setFld old 8 3 lines
  if new == old || !powered w.m then w
  else (w.can ch fun c => { c with transceiver := new }).event v 0x0A06 1 (u8 (canPort ch) ++ u8 0 ++ u16 (new % 65536))

def execTrailerLine (ch lines : Nat) (s : State) : Host.Outcome State Fault Refusal :=
  run (decide (20 ≤ ch ∧ ch < 22 ∧ lines < 8)) (trailerLineCore ch lines) s

/-! ### OBJECT operations (R331) -/

/-- A payload that begins with a CAN channel. -/
def canOp (n : Nat) (f : Nat → Body) : Body := need n fun c p v w =>
  let port := leAt p 0 1
  if isCanPort port then f (port - 14) c p v w else refuse w St.badParam

/-- can.controller_state (Table 10-10, index 34). -/
def controllerState (m : Module) (ch : Nat) : Nat :=
  let c := canAt m ch
  min c.tec 255 + min c.rec_ 255 * 2 ^ 8 + c.conf * 2 ^ 16 + canMode m ch * 2 ^ 18
    + b2n (portHeld m (canPort ch)) * 2 ^ 20 + b2n c.recovering * 2 ^ 21

/-- An XL frame is on the bus of a channel that uses FAST mode: the transceiver is in it between ADS and DAS (R305). -/
def xlUnderWay (m : Module) (ch : Nat) : Bool :=
  let own := match (canAt m ch).attempt with
    | some (.obj n) => (objAt (canAt m ch) n).fmt == 4
    | _ => false
  let received := match m.ing.arriving.get? (canPort ch) with
    | some a => a.head.fmt == 4
    | none => false
  fastMode m ch && (own || received)

/-- can.transceiver_status: bit 0 is open only while an XL frame is on the bus; no rule says what sets bits 1 to 3, so
they are free. -/
def transceiverStatus (v : View) (ch : Nat) (w : W) : W × Nat :=
  let (w, x) := w.free v 16
  (w, (canAt w.m ch).transceiver + (if xlUnderWay w.m ch then x else x / 2 * 2))

def objectStatusBody : Body := canOp 4 fun ch _ _ v w =>
  let c := canAt w.m ch
  let loaded := (c.objs.filter (fun p => decide (p.1 < 64) && p.2.copy.isSome)).length
  let used := (c.objs.filter (fun p => decide (96 ≤ p.1) && p.2.kind != 0)).length
  let (w, line) := transceiverStatus v ch w
  answer w (u32 (controllerState w.m ch) ++ u32 c.detectedRate ++ u32 line ++ u8 loaded ++ u8 used
    ++ u8 c.ownAddr ++ u8 0 ++ u16 (busLoad c.load v.now) ++ zeros 2)

def opObjectStatus : OpInfo := { code := 0x0F01, role := 1, safe := true }
def execObjectStatus (r : Request) (s : State) : Host.Outcome State Fault Refusal :=
  run true (request opObjectStatus r objectStatusBody) s

/-- Fields of an identifier word (Table 10-6). -/
def withWord (x : Nat) (o : MsgObj) : MsgObj :=
  { o with id := fld x 0 29, ide := bit x 29, fdf := bit x 30, brs := bit x 31 }

/-- Expert objects only. -/
def expertObj (ch n : Nat) (f : MsgObj → W → W × Ans) (w : W) : W × Ans :=
  if 128 ≤ n then refuse w St.outOfRange
  else if n < 96 then refuse w St.badParam
  else f (objAt (canAt w.m ch) n) w

def objectConfigBody : Body := canOp 12 fun ch _ p _ w =>
  let n := leAt p 1 1
  let kind := leAt p 2 1
  expertObj ch n (fun o w =>
    if 2 < kind then refuse w St.badParam
    else if o.st != 0 then refuse w St.wrongState
    else if kind = 0 then answer (emptyObj ch n w) []
    else
      let flags := leAt p 3 1
      let new : MsgObj := withWord (leAt p 4 4)
        { kind := kind, singleShot := bit flags 0, acceptRemote := bit flags 1, mask := fld (leAt p 8 4) 0 30 }
      answer (w.obj ch n fun _ => new) []) w

def opObjectConfig : OpInfo := { code := 0x0F02, role := 2 }
def execObjectConfig (r : Request) (s : State) : Host.Outcome State Fault Refusal :=
  run true (request opObjectConfig r objectConfigBody) s

/-- Kind shown for an object that holds nothing: its place in Table 10-5. -/
def idleKind (m : Module) (ch n : Nat) : Nat :=
  if n < 64 then
    (if (List.range 4).any (fun q => let p := poolPart m ch q; decide (p.1 ≤ n ∧ n < p.1 + p.2)) then 3 else 0)
  else if n < 96 then 4 else 0

/-- The snapshot of an object (Table 10-6). -/
def objSnapshot (m : Module) (ch n : Nat) : List Byte :=
  let o := ((canAt m ch).objs.get? n).getD { kind := idleKind m ch n }
  u8 (canPort ch) ++ u8 n ++ u8 o.kind ++ u8 o.st
    ++ u8 (b2n o.newData + 2 * b2n o.msgLost + 4 * b2n o.singleShot + 8 * b2n o.acceptRemote + 16 * b2n o.remote)
    ++ u8 o.collisions ++ u16 o.rxSeq ++ u32 o.word ++ u32 o.mask ++ u8 o.length ++ u8 0 ++ u16 o.ms ++ u32 o.ts
    ++ (o.data ++ zeros 64).take 64

def objectReadBody : Body := canOp 4 fun ch _ p _ w =>
  let n := leAt p 1 1
  if 128 ≤ n then refuse w St.outOfRange else answer w (objSnapshot w.m ch n)

def opObjectRead : OpInfo := { code := 0x0F03, role := 1 }
def execObjectRead (r : Request) (s : State) : Host.Outcome State Fault Refusal :=
  run true (request opObjectRead r objectReadBody) s

def objectAckBody : Body := canOp 4 fun ch _ p _ w =>
  let n := leAt p 1 1
  let o := objAt (canAt w.m ch) n
  if 128 ≤ n then refuse w St.outOfRange
  else if o.rxSeq != leAt p 2 2 then refuse w St.counterStale (u16 o.rxSeq ++ zeros 2)
  else if ((canAt w.m ch).objs.get? n).isNone then answer w []
  else answer (w.obj ch n fun o => { o with newData := false, msgLost := false }) []

def opObjectAck : OpInfo := { code := 0x0F04, role := 2 }
def execObjectAck (r : Request) (s : State) : Host.Outcome State Fault Refusal :=
  run true (request opObjectAck r objectAckBody) s

/-- Data lengths a classic or FD frame can have. -/
def canLength (fdf : Bool) (n : Nat) : Bool :=
  decide (n ≤ 8) || (fdf && [12, 16, 20, 24, 32, 48, 64].contains n)

def objectSendBody : Body := fun c p v w => canOp (12 + leAt p 8 1) (fun ch _ p _ w =>
  let n := leAt p 1 1
  let new := withWord (leAt p 4 4) {}
  let len := leAt p 8 1
  expertObj ch n (fun o w =>
    if 64 < len then refuse w St.outOfRange
    else if !canLength new.fdf len || !formatSendable w.m ch (b2n new.ide + 2 * b2n new.fdf) then refuse w St.badParam
    else if o.kind != 2 || o.st != 0 then refuse w St.wrongState
    else
      let w := w.can ch fun c => { c with
        objs := c.objs.put n { o with id := new.id, ide := new.ide, fdf := new.fdf, brs := new.brs && new.fdf, st := 1
                                      length := len, data := slice p 12 len, order := c.loads }
        loads := c.loads + 1 }
      answer w []) w) c p v w

def opObjectSend : OpInfo := { code := 0x0F05, role := 2 }
def execObjectSend (r : Request) (s : State) : Host.Outcome State Fault Refusal :=
  run true (request opObjectSend r objectSendBody) s

def objectCancelBody : Body := canOp 4 fun ch _ p v w =>
  let n := leAt p 1 1
  let o := objAt (canAt w.m ch) n
  if 128 ≤ n then refuse w St.outOfRange
  else if (64 ≤ n && n < 96) || !(o.st == 1 || o.st == 3) then refuse w St.wrongState
  else if n < 64 then answer (releasePool v ch n (w.count C.can_cancel ch)) []
  else answer (w.obj ch n fun o => { o with st := 0 }) []

def opObjectCancel : OpInfo := { code := 0x0F06, role := 2 }
def execObjectCancel (r : Request) (s : State) : Host.Outcome State Fault Refusal :=
  run true (request opObjectCancel r objectCancelBody) s

def objectRetryBody : Body := canOp 4 fun ch _ p _ w =>
  let n := leAt p 1 1
  expertObj ch n (fun o w =>
    if o.st != 3 then refuse w St.wrongState
    else answer (w.obj ch n fun o => { o with st := 1, collisions := 0 }) []) w

def opObjectRetry : OpInfo := { code := 0x0F07, role := 2 }
def execObjectRetry (r : Request) (s : State) : Host.Outcome State Fault Refusal :=
  run true (request opObjectRetry r objectRetryBody) s

def objectRecoverBody : Body := canOp 4 fun ch _ _ _ w =>
  let c := canAt w.m ch
  if c.conf != 2 then refuse w St.wrongState
  else if c.recovering then refuse w St.inProgress
  else answer (w.can ch fun c => { c with recovering := true }) []

def opObjectRecover : OpInfo := { code := 0x0F08, role := 2, safe := true }
def execObjectRecover (r : Request) (s : State) : Host.Outcome State Fault Refusal :=
  run true (request opObjectRecover r objectRecoverBody) s

def objectRateDetectBody : Body := canOp 4 fun ch _ _ v w =>
  if portHeld w.m (canPort ch) || onFootRecords w.m then refuse w St.wrongState
  else if (canAt w.m ch).detect.isSome then refuse w St.inProgress
  else
    let until_ := v.now + prmNs w.m P.can_rate_detect_timeout ch
    answer (w.can ch fun c => { c with detect := some (0, 0, until_) }) []

def opObjectRateDetect : OpInfo := { code := 0x0F09, role := 3 }
def execObjectRateDetect (r : Request) (s : State) : Host.Outcome State Fault Refusal :=
  run true (request opObjectRateDetect r objectRateDetectBody) s

def collBytes (e : CollEntry) : List Byte := u32 e.id ++ u32 e.total ++ u16 e.consecutive ++ u16 e.ms ++ u32 e.ts

def objectCollisionsBody : Body := canOp 4 fun ch _ _ _ w =>
  let l := (canAt w.m ch).colls
  answer w (u16 l.length ++ zeros 2 ++ (l.map collBytes).flatten)

def opObjectCollisions : OpInfo := { code := 0x0F0A, role := 1 }
def execObjectCollisions (r : Request) (s : State) : Host.Outcome State Fault Refusal :=
  run true (request opObjectCollisions r objectCollisionsBody) s

end Sys2Proof.Machine
end

