-- ==== Sys2Proof/Machine/Net.lean ====
section
/-! DEFINITION. The state of an Ethernet link and its preemption (R243, R338). -/

namespace Sys2Proof.Machine

/-! ### Link state (R243, R338) -/

/-- The preemption control entry of a port takes effect (R243). -/
def preemptControl (port : Nat) (w : W) : W :=
  let e := gateRow w.m port 516
  let on := Ge.preEnable.on e
  let skip := Ge.verifyOff.on e
  let up := (ethAt w.m port).up
  w.gate port fun g => { g with
    active := on && skip
    verify := if !on || skip then 0 else if up then 2 else 1 }

/-- Rate code of link_status. -/
def rateCode (mbit : Nat) : Nat :=
  if mbit == 10 then 1 else if mbit == 100 then 2 else if mbit == 1000 then 3 else if mbit == 2500 then 4
  else if mbit == 5000 then 5 else if mbit == 10000 then 6 else 0

/-- Verification starts over when the link or the control entry changes (R243). -/
def restartVerify (port : Nat) (w : W) : W := if 8 ≤ port then w else preemptControl port w

/-- The link changes state: counted, with event 0x0B01; one that goes down leaves its queues empty (R338). -/
def linkTo (v : View) (port : Nat) (up : Bool) (rate : Nat) (master : Bool) (sqi : Nat) (w : W) : W :=
  let w := w.eth port fun e => { e with
    up := up, rate := if up then rate else 0, master := up && master, sqi := if up then sqi else 0
    beacons := up && e.beacons, opp := if up then e.opp else none }
  let w := (w.count C.eth_link_changes port).event v 0x0B01 (if up then 0 else 1)
    (u8 port ++ u8 (b2n up) ++ u8 (if up then rateCode rate else 0) ++ u8 (if up then sqi else 0))
  let w := restartVerify port w
  if up then w else settle v (dropDead v port w)

end Sys2Proof.Machine
end

