-- ==== Sys2Proof/Machine/Controllers.lean ====
section
/-! DEFINITION. CAN controllers that stop, restart or follow their settings, and the entry into FOOTPATH from RUN
(R307, R308, R397, R477, R504). -/

namespace Sys2Proof.Machine

/-- A controller stops: its attempt ends, and an object in transmission is pending again (R307, R397). -/
def stopCan (ch : Nat) (w : W) : W :=
  w.can ch fun c => { c with
    attempt := none, objs := c.objs.map (fun o => if o.2.st == 2 then (o.1, { o.2 with st := 1 }) else o) }

/-- A CAN channel resumes with the values it now holds (R308, R322). -/
def resumeCan (v : View) (ch : Nat) (w : W) : W :=
  if !(canAt w.m ch).changed then w
  else
    let w := w.can ch fun c => { c with changed := false, listen := false }
    let w := if (canAt w.m ch).conf == 2 then w else setCounters v ch 0 0 w
    claimOwn v ch w

/-- Settings a change of which restarts a CAN controller: mode, formats, and the bit timing of its three phases (R308,
R504). -/
def canSettings (m : Module) (ch : Nat) : List Nat :=
  if onFootRecords m then
    let r := footRecord m ch
    [r.mode, r.formats] ++ r.nominal ++ r.data ++ r.xl ++ [1, 0, 0, 1]
  else
    [P.can_mode, P.can_formats, P.can_nominal_brp, P.can_nominal_tseg1, P.can_nominal_tseg2,
      P.can_nominal_sjw, P.can_data_brp, P.can_data_tseg1, P.can_data_tseg2, P.can_data_sjw, P.can_xl_brp,
      P.can_xl_tseg1, P.can_xl_tseg2, P.can_xl_sjw, P.can_tdc_mode, P.can_tdc_offset, P.can_xl_pwm,
      P.can_xl_transceiver_mode].map (fun r => prm m r ch)

/-- A controller restarts: its attempt ends, its error counters are 0 unless it is bus-off, and it claims its address
(R308, R322). -/
def restartCan (v : View) (ch : Nat) (w : W) : W :=
  let w := stopCan ch w
  resumeCan v ch (w.can ch fun c => { c with changed := true })

/-- Own addresses are given up, with the claims and the responder's messages that wait to be sent (R324). -/
def dropOwn (w : W) : W :=
  let own := (w.m.ing.names.filter (fun p => p.2.own)).map Prod.fst
  let function := fun (n : Nat) => decide (66 ≤ n ∧ n ≤ 70)
  let cans := w.m.can.map (fun c => { c with
    ownAddr := 255, claimSof := none, claimed := false, cannot := none
    objs := c.objs.filter (fun p => !(function p.1 && p.2.st != 2)), backlog := c.backlog.filter (fun x => !function x.1) })
  let w := { w with m := { w.m with can := cans } }
  w.ing fun x => { x with
    claims := x.claims.filter (fun p => !own.contains p.2)
    names := x.names.map (fun p => if p.2.own then (p.1, { p.2 with claimed := false, address := 255 }) else p) }

/-- Controllers whose settings differ from those of `old`: a held one restarts at its release, the others now. -/
def followCan (v : View) (old : Module) (w : W) : W :=
  w.each (List.range 22) fun ch w =>
    if canSettings old ch == canSettings w.m ch then w
    else if portHeld w.m (canPort ch) then w.can ch fun c => { c with changed := true }
    else restartCan v ch w

/-- LIN channels stop; each starts again with its startup table (R330). -/
def stopLins (p : Nat → Bool) (w : W) : W :=
  w.each ((List.range 8).filter p) fun n w => w.lin n fun l => { l with
    running := false, await := none, reading := none, back := none, collide := none }

/-- The range is low: FOOTPATH instead of RUN (R477, R478). -/
def lowRange (m : Module) : Bool := m.supply.range == 1

/-- FOOTPATH may give way to RUN: the range is normal or high (Table 17-3; DEDUCED, notes/assumptions/107.md). -/
def rangeRuns (m : Module) : Bool := m.supply.range == 0 || m.supply.range == 2

/-- FOOTPATH from RUN or UNMANAGED: controllers take their channel records, and no own address is held (R477, R504,
R324). -/
def enterFootpath (v : View) (w : W) : W :=
  let old := w.m
  let w := stopLins (fun _ => true) w
  let w := (w.mod fun x => { x with state := .footpath, fromRun := true }).update fun u => { u with runSince := none }
  dropOwn (followCan v old w)

end Sys2Proof.Machine
end

