-- ==== Sys2Proof/Machine/Sleep.lean ====
section
/-! DEFINITION. Wake sources, sleep groups, network-management messages, the sleep agreement up to its commit, false
wakes and the keep-awake ledger (spec/13). -/

namespace Sys2Proof.Machine

/-! ### Groups (R393, R395, R397) -/

def groupPorts (m : Module) (g : Nat) : List Nat := bitsOf 44 (prm m P.sleep_group_ports 0 g)

/-- A keep-awake input is asserted. -/
def inputHolds (m : Module) : Bool := decide (0 < m.io.din &&& prm m P.sleep_keep_awake_inputs)

/-- The sleep coordinator follows the groups; in FOOTPATH none falls asleep (R395; R393 lets a group sleep in RUN). -/
def groupsRun (m : Module) : Bool :=
  m.mod.state == .run || m.mod.state == .unmanaged || m.mod.state == .sleepPrep || m.mod.state == .footpath

def heldBy (m : Module) (g kind : Nat) : Bool := m.slp.reasons.any (fun r => r.group == g && r.kind == kind)

/-- The group has a keep-awake reason. -/
def groupHeld (m : Module) (g : Nat) : Bool :=
  inputHolds m || (atD m.slp.woke g none).isSome || m.slp.reasons.any (fun r => r.group == g)

def groupState (m : Module) (g : Nat) : Nat := atD m.slp.groups g 0

/-- A group changes state, with event 0x0D04. -/
def setGroup (v : View) (g new : Nat) (w : W) : W :=
  let old := groupState w.m g
  if old == new then w
  else (w.slp fun x => { x with groups := upd x.groups g (fun _ => new) }).event v 0x0D04 0
    (u8 g ++ u8 old ++ u8 new ++ u8 0)

/-- Go-to-sleep of a LIN master: identifier 60, then its schedule stops. One whose bus a wake pulse has just woken sends it
too, and does not start. -/
def linSleep (n : Nat) (w : W) : W :=
  let waking := (w.m.slp.linWake.get? n).isSome
  let w := w.slp fun x => { x with linWake := x.linWake.erase n }
  if !prmB w.m P.lin_enable n || ((linAt w.m n).asleep && !waking) then w
  else
    let w := (linSend n 60 ([0x00] ++ List.replicate 7 0xFF) w).count C.lin_headers n
    w.lin n fun l => { l with
      asleep := true, running := false, await := none, reading := none, back := none, collide := none }

/-- A TC10 port enters sleep, or wakes (R353). -/
def tc10Port (m : Module) (port : Nat) : Bool := decide (port < 8) && prmB m P.eth_tc10_enable port

def tc10State (v : View) (port code : Nat) (w : W) : W := w.event v 0x0B08 0 (u8 port ++ u8 code ++ zeros 2)

/-- A port of a group that falls asleep stops; an Ethernet port without TC10 powers its PHY down (R397). -/
def stopPort (v : View) (p : Nat) (w : W) : W :=
  if isLinPort p then linSleep (p - 36) (linPublished v (p - 36) w)
  else if isCanPort p then stopCan (p - 14) w
  else if tc10Port w.m p && bit (prm w.m P.sleep_tc10_wake_mask) p then
    settle v (dropDead v p (tc10State v p 1 ((w.send (.tc10 p true)).eth p fun e => { e with sleeping := true })))
  else if (ethAt w.m p).up then linkTo v p false 0 false 0 w
  else w

/-- ASLEEP: the ports of the group stop (R397). -/
def sleepGroup (v : View) (g : Nat) (w : W) : W :=
  if groupState w.m g == 2 then w
  else
    let w := (setGroup v g 2 w).count C.group_sleep g
    w.each (groupPorts w.m g) fun p w => stopPort v p w

/-- A port of a group that leaves ASLEEP starts again; `own` lists ports whose own bus woke them. -/
def startPort (v : View) (own : List Nat) (p : Nat) (w : W) : W :=
  if isLinPort p then
    let n := p - 36
    if !(linAt w.m n).asleep then w
    else if own.contains p || !fullService w.m then w.lin n fun l => { l with asleep := false }
    else (w.send (.linWake n (prm w.m P.lin_wake_pulse n))).slp fun x => { x with
      linWake := x.linWake.put n (v.now + 100000000) }
  else if isCanPort p then claimOwn v (p - 14) w
  else if (ethAt w.m p).sleeping then
    tc10State v p 0 ((w.send (.tc10 p false)).eth p fun e => { e with sleeping := false })
  else w

/-- min_awake_time holds a group that wakes (R395), and is a reason of the module's own in the ledger: kind 3, internal code
0 (R401; DESIGN CHOICE, notes/assumptions/115.md). -/
def holdWoken (v : View) (g : Nat) (w : W) : W :=
  let t := prmNs w.m P.sleep_min_awake_time
  let mine := fun (r : Reason) => r.kind == 3 && r.group == g
  w.slp fun x =>
    let x := { x with reasons := x.reasons.filter (fun r => !mine r) }
    if t = 0 then { x with woke := upd x.woke g (fun _ => none) }
    else { x with woke := upd x.woke g (fun _ => some v.now)
                  reasons := x.reasons ++ [{ kind := 3, unit := 0, node := 0, group := g, until_ := v.now + t, since := v.now }]
                  recent := x.recent ++ [(3, 0, 0, g)] }

/-- An ASLEEP group wakes: AWAKE, and min_awake_time begins. -/
def wakeGroup (v : View) (own : List Nat) (g : Nat) (w : W) : W :=
  if groupState w.m g != 2 then w
  else
    let w := holdWoken v g (setGroup v g 0 w)
    w.each (groupPorts w.m g) fun p w => startPort v own p w

/-- The state of a group follows its reasons (R395). An ASLEEP group leaves that state by `wakeGroup` only, or by an
asserted keep-awake input. -/
def followGroup (v : View) (g : Nat) (w : W) : W :=
  if !groupsRun w.m then w
  else
    let st := groupState w.m g
    if groupHeld w.m g then
      (if st == 2 then (if inputHolds w.m then wakeGroup v [] g w else w) else setGroup v g 0 w)
    else
      let w := if st == 0 then setGroup v g 1 w else w
      if st != 2 && w.m.mod.state != .footpath && (bit (prm w.m P.sleep_group_ports 0 g) 63 || w.m.mod.state == .sleepPrep)
      then sleepGroup v g w else w

def followGroups (v : View) (w : W) : W := w.each (List.range 8) fun g w => followGroup v g w

/-! ### The agreement (R398, R399) -/

def prepEnd (m : Module) : Nat := m.slp.prepAt + prmNs m P.sleep_sleep_prep_time

/-- The sleep is cancelled: RUN, and the groups that may not sleep alone wake again and follow their reasons; `own` lists
ports whose own bus woke them. In the low range RUN is left for FOOTPATH at once (R477). -/
def cancelSleep (v : View) (own : List Nat) (source inst : Nat) (w : W) : W :=
  let elapsed := (v.now - w.m.slp.prepAt) / 1000
  let w := (w.mod fun x => { x with state := .run }).count C.sleep_cancelled
  let w := w.tc fun t => { t with epoch := (t.epoch + 1) % 16 }
  let w := w.event v 0x0D02 0 (u8 source ++ u8 inst ++ zeros 2 ++ u32 elapsed)
  let w := w.each (List.range 8) fun g w =>
    if groupState w.m g == 2 && (groupHeld w.m g || !bit (prm w.m P.sleep_group_ports 0 g) 63) then wakeGroup v own g w
    else w
  let w := followGroups v w
  if lowRange w.m then enterFootpath v w else w

/-- A keep-awake reason has arisen at TB2 time `t`; answers whether the groups are to follow it. -/
def reasonArisen (v : View) (t : Nat) (w : W) : W :=
  if w.m.mod.state == .sleepPrep then (if t < prepEnd w.m then cancelSleep v [] 255 255 w else w) else w

/-! ### Reasons -/

def reasonKey (r : Reason) : Nat × Nat × Nat × Nat := (r.kind, r.unit, r.node, r.group)

def dropReasons (p : Reason → Bool) (w : W) : W :=
  w.slp fun x => { x with reasons := x.reasons.filter (fun r => !p r) }

/-- A reason begins, or goes on until `until_`; one whose time was over before `r` arose begins anew. -/
def putReason (v : View) (r : Reason) (w : W) : W :=
  let w := dropReasons (fun y => reasonKey y == reasonKey r && decide (y.until_ ≤ r.since)) w
  w.slp fun x =>
    if x.reasons.any (fun y => reasonKey y == reasonKey r) then
      { x with reasons := x.reasons.map (fun y => if reasonKey y == reasonKey r then { y with until_ := r.until_ } else y) }
    else { x with reasons := x.reasons ++ [{ r with since := v.now }], recent := x.recent ++ [reasonKey r] }

/-! ### Network-management messages (R394) -/

def nmEnabled (m : Module) : Bool := bit (prm m P.sleep_nm_can_id) 31

/-- The NM data of a frame received on a group port. -/
def nmData (m : Module) (f : Frame) : Option (List Byte) :=
  if f.fmt == 8 then
    let p := prm m P.sleep_nm_udp_port
    match udpOf f.data with
    | some u => if p != 0 && u.dport == p then some u.payload else none
    | none => none
  else if !nmEnabled m || 4 ≤ f.fmt && f.fmt != 6 then none
  else
    let id := prm m P.sleep_nm_can_id
    let mask := prm m P.sleep_nm_can_mask
    if bit id 29 == isExt f.fmt && (f.id &&& mask) == (id % 2 ^ 29 &&& mask) then some f.data else none

/-- A frame received on a port may be an NM message that keeps its group awake, whatever state the frame is received in. -/
def nmReceive (v : View) (f : Frame) (w : W) : W :=
  match groupOf w.m f.port, nmData w.m f with
  | some g, some d =>
    let ctl := prm w.m P.sleep_nm_control
    if !powered w.m || !bit (leAt d (fld ctl 4 3) 1) (fld ctl 8 3) then w
    else
      let t := extend32 v.time.tb2 f.tb2
      let r : Reason := { kind := 0, unit := f.port, node := leAt d (fld ctl 0 3) 1, group := g
                          until_ := t + prmNs w.m P.sleep_nm_timeout, since := t }
      let w := confirmWake t (putReason v r (w.count C.nm_rx_awake f.port))
      let w := reasonArisen v t w
      if w.m.mod.state == .sleepPrep then w else followGroup v g w
  | _, _ => w

/-- NM_TIMEOUT: an NM node's last keep-awake message is nm_timeout ago (R395). -/
def nmTimeoutCore (port node : Nat) (v : View) (w : W) : W :=
  let due := fun (r : Reason) => r.kind == 0 && r.unit == port && r.node == node && v.expired r.until_
  match w.m.slp.reasons.find? due with
  | none => w
  | some r => followGroup v r.group (dropReasons due w)

def execNmTimeout (port node : Nat) (s : State) : Host.Outcome State Fault Refusal :=
  run (decide (port < 44)) (nmTimeoutCore port node) s

/-- MIN_AWAKE_EXPIRY of a group. -/
def minAwakeExpiryCore (g : Nat) (v : View) (w : W) : W :=
  match atD w.m.slp.woke g none with
  | none => w
  | some t =>
    if v.expired (t + prmNs w.m P.sleep_min_awake_time) then
      followGroup v g (dropReasons (fun r => r.kind == 3 && r.group == g)
        (w.slp fun x => { x with woke := upd x.woke g (fun _ => none) }))
    else w

def execMinAwakeExpiry (group : Nat) (s : State) : Host.Outcome State Fault Refusal :=
  run (decide (group < 8)) (minAwakeExpiryCore group) s

/-- KEEP_AWAKE_EXPIRY: host requests whose time, or whose session, is over (R403). -/
def keepAwakeExpiryCore (v : View) (w : W) : W :=
  let due := fun (r : Reason) => r.kind == 2 &&
    (v.expired r.until_ || !((slotAt w.m r.unit).st == .opened && (slotAt w.m r.unit).id == r.node))
  followGroups v (dropReasons due w)

def execKeepAwakeExpiry (s : State) : Host.Outcome State Fault Refusal := run true keepAwakeExpiryCore s

/-- NM_SEND: the module's own NM message on the CAN ports of a group that it holds awake itself (R396). -/
def nmSendCore (g : Nat) (_v : View) (w : W) : W :=
  let ctl := prm w.m P.sleep_nm_control
  let id := prm w.m P.sleep_nm_can_id
  let mask := prm w.m P.sleep_nm_can_mask
  let own := fld ctl 16 8
  let holds := inputHolds w.m || heldBy w.m g 2 || (atD w.m.slp.woke g none).isSome
  if !bit ctl 24 || !nmEnabled w.m || w.m.mod.state != .run || !w.m.mod.firmwareRunning || !holds then w
  else
    let nid := (id % 2 ^ 29 &&& mask) ||| (own &&& (2 ^ 29 - 1 - mask))
    let data := (List.range 8).map fun k => BitVec.ofNat 8
      (if k == fld ctl 0 3 then own else if k == fld ctl 4 3 then 2 ^ fld ctl 8 3 else 0)
    w.each ((groupPorts w.m g).filter isCanPort) fun p w =>
      sendFrom (p - 14) 73 73 (funcObj (bit id 29) false false nid data) w

def execNmSend (group : Nat) (s : State) : Host.Outcome State Fault Refusal :=
  run (decide (group < 8)) (nmSendCore group) s

/-- LIN_WAKE_START: 100 ms after its wake pulse a LIN master starts its startup table (R397). -/
def linWakeStartCore (n : Nat) (v : View) (w : W) : W :=
  match w.m.slp.linWake.get? n with
  | none => w
  | some t =>
    if v.now < t then w
    else (w.slp fun x => { x with linWake := x.linWake.erase n }).lin n fun l => { l with asleep := false }

def execLinWakeStart (n : Nat) (s : State) : Host.Outcome State Fault Refusal :=
  run (decide (n < 8)) (linWakeStartCore n) s

/-! ### Wake sources (R389-R392) -/

/-- The ingress port a wake source belongs to. -/
def sourcePort (x : WakeSource) : Option Nat :=
  if 1 ≤ x.code ∧ x.code ≤ 3 then some (x.inst + 14)
  else if x.code == 4 then some (x.inst + 36)
  else if x.code == 5 then some x.inst
  else none

/-- The wake filter that a channel in mode 2 uses, and its fields (Tables 13-2 and 13-3). -/
def wakeFilterOf (m : Module) (inst : Nat) : Nat := fld (prm m P.sleep_wake_config 0 inst) 2 3

/-- A classic frame matches a wake filter: identifier and format under the mask, the DLC, and the data under a mask that
is not 0 (R391). -/
def filterMatches (f : List Byte) (x : WakeSource) : Bool :=
  let w0 := leAt f 0 4
  let mask := leAt f 4 4 % 2 ^ 29
  let dm := slice f 16 8
  !x.fd && bit w0 29 == x.ide && ((w0 % 2 ^ 29) &&& mask) == (x.id &&& mask) && leAt f 8 1 % 16 == x.dlc
    && (dm.all (· == 0) || (List.zipWith (fun (a b : Byte) => a &&& b) dm x.data).any (· != 0))

/-- Table 13-1: the source is enabled and its detector's condition holds; `ticks` counts 32.768 kHz periods since sleep
entry. -/
def sourceEnabled (m : Module) (ticks : Nat) (x : WakeSource) : Bool :=
  let cfg := prm m P.sleep_wake_config 0 x.inst
  match x.code with
  | 1 => decide (x.inst < 22) && cfg % 4 == 1
  | 2 => decide (x.inst < 20) && cfg % 4 == 2 && filterMatches (atD m.slp.filters (wakeFilterOf m x.inst) []) x
  | 3 => decide (x.inst < 20) && cfg % 4 == 2 && bit cfg 5
  | 4 => decide (x.inst < 8) && bit (prm m P.sleep_lin_wake_mask) x.inst
  | 5 => decide (x.inst < 8) && bit (prm m P.sleep_tc10_wake_mask) x.inst && prmB m P.eth_tc10_enable x.inst
  | 6 => decide (x.inst < 12) && bit (prm m P.sleep_input_wake_mask) x.inst
  | 7 => bit (prm m P.sleep_input_wake_mask) 12
  | 8 => prm m P.sleep_wake_timer != 0 && m.mod.state == .sleep && decide (prm m P.sleep_wake_timer * 32768 ≤ ticks)
  | 9 => m.supply.sleepDip
  | _ => false

/-- A wake record's flags byte. -/
def WakeRec.flags (r : WakeRec) : Nat := b2n r.duringEntry + 2 * b2n r.falseWake + 4 * b2n r.multiple

def WakeRec.bytes (r : WakeRec) : List Byte :=
  u8 r.source ++ u8 r.inst ++ u8 r.flags ++ u8 r.filter ++ u32 r.ticks ++ u32 r.mask ++ u32 r.seq

/-- The source among several: the lowest code (R392). -/
def firstSource (x : WakeSource) (l : List WakeSource) : WakeSource :=
  l.foldl (fun a b => if b.code < a.code then b else a) x

/-- A wake record: written to the ring, counted, and reported once RUN is reached (R392). -/
def recordWake (r : WakeRec) (w : W) : W :=
  let w := w.slp fun x => { x with records := (r :: x.records).take 16, wakeSeq := r.seq, latched := [] }
  w.count C.wake_count (256 * r.source + r.inst)

def lateWake (r : WakeRec) (w : W) : W := w.mod fun x => { x with late := x.late ++ [⟨0x0D01, 0, r.bytes⟩] }

def nextWake (m : Module) : Nat := (m.slp.wakeSeq + 1) % 2 ^ 32

/-- The module wakes: a record, its event for RUN, and a data-plane reset with cause 4 (R392, R399, R371). -/
def wakeModule (v : View) (l : List WakeSource) (ticks : Nat) (entry : Bool) (w : W) : W :=
  match l with
  | [] => w
  | x :: _ =>
    let first := firstSource x l
    let r : WakeRec :=
      { source := first.code, inst := first.inst, duringEntry := entry, multiple := decide (1 < l.length)
        filter := if first.code == 2 then wakeFilterOf w.m first.inst else 255, ticks := ticks % 2 ^ 32
        mask := maskOf (l.map WakeSource.code), seq := nextWake w.m }
    let w := recordWake r w
    let w := if entry then w.count C.wake_during_entry else w
    let b := w.base v
    lateWake r (restoredEvent v b.time.tb3.full 0
      (resetData 4 (b.time.tb0.full, b.time.tb1.full, b.time.tb3.full) (ticks * 1000000000 / 32768) 0 w))

/-- A source is latched in the state the module is in. -/
def latchSources (v : View) (l : List WakeSource) (ticks : Nat) (w : W) : W :=
  let l := l.filter (sourceEnabled w.m ticks)
  match l with
  | [] => w
  | x :: _ =>
    let own := l.filterMap sourcePort
    let wakes := fun (w : W) => followGroups v (w.each own fun p w =>
      match groupOf w.m p with
      | some g => wakeGroup v own g w
      | none => w)
    match w.m.mod.state with
    | .sleep => wakeModule v l ticks false w
    | .sleepPrep =>
      if v.now < prepEnd w.m then wakes (cancelSleep v own (firstSource x l).code (firstSource x l).inst w)
      else w.slp fun y => { y with latched := if y.latched.isEmpty then l else y.latched }
    | .run => wakes w
    | .unmanaged => wakes w
    | .footpath => wakes w
    | .safe => w.slp fun y => { y with quietSince := v.now }
    | _ => w

/-- WAKE_SOURCE_LATCH: the sources latched in one always-on clock period; `ticks` counts 32.768 kHz periods in
SLEEP. -/
def wakeSourceLatchCore (l : List WakeSource) (ticks : Nat) (v : View) (w : W) : W := latchSources v l ticks w

def execWakeSourceLatch (l : List WakeSource) (ticks : Nat) (s : State) : Host.Outcome State Fault Refusal :=
  run (l.all (fun x => decide (x.code < 10))) (wakeSourceLatchCore l ticks) s

/-! ### SLEEP_PREP_ENTRY (R398) -/

/-- Internal reason: an update in its trial window. Sealing is over within a step of the model. -/
def internalReason (m : Module) : Bool := m.upd.st == 3

def sleepPrepEntryCore (v : View) (w : W) : W :=
  let m := w.m
  if m.mod.state != .run || !m.mod.firmwareRunning || !prmB m P.sleep_sleep_enable || internalReason m
      || !m.mod.holds.isEmpty || !m.slp.groups.all (fun g => g != 0) then w
  else
    let w := w.mod fun x => { x with state := .sleepPrep }
    let w := w.slp fun x => { x with prepAt := v.now, latched := [], commitMarker := false }
    takeCheckpoint v (w.each (List.range 8) fun g w => sleepGroup v g w)

def execSleepPrepEntry (s : State) : Host.Outcome State Fault Refusal := run true sleepPrepEntryCore s

/-! ### FALSE_WAKE (R400) -/

/-- The wake that still waits for its confirmation is a false one. -/
def judgeFalse (v : View) (w : W) : W :=
  match w.m.slp.confirm, w.m.slp.records with
  | some _, r :: rest =>
    let k := 256 * r.source + r.inst
    let n := w.m.slp.falseRuns.getD k 0 + 1
    let w := w.slp fun x => { x with
      confirm := none, falseRuns := x.falseRuns.put k n, records := { r with falseWake := true } :: rest }
    (w.count C.false_wake k).event v 0x0D03 (if prm w.m P.sleep_false_wake_limit ≤ n then 2 else 1)
      (u8 r.source ++ u8 r.inst ++ zeros 2 ++ u32 n)
  | _, _ => w

def falseWakeCore (v : View) (w : W) : W :=
  if w.m.slp.confirm.any (fun t => v.expired t) then judgeFalse v w else w

def execFalseWake (s : State) : Host.Outcome State Fault Refusal := run true falseWakeCore s

/-! ### LEDGER_ACCRUE (R401) -/

def Ledger.bytes (e : Ledger) : List Byte :=
  u8 e.port ++ u8 e.kind ++ u8 e.node ++ u8 e.group ++ u32 e.total ++ u32 e.sole ++ u32 e.longest

/-- The ledger entry of a reason: an NM node by port and node id, a host by its slot, min_awake_time by its code. -/
def ledgerFor (r : Reason) : Ledger :=
  if r.kind == 0 then { port := r.unit, kind := 0, node := r.node, group := r.group }
  else { kind := r.kind, node := r.unit, group := r.group }

def sameLedger (a b : Ledger) : Bool := a.port == b.port && a.kind == b.kind && a.node == b.node && a.group == b.group

/-- A reason without an entry takes a free one, or the one with the smallest total. -/
def takeLedger (e : Ledger) (l : List Ledger) : List Ledger :=
  if l.any (sameLedger e) then l
  else if l.length < 64 then l ++ [e]
  else
    let least := l.foldl (fun (a : Nat) (x : Ledger) => min a x.total) (2 ^ 32)
    l.set (l.findIdx (fun x => x.total == least)) e

def bumpLedger (e : Ledger) (sole : Bool) (episode : Nat) (l : List Ledger) : List Ledger :=
  l.map fun x => if sameLedger e x then
      { x with total := satAdd 32 x.total 1, sole := satAdd 32 x.sole (b2n sole), longest := max x.longest episode }
    else x

/-- One second of one reason. -/
def accrueReason (v : View) (from_ : Nat) (only : Bool) (r : Reason) (w : W) : W :=
  let e := ledgerFor r
  let w := w.slp fun x => { x with ledger := takeLedger e x.ledger }
  if inputHolds w.m || decide (from_ < r.since) then w
  else
    let n := r.seconds + 1
    let due := !r.reported && decide (prm w.m P.sleep_ledger_threshold ≤ n * 1000000)
    let w := w.slp fun x => { x with
      ledger := bumpLedger e only n x.ledger
      reasons := x.reasons.map (fun y => if reasonKey y == reasonKey r
        then { y with seconds := n, reported := y.reported || due } else y) }
    if !due then w
    else match w.m.slp.ledger.find? (sameLedger e) with
      | some x => w.event v 0x0D05 1 x.bytes
      | none => w

/-- Inputs hold every group that has ports, and have an entry for each, in which no time accrues. -/
def accrueInputs (w : W) : W :=
  w.each (bitsOf 13 (w.m.io.din &&& prm w.m P.sleep_keep_awake_inputs)) fun i w =>
    w.each ((List.range 8).filter (fun g => !(groupPorts w.m g).isEmpty)) fun g w =>
      w.slp fun x => { x with ledger := takeLedger { kind := 1, node := i, group := g } x.ledger }

def ledgerAccrueCore (v : View) (w : W) : W :=
  if !groupsRun w.m then w
  else
    let from_ := w.m.slp.accruedAt
    let now := w.m.slp.reasons.filter (fun r => !(groupPorts w.m r.group).isEmpty)
    let only := fun (r : Reason) => w.m.slp.recent.all (fun k => k == reasonKey r)
    let w := (accrueInputs w).each now fun r w => accrueReason v from_ (only r) r w
    w.slp fun x => { x with accruedAt := v.now, recent := x.reasons.map reasonKey }

def execLedgerAccrue (s : State) : Host.Outcome State Fault Refusal := run true ledgerAccrueCore s

/-! ### SLEEP operations (R403) -/

/-- sleep.group_state: 3 for an empty group. -/
def groupStateWord (m : Module) : Nat :=
  ((List.range 8).map (fun g => (if (groupPorts m g).isEmpty then 3 else groupState m g) * 4 ^ g)).sum

def reasonMask (m : Module) : Nat :=
  b2n (inputHolds m) + 2 * b2n (m.slp.reasons.any (fun r => r.kind == 2)) + 4 * b2n (m.slp.reasons.any (fun r => r.kind == 0))
    + 8 * b2n (m.slp.woke.any Option.isSome) + 16 * b2n (internalReason m) + 32 * b2n (!m.mod.holds.isEmpty)

def sleepStatusBody : Body := fun _ _ v w =>
  let left := if w.m.mod.state == .sleepPrep then (prepEnd w.m - v.now) / 1000 else 0
  answer w (u32 (groupStateWord w.m) ++ u32 (reasonMask w.m) ++ u32 left ++ u32 w.m.slp.wakeSeq)

def opSleepStatus : OpInfo := { code := 0x0A01, role := 1 }
def execSleepStatus (r : Request) (s : State) : Host.Outcome State Fault Refusal :=
  run true (request opSleepStatus r sleepStatusBody) s

def sleepKeepAwakeBody : Body := need 8 fun c p v w =>
  match c.slot with
  | none => refuse w St.notAuthenticated
  | some i =>
    let gs := bitsOf 8 (leAt p 0 1)
    let us := leAt p 4 4
    let w := confirmWake v.now w
    if us == 0 then
      answer (followGroups v (dropReasons (fun r => r.kind == 2 && r.unit == i && gs.contains r.group) w)) []
    else
      let w := w.each gs fun g w =>
        putReason v { kind := 2, unit := i, node := c.sid, group := g, until_ := v.now + us * 1000, since := v.now } w
      let w := if gs.isEmpty then w else reasonArisen v v.now w
      if w.m.mod.state == .sleepPrep then answer w []
      else answer (w.each gs fun g w => followGroup v g (wakeGroup v [] g w)) []

def opSleepKeepAwake : OpInfo := { code := 0x0A02, role := 2 }
def execSleepKeepAwake (r : Request) (s : State) : Host.Outcome State Fault Refusal :=
  run true (request opSleepKeepAwake r sleepKeepAwakeBody) s

def sleepWakeRecordsBody : Body := need 4 fun _ p _ w =>
  let n := leAt p 0 1
  if n < 1 ∨ 16 < n then refuse w St.outOfRange
  else
    let l := w.m.slp.records.take n
    answer w (u8 l.length ++ zeros 3 ++ (l.map WakeRec.bytes).flatten)

def opSleepWakeRecords : OpInfo := { code := 0x0A03, role := 1 }
def execSleepWakeRecords (r : Request) (s : State) : Host.Outcome State Fault Refusal :=
  run true (request opSleepWakeRecords r sleepWakeRecordsBody) s

/-- A filter with its reserved bits cleared. -/
def maskFilter (bs : List Byte) : List Byte :=
  u32 (leAt bs 0 4 % 2 ^ 30) ++ u32 (leAt bs 4 4 % 2 ^ 29) ++ u8 (leAt bs 8 1 % 16) ++ zeros 7 ++ slice bs 16 8

def sleepFilterWriteBody : Body := need 28 fun _ p _ w =>
  let k := leAt p 0 1
  if 7 < k || 8 < leAt p 12 1 % 16 then refuse w St.outOfRange
  else answer (w.slp fun x => { x with filters := upd x.filters k (fun _ => maskFilter (slice p 4 24)) }) []

def opSleepFilterWrite : OpInfo := { code := 0x0A04, role := 3 }
def execSleepFilterWrite (r : Request) (s : State) : Host.Outcome State Fault Refusal :=
  run true (request opSleepFilterWrite r sleepFilterWriteBody) s

def sleepFilterReadBody : Body := need 4 fun _ p _ w =>
  let k := leAt p 0 1
  if 7 < k then refuse w St.outOfRange else answer w (atD w.m.slp.filters k (zeros 24))

def opSleepFilterRead : OpInfo := { code := 0x0A05, role := 1 }
def execSleepFilterRead (r : Request) (s : State) : Host.Outcome State Fault Refusal :=
  run true (request opSleepFilterRead r sleepFilterReadBody) s

def sleepLedgerReadBody : Body := need 4 fun _ p _ w =>
  let first := leAt p 0 1
  let n := leAt p 1 1
  if 63 < first || n < 1 || 64 < n then refuse w St.outOfRange
  else
    let l := (w.m.slp.ledger.drop first).take n
    answer w (u8 l.length ++ zeros 3 ++ (l.map Ledger.bytes).flatten)

def opSleepLedgerRead : OpInfo := { code := 0x0A06, role := 1 }
def execSleepLedgerRead (r : Request) (s : State) : Host.Outcome State Fault Refusal :=
  run true (request opSleepLedgerRead r sleepLedgerReadBody) s

def sleepLedgerClearBody : Body := fun _ _ _ w =>
  answer (w.slp fun x => { x with ledger := [] }) (u8 w.m.slp.ledger.length ++ zeros 3)

def opSleepLedgerClear : OpInfo := { code := 0x0A07, role := 3 }
def execSleepLedgerClear (r : Request) (s : State) : Host.Outcome State Fault Refusal :=
  run true (request opSleepLedgerClear r sleepLedgerClearBody) s

end Sys2Proof.Machine
end

