-- ==== Sys2Proof/Machine/Lin.lean ====
section
/-! DEFINITION. LIN masters: schedules, slots, responses and the LIN operations of the OBJECT family (spec/10,
R326-R331). -/

namespace Sys2Proof.Machine

/-! ### Schedule entries (Table 10-7) -/

namespace Le
def type : Fld := ⟨0, 3⟩
def frameId : Fld := ⟨8, 6⟩
def subscribe : Fld := ⟨14, 1⟩
def length : Fld := ⟨16, 4⟩
def collision : Fld := ⟨24, 8⟩
def slotTime : Fld := ⟨32, 16⟩
end Le

/-- Identifier of an entry's frame. -/
def leId (e : Nat) : Nat :=
  if Le.type.get e == 3 then 60 else if Le.type.get e == 4 then 61 else Le.frameId.get e

def leSubscribes (e : Nat) : Bool := Le.subscribe.on e && Le.type.get e != 3

/-- A known type, which subscribes where it must. -/
def leForm (e : Nat) : Bool :=
  let t := Le.type.get e
  decide (t ≤ 4) && (!(t == 2 || t == 4) || Le.subscribe.on e)

/-- Every number lies in its stated range. -/
def leRanges (e : Nat) : Bool :=
  (decide (3 ≤ Le.type.get e) || decide (Le.frameId.get e ≤ 59))
    && decide (1 ≤ Le.length.get e ∧ Le.length.get e ≤ 8) && decide (10 ≤ Le.slotTime.get e)
    && (Le.collision.get e == 255 || decide (Le.collision.get e < 32))

/-- A valid entry. -/
def leOk (e : Nat) : Bool := leForm e && leRanges e

/-- An entry with its reserved bits cleared. -/
def leMask (e : Nat) : Nat :=
  fld e 0 3 + fld e 8 7 * 2 ^ 8 + fld e 16 4 * 2 ^ 16 + fld e 24 8 * 2 ^ 24 + fld e 32 16 * 2 ^ 32

def linTable (l : LinCh) (t : Nat) : List Nat := l.tables.getD t []
def entriesUsed (l : LinCh) : Nat := (l.tables.map (fun p => p.2.length)).sum

/-! ### LIN_SLOT_START (R326, R328, R330) -/

/-- The channel runs its schedule (Table 17-4, R397). -/
def linRuns (m : Module) (n : Nat) : Bool :=
  (m.mod.state == .run || m.mod.state == .unmanaged || m.mod.state == .sleepPrep) && prmB m P.lin_enable n
    && !portHeld m (n + 36) && !(linAt m n).asleep

/-- `k` bit times in nanoseconds. -/
def linBits (m : Module) (n k : Nat) : Nat := k * 1000000000 / max 1 (prm m P.lin_bit_rate n)

/-- T_max of R328. -/
def tMax (m : Module) (n len : Nat) : Nat :=
  (34 + 10 * (len + 1)) * (100 + prm m P.lin_response_tolerance n) * 10000000 / max 1 (prm m P.lin_bit_rate n)

/-- Time from the break to the end of the protected identifier. -/
def linHeaderTime (m : Module) (n : Nat) : Nat :=
  linBits m n (prm m P.lin_break_bits n + prm m P.lin_break_delimiter_bits n + 20)

/-- Length of a whole frame on the bus: break, delimiter, sync, identifier and response. -/
def linFrameTime (m : Module) (n len : Nat) : Nat :=
  linBits m n (prm m P.lin_break_bits n + prm m P.lin_break_delimiter_bits n + 20 + 10 * (len + 1))

def switchTo (v : View) (n table cause : Nat) (w : W) : W :=
  let old := (linAt w.m n).active
  (w.lin n fun l => { l with active := table, entry := 0 }).event v 0x0A0A 0
    (u8 (n + 36) ++ u8 old ++ u8 table ++ u8 cause)

/-- A pending request takes effect. -/
def takePending (v : View) (n t : Nat) (w : W) : W :=
  switchTo v n t 0 (w.lin n fun l => { l with pending := none, back := none, collide := none })

/-- The run of the active table is over: return from a collision table, a requested switch, or the table again. -/
def endOfTable (v : View) (n : Nat) (w : W) : W :=
  let l := linAt w.m n
  match l.back, l.pending with
  | some (t, e), _ =>
    let w := switchTo v n t 2 (w.lin n fun l => { l with back := none })
    let w := w.lin n fun l => { l with entry := e }
    if e < (linTable l t).length then w
    else match l.pending with
      | some p => takePending v n p w
      | none => w.lin n fun l => { l with entry := 0 }
  | none, some p => takePending v n p w
  | none, none => w.lin n fun l => { l with entry := 0 }

/-- Choose the entry of the slot that starts now, after what the last slot published. -/
def nextEntry (v : View) (n : Nat) (w : W) : W :=
  let w := linPublished v n w
  let l := linAt w.m n
  if !l.running then
    let w := w.lin n fun l => { l with
      running := true, active := prm w.m P.lin_startup_table n, entry := 0, back := none, collide := none
      overrun := false, busyUntil := 0, reading := none }
    match l.pending with
    | some p => if (linTable l (prm w.m P.lin_startup_table n)).isEmpty then takePending v n p w else w
    | none => w
  else
    match l.pending, l.collide with
    | some p, _ =>
      if prm w.m P.lin_switch_mode n == 1 || (linTable l l.active).isEmpty then takePending v n p w
      else match l.collide with
        | some t => switchTo v n t 1 (w.lin n fun l => { l with back := some (l.active, l.entry + 1), collide := none })
        | none => if l.entry + 1 < (linTable l l.active).length then w.lin n fun l => { l with entry := l.entry + 1 }
          else endOfTable v n w
    | none, some t => switchTo v n t 1 (w.lin n fun l => { l with back := some (l.active, l.entry + 1), collide := none })
    | none, none =>
      if l.entry + 1 < (linTable l l.active).length then w.lin n fun l => { l with entry := l.entry + 1 }
      else endOfTable v n w

/-- Send the header of an entry, whose buffer is read at its end, or await its response. -/
def runEntry (v : View) (n e : Nat) (w : W) : W :=
  let l := linAt w.m n
  let id := leId e
  let len := Le.length.get e
  let buf := (l.bufs.get? id).getD {}
  let empty := !leSubscribes e && ((Le.type.get e == 1 && !buf.updated) || (prm w.m P.lin_stale_policy n == 1 && !buf.written))
  if empty || (Le.type.get e == 1 && leSubscribes e) then w
  else
    let w := w.count C.lin_headers n
    let b := w.base v
    let adj := rxAdjust w.m (n + 36)
    if leSubscribes e then
      w.lin n fun l => { l with
        await := some (id, len, Le.type.get e == 2, v.now + tMax w.m n len)
        breakTb2 := moved b.now adj, breakTb0 := moved b.time.tb0.full adj
        breakSync := synced (tb0State w.m), breakEpoch := w.m.tc.epoch }
    else
      w.lin n fun l => { l with
        busyUntil := v.now + linFrameTime w.m n len
        load := addLoad l.load v.now (v.now + linFrameTime w.m n len)
        reading := some (id, len, v.now + linHeaderTime w.m n) }

/-- LIN_SLOT_START: the running slot has ended; its frame may still be on the bus. -/
def linSlotStartCore (n : Nat) (v : View) (w : W) : W :=
  let l := linAt w.m n
  if !linRuns w.m n || (l.running && decide (v.now < l.slotEnd)) then w
  else if l.running && (l.await.isSome || decide (v.now < l.busyUntil)) then
    if l.overrun then w else (w.lin n fun l => { l with overrun := true }).count C.lin_slot_overrun n
  else
    let late := if l.running then v.now - l.slotEnd else 0
    let w := nextEntry v n w
    let l := linAt w.m n
    match (linTable l l.active)[l.entry]? with
    | none => w.lin n fun l => { l with slotEnd := v.now }
    | some e =>
      let w := w.lin n fun l => { l with
        overrun := false, headerDelay := max l.headerDelay (late / 1000)
        slotEnd := v.now + Le.slotTime.get e * 100000 }
      runEntry v n e w

def execLinSlotStart (n : Nat) (s : State) : Host.Outcome State Fault Refusal :=
  run (decide (n < 8)) (linSlotStartCore n) s

/-! ### LIN_RESPONSE_RECEIVE (R329) -/

def linErrorCode : LinEnd → Nat
  | .good => 0
  | .checksum => 2
  | .framing => 3
  | .bit => 4

def linError (v : View) (n id : Nat) (e : LinEnd) (w : W) : W :=
  let k := linErrorCode e
  let w := match e with
    | .checksum => w.count C.lin_checksum_error n
    | .framing => w.count C.lin_framing_error n
    | .bit => w.count C.lin_bit_error n
    | .good => w
  (w.lin n fun l => { l with lastError := k + id * 256 }).limited v 0x0A08 1 (8 * n + k)
    (prmNs w.m P.lin_error_event_interval n) fun c => u8 (n + 36) ++ u8 id ++ u8 k ++ u8 0 ++ u32 c

/-- The frame of format 6 that a correct response makes (R82, R329). -/
def linFrame (m : Module) (n id : Nat) (data : List Byte) : Frame :=
  let l := linAt m n
  { port := n + 36, fmt := 6, id := id, data := data, dlc := data.length, tb0 := l.breakTb0 % 2 ^ 32
    tb2 := l.breakTb2 % 2 ^ 32, sync := l.breakSync, epoch := l.breakEpoch, seq := 2 * (m.ing.seq + 1) }

/-- A response that ended correctly in time. -/
def linGood (v : View) (n id : Nat) (data : List Byte) (w : W) : W :=
  let f := linFrame w.m n id data
  let w := w.ing fun x => { x with seq := x.seq + 1 }
  let w := (linStore v n id data w).count C.lin_responses n
  let w := w.lin n fun l => { l with fails := l.fails.erase id }
  nmReceive v f (intoDcq v f w)

def linResponseReceiveCore (n : Nat) (data : List Byte) (e : LinEnd) (v : View) (w : W) : W :=
  match (linAt w.m n).await with
  | none => w
  | some (id, len, event, until_) =>
    if until_ < v.now then w
    else
      let w := w.lin n fun l => { l with await := none, load := addLoad l.load l.breakTb2 v.now }
      let e := if e == .good && data.length != len then .checksum else e
      if e == .good then linGood v n id data w
      else if event then
        let l := linAt w.m n
        let t := match (linTable l l.active)[l.entry]? with | some x => Le.collision.get x | none => 255
        let run_ := decide (t < 32) && !(linTable l t).isEmpty && l.back.isNone
        (w.lin n fun l => { l with
          lastError := 5 + id * 256, collide := if run_ then some t else none }).count C.lin_event_collision n
      else linError v n id e w

def execLinResponseReceive (n : Nat) (data : List Byte) (e : LinEnd) (s : State) : Host.Outcome State Fault Refusal :=
  run (decide (n < 8)) (linResponseReceiveCore n data e) s

/-! ### LIN_RESPONSE_TIMEOUT (R329) -/

def linResponseTimeoutCore (n : Nat) (v : View) (w : W) : W :=
  match (linAt w.m n).await with
  | none => w
  | some (id, _, _, until_) =>
    if v.now ≤ until_ then w
    else
      let k := (linAt w.m n).fails.getD id 0 + 1
      let w := (w.lin n fun l => { l with
        await := none, fails := l.fails.put id k, lastError := 1 + id * 256
        load := addLoad l.load l.breakTb2 (l.breakTb2 + linHeaderTime w.m n) }).count
        C.lin_no_response n
      if k == prm w.m P.lin_no_response_limit n then
        w.event v 0x0A07 1 (u8 (n + 36) ++ u8 id ++ zeros 2 ++ u32 k)
      else w

def execLinResponseTimeout (n : Nat) (s : State) : Host.Outcome State Fault Refusal :=
  run (decide (n < 8)) (linResponseTimeoutCore n) s

/-! ### LIN operations (R327, R330, R331) -/

def linOp (n : Nat) (f : Nat → Body) : Body := need n fun c p v w =>
  let port := leAt p 0 1
  if isLinPort port then f (port - 36) c p v w else refuse w St.badParam

/-- The count of entries is checked with the length (R581), before the channel. -/
def objectLinScheduleWriteBody : Body := fun c p v w =>
  let k := leAt p 2 2
  if 4 ≤ p.length ∧ (512 < k ∨ p.length ≠ 4 + 8 * k) then refuse w St.badLength
  else linOp 4 (fun n _ p _ w =>
  let t := leAt p 1 1
  let es := (List.range k).map (fun i => leMask (leAt p (4 + 8 * i) 8))
  let l := linAt w.m n
  if 31 < t || decide (512 < entriesUsed l - (linTable l t).length + k) then refuse w St.outOfRange
  else if !es.all leForm then refuse w St.badParam
  else if !es.all leRanges then refuse w St.outOfRange
  else if (l.running && l.active == t) || l.pending == some t then refuse w St.wrongState
  else
    let w := w.lin n fun l => { l with tables := l.tables.set [] t es, generation := (l.generation + 1) % 2 ^ 32 }
    answer w (u16 (entriesUsed (linAt w.m n)) ++ zeros 2)) c p v w

def opObjectLinScheduleWrite : OpInfo := { code := 0x0F0B, role := 2 }
def execObjectLinScheduleWrite (r : Request) (s : State) : Host.Outcome State Fault Refusal :=
  run true (request opObjectLinScheduleWrite r objectLinScheduleWriteBody) s

/-- A request for a table (R330). -/
def requestTable (n t : Nat) (w : W) : Option W :=
  if (linTable (linAt w.m n) t).isEmpty then none else some (w.lin n fun l => { l with pending := some t })

def objectLinScheduleSelectBody : Body := linOp 4 fun n _ p _ w =>
  let t := leAt p 1 1
  if 31 < t then refuse w St.outOfRange
  else match requestTable n t w with
    | none => refuse w St.wrongState
    | some w => answer w []

def opObjectLinScheduleSelect : OpInfo := { code := 0x0F0C, role := 2 }
def execObjectLinScheduleSelect (r : Request) (s : State) : Host.Outcome State Fault Refusal :=
  run true (request opObjectLinScheduleSelect r objectLinScheduleSelectBody) s

/-- The updated flag of a buffer: cleared once the master has read it for a response. -/
def linUpdated (m : Module) (n id now : Nat) : Bool :=
  (((linAt m n).bufs.get? id).getD {}).updated && (match (linAt m n).reading with
    | some (k, _, t) => k != id || decide (now < t)
    | none => true)

def objectLinBufferReadBody : Body := linOp 4 fun n _ p v w =>
  let id := leAt p 1 1
  if 63 < id then refuse w St.outOfRange
  else
    let b := ((linAt w.m n).bufs.get? id).getD {}
    answer w (u8 id ++ u8 b.data.length ++ u8 (b2n (linUpdated w.m n id v.now)) ++ u8 0 ++ (b.data ++ zeros 8).take 8 ++ u32 b.ts)

def opObjectLinBufferRead : OpInfo := { code := 0x0F0D, role := 1 }
def execObjectLinBufferRead (r : Request) (s : State) : Host.Outcome State Fault Refusal :=
  run true (request opObjectLinBufferRead r objectLinBufferReadBody) s

end Sys2Proof.Machine
end

