-- ==== Sys2Proof/Machine/Cts.lean ====
section
/-! DEFINITION. CTS, the time format on CAN (spec/12, R381-R383): master and follower. -/

namespace Sys2Proof.Machine

/-- CTS runs in the management firmware. -/
def ctsRuns (m : Module) : Bool := managed m && fullService m

def ctsMaster (m : Module) (ch : Nat) : Bool := ctsRuns m && bit (prm m P.time_cts_master_mask) ch

def nanosPerS : Nat := 1000000000

/-- SYNC bytes (Table 12-3). -/
def syncBytes (m : Module) (seq seconds : Nat) : List Byte :=
  u8 (0x10 + seq % 16) ++ u8 (prm m P.time_cts_domain + 16 * b2n (synced (tb1State m))) ++ zeros 2 ++ beBytes 4 seconds

/-- CTS_SYNC_SEND: the master loads a SYNC into object 71. -/
def ctsSyncSendCore (ch : Nat) (v : View) (w : W) : W :=
  if !ctsMaster w.m ch || ((canAt w.m ch).objs.get? 71).isSome then w
  else
    let seq := (w.m.tc.ctsSeq.getD ch 15 + 1) % 16
    let s := v.time.tb1.full / nanosPerS
    let bs := syncBytes w.m seq (s % 2 ^ 32)
    let p : CtsPair := { seq := seq, seconds := s, sync := bs, at_ := v.now }
    let w := w.tc fun x => { x with ctsSeq := x.ctsSeq.put ch seq, ctsTx := x.ctsTx.put ch p }
    sendFrom ch 71 71 (funcObj (prmB w.m P.time_cts_ide) false false (prm w.m P.time_cts_sync_id) bs) w

def execCtsSyncSend (ch : Nat) (s : State) : Host.Outcome State Fault Refusal :=
  run (decide (ch < 22)) (ctsSyncSendCore ch) s

/-- CMAC of a pair: SYNC identifier, SYNC bytes and follow-up bytes 0 to 4 (R382). -/
def ctsCmac (m : Module) (key sync head : List Byte) : List Byte :=
  cmacBytes key (beBytes 4 (prm m P.time_cts_sync_id) ++ sync ++ head)

def noCtsKey (m : Module) : Bool := prm m P.time_cts_key_slot == 65535

/-- The follow-up's CMAC field of `n` bytes; none when the key must not be used. -/
def fupCmac (v : View) (sync head : List Byte) (n : Nat) (w : W) : W × Option (List Byte) :=
  if noCtsKey w.m then (w, some (zeros n))
  else match useKey v (prm w.m P.time_cts_key_slot) 1 Attr.encrypt w with
    | (w, some k) => (w, some ((ctsCmac w.m k sync head).take n))
    | (w, none) => (w, none)

/-- CTS_FUP_SEND: the transmit capture of the SYNC that was sent exists, and the follow-up is loaded into object 72. -/
def ctsFupSendCore (ch : Nat) (v : View) (w : W) : W :=
  match w.m.tc.ctsTx.get? ch with
  | none => w
  | some p => match p.sof with
    | none => w
    | some t =>
      if (canAt w.m ch).attempt == some (.obj 71) then w
      else
      let w := w.tc fun x => { x with ctsTx := x.ctsTx.erase ch }
      if !ctsMaster w.m ch then w
      else
        let long := prm w.m P.time_cts_fup_format == 1
        let head := u8 (0x20 + p.seq) ++ beBytes 4 (t - p.seconds * nanosPerS)
        match fupCmac v p.sync head (if long then 8 else 3) w with
        | (w, none) => w
        | (w, some c) =>
          let bs := head ++ (if long then zeros 3 else []) ++ c
          let w := (w.tc fun x => { x with ctsLast := p.seq }).count C.cts_sync_tx ch
          sendFrom ch 72 72 (funcObj (prmB w.m P.time_cts_ide) long (long && sentBrs w.m ch)
            (prm w.m P.time_cts_fup_id) bs) w

def execCtsFupSend (ch : Nat) (s : State) : Host.Outcome State Fault Refusal :=
  run (decide (ch < 22)) (ctsFupSendCore ch) s

/-- CTS_SYNC_CANCEL: a SYNC that has not started within cts_fup_timeout. -/
def ctsSyncCancelCore (ch : Nat) (v : View) (w : W) : W :=
  match w.m.tc.ctsTx.get? ch with
  | none => w
  | some p =>
    if p.sof.isSome || !v.expired (p.at_ + prmNs w.m P.time_cts_fup_timeout) then w
    else
      let w := w.tc fun x => { x with ctsTx := x.ctsTx.erase ch }
      let w := w.can ch fun c => { c with backlog := c.backlog.filter (fun x => x.1 != 71) }
      if ((canAt w.m ch).objs.get? 71).isSome then drainBacklog ch (emptyObj ch 71 w) else w

def execCtsSyncCancel (ch : Nat) (s : State) : Host.Outcome State Fault Refusal :=
  run (decide (ch < 22)) (ctsSyncCancelCore ch) s

/-! ### Follower (R383) -/

def ctsFollows (m : Module) (ch : Nat) : Bool :=
  ctsRuns m && prm m P.time_tb1_mode == 2 && prm m P.time_cts_follower_channel == ch

/-- A frame of R381's form: a classic one of 8 bytes, or as `long` an FD one of 16. -/
def ctsForm (f : Frame) (long : Bool) : Bool :=
  decide (f.fmt ≤ 3) && (2 ≤ f.fmt) == long && f.data.length == (if long then 16 else 8)

/-- A frame of a pair has been received: captures of TB1 and TB2, full times. -/
def ctsCapture (ch : Nat) (f : Frame) (tb1 tb2 : Nat) (w : W) : W :=
  let long := f.id == prm w.m P.time_cts_fup_id && prm w.m P.time_cts_fup_format == 1 && leAt f.data 0 1 / 16 == 2
  if !ctsFollows w.m ch || !ctsForm f long || isExt f.fmt != prmB w.m P.time_cts_ide then w
  else
    let type := leAt f.data 0 1 / 16
    let seq := leAt f.data 0 1 % 16
    if f.id == prm w.m P.time_cts_sync_id && type == 1 then
      let p : CtsPair := { seq := seq, seconds := beAt f.data 4 4, sync := f.data.take 8, at_ := tb2, sof := some tb1, tb2 := tb2 }
      w.tc fun x => { x with ctsRx := some p }
    else if f.id == prm w.m P.time_cts_fup_id && type == 2 then
      w.tc fun x => { x with ctsRx := x.ctsRx.map (fun p => { p with fup := some (f.data, tb2) }) }
    else w

/-- The pair's CMAC verifies under the key slot. -/
def ctsVerify (v : View) (sync fup : List Byte) (w : W) : W × Bool :=
  if !prmB w.m P.time_cts_require_cmac then (w, true)
  else if noCtsKey w.m then (w, false)
  else match useKey v (prm w.m P.time_cts_key_slot) 1 Attr.decrypt w with
    | (w, none) => (w, false)
    | (w, some k) =>
      let long := prm w.m P.time_cts_fup_format == 1
      let n := if long then 8 else 3
      let got := slice fup (if long then 8 else 5) n
      (w, got == (ctsCmac w.m k sync (fup.take 5)).take n)

/-- CTS_PAIR_RECEIVE: the follower judges the pair whose follow-up has arrived. -/
def ctsPairReceiveCore (v : View) (w : W) : W :=
  match w.m.tc.ctsRx with
  | none => w
  | some p => match p.fup with
    | none => w
    | some (fup, at_) =>
      let ch := prm w.m P.time_cts_follower_channel
      if 22 ≤ ch ∨ !ctsFollows w.m ch then w
      else
        let w := w.tc fun x => { x with ctsRx := none }
        let ns := beAt fup 1 4
        let master := p.seconds * nanosPerS + ns
        let adj := prmI w.m P.time_can_rx_adjust 0 ch
        let later := match w.m.tc.ctsLastMaster with
          | some t => decide (t < master)
          | none => true
        if p.tb2 + prmNs w.m P.time_cts_fup_timeout ≤ at_ then w.count C.cts_fup_timeout ch
        else if leAt fup 0 1 % 16 != p.seq || decide (3999999999 < ns)
            || leAt p.sync 1 1 % 16 != prm w.m P.time_cts_domain || !later then w.count C.cts_seq_error ch
        else match ctsVerify v p.sync fup w with
          | (w, false) =>
            let w := (w.tc fun x => { x with ctsFailing := true }).count C.cts_cmac_fail ch
            w.limited v 0x0C05 2 ch 0 fun n => u8 (canPort ch) ++ u8 p.seq ++ zeros 2 ++ u32 n
          | (w, true) =>
            let w := (w.tc fun x => { x with ctsFailing := false, ctsLast := p.seq, ctsLastMaster := some master }).count
              C.cts_sync_rx ch
            let t : Int := master + adj
            servoSample v 1 ((p.sof.getD 0 : Int) - t) t.toNat p.tb2 w

def execCtsPairReceive (s : State) : Host.Outcome State Fault Refusal := run true ctsPairReceiveCore s

/-- A follow-up timestamped in time is still arriving (R383, R42). -/
def fupArriving (m : Module) (deadline : Nat) : Bool :=
  match m.ing.arriving.get? (canPort (prm m P.time_cts_follower_channel)) with
  | some a => a.head.id == prm m P.time_cts_fup_id && decide (a.tb2 < deadline)
  | none => false

/-- CTS_FUP_TIMEOUT: no follow-up within cts_fup_timeout of a SYNC. -/
def ctsFupTimeoutCore (v : View) (w : W) : W :=
  match w.m.tc.ctsRx with
  | none => w
  | some p =>
    let deadline := p.tb2 + prmNs w.m P.time_cts_fup_timeout
    if p.fup.isSome || !v.expired deadline || fupArriving w.m deadline then w
    else (w.tc fun x => { x with ctsRx := none }).count C.cts_fup_timeout (prm w.m P.time_cts_follower_channel % 22)

def execCtsFupTimeout (s : State) : Host.Outcome State Fault Refusal := run true ctsFupTimeoutCore s

end Sys2Proof.Machine
end

