-- ==== Sys2Proof/Machine/Receive.lean ====
section
/-! DEFINITION. Reception: CAN_FRAME_RECEIVE (R84, R300-R317) and ETH_FRAME_RECEIVE (R340-R350), with what each frame
gives the module's own functions (Borul, DoIP, NM, CTS, claims) on its way to the DCQ. -/

namespace Sys2Proof.Machine

/-! ### What arrived with the head of a frame (R82, R83) -/

/-- The record the pre-classifier left, or one taken now for a frame it has not seen. -/
def takeArriving (v : View) (port : Nat) (h : FrameHead) (w : W) : W × Arriving :=
  match w.m.ing.arriving.get? port with
  | some a => (w.ing fun x => { x with arriving := x.arriving.erase port }, a)
  | none =>
    let adj := rxAdjust w.m port
    let n := w.m.ing.seq + 1
    let marked := isCanPort port && isClaimId h.fmt h.id && decide (1 ≤ jMode w.m (port - 14))
    let a : Arriving :=
      { head := h, cand := false, marked := marked, tb0 := moved v.time.tb0.full adj, tb2 := moved v.now adj
        tb1 := moved v.time.tb1.full adj, sync := synced (tb0State w.m), epoch := w.m.tc.epoch, seq := 2 * n }
    (w.ing fun x => { x with seq := n }, a)

/-- A frame whose end word carries a bad status is discarded wherever it is, and counted (R89); what a full DCQ has
discarded already is not counted again. Until then it was `g`, which is what outputs under way have sent of it (R245). -/
def badEnd (v : View) (port : Nat) (a : Arriving) (g : Frame) (w : W) : W :=
  let w := arriveWhole g (if a.dropped then w else w.count C.pf_bad_end port)
  laneAbort v a.seq (if a.streamed && !a.dropped then purgeFrame v port a.seq w else w)

/-- A frame under way at a port that no longer receives ends (R89). -/
def dropArriving (v : View) (port : Nat) (w : W) : W :=
  match w.m.ing.arriving.get? port with
  | some a => badEnd v port a (headFrame port a.head a) (w.ing fun x => { x with arriving := x.arriving.erase port })
  | none => w

/-- A whole, good frame reaches its DCQ; the fast lane hears of its end. A full DCQ gives an Ethernet frame a bad end; a
CAN frame is good, but leaves no stored copy (R86, R255). -/
def acceptFrame (v : View) (f : Frame) (w : W) : W :=
  if !dcqFull w.m f then intoDcq v f (laneEnd v f w)
  else if isEthPort f.port then laneAbort v f.seq (intoDcq v f w)
  else intoDcq v f (laneAlone v f w)

/-! ### CAN -/

def canFrame (port : Nat) (f : CanRx) (a : Arriving) : Frame :=
  { port := port, fmt := f.fmt, id := f.id, data := f.data, ide := f.ide, dlc := f.dlc, brs := f.brs, esi := f.esi
    sdt := f.sdt, vcid := f.vcid, af := f.af, sec := f.sec, cand := a.cand, sync := a.sync, tb0 := a.tb0 % 2 ^ 32
    tb2 := a.tb2 % 2 ^ 32, epoch := a.epoch, marked := a.marked, seq := a.seq, taken := a.taken }

/-- The lowest-numbered receive object a frame matches (R311). -/
def receiveObject (c : CanCh) (f : CanRx) : Option Nat :=
  let ide := if f.fmt == 7 then f.ide else isExt f.fmt
  if 4 ≤ f.fmt && f.fmt != 7 then none
  else ((c.objs.filter (fun p => decide (96 ≤ p.1) && p.2.kind == 1)).find? (fun p =>
    let o := p.2
    (o.id &&& fld o.mask 0 29) == (f.id &&& fld o.mask 0 29) && (!bit o.mask 29 || o.ide == ide)
      && (f.fmt != 7 || o.acceptRemote))).map Prod.fst

/-- The copy into a receive object (R311, R312). -/
def copyToObject (ch : Nat) (f : CanRx) (tb0 : Nat) (w : W) : W :=
  match receiveObject (canAt w.m ch) f with
  | none => w
  | some n =>
    let o := objAt (canAt w.m ch) n
    let fd := f.fmt == 2 || f.fmt == 3
    let w := if o.newData then w.count C.can_msg_lost ch else w
    w.obj ch n fun o => { o with
      newData := true, msgLost := o.msgLost || o.newData, rxSeq := (o.rxSeq + 1) % 65536, remote := f.fmt == 7
      id := f.id, ide := if f.fmt == 7 then f.ide else isExt f.fmt, fdf := fd, brs := fd && f.brs
      length := if f.fmt == 7 then f.dlc else f.data.length, data := f.data
      ms := tb0 / 2 ^ 32 % 65536, ts := tb0 % 2 ^ 32 }

/-- A frame of an ISO 15765-2 Borul pair goes to the management processor (R15, R503). -/
def pairReceive (at_ n : Nat) (p : Pair) (f : CanRx) (w : W) : W :=
  if !managed w.m || f.ringFull then w.count C.i0_rx_drop else tpReceive at_ (peerOf (.pair n) p) f.data w

/-- A diagnostic response of an ECU (R357, R358). -/
def diagReceive (at_ ch : Nat) (f : CanRx) (w : W) : W :=
  if f.id / 65536 != 0x18DA || !isExt f.fmt || !prmB w.m P.eth_doip_enable 10 || !bit (prm w.m P.eth_doip_channel_mask 10) ch
      || !managed w.m || !fullService w.m then w
  else
    let s := f.id / 256 % 256
    match diagChannel w.m s with
    | none => w.count C.doip_unmatched 10
    | some c =>
      let p : Pair := { ch := ch, fmt := f.fmt, rxId := f.id, txId := 0x18DA0000 + 256 * (f.id % 256) + s
                        bs := prm w.m P.eth_doip_isotp_bs 10, stmin := prm w.m P.eth_doip_isotp_stmin 10 }
      tpReceive at_ (peerOf (.diag c.conn) p) f.data w

/-- A correctly received frame (R300, R311, R317). -/
def canGood (v : View) (ch : Nat) (f : CanRx) (a : Arriving) (w : W) : W :=
  let port := canPort ch
  let c := canAt w.m ch
  let w := w.count C.can_rx_frames ch
  let w := if canMode w.m ch == 1 then w.send (.canAck ch) else w
  let w := if canMode w.m ch != 1 then w
    else if 127 < c.rec_ then
      let (w, k) := w.free v 9
      setCounters v ch c.tec (119 + k + 8 * f.flagErrors) w
    else setCounters v ch c.tec (c.rec_ - 1 + 8 * f.flagErrors) w
  let w := copyToObject ch f a.tb0 w
  match pairOfFrame w.m ch f.fmt f.id with
  | some (n, p) => pairReceive a.tb2 n p f (laneAlone v (canFrame port f a) w)
  | none =>
    let g := canFrame port f a
    let w := ctsCapture ch g a.tb1 a.tb2 (nmReceive v g w)
    let w := if 1 ≤ jMode w.m ch && isExt f.fmt then claimRequest v ch f.id f.data w else w
    let w := diagReceive a.tb2 ch f w
    if a.dropped then laneAlone v g w
    else if a.streamed then
      match streamEnd v g w with
      | (w, true) => laneEnd v g w
      | (w, false) => laneAlone v g w
    else acceptFrame v g w

/-- The arrival time of a frame at a port under a hold. -/
def heldStamp (v : View) (m : Module) (port : Nat) : Nat :=
  match m.ing.arriving.get? port with
  | some a => a.tb2
  | none => moved v.now (rxAdjust m port)

/-- Under a hold a correct frame of a Borul pair still reaches the management processor (R69). -/
def canHeld (v : View) (ch : Nat) (f : CanRx) (w : W) : W :=
  match f.ending, pairOfFrame w.m ch f.fmt f.id with
  | .good, some (n, p) =>
    if portOn w.m (canPort ch) && canPairsOnly w.m ch && formatSendable w.m ch f.fmt then
      let w := if canMode w.m ch == 1 then w.send (.canAck ch) else w
      pairReceive (heldStamp v w.m (canPort ch)) n p f (w.count C.can_rx_frames ch)
    else w
  | _, _ => w

/-- An error before the sample point of the sixth EOF bit (R258, R305, R317). -/
def canBad (v : View) (ch : Nat) (e : CanError) (phase dominant : Bool) (more : Nat) (a : Arriving) (g : Frame) (w : W) : W :=
  let c := canAt w.m ch
  let w := (w.count C.can_rx_error ch).can ch fun c => { c with lastError := errorCode e + 8 * b2n phase }
  let w := if canMode w.m ch != 1 then w
    else setCounters v ch c.tec (c.rec_ + (if dominant then 9 else 1) + 8 * more)
      (w.send (.canErrorFlag ch (g.fmt == 4 && phase && fastMode w.m ch)))
  badEnd v (canPort ch) a g w

/-- Bit position, counted from SOF, of the last bit at the nominal rate. -/
def arbitrationBits (fmt : Nat) : Nat := if fmt == 3 then 35 else if fmt == 4 then 17 else 16

/-- Bits after the rate switch of an FD or XL frame lie in the data phase. -/
def inDataPhase (f : CanRx) (bitPos : Nat) : Bool :=
  ((f.fmt == 2 || f.fmt == 3) && f.brs || f.fmt == 4) && decide (arbitrationBits f.fmt < bitPos)

/-- Whether the frame counts toward the acceptance of a rate candidate (R309): a format that is not enabled is an error
(R300), and the data phase of an FD or XL frame is not detected. -/
def countsForRate (m : Module) (ch : Nat) (f : CanRx) : Bool :=
  formatSendable m ch f.fmt && (match f.ending with
    | .good => true
    | .bad _ _ _ bitPos => decide (2 ≤ f.fmt ∧ f.fmt ≤ 4 ∧ arbitrationBits f.fmt < bitPos))

def canFrameReceiveCore (ch : Nat) (f : CanRx) (v : View) (w : W) : W :=
  let port := canPort ch
  if canMode w.m ch == 3 && !portHeldAt w.m v.now port then detectFrame v ch (countsForRate w.m ch f) w
  else if !portReceives w.m v.now port then canHeld v ch f (dropArriving v port w)
  else
    let (w, a) := takeArriving v port { fmt := f.fmt, id := f.id, len := f.data.length } w
    let w := w.can ch fun c => { c with load := addLoad c.load a.tb2 v.now }
    if !formatSendable w.m ch f.fmt then canBad v ch .form false false f.flagErrors a (canFrame port f a) w
    else match f.ending with
      | .good => canGood v ch f a w
      | .bad e early dominant bitPos =>
        if early then canBad v ch e (inDataPhase f bitPos) dominant f.flagErrors a (canFrame port f a) w else canGood v ch f a w

/-- Formats a CAN controller can receive: classic, FD, XL, remote. -/
def isCanFormat (fmt : Nat) : Bool := decide (fmt ≤ 4) || fmt == 7

def execCanFrameReceive (ch : Nat) (f : CanRx) (s : State) : Host.Outcome State Fault Refusal :=
  run (decide (ch < 22) && isCanFormat f.fmt) (canFrameReceiveCore ch f) s

/-! ### Borul datagrams (R16, R17, R498) -/

/-- The bytes of a datagram whose pieces follow one another from 0. -/
def joinPieces : Nat → Nat → List (Nat × List Byte) → List Byte
  | 0, _, _ => []
  | n + 1, off, l => match l.find? (fun p => p.1 == off && !p.2.isEmpty) with
    | some p => p.2 ++ joinPieces n (off + p.2.length) l
    | none => []

def deliverBorul (ring : Bool) (port vlan : Nat) (u : Udp) (w : W) : W :=
  if managed w.m && !ring then w.send (.delivered (.udp port vlan u.ip.v6 u.ip.src u.sport u.ip.dst u.dport) u.payload)
  else w.count C.i0_rx_drop

/-- A fragment of a Borul datagram (R17). Only the first fragment names the UDP port: a datagram of fragments that turns
out to name another port has been taken from the forwarding path and is discarded (DESIGN CHOICE,
notes/assumptions/85.md). -/
def borulFragment (at_ : Nat) (ring : Bool) (port vlan : Nat) (ip : Ip) (w : W) : W :=
  let key := partialKey ip
  let old := match w.m.borul.partials.find? (fun p => p.port == port && p.key == key) with
    | some p => if p.first + 1000000000 ≤ at_ then none else some p
    | none => none
  let p : IpPartial := old.getD { port := port, key := key, first := at_, pieces := [], total := none }
  let p := { p with pieces := p.pieces ++ [(ip.offset, ip.payload)]
                    total := if ip.more then p.total else some (ip.offset + ip.payload.length) }
  let rest := w.m.borul.partials.filter (fun q => !(q.port == port && q.key == key))
  let size := (p.pieces.map (fun x => x.2.length)).sum
  if 4100 < size then w.borul fun b => { b with partials := rest }
  else
    let bytes := joinPieces p.pieces.length 0 p.pieces
    if p.total == some bytes.length then
      let w := w.borul fun b => { b with partials := rest }
      match udpIn { ip with payload := bytes, offset := 0, more := false } with
      | some u => if isBorulUdp w.m port vlan u then deliverBorul ring port vlan u w else w
      | none => w
    else w.borul fun b => { b with partials := rest ++ [p] }

/-! ### Frames for the management processor (R354, R374, R498) -/

/-- An ARP reply for one of the module's addresses. -/
def arpReply (m : Module) (port : Nat) (bs : List Byte) (addr : Nat) : List Byte :=
  let mac := beBytes 6 (portMac m port)
  let p := (ethParts bs).2.2
  slice bs 6 6 ++ mac ++ beBytes 2 0x0806 ++ beBytes 2 1 ++ beBytes 2 0x0800 ++ [0x06, 0x04] ++ beBytes 2 2
    ++ mac ++ beBytes 4 addr ++ slice p 8 6 ++ slice p 14 4 ++ zeros 18

/-- A Borul datagram, or a fragment of one, of arrival time `at_`, taken to I0 (R16, R17, R498). -/
def borulTaken (at_ : Nat) (ring : Bool) (port : Nat) (bs : List Byte) (w : W) : Option W :=
  let vlan := ethVlan w.m port bs
  match ipOf bs with
  | none => none
  | some ip =>
    if isBorulFragment w.m port vlan ip then some (borulFragment at_ ring port vlan ip w)
    else match udpIn ip with
      | some u => if isBorulUdp w.m port vlan u then some (deliverBorul ring port vlan u w) else none
      | none => none

/-- A frame taken to I0 before classification; none when it goes on to its DCQ. -/
def takenToI0 (v : View) (ring : Bool) (port : Nat) (f : Frame) (w : W) : Option W :=
  let bs := f.data
  if isPtp w.m port bs || isDoip w.m port bs then some (deliverI0 ring f w)
  else match arpTarget bs with
    | some t =>
      if port == 10 && prmB w.m P.eth_doip_enable 10 && fullService w.m && t == doipAddress w.m then
        some (if w.m.mod.firmwareRunning then w.send (.eth port (arpReply w.m port bs t)) else w)
      else if port == 10 && serviceOpen w.m && serviceAddress w.m == some t then
        some (if w.m.mod.firmwareRunning then w.send (.eth port (arpReply w.m port bs t)) else w)
      else none
    | none => borulTaken (arrivedAt v f) ring port bs w

/-! ### MACsec reception (R348-R350) -/

/-- The SecTAG of a frame: association number, SCI, packet number, encryption flag, and its length. -/
structure SecTag where
  an : Nat
  sci : Nat
  pn : Nat
  enc : Bool
  len : Nat
  deriving DecidableEq, Repr

def secTag (bs : List Byte) : Option SecTag :=
  if beAt bs 12 2 != 0x88E5 then none
  else
    let tci := leAt bs 14 1
    let sc := bit tci 5
    some { an := tci % 4, sci := if sc then beAt bs 20 8 else beAt bs 6 6 * 65536 + 1, pn := beAt bs 16 4
           enc := bit tci 3, len := if sc then 16 else 8 }

/-- The whole packet number of a frame (XPN carries its low half). -/
def fullPn (xpn : Bool) (next pn : Nat) : Nat :=
  if !xpn then pn
  else
    let c := next / 2 ^ 32 * 2 ^ 32 + pn
    if c + 2 ^ 31 < next then c + 2 ^ 32 else c

/-- Open a protected frame: what follows the addresses. -/
def macsecPlain (m : Module) (port : Nat) (sa : Sa) (t : SecTag) (pn : Nat) (bs : List Byte) : Option (List Byte) :=
  let body := bs.drop (12 + t.len)
  let clear := if t.enc then confOffset m port else body.length - 16
  (Config.gcmOpen (prm m P.eth_macsec_cipher port) sa.key t.sci pn (bs.take (12 + t.len) ++ body.take clear) (body.drop clear)).map
    (fun p => body.take clear ++ p)

def macsecEvent (v : View) (port kind : Nat) (w : W) : W :=
  w.limited v 0x0B04 1 port 1000000000 fun n => u8 port ++ u8 kind ++ zeros 2 ++ u32 n

/-- What becomes of a frame at a MACsec port: its bytes, and whether verification succeeded; none discards it. -/
def macsecReceive (v : View) (port : Nat) (bs : List Byte) (w : W) : W × Option (List Byte × Bool) :=
  let mode := prm w.m P.eth_macsec_validate port
  if macsecBypass w.m port bs then (w, some (bs, false))
  else
    let fail := fun (c : CRef) (kind : Nat) (w : W) => macsecEvent v port kind (w.count c port)
    let pass := if mode == 2 then none else some (bs, false)
    match secTag bs with
    | none => (fail C.macsec_in_untagged 1 w, pass)
    | some t =>
      match (ethAt w.m port).rxSas.find? (fun s => s.an == t.an && s.sci == t.sci) with
      | none => (fail C.macsec_in_no_sa 2 w, pass)
      | some sa =>
        let pn := fullPn (decide (2 ≤ prm w.m P.eth_macsec_cipher port)) sa.pn t.pn
        if pn + prm w.m P.eth_macsec_replay_window port < sa.pn then
          (fail C.macsec_in_late 3 w, if mode == 0 then pass else none)
        else match macsecPlain w.m port sa t pn bs with
          | none => (fail C.macsec_in_invalid 0 w, pass)
          | some p =>
            let w := w.eth port fun e => { e with
              rxSas := e.rxSas.map (fun s => if s.an == t.an && s.sci == t.sci then { s with pn := max s.pn (pn + 1) } else s) }
            (w.count C.macsec_in_ok port, some (bs.take 12 ++ p, true))

/-! ### PAUSE and PFC (R343) -/

/-- Stop a class for a number of quanta. -/
def pauseClass (v : View) (port q quanta : Nat) (w : W) : W :=
  let until_ := v.now + quanta * 512000 / max 1 (ethAt w.m port).rate
  w.fab fun x => { x with
    paused := if quanta = 0 then x.paused.erase (queueKey port q) else x.paused.put (queueKey port q) until_ }

/-- The port obeys the flow control that pause_mode selects, while honour_pause is 1 (R342, R343). -/
def receivePause (v : View) (port : Nat) (bs : List Byte) (w : W) : W :=
  let w := w.count C.eth_rx_pause port
  let mode := prm w.m P.eth_pause_mode port
  if !prmB w.m P.eth_honour_pause port then w
  else if mode == 1 && beAt bs 14 2 == 1 then
    w.each (List.range 8) fun q w => pauseClass v port q (beAt bs 16 2) w
  else if mode == 2 && beAt bs 14 2 == 0x0101 then
    w.each (bitsOf 8 (beAt bs 16 2)) fun q w => pauseClass v port q (beAt bs (18 + 2 * q) 2) w
  else w

/-! ### ETH_FRAME_RECEIVE -/

/-- The fast lane sees a frame that the MACsec engine has held only now (R348). Its first 64 bytes and its end word then
cross at once: outputs that may start do so between them (DEDUCED, notes/assumptions/111.md). -/
def lateLane (v : View) (port : Nat) (bs : List Byte) (a : Arriving) (w : W) : W × Arriving :=
  if !macsecHolds w.m port then (w, a)
  else
    let h := { a.head with bytes := bs }
    let (w, a, mask) := laneOffer v port h a w
    let w := laneTake v port h a mask w
    (w.each ((List.range 11).filter (fun p => bit (mask.getD 0) p)) fun p w => fastlaneEthStartCore p v w, a)

/-- A frame that passed the MAC and MACsec. -/
def ethGood (v : View) (ring : Bool) (port : Nat) (bs : List Byte) (secured : Bool) (a : Arriving) (w : W) : W :=
  if !a.streamed && !vlanAccepted w.m port (ethParts bs).1 then
    laneAlone v (ethFrame port bs secured false a) (w.count C.eth_rx_vlan_drop port)
  else
    let max_ := prm w.m P.eth_max_frame_size port
    let trunc := decide (max_ < bs.length + 4)
    let w := if trunc then w.count C.eth_rx_truncated port else w
    let f := ethFrame port (if trunc then bs.take (max_ - 4) else bs) secured trunc a
    let w := nmReceive v f w
    if a.dropped then laneAbort v a.seq (arriveWhole f w)
    else if a.streamed then
      match streamEnd v f w with
      | (w, true) => laneEnd v f w
      | (w, false) => laneAbort v a.seq w
    else match takenToI0 v ring port f w with
      | some w => laneAlone v f w
      | none => acceptFrame v f w

/-- What passes the MAC's MACsec engine; none discards it. -/
def macsecPass (v : View) (port : Nat) (bs : List Byte) (w : W) : W × Option (List Byte × Bool) :=
  if macsecHolds w.m port then macsecReceive v port bs w else (w, some (bs, false))

/-- Under a hold the port still takes Borul traffic to I0 (R69), and nothing else (Table 03-3). -/
def ethHeld (v : View) (port : Nat) (f : EthRx) (w : W) : W :=
  if !portOn w.m port || f.data.length + 4 < 64 || !f.fcsOk || f.stomped then w
  else match macsecPass v port f.data w with
    | (_, none) => w
    | (x, some (p, _)) => match borulTaken (heldStamp v w.m port) f.ringFull port p x, vlanAccepted w.m port (ethParts p).1 with
      | some y, true => (y.count C.eth_rx_frames port).count C.eth_rx_bytes port (f.data.length + 4)
      | _, _ => w

def ethFrameReceiveCore (port : Nat) (f : EthRx) (v : View) (w : W) : W :=
  if !portReceives w.m v.now port then ethHeld v port f (dropArriving v port w)
  else
    let (w, a) := takeArriving v port { fmt := 8, id := 0, len := f.data.length } w
    let w := if port < 8 then w.count C.preempt_fragments_rx port f.fragments else w
    let bs := f.data
    let g := ethFrame port bs false false a
    if bs.length + 4 < 64 then badEnd v port a g (w.count C.eth_rx_runt port)
    else if !f.fcsOk || f.stomped then badEnd v port a g (w.count C.eth_rx_fcs_error port)
    else
      let w := (w.count C.eth_rx_frames port).count C.eth_rx_bytes port (bs.length + 4)
      if isPause w.m port bs then laneAbort v a.seq (receivePause v port bs w)
      else if a.streamed then ethGood v f.ringFull port bs false a w
      else match macsecPass v port bs w with
        | (w, none) => laneAbort v a.seq w
        | (w, some (p, ok)) =>
        let (w, a) := lateLane v port p a w
        ethGood v f.ringFull port p ok a w

def execEthFrameReceive (port : Nat) (f : EthRx) (s : State) : Host.Outcome State Fault Refusal :=
  run (isEthPort port) (ethFrameReceiveCore port f) s

end Sys2Proof.Machine
end

