-- ==== Sys2Proof/Machine/Classify.lean ====
section
/-! DEFINITION. Classification (spec/05, R126-R129, R136-R141; spec/18, R503): the lookup sequence, the miss signpost,
truncated frames, the footpath lookup, source learning and the age sweep. -/

namespace Sys2Proof.Machine

def lookupMode (m : Module) (p : Nat) : Nat := prm m P.cls_lookup_mode 0 p

/-- The miss signpost of a port (R126). -/
def missSignpost (m : Module) (p : Nat) : Nat :=
  let mode := lookupMode m p
  let act := fld mode 5 3
  let action := if act == 0 then 1 else if act == 1 then 2 else if act == 2 then 3 else 0
  2 ^ 63 + action * 2 ^ 60 + fld mode 18 3 * 2 ^ 46
    + (if act == 3 then 2 ^ 59 + fld mode 8 10 * 2 ^ 49 else 0)

/-! ### The steps of R126 -/

/-- A lookup reads entries: it waits for a closure that holds one of them (R224), and finds the errors that wait there. -/
def readEntries (v : View) (keys : List Nat) (w : W) : W :=
  touch v keys (if keys.any (entryLocked w.m v anyRequester) then w.count C.table_lock_wait else w)

/-- A step that is tried when the one before found nothing. -/
def orElse (r : W × Found) (step : W → W × Found) : W × Found :=
  match r with
  | (w, .none) => step w
  | _ => r

/-- Direct index, table 0x01. -/
def directStep (v : View) (p key : Nat) (w : W) : W × Found :=
  let fmt := Kv.format.get key
  if bit (lookupMode w.m p) 2 && (fmt == 0 || fmt == 2 || fmt == 4 || (fmt == 7 && !bit key 119)) then
    let i := (p - 14) * 2048 + Kv.identifier.get key % 2048
    let w := readEntries v [entryKey 1 i] w
    let e := w.m.tab.get 1 i
    (w, if w.m.tab.isPoisoned 1 i then .poisoned else if Sp.valid.on e then .hit e i else .none)
  else (w, .none)

/-- Look a key up in the hash table; a hit sets the hit bit (R140). -/
def hashFind (v : View) (key : Nat) (w : W) : W × Found :=
  let seed := seedOf w.m
  let w := readEntries v ((keySlots seed key).map (entryKey 2)) w
  match hashLookup w.m.tab seed key with
  | .hit sp i => (w.tab fun x => { x with hits := insertOnce i x.hits }, .hit sp i)
  | r => (w, r)

def hashStep (v : View) (p key : Nat) (w : W) : W × Found :=
  let l := lookupMode w.m p % 4
  if (l == 0 || l == 2) && Kv.keyType.get key != 3 then hashFind v (exactKey key) w else (w, .none)

/-- An ordered lookup reads its whole table: any entry of it that is faulty, or held by a closure. -/
def touchTable (v : View) (t : Nat) (w : W) : W :=
  let held := ((otherClosures w.m.fab anyRequester).filter (fun c => c.resource == 2)).flatMap Closure.addrs
  readEntries v ((w.m.tab.faulty ++ held).filter (fun k => k / 2 ^ 20 == t)) w

def tcamStep (v : View) (p key : Nat) (w : W) : W × Found :=
  let l := lookupMode w.m p % 4
  if l == 1 || l == 2 then
    let w := touchTable v 3 w
    (w, tcamLookup w.m.tab key)
  else (w, .none)

def lpmStep (v : View) (p key : Nat) (w : W) : W × Found :=
  let kt := Kv.keyType.get key
  if bit (lookupMode w.m p) 3 && (kt == 2 || kt == 3) then
    let t := if kt == 2 then 4 else 5
    let w := touchTable v t w
    (w, lpmLookup w.m.tab t (if kt == 2 then Kv.dstIp4.get key else Kv.dstIp6.get key) (Kv.vidIp.get key))
  else (w, .none)

/-- R126: direct index, hash, TCAM, LPM. -/
def findSignpost (v : View) (p key : Nat) (w : W) : W × Found :=
  orElse (orElse (orElse (directStep v p key w) (hashStep v p key)) (tcamStep v p key)) (lpmStep v p key)

/-- The signpost of a key vector and the layby reason it brings; misses and poisoned entries are counted. -/
def signpostFor (v : View) (p key : Nat) (w : W) : W × Nat × Nat :=
  let interval := prmNs w.m P.cls_miss_event_interval
  match findSignpost v p key w with
  | (w, .hit sp _) => (w, sp, 0)
  | (w, .poisoned) => (w.count C.class_poisoned_hit p, missSignpost w.m p, 1)
  | (w, .none) =>
    ((w.count C.class_miss p).limited v 0x0503 0 p interval (fun n => u8 p ++ zeros 3 ++ u32 n), missSignpost w.m p, 1)

/-! ### Source learning (R136-R139) -/

/-- Signpost of a learned entry (R136). -/
def learnedSp (p : Nat) : Nat := 2 ^ 63 + p * 2 ^ 49 + 2

def refuseLearn (v : View) (p cause : Nat) (w : W) : W :=
  (w.count C.learn_refused p).limited v 0x0505 1 p (prmNs w.m P.cls_miss_event_interval)
    (fun n => u8 p ++ u8 cause ++ zeros 2 ++ u32 n)

/-- The limits of R138 that a port has reached: 0 its own, 1 the total. -/
def learnLimit (m : Module) (p : Nat) : Option Nat :=
  let l := m.tab.learned
  if prm m P.cls_learn_limit 0 p ≤ (l.filter (fun q => q.2.port == p)).length then some 0
  else if prm m P.cls_learn_total_limit ≤ l.length then some 1
  else none

def requestLearn (v : View) (p key : Nat) (w : W) : W :=
  match learnLimit w.m p with
  | some c => refuseLearn v p c w
  | none =>
    if 64 ≤ w.m.tab.learnQ.length then refuseLearn v p 3 w
    else w.tab fun x => { x with learnQ := x.learnQ ++ [⟨p, key⟩] }

/-- A learned station is seen on another port; answers whether the frame goes to the layby. -/
def stationMove (v : View) (p key slot : Nat) (l : Learned) (w : W) : W × Bool :=
  let act := prm w.m P.cls_learn_move_action
  let w := w.count C.learn_move p
  if act == 0 then
    let w := w.tab fun x =>
      let y := x.put 2 l.index (hashEntry key (learnedSp p))
      { y with learned := y.learned.put slot { l with port := p } }
    (w.event v 0x0504 1 (u8 l.port ++ u8 p ++ u16 (key / 2 ^ 48 % 4096) ++ beBytes 6 key ++ zeros 2), false)
  else (w, act == 2)

/-- Source lookup of a frame (R136, R137); answers whether the frame goes to the layby. -/
def learnSource (v : View) (p key : Nat) (noLearn : Bool) (w : W) : W × Bool :=
  let src := Kv.srcMac.get key
  if !(decide (p < 11) && bit (lookupMode w.m p) 4 && Kv.keyType.get key == 1 && !bit src 40 && !noLearn) then (w, false)
  else
    let k := macKey (Kv.vidL2.get key) src
    match hashFind v k w with
    | (w, .poisoned) => (w, false)
    | (w, .none) => (requestLearn v p k w, false)
    | (w, .hit sp i) =>
      match w.m.tab.learnedAt i with
      | some (slot, l) => if l.port == p then (w, false) else stationMove v p k slot l w
      | none =>
        (if Sp.destList.on sp || Sp.dest.get sp != p then w.count C.learn_static_conflict p else w, false)

/-- The lowest free learning slot. -/
def freeLearnSlot (l : SMap Learned) : Nat :=
  (l.foldl (fun (n : Nat) p => if p.1 == n then n + 1 else n) 0)

/-- LEARN_INSERT: the learning engine takes the next request (R135, R138, R139); in FOOTPATH and SAFE nothing is learned
(R129). DESIGN CHOICE (notes/assumptions/112.md): a new entry starts with its hit bit set, so that it ages from its
insertion. -/
def learnInsertCore (v : View) (w : W) : W :=
  match w.m.tab.learnQ, fullService w.m with
  | [], _ => w
  | _ :: _, false => w
  | q :: rest, true =>
    let w := w.tab fun x => { x with learnQ := rest }
    let seed := seedOf w.m
    match w.m.tab.findSlot seed q.key with
    | some i =>
      match w.m.tab.learnedAt i with
      | some (slot, l) => lockEntries v 11 [(2, i)] (w.tab fun x =>
          let y := x.put 2 i (hashEntry q.key (learnedSp q.port))
          { y with learned := y.learned.put slot { l with port := q.port } })
      | none => w
    | none =>
      match learnLimit w.m q.port with
      | some c => refuseLearn v q.port c w
      | none =>
        match w.m.tab.insertHash seed (kicksOf w.m) q.key (learnedSp q.port) with
        | none => refuseLearn v q.port 2 (w.count C.hash_insert_fail)
        | some (y, i, _) =>
          let l : Learned := { key := q.key, port := q.port, index := i }
          let w := (w.tab fun _ => { y with learned := y.learned.put (freeLearnSlot y.learned) l
                                            hits := insertOnce i y.hits }).count C.learn_new q.port
          lockEntries v 11 [(2, i)] w

def execLearnInsert (s : State) : Host.Outcome State Fault Refusal := run true learnInsertCore s

/-- AGE_SWEEP over the learned entries (R140). Whether a lookup reaches an entry in the cycle in which the sweep does is
a free value; then its hit bit ends set, and the entry is not removed (R141; DESIGN CHOICE, notes/assumptions/108.md). -/
def ageSweepCore (v : View) (w : W) : W :=
  if !powered w.m then w
  else w.each w.m.tab.learned fun (slot, l) w =>
    let (w, race) := w.free v 2
    let met := race == 1
    let again := fun (w : W) => if met then w.tab fun x => { x with hits := insertOnce l.index x.hits } else w
    if w.m.tab.hits.contains l.index then
      again (w.tab fun x => { x with hits := x.hits.filter (· != l.index), learned := x.learned.put slot { l with age := 0 } })
    else if l.age < 3 then again (w.tab fun x => { x with learned := x.learned.put slot { l with age := l.age + 1 } })
    else if met then (again w).count C.age_race_kept
    else lockEntries v 11 [(2, l.index)] ((w.tab fun x => (x.unlearn l.index).put 2 l.index 0).count C.learn_aged)

def execAgeSweep (s : State) : Host.Outcome State Fault Refusal := run true ageSweepCore s

/-! ### The footpath lookup (R503) -/

def footMatch (m : Module) (f : Frame) : Option FootRoute :=
  if 5 ≤ f.fmt then none
  else m.mod.foot.routes.find? fun r =>
    r.valid && r.port == f.port && r.id == f.id && r.ide == isExt f.fmt && r.xl == (f.fmt == 4)

def footpathLookup (f : Frame) (w : W) : W :=
  match footMatch w.m f with
  | none => discardFrame f (w.count C.footpath_miss f.port)
  | some r =>
    let mask := maskOf ((bitsOf 36 r.portMask).filter (fun p => isCanPort p && (footRecord w.m (p - 14)).mode == 1))
    let j : Job := { frame := f, sp := 0, mask := some mask, markTc := some (2 * r.queue), own := true }
    (w.count C.footpath_forwarded f.port).flow fun x => { x with enq := x.enq ++ [j] }

/-! ### CLASSIFY -/

/-- The signpost a frame leaves classification with (R126, R128, R137, R253). -/
def classifyFrame (v : View) (r : Released) (w : W) : W :=
  let f := r.frame
  let p := f.port
  let (w, moved) := if r.ending == .miss then (w, false) else learnSource v p r.key r.noLearn w
  let (w, sp, why) := if r.ending == .miss then (w, missSignpost w.m p, 1)
    else signpostFor v p r.key w
  let w := w.count C.class_frames p
  let (sp, why) := match f.taken with
    | some k => (Fe.sp.get (flEntry w.m k), 0)
    | none => (sp, why)
  let layby := if Sp.action.get sp == 2 then some why else none
  let layby := if moved then some 4 else layby
  let (w, sp, layby) :=
    if f.trunc then (w.count C.class_truncated p, Sp.action.set (Sp.truncated.set sp 1) 2, some 3) else (w, sp, layby)
  let j : Job := { frame := f, sp := sp, fl := f.taken, mirror := r.mirror, layby := layby }
  w.flow fun x => { x with classified := x.classified ++ [j] }

/-- Memory errors that have come about: a read of the entry or tile finds them (R152, R195). -/
def memoryErrors (e : ReadErrors) (w : W) : W :=
  (w.tab fun x => { x with
    faulty := e.entries.foldl (fun l a => insertOnce (entryKey (a / 2 ^ 24) (a % 2 ^ 24)) l) x.faulty }).fab fun x =>
    e.tiles.foldl tileError x

/-- CLASSIFY: the next released key vector, after the memory errors that have come about before it. -/
def classifyCore (errors : ReadErrors) (v : View) (w : W) : W :=
  let w := memoryErrors errors w
  match w.m.ing.released, powered w.m with
  | [], _ => w
  | _ :: _, false => w
  | r :: rest, true =>
    let w := w.ing fun x => { x with released := rest }
    if footService w.m then footpathLookup r.frame w else classifyFrame v r w

def execClassify (errors : ReadErrors) (s : State) : Host.Outcome State Fault Refusal :=
  run (errors.entries.all entryAddrOk) (classifyCore errors) s

end Sys2Proof.Machine
end

