-- ==== Sys2Proof/Machine/Waypoint.lean ====
section
/-! DEFINITION. Waypoint records, learned profiles, violation actions, toll gates, the layby and the FLOW operations
(spec/06). A record is the number of its 64 bytes; bits 512 to 514 are the model's own: whether last_arrival and
last_forward hold a time, and whether learning has just ended. -/

namespace Sys2Proof.Machine

/-! ### The record (Table 06-1) -/

namespace Wp
def valid : Fld := ⟨63, 1⟩
def state : Fld := ⟨61, 2⟩
def quarantined : Fld := ⟨60, 1⟩
def owner : Fld := ⟨54, 6⟩
def ownerFixed : Fld := ⟨53, 1⟩
def kind : Fld := ⟨51, 2⟩
def gate : Fld := ⟨40, 11⟩
def gateEn : Fld := ⟨39, 1⟩
/-- Action field of violation kind `k`: bits 38 down to 24, three each. -/
def act (k : Nat) : Fld := ⟨36 - 3 * k, 3⟩
def markTc : Fld := ⟨21, 3⟩
def period : Fld := ⟨64, 32⟩
def minGap : Fld := ⟨96, 32⟩
def jitter : Fld := ⟨128, 32⟩
def lenMin : Fld := ⟨160, 16⟩
def lenMax : Fld := ⟨176, 16⟩
def lastArrival : Fld := ⟨192, 32⟩
def lastMs : Fld := ⟨224, 8⟩
def epoch : Fld := ⟨232, 4⟩
def learnGaps : Fld := ⟨240, 16⟩
def counters : Fld := ⟨256, 192⟩
def lastForward : Fld := ⟨448, 32⟩
def forwardMs : Fld := ⟨480, 8⟩
def kindsSeen : Fld := ⟨488, 5⟩
def gapSum : Fld := ⟨448, 48⟩
def learnStartMs : Fld := ⟨496, 8⟩
/-- Bytes 56 to 63, whose meaning depends on the state. -/
def tail : Fld := ⟨448, 64⟩
def arrivalKnown : Fld := ⟨512, 1⟩
def forwardKnown : Fld := ⟨513, 1⟩
/-- The next frame is the first after learning (R169). -/
def justLearned : Fld := ⟨514, 1⟩
end Wp

def wpOff : Nat := 0
def wpLearn : Nat := 1
def wpWatch : Nat := 2
def wpFrozen : Nat := 3

/-- Several fields set at once. -/
def setAll (v : Nat) (l : List (Fld × Nat)) : Nat := l.foldl (fun v p => p.1.set v p.2) v

/-- R166: a stored time with its milestone byte, extended to the milestone nearest to that of `ref`. -/
def extend8 (ref n ms : Nat) : Int :=
  ((ref / 2 ^ 32 : Nat) + signed 8 (ms + 256 - ref / 2 ^ 32 % 256)) * 2 ^ 32 + (n : Int)

/-- A gap between two extended times: 0 when negative, saturated in 32 bits (R166, R170). -/
def gapOf (t : Nat) (last : Int) : Nat := min ((t : Int) - last).toNat 0xFFFFFFFF

def wpLast (r t : Nat) : Int := extend8 t (Wp.lastArrival.get r) (Wp.lastMs.get r)

/-- last_arrival, last_milestone and epoch_tag from a frame. -/
def setArrival (r t epoch : Nat) : Nat :=
  setAll r [(Wp.lastArrival, t), (Wp.lastMs, t / 2 ^ 32), (Wp.epoch, epoch), (Wp.arrivalKnown, 1)]

/-! ### Learning (R167, R168) -/

/-- Set up learning at TB0 full time `t0`. -/
def startLearning (r t0 : Nat) : Nat :=
  let r := if Wp.ownerFixed.on r then r else Wp.owner.set r 63
  setAll r [(Wp.state, wpLearn), (Wp.kind, 0), (Wp.period, 0), (Wp.minGap, 0xFFFFFFFF), (Wp.jitter, t0),
    (Wp.lenMin, 0xFFFF), (Wp.lenMax, 0), (Wp.learnGaps, 0), (Wp.lastArrival, 0), (Wp.lastMs, 0), (Wp.epoch, 0),
    (Wp.tail, 0), (Wp.learnStartMs, t0 / 2 ^ 32), (Wp.arrivalKnown, 0), (Wp.forwardKnown, 0),
    (Wp.justLearned, 0)]

/-- learn_start, as an extended time near `t`. -/
def learnStart (r t : Nat) : Int := extend8 t (Wp.jitter.get r) (Wp.learnStartMs.get r)

/-- The learning window has closed at full time `t`. -/
def windowClosed (m : Module) (r t : Nat) : Bool := decide (learnStart r t + (prmNs m P.flows_learn_time : Nat) ≤ (t : Int))

/-- A frame of the owner inside the window. -/
def learnFrame (r p t len epoch : Nat) : Nat :=
  let r := if Wp.owner.get r == 63 then Wp.owner.set r p else r
  let r := setAll r [(Wp.lenMin, min len (Wp.lenMin.get r)), (Wp.lenMax, max len (Wp.lenMax.get r))]
  let r := if Wp.arrivalKnown.on r && Wp.epoch.get r == epoch then
      let g := gapOf t (wpLast r t)
      setAll r [(Wp.gapSum, Wp.gapSum.get r + g), (Wp.learnGaps, Wp.learnGaps.get r + 1),
        (Wp.minGap, min g (Wp.minGap.get r)), (Wp.period, max g (Wp.period.get r))]
    else r
  if Wp.arrivalKnown.on r && decide ((t : Int) < wpLast r t) then r else setArrival r t epoch

/-- The profile at the end of learning (R168). The next frame is checked for its length only (R169). -/
def endProfile (m : Module) (r : Nat) : Nat :=
  let n := Wp.learnGaps.get r
  let gmax := Wp.period.get r
  let gmin := Wp.minGap.get r
  let period := (Wp.gapSum.get r + n / 2) / n
  let jitter := max (period - gmin) (gmax - period)
  let r' := if n < prm m P.flows_sparse_min_gaps then
      setAll r [(Wp.kind, 3), (Wp.period, 0), (Wp.minGap, 0), (Wp.jitter, 0)]
    else
      let kind := if jitter * 256 ≤ period * prm m P.flows_periodic_jitter_limit then 1 else 2
      setAll r [(Wp.kind, kind), (Wp.period, period), (Wp.jitter, jitter)]
  let r' := if Wp.lenMax.get r' == 0 then setAll r' [(Wp.lenMin, 0), (Wp.lenMax, 0xFFFF)] else r'
  setAll r' [(Wp.state, wpWatch), (Wp.tail, 0), (Wp.lastForward, Wp.lastArrival.get r),
    (Wp.forwardMs, Wp.lastMs.get r), (Wp.forwardKnown, Wp.arrivalKnown.get r), (Wp.justLearned, 1)]

def wpGet (m : Module) (i : Nat) : Nat := m.tab.get 0x0C i
def wpPut (i r : Nat) (w : W) : W := w.tab (fun x => x.put 0x0C i r)

/-- Learning ends: the profile, event 0x0601 and its counters. -/
def finishLearning (v : View) (i : Nat) (w : W) : W :=
  let r := endProfile w.m (wpGet w.m i)
  let w := (wpPut i r w).count C.learn_complete
  let w := if Wp.kind.get r == 3 then w.count C.learn_sparse else w
  w.event v 0x0601 0 (u16 i ++ u8 (Wp.kind.get r) ++ u8 0 ++ u32 (Wp.period.get r) ++ u32 (Wp.minGap.get r)
    ++ u32 (Wp.jitter.get r) ++ u16 (Wp.learnGaps.get r) ++ zeros 2)

/-! ### Checks (R169, R170) -/

/-- GAP in bit 1, LATE in bit 2. -/
def gapKinds (m : Module) (r gap : Nat) : Nat :=
  let k := Wp.kind.get r
  let early := (k == 1 || k == 2) && decide (gap * 256 < Wp.minGap.get r * (256 - prm m P.flows_gap_tolerance))
  let late := k == 1 && decide ((Wp.period.get r + Wp.jitter.get r) * 256
    + Wp.period.get r * prm m P.flows_late_tolerance < gap * 256)
  2 * b2n early + 4 * b2n late

/-- What a frame's check against a finished profile finds: kinds, gap, whether an epoch change was met, and the record
after it. -/
def checkFrame (m : Module) (r t len epoch : Nat) : Nat × Nat × Bool × Nat :=
  let known := Wp.arrivalKnown.on r
  let same := Wp.epoch.get r == epoch
  let timed := known && !Wp.justLearned.on r
  let gap := if timed && same then gapOf t (wpLast r t) else 0
  let short := decide (len < Wp.lenMin.get r) || decide (Wp.lenMax.get r < len)
  let kinds := (if timed && same then gapKinds m r gap else 0) + 8 * b2n short
  let back := known && decide ((t : Int) < wpLast r t)
  let r := Wp.justLearned.set r 0
  (kinds, gap, known && !same, if bit kinds 1 || bit kinds 3 || back then r else setArrival r t epoch)

/-! ### Toll gates (Table 06-4, R177-R179) -/

namespace Gt
def cir : Fld := ⟨0, 32⟩
def pir : Fld := ⟨32, 32⟩
def cbs : Fld := ⟨64, 32⟩
def pbs : Fld := ⟨96, 32⟩
def tc : Fld := ⟨128, 32⟩
def tp : Fld := ⟨160, 32⟩
def last : Fld := ⟨192, 32⟩
def lastMs : Fld := ⟨224, 8⟩
def valid : Fld := ⟨232, 1⟩
def mode : Fld := ⟨233, 1⟩
def colourAware : Fld := ⟨234, 1⟩
end Gt

/-- Refill the buckets at TB2 full time `t`. -/
def refillGate (g t : Nat) : Nat :=
  let e := ((t : Int) - extend8 t (Gt.last.get g) (Gt.lastMs.get g)).toNat
  let topC := Gt.cbs.get g * 256
  let topP := Gt.pbs.get g * 256
  let g := if 1000000000 ≤ e then setAll g [(Gt.tc, topC), (Gt.tp, topP)]
    else if Gt.mode.on g then Gt.tc.set g (min topC (Gt.tc.get g + e * Gt.cir.get g * 256 / 10 ^ 12))
    else setAll g [(Gt.tc, min topC (Gt.tc.get g + e * Gt.cir.get g * 256 / 10 ^ 9)),
      (Gt.tp, min topP (Gt.tp.get g + e * Gt.pir.get g * 256 / 10 ^ 9))]
  setAll g [(Gt.last, t), (Gt.lastMs, t / 2 ^ 32)]

/-- Colour of a frame (0 green, 1 yellow, 2 red) and the gate after it. -/
def colourOf (g0 t len : Nat) (yellowIn : Bool) : Nat × Nat :=
  let g := refillGate g0 t
  let tc := Gt.tc.get g
  let tp := Gt.tp.get g
  if Gt.mode.on g then if tc < 256 then (2, g) else (0, Gt.tc.set g (tc - 256))
  else
    let b := 256 * (len + 4)
    if tp < b then (2, g)
    else if tc < b || yellowIn then (1, Gt.tp.set g (tp - b))
    else (0, setAll g [(Gt.tp, tp - b), (Gt.tc, tc - b)])

/-- The frame passes the toll gate of its record; answers its colour. -/
def passGate (v : View) (f : Frame) (r : Nat) (w : W) : W × Nat :=
  let i := Wp.gate.get r
  let w := touch v [entryKey 0x0B i] w
  let g := w.m.tab.get 0x0B i
  if !Gt.valid.on g || w.m.tab.isPoisoned 0x0B i then (w.count C.gate_invalid, 0)
  else
    let yellowIn := Gt.colourAware.on g && f.tagged && bit f.tci 12
    let (c, g) := colourOf g (extend32 v.time.tb2 f.tb2) (ldmItem f 0) yellowIn
    let w := w.tab fun x => x.put 0x0B i g
    (w.count (if c == 0 then C.gate_green else if c == 1 then C.gate_yellow else C.gate_red) f.port, c)

/-! ### Actions (R172-R176) -/

/-- The strongest action of a set of kinds. -/
def strongest (r kinds : Nat) : Nat := ((bitsOf 5 kinds).map (fun k => (Wp.act k).get r)).foldl max 0

/-- Reason 6 when RATE alone brings the strongest action. -/
def laybyReason (r kinds a : Nat) : Nat :=
  if (bitsOf 5 kinds).filter (fun k => (Wp.act k).get r == a) == [4] then 6 else 5

/-! ### Secured flows (Table 15-5) -/

namespace Sf
def valid : Fld := ⟨0, 1⟩
def sign : Fld := ⟨1, 1⟩
def macLen : Fld := ⟨2, 2⟩
def failAction : Fld := ⟨4, 2⟩
def strip : Fld := ⟨6, 1⟩
def setFreshness : Fld := ⟨7, 1⟩
def window : Fld := ⟨8, 8⟩
def keySlot : Fld := ⟨16, 16⟩
def dataId : Fld := ⟨32, 16⟩
def counterId : Fld := ⟨64, 29⟩
def counterIde : Fld := ⟨93, 1⟩
def counterEn : Fld := ⟨94, 1⟩
def freshness : Fld := ⟨96, 64⟩
def lastAccept : Fld := ⟨160, 32⟩
def lastMs : Fld := ⟨192, 16⟩
def fails : Fld := ⟨208, 16⟩
end Sf

def flowGet (m : Module) (i : Nat) : Nat := m.tab.get 0x0D i
def flowPut (i e : Nat) (w : W) : W := w.tab (fun x => x.put 0x0D i e)
def flowValid (m : Module) (i : Nat) : Bool := Sf.valid.on (flowGet m i) && !m.tab.isPoisoned 0x0D i

/-- The bits of zsp_port_mode of an ingress port: 0 verify, 1 sign. Only CAN ports have them; zsp_enable 0 clears
both everywhere (Table 15-9). -/
def zspPort (m : Module) (port b : Nat) : Bool :=
  prmB m P.security_zsp_enable && (!isCanPort port || bit (prm m P.security_zsp_port_mode 0 (port - 14)) b)

/-- R450: the secured bit of the frame means nothing in FOOTPATH and SAFE, on a port that does not verify, and for a SIGN
flow on one that does not sign (Table 15-9). -/
def zspIgnored (m : Module) (j : Job) : Bool :=
  let i := Sp.securedFlow.get j.sp
  footService m || !zspPort m j.frame.port (b2n (flowValid m i && Sf.sign.on (flowGet m i)))

/-- Such a frame goes on unchanged; one of a known flow that is not verified counts in zsp_opaque. -/
def zspClear (j : Job) (w : W) : W :=
  let i := Sp.securedFlow.get j.sp
  let w := if flowValid w.m i && (footService w.m || !zspPort w.m j.frame.port 0) then w.count C.zsp_opaque i else w
  w.flow fun x => { x with enq := x.enq ++ [j] }

/-- A secured frame waits for the engine; one that finds its queue full is discarded (R448). -/
def enterZsp (v : View) (j : Job) (w : W) : W :=
  let w := touch v [entryKey 0x0D (Sp.securedFlow.get j.sp)] w
  if zspIgnored w.m j then zspClear j w
  else if prm w.m P.security_zsp_queue_limit ≤ w.m.flow.zsp.length then
    ((discardFrame j.frame w).count C.zsp_queue_drop j.frame.port).limited v 0x0F07 1 j.frame.port 1000000000
      (fun n => u8 j.frame.port ++ zeros 3 ++ u32 n)
  else w.flow fun x => { x with zsp := x.zsp ++ [j] }

/-- A frame its record has let through goes where its signpost says (R124, R448). -/
def routeJob (v : View) (j : Job) (kinds waypoint : Nat) (w : W) : W :=
  match j.layby with
  | some r => holdJob v j r kinds waypoint w
  | none =>
    if Sp.action.get j.sp == 1 then discardFrame j.frame w
    else if Sp.secured.on j.sp then enterZsp v j w
    else w.flow fun x => { x with enq := x.enq ++ [j] }

/-- What becomes of a frame with violations. -/
inductive Verdict where
  | pass (mark : Bool)
  | drop (limit : Bool)
  | hold (escalate : Bool)
  deriving DecidableEq, Repr

/-- Table 06-3 and R173: the strongest action `a` under the signpost action `spAct` for a frame at TB0 time `t`. -/
def verdict (r t a spAct : Nat) : Verdict :=
  let wait := decide (wpWatch ≤ Wp.state.get r) && Wp.forwardKnown.on r
    && decide ((t : Int) < extend8 t (Wp.lastForward.get r) (Wp.forwardMs.get r) + (Wp.minGap.get r : Nat))
  if a == 5 then .hold true
  else if a == 4 then .drop false
  else if a == 3 && spAct != 2 then .hold false
  else if a == 2 && spAct == 0 && (Wp.minGap.get r == 0 || wait) then .drop true
  else .pass (a == 1 && spAct == 0)

/-- The counter of an action that took effect. -/
def actionCounter : Verdict → Option CRef
  | .pass true => some C.flow_mark
  | .pass false => none
  | .drop true => some C.flow_limit_drop
  | .drop false => some C.flow_drop
  | .hold true => some C.flow_escalate
  | .hold false => some C.flow_layby

def kindCounter : Nat → CRef
  | 0 => C.flow_wrong_port | 1 => C.flow_gap | 2 => C.flow_late | 3 => C.flow_length | _ => C.flow_rate

/-- A frame that goes on: last_forward moves under a FORWARD signpost (R173). -/
def letThrough (v : View) (j : Job) (i t kinds : Nat) (w : W) : W :=
  let r := wpGet w.m i
  let w := if Sp.action.get j.sp == 0 && wpWatch ≤ Wp.state.get r then
      wpPut i (setAll r [(Wp.lastForward, t), (Wp.forwardMs, t / 2 ^ 32), (Wp.forwardKnown, 1)]) w
    else w
  routeJob v j kinds i w

/-- Event 0x0603 of ESCALATE. -/
def escalateEvent (v : View) (j : Job) (i kinds id : Nat) (w : W) : W :=
  let w := useTwin v P.flows_escalate_severity 0 0 w
  w.event v 0x0603 (prm w.m P.flows_escalate_severity) (u16 i ++ u8 j.frame.port ++ u8 kinds ++ u32 id)

/-- The record becomes quarantined and the frame is held (R176). -/
def escalate (v : View) (j : Job) (i kinds : Nat) (w : W) : W :=
  let id := w.m.flow.laybyNext
  escalateEvent v j i kinds id (holdJob v j 7 kinds i (wpPut i (Wp.quarantined.set (wpGet w.m i) 1) w))

/-- Violations: counters, kinds_seen, the action, and event 0x0602. Under monitor the action only counts, and the events
are recorded as without it; no frame is held, so they name layby_id 0 (R174). -/
def violate (v : View) (j : Job) (i t kinds gap : Nat) (w : W) : W :=
  let p := j.frame.port
  let r := wpGet w.m i
  let w := (w.count C.wp_violations i).each (bitsOf 5 kinds) fun k w => w.count (kindCounter k) p
  let w := if wpWatch ≤ Wp.state.get r then wpPut i (Wp.kindsSeen.set r (Wp.kindsSeen.get r ||| kinds)) w else w
  let a := strongest r kinds
  let vd := verdict r t a (Sp.action.get j.sp)
  let w := match actionCounter vd with
    | some c => w.count c p
    | none => w
  let id := w.m.flow.laybyNext
  let before := w.m.flow.laybyNext
  let w := if bit (prm w.m P.flows_port_flow_mode 0 p) 2 then
      letThrough v j i t kinds (if vd == .hold true then escalateEvent v j i kinds 0 w else w)
    else match vd with
      | .pass mark =>
        let j := if mark then { j with markTc := some (Wp.markTc.get r), dei := j.dei || prmB w.m P.flows_mark_dei } else j
        letThrough v j i t kinds w
      | .drop _ => discardFrame j.frame w
      | .hold true => escalate v j i kinds w
      | .hold false => holdJob v j (laybyReason r kinds a) kinds i w
  let id := if w.m.flow.laybyNext == before then 0 else id
  w.limited v 0x0602 1 p (prmNs w.m P.flows_violation_event_interval) fun n =>
    u16 i ++ u8 p ++ u8 kinds ++ u8 a ++ zeros 3 ++ u32 gap ++ u32 id ++ u32 n

/-! ### Evaluation (R165) -/

/-- The first frame at or after the close of the window ends learning (R168). -/
def closeWindow (v : View) (i t : Nat) (w : W) : W :=
  let r := wpGet w.m i
  if Wp.state.get r == wpLearn && windowClosed w.m r t then finishLearning v i w else w

/-- Learning or checking of a frame of the owner: kinds and gap. A frame stamped before learn_start lies outside the
window and is not learned (R167). -/
def profileStep (v : View) (i p t len epoch : Nat) (w : W) : W × Nat × Nat :=
  let r := wpGet w.m i
  if Wp.state.get r == wpLearn then
    if (t : Int) < learnStart r t then (w, 0, 0)
    else
    let r := learnFrame r p t len epoch
    let w := wpPut i r w
    (if prm w.m P.flows_learn_gaps ≤ Wp.learnGaps.get r then finishLearning v i w else w, 0, 0)
  else
    if Wp.state.get r < wpWatch then (w, 0, 0)
    else
      let (kinds, gap, skip, r) := checkFrame w.m r t len epoch
      let w := wpPut i r w
      (if skip then w.count C.flow_epoch_skip else w, kinds, gap)

/-- The one closure of an evaluation: the record, and the toll gate it passes (R164). -/
def evaluationClosure (i r : Nat) : Closure :=
  let gate := if Wp.gateEn.on r then [entryKey 0x0B (Wp.gate.get r)] else []
  { resource := 2, addrs := entryKey 0x0C i :: gate, accesses := 1 + gate.length, start := 0 }

/-- Evaluate record `i` for a job. -/
def evaluateRecord (v : View) (i : Nat) (j : Job) (w : W) : W :=
  let f := j.frame
  let p := f.port
  let len := ldmItem f 0
  let t := extend32 v.time.tb0 f.tb0
  let w := readEntries v [entryKey 0x0C i] ((w.count C.wp_frames i).count C.wp_bytes i len)
  let w := openClosures v 4 [evaluationClosure i (wpGet w.m i)] w
  let r := wpGet w.m i
  if !Wp.valid.on r || w.m.tab.isPoisoned 0x0C i || Sp.action.get j.sp == 1 || Sp.truncated.on j.sp then
    routeJob v j 0 i w
  else if Wp.quarantined.on r then holdJob v j 7 0 i w
  else
    let mode := prm w.m P.flows_port_flow_mode 0 p
    let w := if bit mode 0 then closeWindow v i t w else w
    let foreign := Wp.owner.get r != 63 && p != Wp.owner.get r
    let (w, k1, gap) :=
      if !bit mode 0 then (w, 0, 0)
      else if foreign then (w, b2n (Wp.state.get r != wpOff || Wp.ownerFixed.on r), 0)
      else profileStep v i p t len f.epoch w
    let (w, colour) := if Wp.gateEn.on r && bit mode 1 then passGate v f r w else (w, 0)
    let j := if colour == 1 && prmB w.m P.flows_yellow_dei then { j with dei := true } else j
    let kinds := k1 + 16 * b2n (colour == 2)
    if kinds = 0 then letThrough v j i t 0 w else violate v j i t kinds gap w

/-- A frame still arriving waits for its end before a waypoint, the layby or ZSP (notes/assumptions/89.md). -/
def jobWhole (j : Job) : Bool :=
  !(j.frame.unfinished && (Sp.waypointEn.on j.sp || j.layby.isSome || Sp.secured.on j.sp))

/-- The first frame that need not wait, behind none of its own port. -/
def nextClassified (l : List Job) : Option Job :=
  l.find? fun j => (l.find? (fun x => x.frame.port == j.frame.port)) == some j && jobWhole j

/-- WAYPOINT_EVALUATE: the next classified frame, in the order of R127; one without a waypoint goes on as it is. -/
def waypointEvaluateCore (v : View) (w : W) : W :=
  match nextClassified w.m.flow.classified, powered w.m with
  | none, _ => w
  | some _, false => w
  | some j, true =>
    let w := w.flow fun x => { x with classified := x.classified.erase j }
    if Sp.waypointEn.on j.sp then evaluateRecord v (Sp.waypoint.get j.sp) j w else routeJob v j 0 0xFFFF w

def execWaypointEvaluate (s : State) : Host.Outcome State Fault Refusal := run true waypointEvaluateCore s

/-- Valid records that are not poisoned, ascending. -/
def wpRecords (m : Module) : List Nat :=
  (m.tab.listed 0x0C).filter (fun i => Wp.valid.on (wpGet m i) && !m.tab.isPoisoned 0x0C i)

/-- PROFILE_SWEEP: every LEARN record whose window has closed ends its learning (R168). -/
def profileSweepCore (v : View) (w : W) : W :=
  w.each (wpRecords w.m) fun i w =>
    let r := wpGet w.m i
    if Wp.state.get r == wpLearn && windowClosed w.m r v.time.tb0.full then finishLearning v i w else w

def execProfileSweep (s : State) : Host.Outcome State Fault Refusal := run true profileSweepCore s

/-! ### The layby (R182-R184) -/

def findHeld (m : Module) (id : Nat) : Option Held := m.flow.layby.find? (fun h => h.id == id)

def removeHeld (id : Nat) (w : W) : W :=
  w.flow fun x => { x with layby := x.layby.filter (fun h => h.id != id) }

/-- LAYBY_EXPIRY: a frame held for flows.layby_max_hold is dropped. -/
def laybyExpiryCore (id : Nat) (v : View) (w : W) : W :=
  match findHeld w.m id with
  | none => w
  | some h =>
    if !v.expired (h.since + prmNs w.m P.flows_layby_max_hold) then w
    else (dropRef v h.frame.seq (removeHeld id w)).count C.layby_expired

def execLaybyExpiry (id : Nat) (s : State) : Host.Outcome State Fault Refusal := run true (laybyExpiryCore id) s

/-- The ports of a signpost's dest or destination list; the list is read now (R152). -/
def signpostMask (v : View) (sp : Nat) (w : W) : W × Nat :=
  let d := Sp.dest.get sp
  if Sp.destList.on sp then
    let w := readEntries v [entryKey 6 d] w
    (w, if w.m.tab.isPoisoned 6 d then 0 else w.m.tab.get 6 d)
  else (w, 2 ^ d)

/-- A released frame goes to its ports, by way of the ZSP engine where its signpost has secured set (R184, R448). -/
def releaseHeld (v : View) (h : Held) (mask : Nat) (w : W) : W :=
  let j : Job := { frame := h.frame, sp := h.sp, mask := some mask, markTc := some (Sp.tc.get h.sp), own := true }
  if Sp.secured.on h.sp then enterZsp v j w else w.flow fun x => { x with enq := x.enq ++ [j] }

/-- A disposition of R184; answers the entry's result. -/
def disposeHeld (v : View) (id disp mask : Nat) (w : W) : W × Nat :=
  match findHeld w.m id with
  | none => (w, 1)
  | some h =>
    if (disp == 1 || disp == 2) && h.frame.trunc then (w, 2)
    else
      let w := removeHeld id w
      if disp == 0 then ((dropRef v h.frame.seq w).count C.layby_disposed_drop, 0)
      else if disp == 3 then
        ((w.flow fun x => { x with enq := x.enq ++ [{ frame := h.frame, sp := h.sp, mirrorOnly := true, own := true }] }).count
          C.layby_to_host, 0)
      else
        let (w, mask) := if disp == 2 then (w, mask) else signpostMask v h.sp w
        ((releaseHeld v h mask w).count C.layby_released, 0)

/-- A layby descriptor (Table 06-6). -/
def heldBytes (m : Module) (now : Nat) (h : Held) : List Byte :=
  u32 h.id ++ u32 h.frame.tb0 ++ u16 h.ms ++ u8 h.frame.port ++ u8 h.reason ++ u16 (storedLen h.frame)
    ++ u8 (b2n h.frame.trunc + 2 * b2n h.flSent) ++ u8 h.kinds ++ u64 h.sp ++ u16 h.waypoint ++ u16 h.tiles
    ++ u32 ((h.since + prmNs m P.flows_layby_max_hold - now) / 1000)

/-! ### FLOW operations (R185, Table 06-7) -/

/-- The 64 bytes of a record as they read: its counters in place, the model's own bits left out. -/
def recordBytes (v : View) (w : W) (i : Nat) : List Byte :=
  let b := w.base v
  let c := fun (r : CRef) => b.cnt.getD (r.id i) 0
  entryBytes 64 (Wp.counters.set (wpGet w.m i) (c C.wp_frames + c C.wp_bytes * 2 ^ 64 + c C.wp_violations * 2 ^ 128))

/-- An operation over a range of records: first, count and 2 reserved bytes; invalid records are skipped. -/
def flowRange (n limit : Nat) (check : List Byte → Option Nat)
    (body : List Nat → List Byte → View → W → W × Ans) : Body :=
  need n fun _ p v w =>
    let first := leAt p 0 2
    let count := leAt p 2 2
    if count = 0 ∨ limit < count ∨ 8192 < first + count then refuse w St.outOfRange
    else match check p with
      | some st => refuse w st
      | none =>
        let all := (List.range count).map (· + first)
        let w := touch v (all.map (entryKey 0x0C)) w
        body (all.filter (fun i => Wp.valid.on (wpGet w.m i) && !w.m.tab.isPoisoned 0x0C i)) p v w

def noCheck (_ : List Byte) : Option Nat := none

/-- Records changed U16, 2 reserved. -/
def changed (n : Nat) : List Byte := u16 n ++ zeros 2

/-- Apply a change to each record that `pick` selects, and answer how many there were. -/
def changeRecords (l : List Nat) (pick : Nat → Bool) (f : Nat → W → W) (w : W) : W × Ans :=
  let l := l.filter (fun i => pick (wpGet w.m i))
  answer (w.each l f) (changed l.length)

def isFrozen (r : Nat) : Bool := Wp.state.get r == wpFrozen

/-- FLOW_READ has no force flag, so it passes over FROZEN records too (R185). -/
def flowReadBody : Body := flowRange 6 63 noCheck fun l _ v w =>
  let l := l.filter (fun i => !isFrozen (wpGet w.m i))
  answer w (changed l.length ++ l.flatMap (recordBytes v w))

def opFlowRead : OpInfo := { code := 0x0E01, role := 1 }
def execFlowRead (r : Request) (s : State) : Host.Outcome State Fault Refusal :=
  run true (request opFlowRead r flowReadBody) s

def flowLearnBody : Body :=
  flowRange 10 1024 (fun p => if 1 < leAt p 6 1 then some St.badParam else none) fun l p v w =>
    changeRecords l (fun r => leAt p 6 1 == 1 || !isFrozen r)
      (fun i w => wpPut i (startLearning (wpGet w.m i) v.time.tb0.full) w) w

def opFlowLearn : OpInfo := { code := 0x0E02, role := 2 }
def execFlowLearn (r : Request) (s : State) : Host.Outcome State Fault Refusal :=
  run true (request opFlowLearn r flowLearnBody) s

def flowWatchBody : Body := flowRange 6 1024 noCheck fun l _ v w =>
  changeRecords l (fun r => Wp.state.get r == wpLearn) (finishLearning v) w

def opFlowWatch : OpInfo := { code := 0x0E03, role := 2 }
def execFlowWatch (r : Request) (s : State) : Host.Outcome State Fault Refusal :=
  run true (request opFlowWatch r flowWatchBody) s

/-- FROZEN with a profile given: kind, period, min_gap, jitter, len_min, len_max. A record that was not in WATCH has no
last_forward and no kinds seen. -/
def freezeWith (r kind period minGap jitter lenMin lenMax : Nat) : Nat :=
  let r := if Wp.state.get r == wpWatch then r else setAll r [(Wp.tail, 0), (Wp.forwardKnown, 0)]
  setAll r [(Wp.justLearned, 0), (Wp.state, wpFrozen), (Wp.kind, kind), (Wp.period, period), (Wp.minGap, minGap), (Wp.jitter, jitter),
    (Wp.lenMin, lenMin), (Wp.lenMax, lenMax)]

def flowFreezeBody : Body :=
  flowRange 26 1024 (fun p => if 1 < leAt p 6 1 || (leAt p 6 1 == 1 && decide (3 < leAt p 7 1)) then some St.badParam
    else none) fun l p _ w =>
    let given := leAt p 6 1 == 1
    changeRecords l (fun r => !isFrozen r && (given || Wp.state.get r == wpWatch)) (fun i w =>
      let r := wpGet w.m i
      wpPut i (if given then freezeWith r (leAt p 7 1) (leAt p 10 4) (leAt p 14 4) (leAt p 18 4) (leAt p 22 2) (leAt p 24 2)
        else Wp.state.set r wpFrozen) w) w

def opFlowFreeze : OpInfo := { code := 0x0E04, role := 2 }
def execFlowFreeze (r : Request) (s : State) : Host.Outcome State Fault Refusal :=
  run true (request opFlowFreeze r flowFreezeBody) s

def flowQuarantineClearBody : Body := flowRange 6 1024 noCheck fun l _ _ w =>
  changeRecords l (fun r => !isFrozen r && Wp.quarantined.on r)
    (fun i w => wpPut i (Wp.quarantined.set (wpGet w.m i) 0) w) w

def opFlowQuarantineClear : OpInfo := { code := 0x0E05, role := 2, rev := 2 }
def execFlowQuarantineClear (r : Request) (s : State) : Host.Outcome State Fault Refusal :=
  run true (request opFlowQuarantineClear r flowQuarantineClearBody) s

def flowLaybyListBody : Body := need 8 fun _ p v w =>
  let first := leAt p 0 4
  let limit := leAt p 4 2
  if limit = 0 ∨ 126 < limit then refuse w St.outOfRange
  else
    let l := (w.m.flow.layby.filter (fun h => decide (first ≤ h.id))).take limit
    answer w (u16 l.length ++ u16 (laybyTiles w.m) ++ u16 w.m.flow.layby.length ++ zeros 2
      ++ l.flatMap (heldBytes w.m v.now))

def opFlowLaybyList : OpInfo := { code := 0x0E06, role := 1 }
def execFlowLaybyList (r : Request) (s : State) : Host.Outcome State Fault Refusal :=
  run true (request opFlowLaybyList r flowLaybyListBody) s

def flowLaybyReadBody : Body := need 8 fun _ p v w =>
  match findHeld w.m (leAt p 0 4) with
  | none => refuse w St.wrongState
  | some h =>
    let w := corrected h.frame none w
    match readFault w.m h.frame none with
    | some x => refuse (tileFail v 10 h.frame x w) St.integrity
    | none =>
    let bs := slice (storedBytes h.frame) (leAt p 4 2) (leAt p 6 2)
    answer w (u16 bs.length ++ zeros 2 ++ bs)

def opFlowLaybyRead : OpInfo := { code := 0x0E07, role := 1 }
def execFlowLaybyRead (r : Request) (s : State) : Host.Outcome State Fault Refusal :=
  run true (request opFlowLaybyRead r flowLaybyReadBody) s

/-- Entries in payload order, each with its result. -/
def disposeAll (v : View) : List (List Byte) → W → W × List Byte
  | [], w => (w, [])
  | e :: r, w =>
    let (w, x) := disposeHeld v (leAt e 0 4) (leAt e 4 1) (leAt e 8 8) w
    let (w, l) := disposeAll v r w
    (w, u8 x ++ l)

/-- Pad to a multiple of 4 bytes. -/
def pad4 (bs : List Byte) : List Byte := bs ++ zeros ((4 - bs.length % 4) % 4)

def flowLaybyDisposeBody : Body := need 4 fun _ p v w =>
  let n := leAt p 0 2
  if n = 0 ∨ 64 < n ∨ p.length ≠ 4 + 16 * n then refuse w St.badLength
  else
    let es := (List.range n).map (fun k => slice p (4 + 16 * k) 16)
    if es.any (fun e => decide (3 < leAt e 4 1)) then refuse w St.badParam
    else
      let (w, l) := disposeAll v es w
      answer w (u16 n ++ zeros 2 ++ pad4 l)

def opFlowLaybyDispose : OpInfo := { code := 0x0E08, role := 2 }
def execFlowLaybyDispose (r : Request) (s : State) : Host.Outcome State Fault Refusal :=
  run true (request opFlowLaybyDispose r flowLaybyDisposeBody) s

def flowKindsAckBody : Body := flowRange 10 1024 noCheck fun l p _ w =>
  let kinds := leAt p 6 1 % 32
  changeRecords l (fun r => decide (wpWatch ≤ Wp.state.get r) && Wp.kindsSeen.get r &&& kinds != 0) (fun i w =>
    let r := wpGet w.m i
    wpPut i (Wp.kindsSeen.set r (Wp.kindsSeen.get r - (Wp.kindsSeen.get r &&& kinds))) w) w

def opFlowKindsAck : OpInfo := { code := 0x0E09, role := 2, rev := 2 }
def execFlowKindsAck (r : Request) (s : State) : Host.Outcome State Fault Refusal :=
  run true (request opFlowKindsAck r flowKindsAckBody) s

end Sys2Proof.Machine
end

