-- ==== Sys2Proof/Machine/Zsp.lean ====
section
/-! DEFINITION. The ZSP engine: freshness, verification, signing and counter frames of secured flows (spec/15,
R444-R450, table 0x0D), and the entry of the module's own frames at an internal port. -/

namespace Sys2Proof.Machine

/-! ### Frames the module itself puts into an internal port (R81, R82) -/

/-- A frame that starts at port 12 or 13 now. -/
def internalFrame (v : View) (port fmt id : Nat) (data : List Byte) (w : W) : W × Frame :=
  let n := w.m.ing.seq + 1
  (w.ing fun x => { x with seq := n },
    { port := port, fmt := fmt, id := id, data := data, tb0 := v.time.tb0.n.toNat, tb2 := v.time.tb2.n.toNat
      sync := synced (tb0State w.m), epoch := w.m.tc.epoch, seq := 2 * n })

/-- A frame enters at an internal port. -/
def enterInternal (v : View) (port fmt id : Nat) (data : List Byte) (w : W) : W :=
  let (w, f) := internalFrame v port fmt id data w
  intoDcq v f w

/-- The internal port can take a frame of these many bytes now. -/
def internalFits (m : Module) (port len : Nat) : Bool :=
  internalRoom m { port := port, fmt := 0, data := zeros len }

/-! ### Security trailers (R444-R449) -/

/-- MAC bytes: 3, 4 or 8. -/
def macBytes (e : Nat) : Nat := if Sf.macLen.get e == 0 then 3 else if Sf.macLen.get e == 1 then 4 else 8

/-- R444: a classic or FD data frame long enough for its security trailer. -/
def securable (e : Nat) (f : Frame) : Bool := decide (f.fmt ≤ 3) && decide (1 + macBytes e ≤ f.data.length)

def zspPayload (e : Nat) (f : Frame) : List Byte := f.data.take (f.data.length - 1 - macBytes e)

/-- The leftmost bytes of the CMAC over data_id, payload and F (R444). -/
def zspMac (e : Nat) (key payload : List Byte) (f : Nat) : List Byte :=
  (cmacBytes key (beBytes 2 (Sf.dataId.get e) ++ payload ++ beBytes 8 f)).take (macBytes e)

/-- R445: the counter a freshness byte stands for. -/
def freshOf (F byte : Nat) : Nat :=
  let f := F - F % 256 + byte
  if f ≤ F then f + 256 else f

/-- Next valid FD data length (R449). -/
def fdLength (n : Nat) : Nat :=
  if n ≤ 8 then n else if n ≤ 12 then 12 else if n ≤ 16 then 16 else if n ≤ 20 then 20 else if n ≤ 24 then 24
  else if n ≤ 32 then 32 else if n ≤ 48 then 48 else 64

/-- The data without the security trailer; an FD frame is padded with 0xCC. -/
def stripped (e : Nat) (f : Frame) : List Byte :=
  let p := zspPayload e f
  if f.fmt == 2 || f.fmt == 3 then p ++ List.replicate (fdLength p.length - p.length) 0xCC else p

/-- One more frame in the count behind security.zsp_ops_per_s. -/
def zspOps (v : View) (w : W) : W :=
  let s := v.now / 1000000000
  w.keys fun k =>
    if k.opsAt == s then { k with opsNow := k.opsNow + 1 }
    else { k with opsAt := s, opsNow := 1, opsLast := if k.opsAt + 1 == s then k.opsNow else 0 }

/-- A frame was accepted or signed with freshness F: the entry and MRAM follow (R445, R447). -/
def zspAccept (v : View) (i F mram : Nat) (w : W) : W :=
  let t := v.time.tb0.full
  let w := flowPut i (setAll (flowGet w.m i) [(Sf.freshness, F), (Sf.lastAccept, t), (Sf.lastMs, t / 2 ^ 32),
    (Sf.fails, 0)]) w
  w.keys fun k => { k with mram := k.mram.put i mram }

/-- A failure is counted by cause and reported (R448). -/
def zspFailure (v : View) (i port cause : Nat) (w : W) : W :=
  let e := flowGet w.m i
  let n := min (Sf.fails.get e + 1) 0xFFFF
  let w := flowPut i (Sf.fails.set e n) w
  let w := w.count (if cause == 0 then C.zsp_mac_fail else if cause == 1 then C.zsp_fresh_reject
    else if cause == 2 then C.zsp_short else C.zsp_key_unusable) i
  let lim := prm w.m P.security_zsp_fail_escalate
  w.limited v 0x0F05 (if lim != 0 && decide (lim ≤ n) then 2 else 1) 0 (prmNs w.m P.security_zsp_fail_event_interval)
    (fun k => u16 i ++ u8 port ++ u8 cause ++ u32 k)

/-- fail_action (R448). -/
def zspFail (v : View) (j : Job) (i cause : Nat) (w : W) : W :=
  let act := Sf.failAction.get (flowGet w.m i)
  let w := zspFailure v i j.frame.port cause w
  if act == 1 then
    (leaveLane j.frame.seq w).flow fun x => { x with
      enq := x.enq ++ [{ j with fl := none, mask := some (2 ^ 11), own := true }] }
  else if act == 2 then w.flow fun x => { x with enq := x.enq ++ [{ j with noJunction := true }] }
  else discardFrame j.frame w

def zspPass (j : Job) (data : List Byte) (w : W) : W :=
  w.flow fun x => { x with enq := x.enq ++ [{ j with frame := { j.frame with data := data } }] }

/-- Verify a secured frame (R444, R445). -/
def zspVerify (v : View) (i : Nat) (j : Job) (w : W) : W :=
  let e := flowGet w.m i
  let f := j.frame
  if !securable e f then zspFail v j i 2 w
  else
    let p := zspPayload e f
    let F := Sf.freshness.get e
    let fresh := freshOf F (leAt f.data p.length 1)
    if Sf.window.get e < fresh - F then zspFail v j i 1 w
    else match useKey v (Sf.keySlot.get e) 0 Attr.decrypt w with
      | (w, none) => zspFail v j i 3 w
      | (w, some key) =>
        if zspMac e key p fresh != f.data.drop (p.length + 1) then zspFail v j i 0 w
        else
          let w := (zspAccept v i fresh fresh w).count C.zsp_verify_ok i
          zspPass j (if Sf.strip.on e then stripped e f else f.data) w

/-- The persisted mark that covers F: the next step of 65,536 where F has passed it (R447). -/
def zspMark (mark F : Nat) : Nat := if mark < F then mark + 65536 else mark

/-- Sign a frame of a SIGN flow (R447). -/
def zspSign (v : View) (i : Nat) (j : Job) (w : W) : W :=
  let e := flowGet w.m i
  let f := j.frame
  if !securable e f then zspFail v j i 2 w
  else match useKey v (Sf.keySlot.get e) 0 Attr.encrypt w with
    | (w, none) => zspFail v j i 3 w
    | (w, some key) =>
      let p := zspPayload e f
      let F := (Sf.freshness.get e + 1) % 2 ^ 64
      let mark := zspMark (w.m.keys.mram.getD i (Sf.freshness.get e)) F
      let w := (zspAccept v i F mark w).count C.zsp_signed i
      zspPass j (p ++ u8 F ++ zspMac e key p F) w

/-- The engine takes its next frame when that frame's flow has the given mode; a frame of no valid flow is discarded
by both. One whose port or state makes its secured bit void meanwhile goes on unchanged (R450). -/
def zspNext (sign : Bool) (work : Nat → Job → W → W) (v : View) (w : W) : W :=
  match w.m.flow.zsp with
  | [] => w
  | j :: rest =>
    let i := Sp.securedFlow.get j.sp
    let w := touch v [entryKey 0x0D i] w
    let known := flowValid w.m i
    if known && Sf.sign.on (flowGet w.m i) != sign then w
    else
      let w := w.flow fun x => { x with zsp := rest }
      if zspIgnored w.m j then zspClear j w
      else
      let w := corrected j.frame none (zspOps v w)
      match readFault w.m j.frame none with
      | some x => discardFrame j.frame (tileFail v 10 j.frame x w)
      | none => if known then work i j w else discardFrame j.frame w

def zspVerifyCore (v : View) (w : W) : W := zspNext false (zspVerify v) v w
def execZspVerify (s : State) : Host.Outcome State Fault Refusal := run true zspVerifyCore s

def zspSignCore (v : View) (w : W) : W := zspNext true (zspSign v) v w
def execZspSign (s : State) : Host.Outcome State Fault Refusal := run true zspSignCore s

/-! ### Counter frames (R446) -/

def counterMac (e : Nat) (key : List Byte) (F : Nat) : List Byte :=
  (cmacBytes key (beBytes 2 (Sf.dataId.get e) ++ [0xFF] ++ beBytes 8 F)).take 4

def countsOn (e : Nat) : Bool := Sf.counterEn.on e && Sf.counterId.get e != 0

/-- VERIFY flows that this frame is a counter frame of. -/
def counterFlows (m : Module) (fmt id : Nat) : List Nat :=
  (m.tab.listed 0x0D).filter fun i =>
    let e := flowGet m i
    flowValid m i && !Sf.sign.on e && countsOn e && Sf.counterId.get e == id && fmt == 2 + b2n (Sf.counterIde.on e)

/-- ZSP_COUNTER_FRAME: a received frame with the identifier of a counter frame, on a port that verifies (R450, R503). -/
def zspCounterFrameCore (ch : Nat) (f : CanRx) (v : View) (w : W) : W :=
  if !fullService w.m || !zspPort w.m (canPort ch) 0 || f.data.length != 12 then w
  else w.each (counterFlows w.m f.fmt f.id) fun i w =>
    let e := flowGet w.m i
    let F := beAt f.data 0 8
    if F ≤ Sf.freshness.get e then w
    else match useKey v (Sf.keySlot.get e) 0 Attr.decrypt w with
      | (w, none) => w
      | (w, some key) =>
        if counterMac e key F != f.data.drop 8 then w
        else
          let w := flowPut i (Sf.freshness.set e F) w
          (w.keys fun k => { k with mram := k.mram.put i F }).count C.zsp_counter_rx i

def execZspCounterFrame (ch : Nat) (f : CanRx) (s : State) : Host.Outcome State Fault Refusal :=
  run (decide (ch < 22 ∧ f.fmt < 4 ∧ f.id < 2 ^ 29)) (zspCounterFrameCore ch f) s

/-- ZSP_COUNTER_SEND: a SIGN flow sends its counter frame, which enters classification at I2. -/
def zspCounterSendCore (i : Nat) (v : View) (w : W) : W :=
  let e := flowGet w.m i
  if !fullService w.m || !flowValid w.m i || !Sf.sign.on e || !countsOn e || !internalFits w.m 13 12 then w
  else match useKey v (Sf.keySlot.get e) 0 Attr.encrypt w with
    | (w, none) => w
    | (w, some key) =>
      let F := Sf.freshness.get e
      enterInternal v 13 (2 + b2n (Sf.counterIde.on e)) (Sf.counterId.get e) (beBytes 8 F ++ counterMac e key F) w

def execZspCounterSend (flow : Nat) (s : State) : Host.Outcome State Fault Refusal :=
  run (decide (flow < 2048)) (zspCounterSendCore flow) s

end Sys2Proof.Machine
end

