-- ==== Sys2Proof/Machine/Channels.lean ====
section
/-! DEFINITION. Protected switch channels: commands, heartbeat, inrush, protection, retries, supply inhibit and the
CHANNEL operations (spec/14). Currents and junction temperatures come with the commands that report them. -/

namespace Sys2Proof.Machine

def chanAt (m : Module) (k : Nat) : Chan := atD m.sw.chans k {}
def dieAt (m : Module) (d : Nat) : Die := atD m.sw.dies d {}
def W.chan (w : W) (k : Nat) (f : Chan → Chan) : W := w.sw fun x => { x with chans := upd x.chans k f }
def W.die (w : W) (d : Nat) (f : Die → Die) : W := w.sw fun x => { x with dies := upd x.dies d f }
def dieChans (d : Nat) : List Nat := (List.range 4).map (· + 4 * d)

/-- A switch parameter as it is in force: a change takes effect at the next heartbeat (R428). -/
def chanPrm (m : Module) (r : PRef) (k : Nat) : Nat :=
  match (chanAt m k).cfg[r.idx]? with
  | some x => x
  | none => prm m r k

def chanPrmNs (m : Module) (r : PRef) (k : Nat) : Nat := chanPrm m r k * 1000

/-- A heartbeat carries the channel's parameters to the die. -/
def takeParams (k : Nat) (w : W) : W :=
  let l := (params0F.take 14).map (fun r => prm w.m r k)
  w.chan k fun c => { c with cfg := l }

/-! ### Command words (Table 14-2) -/

def cmdMode (c : Nat) : Nat := fld c 0 2
def cmdDuty (c : Nat) : Nat := fld c 2 10
def cmdFreq (c : Nat) : Nat := fld c 12 10
def complement32 (c : Nat) : Nat := 2 ^ 32 - 1 - c

/-- R409: the status a command word is refused with. -/
def cmdCheck (c : Nat) : Option Nat :=
  if cmdMode c == 3 then some St.badParam
  else if 1000 < cmdDuty c || (cmdFreq c != 0 && (decide (cmdFreq c < 100) || decide (1000 < cmdFreq c))) then
    some St.outOfRange
  else none

/-- A command is accepted for a channel: it takes effect at the next heartbeat. -/
def acceptCmd (k c : Nat) (signal : Bool) (w : W) : W :=
  w.chan k fun x => { x with cmd := c, comp := complement32 c, signal := signal, fresh := true, cleared := false }

/-! ### Outputs and inrush windows (R411, R415) -/

/-- The output conducts, at least in on-phases. -/
def Chan.on (c : Chan) : Bool := c.out == 1 || (c.out == 2 && c.duty != 0)

/-- The channel is in its inrush window. -/
def inWindow (v : View) (c : Chan) : Bool := c.inrushEnd.any (fun t => decide (v.now < t))

/-- Set the output: switching on from off starts an inrush window, switching off ends it. -/
def setOut (v : View) (k mode duty freq : Nat) (w : W) : W :=
  let was := (chanAt w.m k).on
  let w := w.chan k fun c => { c with out := mode, duty := duty, freq := freq }
  let is := (chanAt w.m k).on
  if is && !was then
    let until_ := v.now + chanPrmNs w.m P.switch_inrush_time k
    (w.chan k fun c => { c with inrushEnd := some until_, onSince := v.now }).count C.ch_switch_on k
  else if was && !is then w.chan k fun c => { c with inrushEnd := none }
  else w

def outOff (v : View) (k : Nat) (w : W) : W := setOut v k 0 0 0 w

/-- Duty and frequency of a command word in force. -/
def takeWord (v : View) (k : Nat) (w : W) : W :=
  let c := (chanAt w.m k).word
  let freq := if cmdFreq c == 0 then chanPrm w.m P.switch_pwm_frequency k else cmdFreq c
  if cmdMode c == 1 then setOut v k 1 0 0 w
  else if cmdMode c == 2 then setOut v k 2 (cmdDuty c) freq w
  else outOff v k w

/-- Channels may be on in this state of the module (Table 14-4). -/
def chansLive (m : Module) : Bool :=
  match m.mod.state with
  | .run | .unmanaged | .sleepPrep | .safe => true
  | _ => false

/-- Nothing but its command keeps the channel off. -/
def chanFree (m : Module) (k : Nat) : Bool :=
  let c := chanAt m k
  chansLive m && !c.latched && !c.cleared && c.retryAt.isNone && !(dieAt m (k / 4)).inhibited

/-- The command in force is carried out where nothing holds the channel off. -/
def takeIfFree (v : View) (k : Nat) (w : W) : W :=
  if chanFree w.m k && cmdMode (chanAt w.m k).word != 0 then takeWord v k w else w

/-- The channel latches off with a cause; it then needs CHANNEL_CLEAR and a new command (R419). -/
def latchChan (v : View) (k cause : Nat) (w : W) : W :=
  (outOff v k w).chan k fun c => { c with latched := true, cleared := true, retryAt := none, cause := cause }

/-- R537 for a twin parameter of block 0x0F: the channel switches off and latches. -/
def chanTwins (v : View) (k : Nat) (w : W) : W :=
  w.each (params0F.filter (fun r => r.twin && !w.m.ident.variantG)) fun r w =>
    if twinBad w.m r k 0 && !w.m.mod.twinFailed.contains (r.id k 0) then
      let w := (latchChan v k 7 w).count C.ch_twin_fail k
      twinFailure v r k 0 (w.event v 0x0E06 2 (u8 k ++ u8 2 ++ zeros 2))
    else w

/-! ### Heartbeat (R410, R412, R421) -/

/-- Heartbeat frames go out to this die. -/
def hbRuns (m : Module) (d now : Nat) : Bool :=
  m.sw.running && !m.ident.variantG && decide ((dieAt m d).withheld ≤ now)

/-- The command that waits for the heartbeat switches the channel on: it was accepted since entry into RUN, and nothing holds
the channel off (R421). -/
def switchesOn (m : Module) (k : Nat) : Bool :=
  let c := chanAt m k
  c.fresh && (cmdMode c.cmd == 1 || (cmdMode c.cmd == 2 && cmdDuty c.cmd != 0)) && chanFree m k

/-- The frame the sequencer sends: its number, and command word and complement of the four channels, with a CRC. -/
def hbBytes (m : Module) (d : Nat) : List Byte :=
  let b := u32 (dieAt m d).seq ++ (dieChans d).flatMap fun k => u32 (chanAt m k).cmd ++ u32 (chanAt m k).comp
  b ++ u32 (crc32c b)

/-- The die takes the command of one channel from a valid frame; a running PWM changes at its next period start (R411). -/
def dieTakes (v : View) (k : Nat) (w : W) : W :=
  let c := chanAt w.m k
  if cmdMode c.cmd == 0 then
    (outOff v k w).chan k fun x => { x with word := c.cmd, trips := 0, retryAt := none }
  else
    let later := cmdMode c.cmd == 2 && c.out == 2
    let w := w.chan k fun x => { x with word := c.cmd }
    if later then w else takeIfFree v k w

/-- A command pair that disagrees in the frame (R412). -/
def dieTwinFail (v : View) (k : Nat) (w : W) : W :=
  ((latchChan v k 7 w).count C.ch_twin_fail k).event v 0x0E06 2 (u8 k ++ u8 (b2n (chanAt w.m k).signal) ++ zeros 2)

/-- Operations that wait for a heartbeat list die d while its frame is to come, and d + 8 until it is acknowledged. -/
def markOps (f : List Nat → List Nat) (w : W) : W :=
  w.borul fun b => { b with ops := b.ops.map (fun o => match o.kind with
    | .heartbeat l => { o with kind := .heartbeat (f l) }
    | _ => o) }

/-- A frame that the die finds valid, but for the pairs of the channels `bad` (R410-R412, R421, R428). -/
def dieReceives (v : View) (d : Nat) (bad : List Nat) (w : W) : W :=
  let w := w.die d fun x => { x with last := v.now }
  let w := markOps (fun l => l.map (fun x => if x == d then d + 8 else x)) w
  let ks := dieChans d
  let w := w.each ks fun k w => takeParams k (chanTwins v k w)
  let wakes := ks.any fun k => switchesOn w.m k && !bad.contains k
  let w := if wakes then w.die d fun x => { x with lost := false } else w
  w.each ks fun k w =>
    if bad.contains k then dieTwinFail v k w
    else if (dieAt w.m d).lost then w
    else dieTakes v k w

/-- HEARTBEAT_FRAME to die `d`: one whose CRC fails there (none) is ignored; else `bad` lists the channels whose pair the die
finds to disagree. -/
def heartbeatFrameCore (d : Nat) (bad : Option (List Nat)) (v : View) (w : W) : W :=
  if !hbRuns w.m d v.now then w
  else
    let w := (w.send (.heartbeat d (hbBytes w.m d))).die d fun x => { x with seq := x.seq + 1 }
    match bad with
    | none => w
    | some l => dieReceives v d l w

def execHeartbeatFrame (die : Nat) (bad : Option (List Nat)) (s : State) : Host.Outcome State Fault Refusal :=
  run (decide (die < 5) && bad.all (fun l => l.all (fun k => k / 4 == die))) (heartbeatFrameCore die bad) s

/-- The waiting CHANNEL_SET is in force at every die concerned. -/
def allAcked : OpKind → Bool
  | .heartbeat l => l.isEmpty
  | _ => false

/-- HEARTBEAT_ACK of die `d`: CHANNEL_SET replies that waited for it (R426), and the engine's posted writes the frame
carried (R290). -/
def heartbeatAckCore (d : Nat) (v : View) (w : W) : W :=
  let last := (dieAt w.m d).last
  let w := markOps (fun l => l.filter (· != d + 8)) w
  let w := w.jn fun x => { x with
    posted := x.posted.filter (fun p => !(p.target == 1 && p.inst == d && decide (p.at_ ≤ last))) }
  finishWaiting v allAcked w

def execHeartbeatAck (die : Nat) (s : State) : Host.Outcome State Fault Refusal :=
  run (decide (die < 5)) (heartbeatAckCore die) s

/-- A die without heartbeat switches its channels off and waits for a new command (R421). -/
def dieLoss (v : View) (d : Nat) (w : W) : W :=
  let w := w.die d fun x => { x with lost := true }
  w.each (dieChans d) fun k w =>
    let was := (chanAt w.m k).on
    (outOff v k w).chan k fun c => { c with
      cmd := 0, comp := complement32 0, word := 0, fresh := false, retryAt := none, cause := if was then 5 else c.cause }

/-- HEARTBEAT_TIMEOUT: 20 ms without a valid frame. -/
def heartbeatTimeoutCore (d : Nat) (v : View) (w : W) : W :=
  let x := dieAt w.m d
  if w.m.ident.variantG || x.lost || !v.expired (x.last + 20000000) then w
  else ((dieLoss v d w).count C.ch_heartbeat_loss d).event v 0x0E04 3 (u8 (2 ^ d) ++ u8 1 ++ zeros 2)

def execHeartbeatTimeout (die : Nat) (s : State) : Host.Outcome State Fault Refusal :=
  run (decide (die < 5)) (heartbeatTimeoutCore die) s

/-- The heartbeat starts again in bring-up, every channel off (R421, R495). -/
def resumeHeartbeat (w : W) : W :=
  if w.m.ident.variantG then w
  else w.sw fun x => { x with running := true, dies := x.dies.map (fun d => { d with lost := true }) }

/-- The loss a reset has recorded is reported at RUN (R421). -/
def reportLoss (v : View) (w : W) : W :=
  match w.m.sw.loss with
  | none => w
  | some cause =>
    let w := w.sw fun x => { x with loss := none }
    if w.m.ident.variantG then w
    else (w.each (List.range 5) fun d w => w.count C.ch_heartbeat_loss d).event v 0x0E04 3
      (u8 0x1F ++ u8 cause ++ zeros 2)

/-- SAFE: channels with hold_in_safe keep their state, all others are off (R422). -/
def chansToSafe (v : View) (w : W) : W :=
  w.each (if w.m.ident.variantG then [] else List.range 20) fun k w =>
    let w := chanTwins v k w
    if chanPrm w.m P.switch_hold_in_safe k == 1 then w
    else (outOff v k w).chan k fun c => { c with cmd := 0, comp := complement32 0, word := 0, retryAt := none }

/-! ### Inrush and PWM (R411, R415) -/

def inrushWindowEndCore (k : Nat) (v : View) (w : W) : W :=
  match (chanAt w.m k).inrushEnd with
  | none => w
  | some t => if v.now < t then w else w.chan k fun c => { c with inrushEnd := none }

def isChan (k : Nat) : Bool := decide (k < 20)

def execInrushWindowEnd (ch : Nat) (s : State) : Host.Outcome State Fault Refusal :=
  run (isChan ch) (inrushWindowEndCore ch) s

/-- The period can start now: against a channel `j` of the die that runs at the same frequency it lies (k - j) quarters of a
period later, on an oscillator accurate to 2 % (R411). -/
def phaseOk (m : Module) (k now : Nat) : Bool :=
  let f := (chanAt m k).freq
  let period := 1000000000 / max 1 f
  ((dieChans (k / 4)).filter (· != k)).all fun j =>
    match (chanAt m j).out == 2 && (chanAt m j).freq == f, (chanAt m j).periodAt with
    | true, some t =>
      let late := now - t
      let due := (k + 4 - j) % 4 * period / 4
      decide (period * 51 < late * 50) || decide (50 * (late - due) ≤ period ∧ 50 * (due - late) ≤ period)
    | _, _ => true

/-- PWM_PERIOD_START: a running PWM channel takes a new duty and frequency. -/
def pwmPeriodStartCore (k : Nat) (v : View) (w : W) : W :=
  let c := chanAt w.m k
  if c.out == 2 && cmdMode c.word == 2 && phaseOk w.m k v.now then
    takeWord v k (w.chan k fun c => { c with periodAt := some v.now })
  else w

def execPwmPeriodStart (ch : Nat) (s : State) : Host.Outcome State Fault Refusal :=
  run (isChan ch) (pwmPeriodStartCore ch) s

/-! ### Trips, latching and retries (R416-R420, R427) -/

/-- A trip log entry (Table 14-6). -/
def tripEntry (v : View) (ch cause count : Nat) (latched inrush : Bool) (current : Nat) (temp : Int) : List Byte :=
  let t := v.time.tb0
  u8 ch ++ u8 cause ++ u8 (min count 255) ++ u8 (b2n latched + 2 * b2n inrush) ++ u32 t.n.toNat ++ u16 t.m.toNat
    ++ u16 (min current 0xFFFF) ++ u16 (twos 16 (satS 16 temp)) ++ zeros 2

def logTrip (e : List Byte) (w : W) : W := w.sw fun x => { x with log := (e :: x.log).take 32 }

/-- Another channel of the die tripped by cause 1 or 2 in the 50 ms before (R418). -/
def sympathetic (m : Module) (k now : Nat) : Bool :=
  (dieChans (k / 4)).any fun j => j != k && (match (chanAt m j).hardTrip with
    | some t => decide (now ≤ t + 50000000)
    | none => false)

def tripCounter (cause : Nat) : CRef :=
  if cause == 1 then C.ch_trip_fast else if cause == 2 then C.ch_trip_overload
  else if cause == 3 then C.ch_trip_thermal else C.ch_sympathetic

/-- A channel that is on trips with a last current sample (mA) and a junction temperature (0.1 °C). -/
def trip (v : View) (k cause0 current : Nat) (temp : Int) (w : W) : W :=
  let w := chanTwins v k w
  let c := chanAt w.m k
  if !c.on then w
  else
    let cause := if cause0 == 3 && sympathetic w.m k v.now then 4 else cause0
    let inrush := inWindow v c
    let count := if cause == 4 then c.trips else c.trips + 1
    let latched := cause != 4 && decide (chanPrm w.m P.switch_retry_count k < count)
    let retry := if latched then none else some (if cause == 4 then 0 else v.now + chanPrmNs w.m P.switch_retry_delay k)
    let w := (outOff v k w).chan k fun x => { x with
      trips := count, total := x.total + 1, cause := cause, retryAt := retry, latched := latched
      cleared := x.cleared || latched, hardTrip := if cause ≤ 2 then some v.now else x.hardTrip }
    let e := tripEntry v k cause count latched inrush current temp
    let w := ((logTrip e w).count (tripCounter cause) k).event v 0x0E01 1 e
    if latched then
      (w.count C.ch_latched k).event v 0x0E02 2 (u8 k ++ u8 cause ++ zeros 2 ++ u32 (chanAt w.m k).total)
    else w

/-- The current limit in force: inrush_limit in the inrush window, current_limit outside it (R415). -/
def limitInForce (v : View) (m : Module) (k : Nat) : Nat :=
  chanPrm m (if inWindow v (chanAt m k) then P.switch_inrush_limit else P.switch_current_limit) k

/-- The channel has been on for `us` µs after a lead of `lead` ns. -/
def onFor (v : View) (c : Chan) (us lead : Nat) : Bool := decide (c.onSince + us * 1000 + lead ≤ v.now)

/-- The output has been held at the limit in force for fast_trip_time without a break (R416). -/
def fastTripCore (k : Nat) (current : ChanSample) (temp : Int) (v : View) (w : W) : W :=
  if current.mA < limitInForce v w.m k || current.us < chanPrm w.m P.switch_fast_trip_time k
      || !onFor v (chanAt w.m k) current.us 0 then w
  else trip v k 1 current.mA temp w
def execFastTrip (ch : Nat) (current : ChanSample) (temp : Int) (s : State) : Host.Outcome State Fault Refusal :=
  run (isChan ch) (fastTripCore ch current temp) s

/-- The overload timer has reached overload_time: it runs while on-phase samples lie above overload_current, holds during
off-phases and restarts at a sample below (R416, R417). -/
def overloadTripCore (k : Nat) (current : ChanSample) (temp : Int) (v : View) (w : W) : W :=
  if current.mA ≤ chanPrm w.m P.switch_overload_current k || current.us < chanPrm w.m P.switch_overload_time k
      || !onFor v (chanAt w.m k) current.us 0 then w
  else trip v k 2 current.mA temp w
def execOverloadTrip (ch : Nat) (current : ChanSample) (temp : Int) (s : State) : Host.Outcome State Fault Refusal :=
  run (isChan ch) (overloadTripCore ch current temp) s

/-- The channel's own junction sensor is above 175 °C. -/
def thermalShutdownCore (k current : Nat) (temp : Int) (v : View) (w : W) : W :=
  if temp ≤ 1750 then w else trip v k 3 current temp w
def execThermalShutdown (ch current : Nat) (temp : Int) (s : State) : Host.Outcome State Fault Refusal :=
  run (isChan ch) (thermalShutdownCore ch current temp) s

/-- The retry of a channel that may switch on again; an inhibited die retries at its release. -/
def retryChan (v : View) (k : Nat) (w : W) : W :=
  if (dieAt w.m (k / 4)).inhibited || (dieAt w.m (k / 4)).lost then w
  else takeIfFree v k (w.chan k fun c => { c with retryAt := none })

/-- SYMPATHETIC_RETRY: the junction is below 150 °C again (R418). -/
def sympatheticRetryCore (k : Nat) (v : View) (w : W) : W :=
  let c := chanAt w.m k
  if c.retryAt.isSome && c.cause == 4 then retryChan v k w else w

def execSympatheticRetry (ch : Nat) (s : State) : Host.Outcome State Fault Refusal :=
  run (isChan ch) (sympatheticRetryCore ch) s

/-- CHANNEL_RETRY: retry_delay has passed and the junction is below 150 °C (R419). -/
def channelRetryCore (k : Nat) (v : View) (w : W) : W :=
  let c := chanAt w.m k
  match c.retryAt with
  | none => w
  | some t => if c.cause == 4 || v.now < t then w else retryChan v k w

def execChannelRetry (ch : Nat) (s : State) : Host.Outcome State Fault Refusal :=
  run (isChan ch) (channelRetryCore ch) s

/-- TRIP_COUNT_RESET: on for 1 s without a trip (R419). -/
def tripCountResetCore (k : Nat) (v : View) (w : W) : W :=
  let c := chanAt w.m k
  if c.on && decide (c.onSince + 1000000000 ≤ v.now) then w.chan k fun c => { c with trips := 0 } else w

def execTripCountReset (ch : Nat) (s : State) : Host.Outcome State Fault Refusal :=
  run (isChan ch) (tripCountResetCore ch) s

/-- OPEN_LOAD: the samples below the threshold add up to open_load_time, without the first 200 µs of each on-phase and the
inrush window; the flag and its event, and the output stays on (R416, R417). -/
def openLoadCore (k : Nat) (current : ChanSample) (v : View) (w : W) : W :=
  let c := chanAt w.m k
  let lead := max 200000 (chanPrmNs w.m P.switch_inrush_time k)
  if !c.on || c.openLoad || inWindow v c || chanPrm w.m P.switch_open_load_threshold k ≤ current.mA
      || current.us < chanPrm w.m P.switch_open_load_time k || !onFor v c current.us lead then w
  else ((w.chan k fun c => { c with openLoad := true }).count C.ch_open_load k).event v 0x0E03 1
    (u8 k ++ u8 1 ++ zeros 2 ++ u32 current.mA)

def execOpenLoad (ch : Nat) (current : ChanSample) (s : State) : Host.Outcome State Fault Refusal :=
  run (isChan ch) (openLoadCore ch current) s

/-- OPEN_LOAD_CLEAR: the first on-phase sample above the threshold (R417). -/
def openLoadClearCore (k current : Nat) (v : View) (w : W) : W :=
  let c := chanAt w.m k
  if !c.on || !c.openLoad || current ≤ chanPrm w.m P.switch_open_load_threshold k then w
  else (w.chan k fun c => { c with openLoad := false }).event v 0x0E03 0 (u8 k ++ u8 0 ++ zeros 2 ++ u32 current)

def execOpenLoadClear (ch current : Nat) (s : State) : Host.Outcome State Fault Refusal :=
  run (isChan ch) (openLoadClearCore ch current) s

/-! ### Supply inhibit (R423) -/

/-- The supply monitor has entered the undervoltage (0) or overvoltage (1) range. -/
def beginInhibit (v : View) (cause : Nat) (w : W) : W :=
  if w.m.ident.variantG || w.m.sw.inhibit.isSome then w
  else
    let w := w.sw fun x => { x with inhibit := some cause, dies := x.dies.map (fun d => { d with inhibited := true }) }
    let w := w.each (List.range 20) fun k w =>
      let was := (chanAt w.m k).on
      (outOff v k w).chan k fun c => { c with cause := if was then 6 else c.cause }
    let w := logTrip (tripEntry v 255 6 0 false false 0 0) (w.count C.ch_supply_inhibit)
    w.event v 0x0E05 1 (u8 cause ++ u8 1 ++ zeros 2 ++ u32 w.m.supply.vbat)

/-- Full function again: die n follows 2 ms × n later. -/
def endInhibit (v : View) (w : W) : W :=
  match w.m.sw.inhibit with
  | none => w
  | some cause =>
    (w.sw fun x => { x with inhibit := none, inhibitEnd := v.now }).event v 0x0E05 1
      (u8 cause ++ u8 0 ++ zeros 2 ++ u32 w.m.supply.vbat)

def supplyInhibitReleaseCore (d : Nat) (v : View) (w : W) : W :=
  if w.m.sw.inhibit.isSome || !(dieAt w.m d).inhibited || v.now < w.m.sw.inhibitEnd + 2000000 * d then w
  else
    let w := w.die d fun x => { x with inhibited := false }
    w.each (dieChans d) fun k w => if (dieAt w.m d).lost then w else takeIfFree v k w

def execSupplyInhibitRelease (die : Nat) (s : State) : Host.Outcome State Fault Refusal :=
  run (decide (die < 5)) (supplyInhibitReleaseCore die) s

/-! ### Signal commands (R413, R414, R420) -/

/-- A signal command of the junction engine: a value, or none for a not-available flag; `bad` says that its
complement disagrees at the sequencer. DESIGN CHOICE (notes/assumptions/116.md): it reaches the channel in SLEEP_PREP too, as
Table 14-4 has it. -/
def signalCommand (v : View) (k : Nat) (value : Option Nat) (bad : Bool) (w : W) : W :=
  if w.m.ident.variantG then w
  else if bad then (w.count C.ch_twin_fail k).event v 0x0E06 2 (u8 k ++ u8 1 ++ zeros 2)
  else if chanPrm w.m P.switch_control_source k == 0 then w.count C.ch_signal_ignored k
  else
    let y := value.getD (chanPrm w.m P.switch_signal_na_duty k)
    if value.isNone && y == 65535 then w
    else acceptCmd k (if y == 0 then 0 else if y == 1000 then 1 else 2 + 4 * min y 1000) true w

/-! ### CHANNEL operations (R425, R426) -/

/-- The status word of Table 14-7; whether a channel that is on is limiting is a free value. -/
def chanStatus (v : View) (k : Nat) (w : W) : W × Nat :=
  let c := chanAt w.m k
  let d := dieAt w.m (k / 4)
  let (w, lim) := if c.on then w.free v 2 else (w, 0)
  let inrush := c.on && inWindow v c
  let duty := if c.out == 1 then 1000 else if c.out == 2 then c.duty else 0
  (w, c.out + 4 * b2n inrush + 8 * b2n c.latched + 16 * b2n c.openLoad + 32 * lim + 64 * min c.trips 15
    + 1024 * c.cause + 2 ^ 13 * b2n d.inhibited + 2 ^ 14 * b2n d.lost + 2 ^ 15 * b2n c.signal + 2 ^ 16 * duty)

/-- Full scale of the channel's current sense in mA: 1,023 steps of Table 14-1, rounded. -/
def senseMax (k : Nat) : Nat := if k < 4 then 63938 else if k < 12 then 31969 else 10230

/-- The mean on-phase current: free for a channel that is on, 0 for one that is off (R417, R428). -/
def chanCurrent (v : View) (k : Nat) (w : W) : W × Nat :=
  if (chanAt w.m k).on then w.free v (senseMax k + 1) else (w, 0)

/-- What one channel reports in CHANNEL_STATUS. -/
def chanEntry (v : View) (k : Nat) (w : W) : W × List Byte :=
  let (w, st) := chanStatus v k w
  let (w, cur) := chanCurrent v k w
  let c := chanAt w.m k
  (w, u8 k ++ zeros 3 ++ u32 st ++ u32 cur ++ u32 c.cmd ++ u32 c.comp ++ u32 c.total)

def chanEntries (v : View) : List Nat → W → W × List Byte
  | [], w => (w, [])
  | k :: r, w =>
    let (w, e) := chanEntry v k w
    let (w, l) := chanEntries v r w
    (w, e ++ l)

/-- R407: the G variant has no channels. -/
def pOnly (body : Body) : Body := fun c p v w => if w.m.ident.variantG then refuse w St.wrongState else body c p v w

def hostCommands (m : Module) : Bool := match m.mod.state with | .run | .sleepPrep => true | _ => false

def channelStatusBody : Body := need 4 fun c p v w =>
  let first := leAt p 0 1
  let n := leAt p 1 1
  if n = 0 ∨ 20 < n ∨ 20 < first + n then refuse w St.outOfRange
  else pOnly (fun _ _ v w =>
    let (w, l) := chanEntries v ((List.range n).map (· + first)) w
    answer w (u8 n ++ zeros 3 ++ l)) c p v w

def opChannelStatus : OpInfo := { code := 0x0901, role := 1 }
def execChannelStatus (r : Request) (s : State) : Host.Outcome State Fault Refusal :=
  run true (request opChannelStatus r channelStatusBody) s

/-- Channel, command word and complement of each entry. -/
def setEntries (p : List Byte) (n : Nat) : List (Nat × Nat × Nat) :=
  (List.range n).map fun i => (leAt p (4 + 12 * i) 1, leAt p (8 + 12 * i) 4, leAt p (12 + 12 * i) 4)

/-- The field check of one entry, given the channels named before it (R62, R409, R426). -/
def setCheck (seen : List Nat) (e : Nat × Nat × Nat) : Option Nat :=
  let (k, c, comp) := e
  if 20 ≤ k then some St.outOfRange
  else if seen.contains k then some St.badParam
  else if comp != complement32 c then some St.twinMismatch
  else cmdCheck c

def firstFail (check : List Nat → Nat × Nat × Nat → Option Nat) : List Nat → List (Nat × Nat × Nat) → Option Nat
  | _, [] => none
  | seen, e :: r => match check seen e with
    | some st => some st
    | none => firstFail check (e.1 :: seen) r

/-- The state check of one entry (R413, R420). -/
def setState (m : Module) (_ : List Nat) (e : Nat × Nat × Nat) : Option Nat :=
  if chanPrm m P.switch_control_source e.1 == 1 || (cmdMode e.2.1 != 0 && (chanAt m e.1).latched) then some St.wrongState
  else none

def channelSetBody : Body := need 4 fun _ p _ w =>
  let n := leAt p 0 1
  if n = 0 ∨ 20 < n ∨ p.length ≠ 4 + 12 * n then refuse w St.badLength
  else
    let es := setEntries p n
    match firstFail setCheck [] es with
    | some st => refuse w st
    | none =>
      if w.m.ident.variantG || !hostCommands w.m then refuse w St.wrongState
      else match firstFail (setState w.m) [] es with
        | some st => refuse w st
        | none =>
          let w := w.each es fun e w => acceptCmd e.1 (e.2.1 % 2 ^ 22) false w
          (w, .wait (.heartbeat ((es.map (fun e => e.1 / 4)).eraseDups)) (u8 n ++ zeros 3))

def opChannelSet : OpInfo := { code := 0x0902, role := 2 }
def execChannelSet (r : Request) (s : State) : Host.Outcome State Fault Refusal :=
  run true (request opChannelSet r channelSetBody) s

def channelClearBody : Body := need 4 fun _ p _ w =>
  let mask := leAt p 0 4
  if 2 ^ 20 ≤ mask then refuse w St.outOfRange
  else if w.m.ident.variantG || !hostCommands w.m then refuse w St.wrongState
  else
    answer (w.each (bitsOf 20 mask) fun k w => w.chan k fun c => { c with
      latched := false, trips := 0, openLoad := false }) (u32 mask)

def opChannelClear : OpInfo := { code := 0x0903, role := 2 }
def execChannelClear (r : Request) (s : State) : Host.Outcome State Fault Refusal :=
  run true (request opChannelClear r channelClearBody) s

def channelAllOffBody : Body := pOnly fun _ _ _ w =>
  if hostCommands w.m || w.m.mod.state == .safe then
    answer (w.each (List.range 20) fun k w => acceptCmd k 0 false w) []
  else refuse w St.wrongState

def opChannelAllOff : OpInfo := { code := 0x0904, role := 2, rev := 2, safe := true }
def execChannelAllOff (r : Request) (s : State) : Host.Outcome State Fault Refusal :=
  run true (request opChannelAllOff r channelAllOffBody) s

def channelTripLogBody : Body := need 4 fun c p v w =>
  let n := leAt p 0 1
  if n = 0 ∨ 32 < n then refuse w St.outOfRange
  else pOnly (fun _ _ _ w =>
    let l := w.m.sw.log.take n
    answer w (u8 l.length ++ zeros 3 ++ l.flatten)) c p v w

def opChannelTripLog : OpInfo := { code := 0x0905, role := 1, rev := 2 }
def execChannelTripLog (r : Request) (s : State) : Host.Outcome State Fault Refusal :=
  run true (request opChannelTripLog r channelTripLogBody) s

end Sys2Proof.Machine
end

