-- ==== Sys2Proof/Machine/Junction.lean ====
section
/-! DEFINITION. The junction engine: identifier map, signal routes, deadlines, templates, posted writes, bridging,
tunnelling and the JUNCTION operations (spec/09). -/

namespace Sys2Proof.Machine

/-! ### Table layouts -/

/-! Identifier map entry (Table 09-2). -/

namespace Jm
def key : Fld := ⟨0, 64⟩
def signals : Fld := ⟨64, 1⟩
def bridge : Fld := ⟨65, 1⟩
def tunnelOut : Fld := ⟨66, 1⟩
def tunnelIn : Fld := ⟨67, 1⟩
def valid : Fld := ⟨71, 1⟩
def tunnel : Fld := ⟨72, 4⟩
def firstRoute : Fld := ⟨80, 16⟩
def routeCount : Fld := ⟨96, 16⟩
def timeoutMs : Fld := ⟨112, 16⟩
def newId : Fld := ⟨128, 29⟩
def newIde : Fld := ⟨157, 1⟩
def newFormat : Fld := ⟨158, 2⟩
def portMask : Fld := ⟨160, 64⟩
def outTc : Fld := ⟨224, 3⟩
end Jm

/-! Signal route base entry (Table 09-3). -/

namespace Sr
def srcStart : Fld := ⟨0, 14⟩
def srcBe : Fld := ⟨14, 1⟩
def srcSigned : Fld := ⟨15, 1⟩
def srcLen : Fld := ⟨16, 6⟩
def ext : Fld := ⟨22, 1⟩
def valid : Fld := ⟨23, 1⟩
def dstLen : Fld := ⟨24, 6⟩
def dstBe : Fld := ⟨30, 1⟩
def dstSigned : Fld := ⟨31, 1⟩
def dstStart : Fld := ⟨32, 10⟩
def destKind : Fld := ⟨42, 2⟩
def onChange : Fld := ⟨44, 1⟩
def transform : Fld := ⟨45, 1⟩
def onInvalid : Fld := ⟨46, 2⟩
def destIndex : Fld := ⟨48, 13⟩
def group : Fld := ⟨64, 10⟩
def groupEn : Fld := ⟨74, 1⟩
def mul : Fld := ⟨80, 16⟩
def add : Fld := ⟨96, 16⟩
def shift : Fld := ⟨112, 5⟩
end Sr

/-! Extension entry (Table 09-4). -/

namespace Se
def rangeMin : Fld := ⟨0, 32⟩
def rangeMax : Fld := ⟨32, 32⟩
def mul : Fld := ⟨64, 32⟩
def add : Fld := ⟨96, 32⟩
end Se

/-! PDU template (Table 09-6). -/

namespace Tp
def destPort : Fld := ⟨0, 6⟩
def valid : Fld := ⟨6, 1⟩
def mode : Fld := ⟨8, 3⟩
def canFormat : Fld := ⟨11, 2⟩
def ide : Fld := ⟨13, 1⟩
def sendOnStart : Fld := ⟨14, 1⟩
def identifier : Fld := ⟨16, 29⟩
def tc : Fld := ⟨45, 3⟩
def length : Fld := ⟨48, 16⟩
def period : Fld := ⟨64, 32⟩
def minGap : Fld := ⟨96, 16⟩
def phase : Fld := ⟨112, 16⟩
def image : Fld := ⟨128, 512⟩
end Tp

def mapGet (m : Module) (i : Nat) : Nat := m.tab.get 0x0E i
def mapValid (m : Module) (i : Nat) : Bool := Jm.valid.on (mapGet m i) && !m.tab.isPoisoned 0x0E i
def routeGet (m : Module) (i : Nat) : Nat := m.tab.get 0x09 i
def routeValid (m : Module) (i : Nat) : Bool := Sr.valid.on (routeGet m i) && !m.tab.isPoisoned 0x09 i
def tplGet (m : Module) (i : Nat) : Nat := m.tab.get 0x0A i
def tplValid (m : Module) (i : Nat) : Bool := Tp.valid.on (tplGet m i) && !m.tab.isPoisoned 0x0A i

def mapState (m : Module) (i : Nat) : MapState := m.jn.maps.getD i {}
def W.map (w : W) (i : Nat) (f : MapState → MapState) : W :=
  w.jn fun x => { x with maps := x.maps.put i (f (x.maps.getD i {})) }
def sigState (m : Module) (i : Nat) : SigState := m.jn.sigs.getD i {}
def W.sig (w : W) (i : Nat) (f : SigState → SigState) : W :=
  w.jn fun x => { x with sigs := x.sigs.put i (f (x.sigs.getD i {})) }
def sigGroup (m : Module) (i : Nat) : GroupState := m.jn.groups.getD i {}
def tplState (m : Module) (i : Nat) : TplState := m.jn.tpls.getD i {}
def W.tpl (w : W) (i : Nat) (f : TplState → TplState) : W :=
  w.jn fun x => { x with tpls := x.tpls.put i (f (x.tpls.getD i {})) }

/-- The engine runs: in the states of full service, without a module-wide hold, and enabled (R271). -/
def junctionRuns (m : Module) (now : Nat) : Bool := fullService m && !heldAllAt m now && prmB m P.junction_enable

/-! ### Keys (R272, R273) -/

/-- Offset of the EtherType after any tags. -/
def typeOffset (bs : List Byte) : Nat → Nat → Nat
  | 0, off => off
  | n + 1, off => if beAt bs off 2 == 0x8100 then typeOffset bs n (off + 4) else off

def etherOffset (bs : List Byte) : Nat := typeOffset bs 8 12

/-- Source bytes of a frame: byte 0 is data byte 0, or the first byte after the EtherType (R277). -/
def signalBytes (f : Frame) : List Byte := if f.fmt == 8 then f.data.drop (etherOffset f.data + 2) else f.data

/-- A big-endian field whose bytes beyond the end read 0. -/
def beZero (bs : List Byte) (off n : Nat) : Nat := beVal ((bs.drop off ++ zeros n).take n)

def junctionKey (m : Module) (f : Frame) : Nat :=
  if f.fmt == 8 then
    let off := if f.port < 11 then prm m P.junction_eth_key_offset 0 f.port else 0
    f.port * 2 ^ 58 + 2 ^ 57 + beZero f.data (etherOffset f.data) 2 * 2 ^ 41 + beZero (signalBytes f) off 4
  else f.port * 2 ^ 58 + f.fmt * 2 ^ 54 + f.id * 2 ^ 25

def mapBucket (key : Nat) : Nat := (crcRun 0xFFFFFFFF#32 (u64 key)).toNat % 1024
def mapSlots (key : Nat) : List Nat := (List.range 4).map (· + 4 * mapBucket key)

def findMap (m : Module) (key : Nat) : Option Nat :=
  (mapSlots key).find? fun i => mapValid m i && Jm.key.get (mapGet m i) == key

/-! ### Fields (R277) -/

/-- Image position of network index `n`. -/
def beBit (n : Nat) : Nat := 8 * (n / 8) + 7 - n % 8

/-- First network index of a big-endian field. -/
def netStart (start : Nat) : Nat := 8 * (start / 8) + 7 - start % 8

/-- Positions of a field from its most significant bit down. -/
def fieldBits (start len : Nat) (be : Bool) : List Nat :=
  if be then (List.range len).map (fun i => beBit (netStart start + i))
  else (List.range len).reverse.map (fun i => start + i)

def readField (src start len : Nat) (be : Bool) : Nat :=
  (fieldBits start len be).foldl (fun x p => 2 * x + b2n (bit src p)) 0

/-- Write the low bits of `x`; positions beyond the 512-bit image are not kept. -/
def writeField (img start len : Nat) (be : Bool) (x : Nat) : Nat :=
  (fieldBits start len be).zipIdx.foldl (fun v pi =>
    if pi.1 < 512 then setFld v pi.1 1 (x / 2 ^ (len - 1 - pi.2)) else v) img

/-- The field reaches beyond the received data (R278). -/
def fieldShort (start len : Nat) (be : Bool) (bytes : Nat) : Bool :=
  if be then decide (8 * bytes < netStart start + len) else decide (8 * bytes < start + len)

def srcLength (r : Nat) : Nat := Sr.srcLen.get r + 1
def dstLength (r : Nat) : Nat := Sr.dstLen.get r + 1

/-- A number of `len` bits as the value its signedness gives it. -/
def asValue (s : Bool) (len x : Nat) : Int := if s then signed len x else (x : Int)

/-- The not-available pattern of a destination (R280). -/
def naPattern (r : Nat) : Nat :=
  if Sr.dstSigned.on r then 2 ^ (dstLength r - 1) else 2 ^ dstLength r - 1

/-- Limits of R279, and of R285 for a channel. -/
def dstLimits (r : Nat) : Int × Int :=
  let n := dstLength r
  if Sr.destKind.get r == 1 then (0, 1000)
  else if Sr.dstSigned.on r then (1 - (2 ^ (n - 1) : Nat), (2 ^ (n - 1) : Nat) - 1)
  else (0, (2 ^ n : Nat) - 2)

def limitTo (r : Nat) (y : Int) : Int × Bool :=
  let (lo, hi) := dstLimits r
  (min (max y lo) hi, decide (y < lo) || decide (hi < y))

/-- Divide by 2^s, ties away from zero. -/
def shiftRound (p : Int) (s : Nat) : Int :=
  if s = 0 then p
  else if 0 ≤ p then (p + (2 ^ (s - 1) : Nat)) / (2 ^ s : Nat)
  else -((-p + (2 ^ (s - 1) : Nat)) / (2 ^ s : Nat))

/-- The linear transform (R279). -/
def transformed (r : Nat) (ext : Option Nat) (x : Int) : Int :=
  if !Sr.transform.on r then x
  else
    let (mul, add) := match ext with
      | some e => (signed 32 (Se.mul.get e), signed 32 (Se.add.get e))
      | none => (signed 16 (Sr.mul.get r), signed 16 (Sr.add.get r))
    shiftRound (x * mul) (Sr.shift.get r) + add

def rangeOk (r : Nat) (ext : Option Nat) (x : Int) : Bool :=
  match ext with
  | none => true
  | some e =>
    let s := Sr.srcSigned.on r
    decide (asValue s 32 (Se.rangeMin.get e) ≤ x) && decide (x ≤ asValue s 32 (Se.rangeMax.get e))

/-! ### Template sends (R287-R290) -/

/-- A stored frame of the engine's own goes to CAN or Ethernet ports. -/
def sendStored (v : View) (f : Frame) (ports : List Nat) (sp tc : Nat) (tpl : Option Nat) (w : W) : W :=
  if !admissible w.m 12 (frameTiles f) then
    w.each ports fun p w =>
      let w := (match tpl with | some t => w.count C.tpl_send_skipped t | none => w).count C.enq_skip p
      w.limited v 0x0706 0 p 1000000000 (fun n => u8 p ++ zeros 3 ++ u32 n)
  else
    let w := setRefs f.seq ports.length (storeFrameBy 8 v 12 f w)
    settle v (w.each ports fun p w => enqueueCopy v p { frame := f, sp := sp, tc := tc, tiles := frameTiles f, tpl := tpl } w)

/-- The frame a template's image makes. -/
def tplFrame (v : View) (e : Nat) (data : List Byte) (w : W) : W × Frame :=
  let eth := decide (Tp.destPort.get e < 11)
  let fmt := if eth then 8 else (if Tp.canFormat.get e == 0 then 0 else 2) + b2n (Tp.ide.on e)
  let (w, f) := internalFrame v 12 fmt (if eth then 0 else Tp.identifier.get e) data w
  (w, { f with brs := Tp.canFormat.get e == 2, tagged := eth && beAt data 12 2 == 0x8100
               tci := if eth && beAt data 12 2 == 0x8100 then beAt data 14 2 else 0 })

/-- A posted write; one still queued for the same target is replaced (R290), and those acknowledged in time are gone. -/
def post (p : Posted) (w : W) : W :=
  let same := fun (q : Posted) => q.target == p.target && q.inst == p.inst && q.id == p.id
  let w := if w.m.jn.posted.any (fun q => same q && q.queued p.at_) then w.count C.junction_post_replaced else w
  let stays := fun (q : Posted) => !same q && (q.queued p.at_ || match q.ack with
    | some t => decide (q.at_ + 1000000 < t)
    | none => true)
  w.jn fun x => { x with posted := x.posted.filter stays ++ [p] }

/-- A post to a LIN channel or to the journal: it takes effect at once, and when its acknowledgement comes is open
(notes/assumptions/97.md). -/
def postInternal (v : View) (target inst id value : Nat) (data : List Byte) (w : W) : W :=
  let (w, d) := w.free v 2000000
  post { target := target, inst := inst, id := id, at_ := v.now, value := value, data := data, ack := some (v.now + d) } w

/-- One send of a template: its working image as it is now (R288, R289). A frame for the I1 ingress DCQ waits while that
is above XOFF (R87): the send stays pending. -/
def sendTpl (v : View) (t : Nat) (w : W) : W :=
  let w := touch v [entryKey 0x0A t] w
  if !tplValid w.m t then w
  else
  let e := tplGet w.m t
  let dest := Tp.destPort.get e
  let data := (leBytes 64 (Tp.image.get e)).take (Tp.length.get e)
  if dest == 12 && !internalFits w.m 12 data.length then w.tpl t fun x => { x with pending := true }
  else
  let w := (w.tpl t fun x => { x with lastSend := some v.now }).count C.tpl_sent t
  if isLinPort dest then
    let id := Tp.identifier.get e % 64
    linStore v (dest - 36) id data (postInternal v 0 (dest - 36) id 0 data w)
  else if dest == 12 then
    let (w, f) := tplFrame v e data w
    intoDcq v f w
  else
    let (w, f) := tplFrame v e data w
    sendStored v f [dest] (Sp.forward dest (Tp.tc.get e)) (Tp.tc.get e) (some t) w

def gapEnd (m : Module) (t : Nat) : Option Nat :=
  (tplState m t).lastSend.map (fun s => s + Tp.minGap.get (tplGet m t) * 10000)

/-- A trigger that sends, at once or after min_gap (R288). -/
def triggerSend (v : View) (t : Nat) (w : W) : W :=
  if !junctionRuns w.m v.now || !tplValid w.m t then w
  else
    let early := match gapEnd w.m t with | some g => decide (v.now < g) | none => false
    if (tplState w.m t).pending || early then (w.tpl t fun x => { x with pending := true }).count C.tpl_deferred t
    else sendTpl v t w

/-- An update of a template: which modes it makes send (Table 09-7). -/
def updated (v : View) (t : Nat) (changed : Bool) (w : W) : W :=
  let mode := Tp.mode.get (tplGet w.m t)
  if mode == 0 || (changed && (mode == 2 || mode == 3)) then triggerSend v t w else w

/-- A template starts (R287): its grid, and the send on start. -/
def startTpl (v : View) (t : Nat) (w : W) : W :=
  let e := tplGet w.m t
  let once := Tp.sendOnStart.on e
  let w := w.tpl t fun x => { initial := x.initial, start := v.now, grid := if once && Tp.phase.get e == 0 then 1 else 0 }
  if once && tplValid w.m t && junctionRuns w.m v.now then sendTpl v t w else w

/-- A written template: its image is the initial image, and it starts (R286). -/
def writtenTpl (v : View) (t : Nat) (w : W) : W :=
  startTpl v t (w.tpl t fun x => { x with initial := leBytes 64 (Tp.image.get (tplGet w.m t)) })

def initialImage (m : Module) (t : Nat) : Nat := leVal (tplState m t).initial

def setImage (t img : Nat) (w : W) : W := w.tab fun x => x.put 0x0A t (Tp.image.set (x.get 0x0A t) img)

/-- TEMPLATE_GRID_SEND: the template's next grid instant; one that falls in a hold is not made up (R271, R287). -/
def templateGridSendCore (t : Nat) (v : View) (w : W) : W :=
  let e := tplGet w.m t
  let x := tplState w.m t
  let step := Tp.period.get e * 1000
  let first := x.start + Tp.phase.get e * 1000000
  let grid := Tp.mode.get e == 1 || Tp.mode.get e == 2
  if !tplValid w.m t || !grid || step = 0 || v.now < first + x.grid * step then w
  else
    let n := (v.now - first) / step + 1
    let w := w.tpl t fun x => { x with grid := n, pending := false }
    if junctionRuns w.m v.now then sendTpl v t w else w

def isTpl (t : Nat) : Bool := decide (t < 8192)

def execTemplateGridSend (t : Nat) (s : State) : Host.Outcome State Fault Refusal :=
  run (isTpl t) (templateGridSendCore t) s

/-- TEMPLATE_DEFERRED_SEND: min_gap has elapsed for a deferred trigger (R288). -/
def templateDeferredSendCore (t : Nat) (v : View) (w : W) : W :=
  let due := match gapEnd w.m t with | some g => decide (g ≤ v.now) | none => true
  if !(tplState w.m t).pending || !due || !powered w.m then w
  else
    let w := w.tpl t fun x => { x with pending := false }
    if junctionRuns w.m v.now && tplValid w.m t then sendTpl v t w else w

def execTemplateDeferredSend (t : Nat) (s : State) : Host.Outcome State Fault Refusal :=
  run (isTpl t) (templateDeferredSendCore t) s

/-! ### Channel and journal destinations (R285) -/

/-- A value, or none for not available, for a journal input (Table 09-5, R456). -/
def postJournal (v : View) (idx : Nat) (y : Option Nat) (w : W) : W :=
  (postInternal v 2 0 idx (y.getD 65535) [] w).jr fun j =>
    if idx == 0 then { j with canSpeed := (y.map (fun s => (s, v.now))).orElse fun _ => j.canSpeed }
    else
      let code := y.getD 255
      let n := if code == j.activity then j.acc.activityChanges else min (j.acc.activityChanges + 1) 255
      { j with activity := code, acc := { j.acc with activityChanges := n } }

/-- Post a value to a switch channel; `bad` lists channels whose pair arrives with a wrong complement (R414). -/
def postChannel (v : View) (k : Nat) (y : Option Nat) (bad : List Nat) (w : W) : W :=
  if 20 ≤ k then w
  else signalCommand v k y (bad.contains k)
    (post { target := 1, inst := k / 4, id := k, at_ := v.now, value := y.getD 65535 } w)

/-! ### Applying the routes of a map entry (R275-R284) -/

/-- A route about to be applied: its number, base, extension, source value, and why it is invalid (0 range, 1 short
PDU, 2 group, 3 timeout). -/
structure Applied where
  index : Nat
  base : Nat
  ext : Option Nat
  value : Int
  cause : Option Nat
  deriving DecidableEq, Repr

/-- The valid routes of an entry; an extension counts in route_count. One of which either entry is poisoned is not applied. -/
def entryRoutes (m : Module) : Nat → Nat → Nat → List (Nat × Nat × Option Nat)
  | 0, _, _ => []
  | fuel + 1, i, last =>
    if last ≤ i then []
    else
      let r := routeGet m i
      let ext := if Sr.ext.on r && decide (i < 65535) then some (routeGet m (i + 1)) else none
      let rest := entryRoutes m fuel (if Sr.ext.on r then i + 2 else i + 1) last
      if routeValid m i && !(ext.isSome && m.tab.isPoisoned 0x09 (i + 1)) then (i, r, ext) :: rest else rest

def routesOf (m : Module) (e : Nat) : List (Nat × Nat × Option Nat) :=
  entryRoutes m (Jm.routeCount.get e) (Jm.firstRoute.get e) (min (Jm.firstRoute.get e + Jm.routeCount.get e) 65536)

/-- The engine reads the routes of an entry (R152). -/
def readRoutes (v : View) (e : Nat) (w : W) : W :=
  touch v ((List.range (Jm.routeCount.get e)).map (fun k => entryKey 0x09 (Jm.firstRoute.get e + k))) w

/-- Extract the field of a route from the source bytes; a short field's value is free (R277, R278). -/
def extract (v : View) (i : Nat) (src : List Byte) (r : Nat × Nat × Option Nat) (w : W) : W × Applied :=
  let (k, b, ext) := r
  let len := srcLength b
  let s := Sr.srcSigned.on b
  if fieldShort (Sr.srcStart.get b) len (Sr.srcBe.on b) src.length then
    let (w, x) := w.free v (2 ^ len)
    (w.count C.sig_short_pdu i, { index := k, base := b, ext := ext, value := asValue s len x, cause := some 1 })
  else
    let x := asValue s len (readField (leVal src) (Sr.srcStart.get b) len (Sr.srcBe.on b))
    if rangeOk b ext x then (w, { index := k, base := b, ext := ext, value := x, cause := none })
    else (w.count C.sig_range_fail i, { index := k, base := b, ext := ext, value := x, cause := some 0 })

def extractAll (v : View) (i : Nat) (src : List Byte) : List (Nat × Nat × Option Nat) → W → W × List Applied
  | [], w => (w, [])
  | r :: rs, w =>
    let (w, a) := extract v i src r w
    let (w, l) := extractAll v i src rs w
    (w, a :: l)

/-- Groups in which some member is invalid (R282). -/
def badGroups (l : List Applied) : List Nat :=
  (l.filter (fun a => Sr.groupEn.on a.base && a.cause.isSome)).map (fun a => Sr.group.get a.base)

def groupsOf (l : List Applied) : List Nat :=
  ((l.filter (fun a => Sr.groupEn.on a.base)).map (fun a => Sr.group.get a.base)).eraseDups

/-- Every member route of an invalid group that a frame applied is invalid, with the cause group (R282). -/
def withGroups (l : List Applied) : List Applied :=
  l.map fun a => if a.cause != some 3 && Sr.groupEn.on a.base && (badGroups l).contains (Sr.group.get a.base) then
    { a with cause := some 2 } else a

/-- Write a template field; answers whether an on_change route changed bits. A poisoned template takes nothing, as only a
write of the whole entry covers it (R152). -/
def writeTpl (v : View) (b : Nat) (x : Nat) (w : W) : W × Bool :=
  let t := Sr.destIndex.get b
  let w := touch v [entryKey 0x0A t] w
  if w.m.tab.isPoisoned 0x0A t then (w, false)
  else
  let img := Tp.image.get (tplGet w.m t)
  let new := writeField img (Sr.dstStart.get b) (dstLength b) (Sr.dstBe.on b) x
  (setImage t new w, Sr.onChange.on b && new != img)

/-- What one route writes: the number of `dstLength` bits, or none for not available (R279-R281, R285). -/
inductive RouteOut where
  | keep
  | value (y : Int) (saturated : Bool)
  | initial
  | notAvailable
  deriving DecidableEq, Repr

def routeOut (a : Applied) : RouteOut :=
  let valid := let (y, s) := limitTo a.base (transformed a.base a.ext a.value); RouteOut.value y s
  match a.cause with
  | none => valid
  | some c =>
    let act := Sr.onInvalid.get a.base
    if act == 3 then (if c == 3 then .keep else valid)
    else if act == 1 && Sr.destKind.get a.base == 0 then .initial
    else if act == 0 then .keep
    else .notAvailable

/-- Apply one route: answers whether its template was written, and changed. -/
def applyRoute (v : View) (i : Nat) (bad : List Nat) (a : Applied) (w : W) : W × Bool × Bool :=
  let b := a.base
  let n := dstLength b
  let kind := Sr.destKind.get b
  let idx := Sr.destIndex.get b
  let note := fun (val : Int) (sat sub : Bool) (w : W) => w.sig a.index fun _ =>
    { value := val, valid := a.cause.isNone, saturated := sat, substituted := sub, update := v.time.tb2.n.toNat }
  let put := fun (x : Nat) (na : Bool) (w : W) =>
    if kind == 0 then
      let (w, c) := writeTpl v b x w
      (w, true, c)
    else if kind == 1 then (postChannel v idx (if na then none else some x) bad w, false, false)
    else (postJournal v idx (if na then none else some x) w, false, false)
  match routeOut a with
  | .keep => (w.sig a.index fun s => { s with valid := false, saturated := false, substituted := false }, false, false)
  | .value y sat =>
    let w := if sat then w.count C.sig_saturated i else w
    put (if kind == 1 then y.toNat else twos n y) false (note y sat false w)
  | .initial =>
    let x := readField (initialImage w.m idx) (Sr.dstStart.get b) n (Sr.dstBe.on b)
    put x false (note (asValue (Sr.dstSigned.on b) n x) false true (w.count C.sig_substituted i))
  | .notAvailable =>
    let x := naPattern b
    put x true (note (asValue (Sr.dstSigned.on b) n x) false true (w.count C.sig_substituted i))

/-- Note a template write in the list of updates. -/
def noteUpdate (t : Nat) (c : Bool) (l : List (Nat × Bool)) : List (Nat × Bool) :=
  if l.any (fun p => p.1 == t) then l.map (fun p => if p.1 == t then (t, p.2 || c) else p) else l ++ [(t, c)]

def applyAll (v : View) (i : Nat) (bad : List Nat) : List Applied → List (Nat × Bool) → W → W × List (Nat × Bool)
  | [], ups, w => (w, ups)
  | a :: r, ups, w =>
    let (w, wrote, c) := applyRoute v i bad a w
    applyAll v i bad r (if wrote then noteUpdate (Sr.destIndex.get a.base) c ups else ups) w

/-- The state of a group after its routes were applied (R282). -/
def setSigGroup (invalid : Bool) (g : Nat) (w : W) : W :=
  w.jn fun x =>
    let s := x.groups.getD g {}
    let s' : GroupState := if invalid then { st := 1, episodes := s.episodes + b2n (s.st == 0) } else { s with st := 0 }
    { x with groups := x.groups.put g s' }

/-- Executed route entries of the running millisecond. -/
def junctionOps (v : View) (n : Nat) (w : W) : W :=
  let t := v.now / 1000000
  w.jn fun x =>
    if x.opsAt == t then { x with opsNow := x.opsNow + n }
    else { x with opsAt := t, opsNow := n, opsLast := if x.opsAt + 1 == t then x.opsNow else 0 }

/-- Apply routes as one update of each template, then the sends they trigger, then their events (R275, R294). -/
def applyRoutes (v : View) (i : Nat) (bad : List Nat) (l : List Applied) (w : W) : W :=
  let l := withGroups l
  let (w, ups) := applyAll v i bad l [] (junctionOps v l.length w)
  let w := lockEntries v 8 (ups.map (fun u => (0x0A, u.1))) w
  let w := w.each (groupsOf l) fun g w => setSigGroup ((badGroups l).contains g) g w
  let w := w.each ups fun u w => updated v u.1 u.2 w
  w.each l fun a w => match a.cause with
    | none => w
    | some c =>
      if c == 3 then w
      else w.limited v 0x0903 1 0 (prmNs w.m P.junction_signal_event_interval) fun n =>
        u16 a.index ++ u8 c ++ u8 (Sr.onInvalid.get a.base) ++ s64 a.value ++ u32 n

/-! ### Deadlines (R283, R284) -/

def keyId (e : Nat) : Nat := if bit (Jm.key.get e) 57 then 0 else fld (Jm.key.get e) 25 29
def mapHead (i e : Nat) : List Byte := u16 i ++ u8 (Jm.key.get e / 2 ^ 58) ++ u8 0 ++ u32 (keyId e)

/-- The timeout of an entry fires: every valid route takes its on_invalid action. -/
def fireTimeout (v : View) (i deadline : Nat) (w : W) : W :=
  let e := mapGet w.m i
  let w := (w.map i fun s => { s with timedOut := true }).count C.jn_timeout i
  let w := if Jm.signals.on e then readRoutes v e w else w
  let l := if Jm.signals.on e then (routesOf w.m e).map (fun r => { index := r.1, base := r.2.1, ext := r.2.2, value := 0, cause := some 3 : Applied })
    else []
  (applyRoutes v i [] l w).event v 0x0901 1 (mapHead i e ++ u32 deadline)

/-- Frames on their way to the engine, from their arrival on. -/
def onTheWay (m : Module) : List Frame :=
  m.ing.arriving.map (fun p => { port := p.1, fmt := p.2.head.fmt, id := p.2.head.id, data := p.2.head.bytes
                                 tb2 := p.2.tb2 % 2 ^ 32, seq := p.2.seq : Frame })
    ++ m.ing.dcq.flatMap Prod.snd ++ m.ing.ctxs.filterMap ParseCtx.frame
    ++ (m.ing.done ++ m.ing.released).map Released.frame
    ++ (m.flow.classified ++ m.flow.zsp ++ m.flow.enq).map Job.frame
    ++ (m.fab.waiting.filter (fun x => x.port == 12)).map (fun x => x.copy.frame) ++ m.fab.i1.map Copy.frame

/-- A frame with this entry's key, timestamped before `d`, has yet to reach the engine (R283). -/
def earlierMatch (m : Module) (v : View) (i d : Nat) : Bool :=
  (onTheWay m).any fun f => junctionKey m f == Jm.key.get (mapGet m i) && decide (arrivedAt v f < d)

/-- PDU_TIMEOUT of a map entry: the deadline and the settle time have passed, with no matching frame before it. A hold or
junction.enable 0 stops what the engine sends, not its deadlines. -/
def pduTimeoutCore (i : Nat) (v : View) (w : W) : W :=
  let s := mapState w.m i
  match s.deadline with
  | none => w
  | some d =>
    if s.timedOut || !mapValid w.m i || !fullService w.m || !v.expired d || earlierMatch w.m v i d then w
    else fireTimeout v i d w

def execPduTimeout (i : Nat) (s : State) : Host.Outcome State Fault Refusal :=
  run (decide (i < 4096)) (pduTimeoutCore i) s

/-- The starting deadline (R283): at the start of RUN, route book activation, or a write of the entry. -/
def startMap (v : View) (i : Nat) (w : W) : W :=
  let t := Jm.timeoutMs.get (mapGet w.m i)
  let d := if t = 0 || !mapValid w.m i then none else some (v.now + t * 1000000 + prmNs w.m P.junction_start_grace)
  w.map i fun _ => { deadline := d }

/-- A matching frame sets the next deadline and ends a timed-out state; its event comes after its update. -/
def mapArrival (i t : Nat) (w : W) : W × Option Nat :=
  let s := mapState w.m i
  let ms := Jm.timeoutMs.get (mapGet w.m i)
  let out := if s.timedOut then s.deadline else none
  (w.map i fun s => { s with
    received := true, last := t, timedOut := false, deadline := if ms = 0 then none else some (t + ms * 1000000) }, out)

/-! ### Bridge (R291) -/

def bridged (e : Nat) (f : Frame) : Frame :=
  let ide := b2n (Jm.newIde.on e)
  let nf := Jm.newFormat.get e
  let fd := if nf == 0 then f.fmt == 2 || f.fmt == 3 else 2 ≤ nf
  let fmt := if f.fmt == 4 then 4 else if f.fmt == 7 then 7
    else if nf == 0 && 5 ≤ f.fmt then f.fmt else 2 * b2n fd + ide
  { f with id := Jm.newId.get e, ide := Jm.newIde.on e, fmt := fmt, brs := if nf == 0 then f.brs else nf == 3, taken := none }

def bridgeCopy (v : View) (i e : Nat) (f : Frame) (w : W) : W :=
  let g := bridged e f
  if g.fmt ≤ 1 && decide (8 < f.data.length) then w.count C.bridge_format_drop i
  else
    let n := w.m.ing.seq + 1
    let w := (w.ing fun x => { x with seq := n }).count C.bridge_frames i
    sendStored v { g with seq := 2 * n } (bitsOf 44 (Jm.portMask.get e)) 0 (Jm.outTc.get e) none w

/-! ### Tunnels (R292, R293) -/

def tunnelAt (m : Module) (k : Nat) : TunnelState := m.jn.tunnels.getD k {}
def W.tunnel (w : W) (k : Nat) (f : TunnelState → TunnelState) : W :=
  w.jn fun x => { x with tunnels := x.tunnels.put k (f (x.tunnels.getD k {})) }

/-- The header template of a tunnel: Ethernet, valid. -/
def tunnelTpl (m : Module) (k : Nat) : Option Nat :=
  let t := prm m P.junction_tunnel_template 0 k
  if t < 8192 ∧ tplValid m t ∧ Tp.destPort.get (tplGet m t) < 11 then some t else none

/-- An ACF CAN message of IEEE 1722 (R292). -/
def acfMessage (b : Base) (f : Frame) : List Byte :=
  let pad := (4 - f.data.length % 4) % 4
  let quads := 4 + (f.data.length + pad) / 4
  let eff := if f.fmt == 7 then f.ide else f.fmt % 2 == 1
  let fd := f.fmt == 2 || f.fmt == 3
  let bits := pad * 64 + 32 + 16 * b2n (f.fmt == 7) + 8 * b2n eff + 4 * b2n f.brs + 2 * b2n fd + b2n f.esi
  beBytes 2 (1 * 512 + quads) ++ u8 bits ++ u8 (f.port - 14) ++ beBytes 8 (extend32 b.time.tb0 f.tb0)
    ++ beBytes 4 f.id ++ f.data ++ zeros pad

/-- Ethernet and NTSCF headers from the template, with data length and sequence number (R292). -/
def tunnelHeader (e seq len : Nat) : List Byte :=
  let h := (leBytes 64 (Tp.image.get e)).take (Tp.length.get e)
  let o := etherOffset h + 2
  h.take (o + 1) ++ beBytes 2 (fld (beAt h (o + 1) 2) 11 5 * 2048 + len % 2048) ++ u8 seq ++ h.drop (o + 4)

/-- Send the open PDU of a tunnel. -/
def sendTunnel (v : View) (k : Nat) (w : W) : W :=
  let x := tunnelAt w.m k
  let w := w.tunnel k fun x => { x with open_ := [], seq := (x.seq + 1) % 256 }
  match tunnelTpl w.m k with
  | none => w.count C.tunnel_out_drop k
  | some t =>
    let e := tplGet w.m t
    let (w, f) := tplFrame v e (tunnelHeader e x.seq x.open_.length ++ x.open_) w
    let dest := Tp.destPort.get e
    sendStored v f [dest] (Sp.forward dest (Tp.tc.get e)) (Tp.tc.get e) none (w.count C.tunnel_out_pdus k)

/-- Append a frame to the open PDU of a tunnel, which is sent first when the message no longer fits. -/
def appendTunnel (v : View) (k : Nat) (f : Frame) (w : W) : W :=
  match tunnelTpl w.m k with
  | none => w.count C.tunnel_out_drop k
  | some t =>
    let msg := acfMessage v f
    let size := Tp.length.get (tplGet w.m t) + (tunnelAt w.m k).open_.length + msg.length
    let w := if !(tunnelAt w.m k).open_.isEmpty && decide (prm w.m P.junction_tunnel_max_length 0 k < size) then sendTunnel v k w
      else w
    (w.tunnel k fun x => { x with
      first := if x.open_.isEmpty then v.now else x.first
      open_ := x.open_ ++ msg }).count C.tunnel_out_msgs k

/-- TUNNEL_FLUSH: tunnel_flush_time has passed since the first message. -/
def tunnelFlushCore (k : Nat) (v : View) (w : W) : W :=
  let x := tunnelAt w.m k
  if x.open_.isEmpty || v.now < x.first + prmNs w.m P.junction_tunnel_flush_time 0 k || !junctionRuns w.m v.now then w
  else sendTunnel v k w

def execTunnelFlush (k : Nat) (s : State) : Host.Outcome State Fault Refusal :=
  run (decide (k < 16)) (tunnelFlushCore k) s

/-- One ACF message, header and payload in whole quadlets, goes to its CAN instance or is dropped. -/
def unpackMessage (v : View) (i e : Nat) (f : Frame) (msg : List Byte) (w : W) : W :=
  let type := leAt msg 0 1 / 2
  let hdr := if type == 1 then 16 else 8
  let bus := leAt msg 3 1 % 32
  if (type != 1 && type != 2) || decide (msg.length < hdr) || decide (22 ≤ bus) || !bit (Jm.portMask.get e) (14 + bus) then
    w.count C.tunnel_in_drop i
  else
    let b := leAt msg 2 1
    let data := (msg.drop hdr).take (msg.length - hdr - b / 64)
    let rtr := bit b 4
    let eff := bit b 3
    let fmt := if rtr then 7 else 2 * b2n (bit b 1) + b2n eff
    let n := w.m.ing.seq + 1
    let w := (w.ing fun x => { x with seq := n }).count C.tunnel_in_msgs i
    let g : Frame :=
      { port := f.port, fmt := fmt, id := beAt msg (hdr - 4) 4 % 2 ^ 29, data := if rtr then [] else data, ide := eff
        dlc := data.length, brs := bit b 2, esi := bit b 0, tb0 := f.tb0, tb2 := f.tb2, epoch := f.epoch
        sync := f.sync, seq := 2 * n }
    sendStored v g [canPort bus] 0 (Jm.outTc.get e) none w

/-- The ACF messages of a PDU; one that does not lie within the data is dropped. -/
def unpackAll (v : View) (i e : Nat) (f : Frame) : Nat → List Byte → W → W
  | 0, _, w => w
  | fuel + 1, bs, w =>
    if bs.isEmpty then w
    else
      let len := 4 * (beAt bs 0 2 % 512)
      if len = 0 ∨ bs.length < len then w.count C.tunnel_in_drop i
      else unpackAll v i e f fuel (bs.drop len) (unpackMessage v i e f (bs.take len) w)

/-- Unpack an NTSCF or TSCF PDU (R293). -/
def unpackTunnel (v : View) (i e : Nat) (f : Frame) (w : W) : W :=
  let p := signalBytes f
  let sub := leAt p 0 1
  if sub != 0x82 && sub != 0x05 then w
  else
    let tscf := sub == 0x05
    let seq := if tscf then leAt p 2 1 else leAt p 3 1
    let len := if tscf then beAt p 20 2 else beAt p 1 2 % 2048
    let data := (p.drop (if tscf then 24 else 12)).take len
    let want := (mapState w.m i).seq
    let w := w.map i fun s => { s with seq := some ((seq + 1) % 256) }
    let w := unpackAll v i e f data.length data w
    match want with
    | some x => if x == seq then w
      else (w.count C.tunnel_in_seq_error i).event v 0x0904 1 (u16 i ++ u8 x ++ u8 seq)
    | none => w

/-! ### JUNCTION_PROCESS (R274) -/

/-- A junction copy that matches entry `i`. -/
def matchedCopy (v : View) (i : Nat) (f : Frame) (bad : List Nat) (w : W) : W :=
  let e := mapGet w.m i
  let w := w.count C.junction_frames i
  let t := extend32 v.time.tb2 f.tb2
  let s := mapState w.m i
  let w := match s.deadline with
    | some d => if !s.timedOut && decide (d ≤ t) then fireTimeout v i d w else w
    | none => w
  let (w, out) := mapArrival i t w
  let w := if Jm.signals.on e then
      let w := readRoutes v e w
      let (w, l) := extractAll v i (signalBytes f) (routesOf w.m e) w
      applyRoutes v i bad l w
    else w
  let w := match out with
    | some d => (w.count C.jn_recovered i).event v 0x0902 0 (mapHead i e ++ u32 ((t - d) / 1000))
    | none => w
  let w := if Jm.bridge.on e then bridgeCopy v i e f w else w
  let w := if Jm.tunnelOut.on e && isCanPort f.port then appendTunnel v (Jm.tunnel.get e) f w else w
  if Jm.tunnelIn.on e then unpackTunnel v i e f w else w

/-- The frame lies at or after a deadline that has still to be decided: the engine holds it (R283). -/
def heldForDeadline (m : Module) (v : View) (f : Frame) : Bool :=
  match findMap m (junctionKey m f) with
  | none => false
  | some i => match (mapState m i).deadline with
    | some d => !(mapState m i).timedOut && decide (d ≤ arrivedAt v f) && !v.expired d
    | none => false

/-- The next I1 copy; its reading may fail on a tile `t`, and `bad` lists channels whose posted command arrives with a
wrong complement. -/
def junctionProcessCore (t : Option TileFault) (bad : List Nat) (v : View) (w : W) : W :=
  match w.m.fab.i1 with
  | [] => w
  | c :: rest =>
    let f := c.frame
    if heldAllAt w.m v.now || !powered w.m || (junctionRuns w.m v.now && heldForDeadline w.m v f) then w
    else
      let w := corrected f t (w.fab fun x => { x with i1 := rest })
      let done := fun w => settle v (dropRef v f.seq w)
      if !junctionRuns w.m v.now then done w
      else match readFault w.m f t with
        | some x => done (tileFail v 8 f x w)
        | none =>
          let key := junctionKey w.m f
          let w := touch v ((mapSlots key).map (entryKey 0x0E)) w
          match findMap w.m key with
          | none => done (w.count C.junction_no_map f.port)
          | some i => done (matchedCopy v i f bad w)

def execJunctionProcess (t : Option TileFault) (bad : List Nat) (s : State) : Host.Outcome State Fault Refusal :=
  run true (junctionProcessCore t bad) s

/-- POSTED_WRITE_FAIL: a write to identifier or channel `id` of a target (0 LIN channel, 1 power die, 2 journal) has had no
acknowledgement timestamped within 1 ms (R290). -/
def postedWriteFailCore (target inst id : Nat) (v : View) (w : W) : W :=
  let late := fun (p : Posted) => p.target == target && p.inst == inst && p.id == id && p.failed v.now
  if !w.m.jn.posted.any late then w
  else ((w.jn fun x => { x with posted := x.posted.filter (fun p => !late p) }).count C.junction_post_fail).event v
    0x0905 2 (u8 target ++ u8 inst ++ zeros 2 ++ u32 id)

def execPostedWriteFail (p : PostedRef) (s : State) : Host.Outcome State Fault Refusal :=
  run (decide (p.target < 3)) (postedWriteFailCore p.target p.inst p.id) s

/-- The engine at the start of RUN or at a route book activation (R283, R287, R295). -/
def startJunction (v : View) (w : W) : W :=
  let w := w.jn fun x => { x with groups := [], tunnels := x.tunnels.map (fun p => (p.1, { p.2 with open_ := [] })) }
  let w := w.each (w.m.tab.listed 0x0E) fun i w => startMap v i w
  w.each (w.m.tab.listed 0x0A) fun t w =>
    if tplValid w.m t then startTpl v t (setImage t (initialImage w.m t) w) else w

/-! ### JUNCTION operations (R296) -/

/-- Routes that are extensions: the entry before is a base entry with ext set (R276). -/
def isExtension (x : Tables) (i : Nat) : Bool :=
  let run := ((List.range i).reverse.takeWhile (fun j => Sr.ext.on (x.get 9 j))).length
  run % 2 == 1

def junctionStatusBody : Body := fun _ _ v w =>
  let out := (w.m.jn.maps.filter (fun p => p.2.timedOut)).length
  let bad := (w.m.jn.groups.filter (fun p => p.2.st == 1)).length
  let ops := (junctionOps v 0 w).m.jn.opsLast
  answer w (u16 w.m.fab.i1.length ++ u16 out ++ u16 bad ++ zeros 2 ++ u32 ops)

def opJunctionStatus : OpInfo := { code := 0x1101, role := 1 }
def execJunctionStatus (r : Request) (s : State) : Host.Outcome State Fault Refusal :=
  run true (request opJunctionStatus r junctionStatusBody) s

/-- State code of a map entry. -/
def mapCode (m : Module) (i : Nat) : Nat :=
  let s := mapState m i
  if Jm.timeoutMs.get (mapGet m i) = 0 && mapValid m i then 3 else if s.timedOut then 2 else if s.received then 1 else 0

def mapBytes (m : Module) (i : Nat) : List Byte :=
  let s := mapState m i
  u16 i ++ u8 (mapCode m i) ++ u8 0 ++ u32 s.last ++ u16 (s.last / 2 ^ 32) ++ zeros 2 ++ u32 (s.deadline.getD 0)

def junctionMapStatusBody : Body := need 4 fun _ p _ w =>
  let first := leAt p 0 2
  let n := leAt p 2 2
  if n = 0 ∨ 250 < n ∨ 4096 < first + n then refuse w St.outOfRange
  else answer w (u16 n ++ zeros 2 ++ (List.range n).flatMap (fun k => mapBytes w.m (first + k)))

def opJunctionMapStatus : OpInfo := { code := 0x1102, role := 1 }
def execJunctionMapStatus (r : Request) (s : State) : Host.Outcome State Fault Refusal :=
  run true (request opJunctionMapStatus r junctionMapStatusBody) s

/-- An operation on one valid template. -/
def tplOp (f : Nat → View → W → W × Ans) : Body := need 4 fun _ p v w =>
  let t := leAt p 0 2
  if 8192 ≤ t then refuse w St.outOfRange else if !tplValid w.m t then refuse w St.wrongState else f t v w

def junctionTemplateReadBody : Body := tplOp fun t _ w =>
  let x := tplState w.m t
  let last := x.lastSend.getD 0
  answer w (leBytes 80 (tplGet w.m t) ++ (x.initial ++ zeros 64).take 64 ++ u32 last ++ u16 (last / 2 ^ 32)
    ++ u8 (b2n x.pending) ++ u8 0)

def opJunctionTemplateRead : OpInfo := { code := 0x1103, role := 1 }
def execJunctionTemplateRead (r : Request) (s : State) : Host.Outcome State Fault Refusal :=
  run true (request opJunctionTemplateRead r junctionTemplateReadBody) s

/-- A valid base route: an extension is none (R276, R296). -/
def baseRoute (m : Module) (i : Nat) : Bool := routeValid m i && !isExtension m.tab i

def junctionSignalReadBody : Body := need 4 fun _ p _ w =>
  let i := leAt p 0 2
  if !baseRoute w.m i then refuse w St.wrongState
  else
    let s := sigState w.m i
    let r := routeGet w.m i
    let g := Sr.groupEn.on r && (sigGroup w.m (Sr.group.get r)).st == 1
    answer w (s64 s.value ++ u8 (b2n s.valid + 2 * b2n s.saturated + 4 * b2n s.substituted + 8 * b2n g) ++ zeros 3
      ++ u32 s.update)

def opJunctionSignalRead : OpInfo := { code := 0x1104, role := 1 }
def execJunctionSignalRead (r : Request) (s : State) : Host.Outcome State Fault Refusal :=
  run true (request opJunctionSignalRead r junctionSignalReadBody) s

def junctionSignalWriteBody : Body := need 12 fun _ p v w =>
  let i := leAt p 0 2
  let r := routeGet w.m i
  if baseRoute w.m i && Sr.destKind.get r != 0 then refuse w St.badParam
  else if !baseRoute w.m i then refuse w St.wrongState
  else
    let (y, sat) := limitTo r (signed 64 (leAt p 4 8))
    let w := w.sig i fun _ => { value := y, valid := true, saturated := sat, update := v.time.tb2.n.toNat }
    let (w, c) := writeTpl v r (twos (dstLength r) y) w
    answer (updated v (Sr.destIndex.get r) c w) []

def opJunctionSignalWrite : OpInfo := { code := 0x1105, role := 2 }
def execJunctionSignalWrite (r : Request) (s : State) : Host.Outcome State Fault Refusal :=
  run true (request opJunctionSignalWrite r junctionSignalWriteBody) s

def junctionTemplateSendBody : Body := tplOp fun t v w =>
  answer (if junctionRuns w.m v.now then sendTpl v t w else w) []

def opJunctionTemplateSend : OpInfo := { code := 0x1106, role := 2 }
def execJunctionTemplateSend (r : Request) (s : State) : Host.Outcome State Fault Refusal :=
  run true (request opJunctionTemplateSend r junctionTemplateSendBody) s

def junctionTemplateRestoreBody : Body := tplOp fun t _ w => answer (setImage t (initialImage w.m t) w) []

def opJunctionTemplateRestore : OpInfo := { code := 0x1107, role := 2 }
def execJunctionTemplateRestore (r : Request) (s : State) : Host.Outcome State Fault Refusal :=
  run true (request opJunctionTemplateRestore r junctionTemplateRestoreBody) s

def groupBytes (m : Module) (g : Nat) : List Byte :=
  let s := sigGroup m g
  u16 g ++ u8 s.st ++ u8 0 ++ u32 s.episodes

def junctionGroupReadBody : Body := need 4 fun _ p _ w =>
  let first := leAt p 0 2
  let n := leAt p 2 2
  if n = 0 ∨ 500 < n ∨ 1024 < first + n then refuse w St.outOfRange
  else answer w (u16 n ++ zeros 2 ++ (List.range n).flatMap (fun k => groupBytes w.m (first + k)))

def opJunctionGroupRead : OpInfo := { code := 0x1108, role := 1 }
def execJunctionGroupRead (r : Request) (s : State) : Host.Outcome State Fault Refusal :=
  run true (request opJunctionGroupRead r junctionGroupReadBody) s

end Sys2Proof.Machine
end

