-- ==== Sys2Proof/Machine/TableOps.lean ====
section
/-! DEFINITION. The TABLE family (spec/05, R147-R156, R583) and the checks every chapter states for writing an entry
of its table. -/

namespace Sys2Proof.Machine

/-! ### Reading entries -/

def nameBits (e : NameEntry) : Nat :=
  e.name % 2 ^ 64 + (b2n e.valid + 2 * b2n e.bound + 4 * b2n e.claimed + 8 * b2n e.own) * 2 ^ 64
    + e.channel % 256 * 2 ^ 72 + e.address % 256 * 2 ^ 80 + e.claimTime % 2 ^ 32 * 2 ^ 96

/-- The learning view (Table 05-5). -/
def learnedValue (x : Tables) (slot : Nat) : Nat :=
  match x.learned.get? slot with
  | none => 0
  | some l =>
    l.key % 2 ^ 48 + fld l.key 48 12 * 2 ^ 48 + l.port * 2 ^ 64
      + (1 + 2 * b2n (x.hits.contains l.index) + 4 * l.age) * 2 ^ 72 + l.index * 2 ^ 96

/-- The content a TABLE_READ sees. -/
def entryValue (v : View) (w : W) (t i : Nat) : Nat :=
  if t == 7 then learnedValue w.m.tab i
  else if t == 8 && decide (2048 ≤ i) then nameBits (nameEntry w.m (i - 2048))
  else if t == 0x0C then leVal (recordBytes v w i)
  else if t == 0x0F && [514, 515, 517].contains (i % 520) then gateStatus w.m (i / 520) (i % 520)
  else w.m.tab.get t i

/-- Whether an entry counts as used (R154). -/
def entryUsed (x : Tables) (t i : Nat) : Bool :=
  let e := x.get t i
  if t == 1 then if fastBase ≤ i then Fe.valid.on e else Sp.valid.on e
  else if t == 2 then Sp.valid.on (He.sp.get e)
  else if t == 3 then Sp.valid.on (Te.sp.get e)
  else if t == 4 then Sp.valid.on (L4.sp.get e)
  else if t == 5 then Sp.valid.on (L6.sp.get e)
  else if t == 9 then Sr.valid.on e && !isExtension x i
  else if t == 0x0A then Tp.valid.on e
  else if t == 0x0B then Gt.valid.on e
  else if t == 0x0C then Wp.valid.on e
  else if t == 0x0D then Sf.valid.on e
  else if t == 0x0E then Jm.valid.on e
  else e != entryDefault t i

def usedEntries (w : W) (t : Nat) : Nat :=
  let n := ((w.m.tab.ent.filter (fun p => p.1 / 2 ^ 20 == t && entryUsed w.m.tab t (p.1 % 2 ^ 20))).length)
  if t == 7 then w.m.tab.learned.length
  else if t == 8 then n + (w.m.ing.names.filter (fun p => p.2.valid)).length
  else if t == 0x0F then
    n + ((List.range 11).map (fun p =>
      ([514, 515, 517].filter (fun j => gateStatus w.m p j != 0)).length)).sum
  else n

/-! ### Staged operations and what they cover -/

/-- Where an operation acts, by the tables before it. -/
def stagedIndex (seed : Nat) (x : Tables) (o : StagedOp) (placed : Nat) : Option (Nat × Nat) :=
  match o with
  | .write t i _ => some (t, i)
  | .insert t _ => some (t, placed)
  | .delete t key => (x.findSlot seed key).map (fun i => (t, i))

/-- Plan a staged set, passing over operations that have become invalid: the tables and the entries covered. -/
def planLoose (seed kicks : Nat) (l : List StagedOp) (x : Tables) : Tables × List (Nat × Nat) :=
  l.foldl (fun (acc : Tables × List (Nat × Nat)) o =>
    match applyStaged seed kicks acc.1 o with
    | .error _ => acc
    | .ok (y, placed, _) => (y, acc.2 ++ (stagedIndex seed acc.1 o placed).toList)) (x, [])

/-- Every entry a staged operation of any session covers. -/
def covered (m : Module) : List (Nat × Nat) :=
  m.borul.slots.flatMap fun s => if s.staged.isEmpty then []
    else (planLoose (seedOf m) (kicksOf m) (s.staged.map Staged.op) m.tab).2

/-- The side word of an entry (Table 05-10). -/
def sideWord (v : View) (m : Module) (cov : List (Nat × Nat)) (t i : Nat) : Nat :=
  let l := if t == 2 then m.tab.learnedAt i |>.map Prod.snd else if t == 7 then m.tab.learned.get? i else none
  let hit := match l with
    | some l => m.tab.hits.contains l.index
    | none => t == 2 && m.tab.hits.contains i
  b2n (entryLocked m v anyRequester (entryKey t i)) + 2 * b2n hit + 4 * b2n l.isSome + 8 * b2n (m.tab.isPoisoned t i) + 16 * (match l with | some l => l.age | none => 0)
    + 64 * b2n (cov.contains (t, i))

/-! ### The shape of the family (R153) -/

def tableOpsInUse (m : Module) : Nat := (m.borul.ops.filter (fun o => o.opcode / 256 == 4)).length

def tableOp (body : Body) : Body := fun c p v w =>
  if 16 ≤ tableOpsInUse w.m then refuse w St.busy else body c p v w

/-- While a route book switch waits, an operation that would change a table is answered IN_PROGRESS (R524). -/
def whileSwitching (body : Body) : Body := fun c p v w =>
  match body c p v w with
  | (x, .fail st d) => (x, .fail st d)
  | r => if switching w.m then refuse w St.inProgress else r

/-- The session that asks, while it lasts. -/
def ownSlot (m : Module) (c : Ctx) : Option Nat :=
  match c.slot with
  | some i => if (slotAt m i).id == c.sid && (slotAt m i).st == .opened then some i else none
  | none => none

def ownStaged (m : Module) (c : Ctx) : List Staged :=
  match ownSlot m c with
  | some i => (slotAt m i).staged
  | none => []

def StagedOp.table : StagedOp → Nat
  | .write t _ _ => t
  | .insert t _ => t
  | .delete t _ => t

def tableInfoBody : Body := tableOp <| need 4 fun c p _ w =>
  let t := leAt p 0 1
  match tableShape t with
  | none => refuse w St.badParam
  | some (size, n) =>
    let mine := ((ownStaged w.m c).filter (fun o => o.op.table == t)).length
    answer (bridgeFetch (bridgePost true w)) (u16 size ++ zeros 2 ++ u32 n ++ u32 (usedEntries w t) ++ u32 mine)

def opTableInfo : OpInfo := { code := 0x0401, role := 1 }
def execTableInfo (r : Request) (s : State) : Host.Outcome State Fault Refusal :=
  run true (request opTableInfo r tableInfoBody) s

/-- Range checks shared by reads and writes: within the table, and in table 0x01 within one region. -/
def rangeStatus (t n first count : Nat) : Option Nat :=
  if n < first + count then some St.outOfRange
  else if t == 1 && decide (first < fastBase) && decide (fastBase < first + count) then some St.badParam
  else none

def tableReadBody : Body := tableOp <| need 12 fun _ p v w =>
  let t := leAt p 0 1
  let first := leAt p 4 4
  let count := leAt p 8 2
  match tableShape t with
  | none => refuse w St.badParam
  | some (_, n) =>
    if count = 0 then refuse w St.outOfRange
    else match rangeStatus t n first count with
      | some st => refuse w st
      | none =>
        let size := entrySize t first
        if 64896 < 8 + count * (4 + size) then refuse w St.badParam
        else
          let idx := (List.range count).map (· + first)
          let w := touch v (idx.map (entryKey t)) (bridgeFetch (bridgePost true w))
          let cov := covered w.m
          answer w (u8 t ++ u8 0 ++ u16 count ++ u32 first
            ++ idx.flatMap (fun i => u32 (sideWord v w.m cov t i) ++ entryBytes size (entryValue v w t i)))

def opTableRead : OpInfo := { code := 0x0402, role := 1 }
def execTableRead (r : Request) (s : State) : Host.Outcome State Fault Refusal :=
  run true (request opTableRead r tableReadBody) s

/-! ### Entry checks (R583): the status that refuses a write, if any -/

def checkIf (bad : Bool) (st : Nat) (rest : Option Nat) : Option Nat := if bad then some st else rest

/-- Fast-lane entry `i` (R125, R131, R252). -/
def checkFast (i e : Nat) : Option Nat :=
  let sp := Fe.sp.get e
  let mask := Fe.mask.get e
  let can := decide (i < fastBase + 64)
  let ports := if can then (2 ^ 36 - 2 ^ 14) else 2 ^ 11 - 1
  checkIf (Fe.spC.get e != 2 ^ 64 - 1 - sp || Fe.maskC.get e != 2 ^ 64 - 1 - mask) St.twinMismatch <|
  checkIf (Fe.kind.on e == can || !signpostOk (Sp.valid.set sp 1)) St.badParam <|
  checkIf (Sp.dest.get sp != 0 || Sp.destList.on sp || Sp.action.get sp != 0) St.badParam <|
  checkIf (Sp.vidAction.get sp != 0 || Sp.vid.get sp != 0 || Sp.pcpTc.on sp) St.badParam <|
  checkIf (bit mask (Fe.port.get e) || mask &&& ports != mask) St.badParam none

/-- Signal route `i` (R276, Table 09-5). -/
def checkRoute (m : Module) (i e : Nat) : Option Nat :=
  let kind := Sr.destKind.get e
  let len := Sr.dstLen.get e + 1
  let idx := Sr.destIndex.get e
  let journalOk := !Sr.dstSigned.on e && ((idx == 0 && len == 16) || (idx == 1 && len == 8))
  checkIf (Sr.ext.on e && (i == 65535 || decide (32 < Sr.srcLen.get e + 1))) St.badParam <|
  checkIf (kind == 3 || (kind == 1 && m.ident.variantG) || (kind == 2 && !journalOk)) St.badParam <|
  checkIf (decide (512 < Sr.dstStart.get e + len)) St.badParam <|
  checkIf (kind == 1 && decide (19 < idx)) St.outOfRange none

/-- A template (R286). The phase is checked in every mode. -/
def checkTpl (e : Nat) : Option Nat :=
  let d := Tp.destPort.get e
  let len := Tp.length.get e
  let mode := Tp.mode.get e
  let fmt := Tp.canFormat.get e
  let grid := mode == 1 || mode == 2
  let period := Tp.period.get e
  checkIf (d == 13 || decide (43 < d) || decide (3 < mode) || fmt == 3 || decide (64 < len)) St.badParam <|
  checkIf (isCanPort d && !canLength (fmt != 0) len) St.badParam <|
  checkIf (isEthPort d && decide (len < 14)) St.badParam <|
  checkIf (isLinPort d && (len == 0 || decide (8 < len) || mode != 0)) St.badParam <|
  checkIf (grid && (decide (period < 1000) || decide (60000000 < period))) St.badParam <|
  checkIf (decide (period ≤ Tp.phase.get e * 1000)) St.badParam none

/-- A toll gate (R180). -/
def checkGate (e : Nat) : Option Nat :=
  let bytes := !Gt.mode.on e
  let cbs := Gt.cbs.get e
  checkIf (bytes && (decide (Gt.pir.get e < Gt.cir.get e) || decide (Gt.pbs.get e < cbs))) St.badParam <|
  checkIf (cbs == 0 || decide (16777215 < cbs) || (bytes && decide (16777215 < Gt.pbs.get e))) St.outOfRange none

/-- A waypoint record (R163). -/
def checkRecord (e : Nat) : Option Nat :=
  checkIf (Wp.state.get e == wpWatch || (List.range 5).any (fun k => decide (6 ≤ (Wp.act k).get e))) St.badParam <|
  checkIf (Wp.ownerFixed.on e && decide (43 < Wp.owner.get e)) St.badParam none

/-- A secured flow (R451): the type of its key slot is the type of the key it holds. -/
def checkFlow (m : Module) (e : Nat) : Option Nat :=
  let slot := Sf.keySlot.get e
  let k := keySlot m slot
  checkIf (Sf.macLen.get e == 3 || Sf.failAction.get e == 3) St.badParam <|
  checkIf ((!Sf.sign.on e && Sf.window.get e == 0) || (Sf.sign.on e && Sf.strip.on e)) St.badParam <|
  checkIf (decide (255 < slot)) St.outOfRange <|
  checkIf (k.st != 0 && k.type == 2) St.badParam none

/-- An identifier map entry (R273). -/
def checkMap (x : Tables) (i e : Nat) : Option Nat :=
  let key := Jm.key.get e
  let kind1 := bit key 57
  let port := fld key 58 6
  let fmt := fld key 54 3
  let twin := (List.range 4).any fun k =>
    let j := i / 4 * 4 + k
    j != i && Jm.valid.on (x.get 0x0E j) && Jm.key.get (x.get 0x0E j) == key
  let mask := Jm.portMask.get e
  checkIf (i / 4 != mapBucket key || twin) St.badParam <|
  checkIf (kind1 && (Jm.bridge.on e || Jm.tunnelOut.on e)) St.badParam <|
  checkIf (Jm.tunnelIn.on e && (!kind1 || Jm.signals.on e || Jm.bridge.on e)) St.badParam <|
  checkIf (Jm.tunnelOut.on e && (isLinPort port || fmt == 4 || fmt == 5)) St.badParam <|
  checkIf (mask &&& (2 ^ 36 - 2 ^ 14) != mask) St.badParam <|
  checkIf (decide (65536 < Jm.firstRoute.get e + Jm.routeCount.get e) || decide (256 < Jm.routeCount.get e))
    St.outOfRange none

/-- A gate control entry (R239, R243, R266). -/
def checkGateEntry (m : Module) (i e : Nat) : Option Nat :=
  let port := i / 520
  let j := i % 520
  let g := gateOf m port
  let flags := gateRow m port 513
  if j < 512 then
    let inUse := (g.gating && g.bank == j / 256) || (g.pending.isSome && Ge.bank.get flags == j / 256)
    let t := Ge.interval.get e
    checkIf (Ge.op.get e == 3) St.badParam <|
    checkIf (t != 0 && (decide (t < 32) || decide (1000000000 < t))) St.outOfRange <|
    checkIf inUse St.wrongState none
  else if j == 512 then
    let c := Ge.cycle.get e
    checkIf (decide (c < 1000) || decide (1000000000 < c) || decide (c < Ge.ext.get e)) St.outOfRange none
  else if j == 513 then
    let n := Ge.length.get e
    let bank := Ge.bank.get e
    let hole := (List.range (min n 256)).any (fun k => Ge.interval.get (gateRow m port (256 * bank + k)) == 0)
    checkIf (n == 0 || decide (256 < n)) St.badParam <|
    checkIf (Ge.enable.on e && Ge.change.on e && ((g.gating && g.bank == bank) || hole)) St.badParam none
  else if j == 516 then
    let ms := Ge.verifyTime.get e
    checkIf (Ge.preEnable.on e && decide (7 < port)) St.badParam <|
    checkIf (ms == 0 || decide (128 < ms) || decide (1000000 < Ge.holdAdv.get e) || decide (1000000 < Ge.relAdv.get e))
      St.outOfRange none
  else some St.badParam

/-- Every check of a written entry: with its valid bit set, and always where a table has no valid bit (R583). -/
def checkEntry (m : Module) (t i e : Nat) : Option Nat :=
  if t == 1 then
    if fastBase ≤ i then (if Fe.valid.on e then checkFast i e else none)
    else if signpostOk e then none else some St.badParam
  else if t == 2 then if signpostOk (He.sp.get e) then none else some St.badParam
  else if t == 3 then if signpostOk (Te.sp.get e) then none else some St.badParam
  else if t == 9 then if Sr.valid.on e && !isExtension m.tab i then checkRoute m i e else none
  else if t == 0x0A then if Tp.valid.on e then checkTpl e else none
  else if t == 0x0B then if Gt.valid.on e then checkGate e else none
  else if t == 0x0C then if Wp.valid.on e then checkRecord e else none
  else if t == 0x0D then if Sf.valid.on e then checkFlow m e else none
  else if t == 0x0E then if Jm.valid.on e then checkMap m.tab i e else none
  else if t == 0x0F then checkGateEntry m i e
  else none

/-! ### What a write stores (reserved fields read as 0, R6) -/

/-- Clear bits `[lo + len - 1 : lo]`. -/
def clearBits (l : List (Nat × Nat)) (e : Nat) : Nat := l.foldl (fun e p => setFld e p.1 p.2 0) e

/-- Reserved fields of an entry, as (lowest bit, length). -/
def reservedOf (x : Tables) (t i e : Nat) : List (Nat × Nat) :=
  if t == 1 then
    if i < fastBase then [(0, 1)]
    else (if Fe.kind.on e then [(48, 8), (76, 52)] else [(30, 26), (64, 64)]) ++ [(128, 1)]
  else if t == 2 then [(64, 1)]
  else if t == 3 then [(320, 1)]
  else if t == 4 then [(41, 7), (60, 4), (64, 1)]
  else if t == 5 then [(137, 7), (156, 36), (192, 1)]
  else if t == 6 then [(44, 20)]
  else if t == 9 then if isExtension x i then [] else [(61, 3), (75, 5), (117, 11)]
  else if t == 0x0A then [(7, 1), (15, 1)]
  else if t == 0x0E then [(68, 3), (76, 4), (227, 29)]
  else if t == 0x0F then
    let j := i % 520
    if j < 512 then [(10, 22), (64, 64)] else if j == 513 then [(3, 13), (32, 96)]
    else if j == 516 then [(4, 12), (96, 32)] else []
  else []

/-- The stored record of a waypoint write: H and H/M fields, the profile with state 3, learning with state 1 (R163). -/
def writtenRecord (m : Module) (t0 i e : Nat) : Nat :=
  let old := wpGet m i
  let head := e % 2 ^ 64 - e % 2 ^ 21
  let r := setFld old 0 64 (Wp.kind.set head (Wp.kind.get old))
  if Wp.state.get e == wpFrozen then
    let r := if Wp.state.get old < wpWatch then setAll r [(Wp.tail, 0), (Wp.forwardKnown, 0)] else r
    setAll r [(Wp.justLearned, 0), (Wp.kind, Wp.kind.get e), (Wp.period, Wp.period.get e), (Wp.minGap, Wp.minGap.get e),
      (Wp.jitter, Wp.jitter.get e), (Wp.lenMin, Wp.lenMin.get e), (Wp.lenMax, Wp.lenMax.get e)]
  else if Wp.state.get e == wpLearn && Wp.valid.on e then startLearning r t0
  else r

/-- A written toll gate starts with full buckets (R180). -/
def writtenGate (t2 e : Nat) : Nat :=
  let frames := Gt.mode.on e
  let pir := if frames then 0 else Gt.pir.get e
  let pbs := if frames then 0 else Gt.pbs.get e
  setAll (clearBits [(235, 21)] e)
    [(Gt.pir, pir), (Gt.pbs, pbs), (Gt.tc, Gt.cbs.get e * 256), (Gt.tp, pbs * 256), (Gt.last, t2), (Gt.lastMs, t2 / 2 ^ 32)]

/-- A written secured flow: F only with set_freshness, and the fields the module maintains stay (Table 15-5). -/
def writtenFlow (old e : Nat) : Nat :=
  let f := if Sf.setFreshness.on e then Sf.freshness.get e else Sf.freshness.get old
  setAll (clearBits [(7, 1), (48, 16), (95, 1), (224, 32)] e)
    [(Sf.freshness, f), (Sf.lastAccept, Sf.lastAccept.get old), (Sf.lastMs, Sf.lastMs.get old),
     (Sf.fails, Sf.fails.get old)]

def storedEntry (b : Base) (m : Module) (t i e : Nat) : Nat :=
  if t == 0x0B then writtenGate b.now e
  else if t == 0x0C then writtenRecord m b.time.tb0.full i e
  else if t == 0x0D then writtenFlow (flowGet m i) e
  else
    let e := clearBits (reservedOf m.tab t i e) e
    if t == 1 && decide (fastBase ≤ i) && Fe.valid.on e then setFld e 192 1 1 else e

/-- A written NAME entry: the module's own fields stay while NAME and channel do (R107). -/
def writeName (i e : Nat) (w : W) : W :=
  let old := nameEntry w.m i
  let name := e % 2 ^ 64
  let ch := fld e 72 8
  let valid := bit e 64
  let kept := valid && old.valid && old.name == name && old.channel == ch
  let new : NameEntry := { (if kept then old else {}) with name := name, valid := valid, bound := bit e 65, channel := ch }
  let w := w.name i (fun _ => new)
  if kept then w else endBindings (fun k => k == i) w

/-- Write one entry, with what its table does at a write. -/
def writeEntry (v : View) (t i e : Nat) (w : W) : W :=
  if t == 8 && decide (2048 ≤ i) then
    writeName (i - 2048) e (w.tab fun x => x.put 8 i (entryDefault 8 i))
  else
    let w := w.tab fun x => x.put t i (storedEntry v w.m t i e)
    if t == 0x0A then writtenTpl v i w
    else if t == 0x0E then startMap v i w
    else if t == 0x0D && Sf.setFreshness.on e then
      w.keys fun k => { k with mram := k.mram.put i (Sf.freshness.get e) }
    else if t == 0x0F && i % 520 == 513 then gateControl v (i / 520) w
    else if t == 0x0F && i % 520 == 516 then preemptControl (i / 520) w
    else w

/-- Check entries in order, each against the tables with the ones before it written. -/
def checkAll (v : View) (t : Nat) : Nat → List Nat → Module → Option Nat
  | _, [], _ => none
  | i, e :: r, m =>
    match checkEntry m t i e with
    | some st => some st
    | none => checkAll v t (i + 1) r { m with tab := m.tab.put t i (storedEntry v m t i e) }

/-- The table DMA engine (requester 12) takes a list of entries over the bridge and writes each in its closure. -/
def dmaWrite (v : View) (l : List (Nat × Nat)) (w : W) : W :=
  bridgePost false (lockEntries v 12 l (bridgeFetch (bridgePost true w)))

/-! ### Staging (R148) -/

/-- Closures that the operations of a set needed when they were staged (R148). -/
def recordedCost (l : List Staged) : Nat := (l.map Staged.closures).sum

/-- Add operations to the own staged set, each with its cost: the module, the result of the last, or the status that
refuses all. -/
def stage (c : Ctx) (ops : List StagedOp) (w : W) : W × Except Nat Nat :=
  let have_ := ownStaged w.m c
  let seed := seedOf w.m
  let kicks := kicksOf w.m
  let (x, _) := planLoose seed kicks (have_.map Staged.op) w.m.tab
  match planSet seed kicks ops x 0 with
  | .error (.noPlace, _) => (w.count C.hash_insert_fail, .error St.busy)
  | .error (.status st, _) => (w, .error st)
  | .ok (_, res, costs) =>
    if 512 < have_.length + ops.length || !costFits w.m (recordedCost have_ + costs.sum) then (w, .error St.busy)
    else match ownSlot w.m c with
      | none => (w, .ok res)
      | some i => (w.slot i (fun s => { s with staged := s.staged ++ (ops.zip costs).map (fun p => ⟨p.1, p.2⟩) }), .ok res)

def modified (w : W) : W := w.mod fun x => { x with configModified := true }

/-! ### TABLE_WRITE (R156) -/

/-- The entries of a payload from byte 8 on. -/
def payloadEntries (size count : Nat) (p : List Byte) : List Nat :=
  (List.range count).map (fun k => leAt p (8 + k * size) size)

def tableWriteBody : Body := whileSwitching <| tableOp <| need 8 fun c p v w =>
  let t := leAt p 0 1
  let count := leAt p 2 2
  let first := leAt p 4 4
  match tableShape t with
  | none => refuse w St.badParam
  | some (_, n) =>
    if t == 4 || t == 5 || t == 7 then refuse w St.badParam
    else if count = 0 then refuse w St.badLength
    else match rangeStatus t n first count with
      | some st => refuse w st
      | none =>
        let size := entrySize t first
        if p.length != 8 + count * size then refuse w St.badLength
        else
          let es := payloadEntries size count p
          let done := u16 count ++ zeros 2
          match checkAll v t first es w.m with
          | some st => refuse w st
          | none =>
            if t == 2 || t == 3 then
              match stage c (es.zipIdx.map (fun q => .write t (first + q.2)
                  (clearBits (reservedOf w.m.tab t (first + q.2) q.1) q.1))) w with
              | (w, .error st) => refuse w st
              | (w, .ok _) => answer w done
            else
              let w := dmaWrite v ((List.range count).map (fun k => (t, first + k))) w
              answer (modified (w.each es.zipIdx fun q w => writeEntry v t (first + q.2) q.1 w)) done

def opTableWrite : OpInfo := { code := 0x0403, role := 2, post := true }
def execTableWrite (r : Request) (s : State) : Host.Outcome State Fault Refusal :=
  run true (request opTableWrite r tableWriteBody) s

/-! ### TABLE_INSERT and TABLE_DELETE -/

/-- The LPM entry of a payload, and what refuses it (R145). -/
def lpmStatus (t e : Nat) : Option Nat :=
  let l := lpmOf t e
  checkIf (decide (addrBits t < l.length)) St.outOfRange <|
  checkIf (!lpmOk t e) St.badParam none

/-- The entries of an ordered table that a change of it writes, ascending. An insert writes them from the far end, each
new place before the old one (R145). -/
def changedFrom (x y : Tables) (t : Nat) : List (Nat × Nat) :=
  ((y.listed t ++ x.listed t).eraseDups.filter (fun i => x.get t i != y.get t i || x.isPoisoned t i != y.isPoisoned t i)).map
    (fun i => (t, i))

def tableInsertBody : Body := whileSwitching <| tableOp <| need 4 fun c p v w =>
  let t := leAt p 0 1
  if t != 2 && t != 4 && t != 5 then refuse w St.badParam
  else
    let size := entrySize t 0
    if p.length < 4 + size then refuse w St.badLength
    else
      let e0 := leAt p 4 size
      let e := clearBits (reservedOf w.m.tab t 0 e0) e0
      let sp := if t == 2 then He.sp.get e else if t == 4 then L4.sp.get e else L6.sp.get e
      if !Sp.valid.on sp || !signpostOk sp then refuse w St.badParam
      else if t == 2 then
        match stage c [.insert t e] w with
        | (w, .error st) => refuse w st
        | (w, .ok _) => answer w (u32 0xFFFFFFFF)
      else match lpmStatus t e with
        | some st => refuse w st
        | none => match w.m.tab.insertLpm t e with
          | none => refuse w St.busy
          | some (x, i) => answer (modified (dmaWrite v (changedFrom w.m.tab x t).reverse (w.tab fun _ => x))) (u32 i)

def opTableInsert : OpInfo := { code := 0x0404, role := 2, post := true }
def execTableInsert (r : Request) (s : State) : Host.Outcome State Fault Refusal :=
  run true (request opTableInsert r tableInsertBody) s

/-- Remove a learned entry and its hash slot. -/
def dropLearned (v : View) (l : Learned) (w : W) : W :=
  dmaWrite v [(2, l.index)] (w.tab fun x => (x.unlearn l.index).put 2 l.index 0)

def learnedByKey (x : Tables) (key : Nat) : Option (Nat × Learned) := x.learned.find? (fun p => p.2.key == key)

def tableDeleteBody : Body := whileSwitching <| tableOp <| need 4 fun c p v w =>
  let t := leAt p 0 1
  let size := if t == 2 || t == 4 || t == 7 then 8 else 24
  if !([2, 4, 5, 7] : List Nat).contains t then refuse w St.badParam
  else if p.length < 4 + size then refuse w St.badLength
  else if t == 2 then
    match stage c [.delete t (leAt p 4 8)] w with
    | (w, .error st) => refuse w st
    | (w, .ok r) => answer w (u8 r ++ zeros 3)
  else if t == 7 then
    match learnedByKey w.m.tab (macKey (leAt p 10 2 % 4096) (beAt p 4 6)) with
    | some (_, l) => answer (modified (dropLearned v l w)) (u8 1 ++ zeros 3)
    | none => answer (modified w) (u8 0 ++ zeros 3)
  else
    let e := leAt p 4 size
    match lpmStatus t e with
    | some st => refuse w st
    | none =>
      let (x, r) := w.m.tab.deleteLpm t e
      answer (modified (dmaWrite v (changedFrom w.m.tab x t) (w.tab fun _ => x))) (u8 (b2n r) ++ zeros 3)

def opTableDelete : OpInfo := { code := 0x0405, role := 2, post := true }
def execTableDelete (r : Request) (s : State) : Host.Outcome State Fault Refusal :=
  run true (request opTableDelete r tableDeleteBody) s

/-! ### TABLE_SEARCH -/

/-- The first valid, unpoisoned entry of an ordered table that satisfies a condition. -/
def firstClean (x : Tables) (t : Nat) (ok : Nat → Bool) : Option Nat :=
  (x.listed t).find? (fun i => !x.isPoisoned t i && ok (x.get t i))

def searchTable (m : Module) (t : Nat) (p : List Byte) : Option Nat :=
  let x := m.tab
  if t == 2 then x.findKey (seedOf m) (leAt p 4 8)
  else if t == 7 then (learnedByKey x (leAt p 4 8)).map Prod.fst
  else if t == 3 then firstClean x 3 (fun e => tcamMatches e (leAt p 4 20))
  else if t == 4 then firstClean x 4 (fun e => lpmMatches 4 (lpmOf 4 e) (leAt p 4 4) (leAt p 8 2))
  else firstClean x 5 (fun e => lpmMatches 5 (lpmOf 5 e) (beAt p 4 16) (leAt p 20 2))

def tableSearchBody : Body := tableOp <| need 4 fun _ p v w =>
  let t := leAt p 0 1
  if !([2, 3, 4, 5, 7] : List Nat).contains t then refuse w St.badParam
  else
    let n := if t == 2 || t == 7 then 8 else if t == 3 then 20 else if t == 4 then 6 else 18
    if p.length < 4 + n then refuse w St.badLength
    else
      let w := bridgeFetch (bridgePost true w)
      let w := if t == 2 then touch v ((keySlots (seedOf w.m) (leAt p 4 8)).map (entryKey 2)) w else touchTable v t w
      let size := entrySize t 0
      match searchTable w.m t p with
      | none => answer w (zeros (12 + size))
      | some i =>
        answer w (u8 1 ++ zeros 3 ++ u32 i ++ u32 (sideWord v w.m (covered w.m) t i)
          ++ entryBytes size (entryValue v w t i))

def opTableSearch : OpInfo := { code := 0x0406, role := 1, rev := 2 }
def execTableSearch (r : Request) (s : State) : Host.Outcome State Fault Refusal :=
  run true (request opTableSearch r tableSearchBody) s

/-! ### TABLE_COMMIT (R149, R150) -/

/-- commit_generation, operations and pause. -/
def commitReply (gen ops pause : Nat) : List Byte := u32 gen ++ u16 ops ++ zeros 2 ++ u32 pause

def tableCommitBody : Body := whileSwitching <| tableOp <| need 8 fun c p _ w =>
  let check := leAt p 0 1
  let gen := leAt p 4 4
  if 1 < check then refuse w St.badParam
  else if check = 1 ∧ gen ≠ w.m.tab.generation then refuse w St.counterStale
  else match ownStaged w.m c with
    | [] => answer w (commitReply w.m.tab.generation 0 0)
    | _ => (w, .wait (.commit (if check = 1 then some gen else none)) [])

def opTableCommit : OpInfo := { code := 0x0407, role := 2, post := true }
def execTableCommit (r : Request) (s : State) : Host.Outcome State Fault Refusal :=
  run true (request opTableCommit r tableCommitBody) s

/-- A commit that could not be applied keeps its set (R149 step 2). -/
def failCommit (v : View) (o : Op) (st : Nat) (detail : List Byte) (w : W) : W :=
  finishOp v o st detail (w.count C.commit_failed)

/-- The staged set that a waiting commit applies: what its session has staged by then, and nothing once the set has
been discarded (R150). -/
def commitSet (m : Module) (o : Op) : List StagedOp :=
  match m.borul.slots.find? (fun s => s.id == o.sid && s.st == .opened) with
  | some s => s.staged.map Staged.op
  | none => []

/-- Apply an accepted commit (R149); of an empty set, only the reply of R150. -/
def applyCommit (v : View) (o : Op) (set : List StagedOp) (w : W) : W :=
  if set.isEmpty then finishOp v o St.ok (commitReply w.m.tab.generation 0 0) w
  else match planSet (seedOf w.m) (kicksOf w.m) set w.m.tab 0 with
  | .error (.noPlace, _) => failCommit v o St.busy [] (w.count C.hash_insert_fail)
  | .error (.status st, k) => failCommit v o st (u16 k ++ zeros 2) w
  | .ok (x, _, costs) =>
    let n := costs.sum
    if !costFits w.m n then failCommit v o St.busy [] w
    else
      let w := dmaWrite v (planLoose (seedOf w.m) (kicksOf w.m) set w.m.tab).2 w
      let gen := (w.m.tab.generation + 1) % 2 ^ 32
      let pause := cyclesNs (setCost n)
      let w := (w.tab fun _ => { x with generation := gen, lastPause := pause }).count C.commit_applied
      let w := w.borul fun b => { b with slots := b.slots.map fun s =>
        if s.id == o.sid && s.st == .opened then { s with staged := [] } else s }
      finishOp v o St.ok (commitReply gen set.length pause) (modified w)

def isCommit : OpKind → Bool
  | .commit .. => true
  | _ => false

/-- COMMIT_APPLY: the commit accepted first is applied. -/
def commitApplyCore (v : View) (w : W) : W :=
  match w.m.borul.ops.find? (fun o => isCommit o.kind) with
  | none => w
  | some o => match o.kind with
    | .commit gen =>
      if gen.any (· != w.m.tab.generation) then finishOp v o St.counterStale [] w else applyCommit v o (commitSet w.m o) w
    | _ => w

def execCommitApply (s : State) : Host.Outcome State Fault Refusal := run true commitApplyCore s

/-! ### TABLE_FLUSH and TABLE_DISCARD -/

def tableFlushBody : Body := whileSwitching <| tableOp <| need 16 fun _ p v w =>
  let mask := leAt p 0 8
  let vid := leAt p 8 2
  let hit := w.m.tab.learned.filter (fun q => bit mask q.2.port && (vid == 0xFFFF || fld q.2.key 48 12 == vid))
  answer (modified (w.each hit fun q w => dropLearned v q.2 w)) (u32 hit.length)

def opTableFlush : OpInfo := { code := 0x0408, role := 2, rev := 2, post := true }
def execTableFlush (r : Request) (s : State) : Host.Outcome State Fault Refusal :=
  run true (request opTableFlush r tableFlushBody) s

def tableDiscardBody : Body := tableOp fun c _ _ w =>
  let n := (ownStaged w.m c).length
  let w := match ownSlot w.m c with
    | some i => w.slot i (fun s => { s with staged := [] })
    | none => w
  answer w (u16 n ++ zeros 2)

def opTableDiscard : OpInfo := { code := 0x0409, role := 2, rev := 3 }
def execTableDiscard (r : Request) (s : State) : Host.Outcome State Fault Refusal :=
  run true (request opTableDiscard r tableDiscardBody) s

end Sys2Proof.Machine
end

