-- ==== Sys2Proof/Machine/Ethernet.lean ====
section
/-! DEFINITION. Ethernet transmission (spec/08, R233-R247, R585), links, preemption verification, PLCA, MKA and TC10
(spec/11, R337-R353). -/

namespace Sys2Proof.Machine

/-! ### MACsec transmission (R346-R352) -/

/-- What the MACsec engine does with a frame about to be sent: it leaves in clear, under an association whose next packet
number it takes, or, answered none, not at all: no frame that requires protection leaves without it (R350, R352). -/
def macsecTake (v : View) (port : Nat) (bs : List Byte) (w : W) : W × Option (Option Sa) :=
  if !needsMacsec w.m port bs then (w, some none)
  else
    match (ethAt w.m port).txSa with
    | none => (w, none)
    | some sa =>
      if maxPn w.m port < sa.pn then
        let w := w.count C.macsec_out_pn_exhausted port
        let w := if (ethAt w.m port).exhausted then w else w.event v 0x0B03 2 (u8 port ++ zeros 3 ++ u32 1)
        (w.eth port fun e => { e with exhausted := true }, none)
      else
        let due := decide ((maxPn w.m port + 1) * prm w.m P.eth_sak_rekey_fraction port < (sa.pn + 1) * 256)
        ((w.eth port fun e => { e with txSa := some { sa with pn := sa.pn + 1 }, rekey := e.rekey || due }).count
          C.macsec_out_protected port, some (some sa))

/-- A whole frame as it leaves through the MACsec engine. -/
def macsecSend (v : View) (port : Nat) (bs : List Byte) (w : W) : W × Option (List Byte) :=
  match macsecTake v port bs w with
  | (w, some (some sa)) => (w, some (macsecFrame w.m port sa bs))
  | (w, some none) => (w, some bs)
  | (w, none) => (w, none)

/-- SCI of a port (R346). -/
def ownSci (m : Module) (port : Nat) : Nat := portMac m port * 65536 + 1

def macsecState (v : View) (port st : Nat) (w : W) : W :=
  let e := ethAt w.m port
  if e.macsec == st then w
  else
    (w.eth port fun e => { e with macsec := st }).event v 0x0B02 (if st == 3 then 2 else 0)
      (u8 port ++ u8 st ++ u8 e.peers ++ u8 e.txAn)

/-- Bytes of a key of the port's cipher suite (R346). -/
def sakLength (m : Module) (port : Nat) : Nat := if prm m P.eth_macsec_cipher port % 2 == 0 then 16 else 32

/-- Install a new SAK for reception (R351): up to 4 receive channels, two associations each (R346). Transmission under it
begins with the port's next MKPDU (DESIGN CHOICE, notes/assumptions/113.md). A key that the cipher suite cannot use installs
nothing. -/
def installSak (port an : Nat) (scis : List Nat) (key : List Byte) (w : W) : W :=
  let own := ownSci w.m port
  if key.length != sakLength w.m port then w
  else w.eth port fun e => { e with
    rxSas := (scis.take 4).flatMap (fun s =>
      ((e.rxSas.filter (fun x => x.sci == s && x.an != an)).take 1) ++ [⟨an, s, key, 1⟩])
    txNext := some ⟨an, own, key, 1⟩ }

/-- Transmission changes to the association installed for reception at the MKPDU before (R351). -/
def switchSak (v : View) (port : Nat) (w : W) : W :=
  match (ethAt w.m port).txNext with
  | none => w
  | some sa => macsecState v port 2 (w.eth port fun e => { e with
      txSa := some sa, txAn := sa.an, txNext := none, rekey := false, exhausted := false })

/-- The module's MKPDU is due: the hello time has passed since the port's last one. -/
def mkaDue (m : Module) (port now : Nat) : Bool :=
  match (ethAt m port).mkaAt with
  | some t => decide (t + prm m P.eth_mka_hello_time port * 1000 ≤ now)
  | none => true

/-- A SAK of the key server's own making, when its live peers have none or the transmit PN asks for another (R351): the next
association number, and octets that the spec does not give. -/
def freshSak (v : View) (port : Nat) (w : W) : W × Option (Nat × List Byte) :=
  let e := ethAt w.m port
  if !e.keyServer || e.peers == 0 || e.txNext.isSome || !(e.txSa.isNone || e.rekey) then (w, none)
  else
    let an := if e.txSa.isNone then 0 else (e.txAn + 1) % 4
    let (w, key) := freeBytes v (sakLength w.m port) w
    (w, some (an, key))

/-- What MKA has agreed on a port since its last MKPDU, and the SAK that the module distributes. -/
def mkaAgreed (v : View) (port : Nat) (r : MkaReport) (w : W) : W × Option (Nat × List Byte) :=
  let w := w.eth port fun e => { e with peers := r.peers, keyServer := r.keyServer }
  match r.sak with
  | some k => (if r.peers = 0 then w else installSak port (r.an % 4) r.scis k w, none)
  | none =>
    match freshSak v port w with
    | (w, some (an, k)) => (installSak port an r.scis k w, some (an, k))
    | (w, none) => (w, none)

/-- One port at MKA_HELLO: what MKA has agreed since the last, and an MKPDU under the CAK. -/
def mkaPort (v : View) (l : List MkaReport) (port : Nat) (w : W) : W :=
  if !prmB w.m P.eth_macsec_enable port || !mkaDue w.m port v.now then w
  else
    let slot := prm w.m P.eth_mka_cak_slot port
    let w := if (ethAt w.m port).macsec == 0 then macsecState v port 1 w else w
    if slot == 65535 then w
    else match useKey v slot 2 Attr.derive w with
      | (w, none) => w
      | (w, some _) =>
        let (w, own) := match l.find? (fun r => r.port == port) with
          | some r => mkaAgreed v port r (switchSak v port w)
          | none => (switchSak v port w, none)
        let w := w.eth port fun e => { e with mkaAt := some v.now }
        if linkUsable w.m port then w.send (.mkpdu port slot (prm w.m P.eth_mka_priority port) own) else w

/-- MKA_HELLO (R351): no MKPDU while the firmware does not run. -/
def mkaHelloCore (l : List MkaReport) (v : View) (w : W) : W :=
  if !managed w.m || !fullService w.m then w else w.each (List.range 8) fun p w => mkaPort v l p w

def execMkaHello (l : List MkaReport) (s : State) : Host.Outcome State Fault Refusal :=
  run (l.all (fun r => decide (r.port < 8))) (mkaHelloCore l) s

/-- MKA_LIFE_TIMEOUT (R352): no live peer for the MKA life time. -/
def mkaLifeTimeoutCore (port : Nat) (v : View) (w : W) : W :=
  if !prmB w.m P.eth_macsec_enable port || !managed w.m then w
  else macsecState v port 3 (w.eth port fun e => { e with peers := 0 })

def execMkaLifeTimeout (port : Nat) (s : State) : Host.Outcome State Fault Refusal :=
  run (decide (port < 8)) (mkaLifeTimeoutCore port) s

/-! ### ETH_TX_START (R235-R247, R585) -/

/-- The link drops whatever reaches a head (R338). -/
def discardsAll (m : Module) (port : Nat) : Bool := !linkUsable m port

/-- R212: the frame may start now. One that is still arriving may when its ingress line is not slower, `cut_start` bytes
are written (2,048 means store-and-forward, R213), and it is not marked truncated. -/
def mayCutIn (m : Module) (v : View) (port : Nat) (f : Frame) : Bool :=
  let cut := prm m P.fabric_cut_start 0 port
  !f.unfinished || (decide (f.port < 11) && decide ((ethAt m port).rate ≤ (ethAt m f.port).rate)
    && decide (cut < 2048) && decide (cut ≤ capturedBytes m v f) && !f.trunc)

/-- The length L, without FCS, by which the discard rules of R242 and R247 judge a head: of a frame that may start while it
still arrives, that of a frame of the ingress port's maximum size (R236, which counts the FCS apart; DEDUCED,
notes/assumptions/89.md). -/
def discardLen (m : Module) (port q : Nat) (c : Copy) : Nat :=
  if c.frame.unfinished then prm m P.eth_max_frame_size c.frame.port - 4 else (egressEdit m port q c).length

/-- The discard rule a head frame meets first (R585), as its counter and index. A frame still arriving that may not start
before its end is judged at its end; R238 judges stored lengths only. -/
def headDiscard (m : Module) (v : View) (port q : Nat) (c : Copy) : Option (CRef × Nat) :=
  let len := discardLen m port q c
  let sdu := prm m P.egress_max_sdu port q
  if discardsAll m port then some (C.eth_link_down_drop, port)
  else if c.frame.fmt != 8 then some (C.egress_format_drop, port)
  else if !mayCutIn m v port c.frame then none
  else if sdu != 0 && decide (sdu < len) then some (C.egress_max_sdu_drop, queueKey port q)
  else if prm m P.eth_max_frame_size port < len + 4 then some (C.egress_oversize, port)
  else if c.frame.unfinished then none
  else match longestOpen m port q with
    | some t => if t < txTime m port len then some (C.egress_gate_oversize, queueKey port q) else none
    | none => none

/-- Discard heads of a queue until one may be sent. -/
def discardHeads (v : View) (port q : Nat) : Nat → W → W
  | 0, w => w
  | k + 1, w =>
    match queueOf w.m port q with
    | [] => w
    | c :: r =>
      match headDiscard w.m v port q c with
      | none => w
      | some (n, i) => discardHeads v port q k ((dropRef v c.frame.seq (setQueue port q r w)).count n i)

/-- The class is preemptable while preemption is active (R243). -/
def preemptable (m : Module) (port q : Nat) : Bool := preemptionActive m port && preemptableClass m port q

/-- The length L at which R236 judges a frame: the ingress maximum while it still arrives. -/
def judgedLen (m : Module) (port q : Nat) (c : Copy) : Nat :=
  if c.frame.unfinished then prm m P.eth_max_frame_size c.frame.port else (egressEdit m port q c).length

/-- R235: the head of class `q` is eligible. -/
def headEligible (m : Module) (v : View) (b : Base) (port q : Nat) : Bool :=
  match queueOf m port q with
  | [] => false
  | c :: _ =>
    mayCutIn m v port c.frame && !classStopped m port q b.now
      && gateOpen m port q b.time.tb0.full (txTime m port (judgedLen m port q c))
      && (!shaped m port q || decide (0 ≤ creditAt m b port q))
      && (!preemptable m port q || !holdInForce m port b.time.tb0.full)

/-- Put the head of class `q` on the wire; a failed tile read or the MACsec engine discards it instead. -/
def startHead (v : View) (port q : Nat) (t : Option TileFault) (w : W) : W :=
  match queueOf w.m port q with
  | [] => w
  | c :: r =>
    let bs := egressEdit w.m port q c
    let w := corrected c.frame t (setQueue port q r w)
    match readFault w.m c.frame t with
    | some x => settle v (dropRef v c.frame.seq (tileFail v 7 c.frame x w))
    | none =>
      match macsecTake v port bs w with
      | (w, none) => settle v (dropRef v c.frame.seq w)
      | (w, some sa) =>
        let w := if shaped w.m port q then setCredit port q (creditAt w.m (w.base v) port q) v.now w else w
        let x : EthTx := { copy := c, tc := q, preemptable := preemptable w.m port q, start := v.now, sa := sa
                           bytes := sentBytes w.m port sa c.frame.unfinished bs }
        w.fab fun y => { y with tx := y.tx.put port x }

/-- A preempted frame goes on when no express frame is eligible and no HOLD is in force; HOLD acts only while preemption is
active (R243). -/
def resumeTx (v : View) (port : Nat) (w : W) : W :=
  match w.m.fab.preempted.get? port with
  | none => w
  | some x =>
    if preemptionActive w.m port && holdInForce w.m port (w.base v).time.tb0.full then w
    else
      let w := if shaped w.m port x.tc then setCredit port x.tc (creditAt w.m (w.base v) port x.tc) v.now w else w
      w.fab fun y => { y with preempted := y.preempted.erase port, tx := y.tx.put port { x with start := v.now } }

/-! ### PLCA (R344) -/

/-- The port runs PLCA and not CSMA/CD: as the coordinator, or while it sees the coordinator's beacons (R344, R345). -/
def plcaRuns (m : Module) (port : Nat) : Bool :=
  (port == 8 || port == 9) && prmB m P.eth_plca_enable port && linkUsable m port
    && (prm m P.eth_plca_node_id port == 0 || (ethAt m port).beacons)

/-- Bit times of the port, in ns. -/
def bitTimes (m : Module) (port n : Nat) : Nat := 1000 * n / max 1 (ethAt m port).rate

/-- The port's opportunity goes on: a burst, another frame of which may start while its timer runs. -/
def burstOpen (m : Module) (port now : Nat) : Bool :=
  match (ethAt m port).opp with
  | some o => decide (0 < o.frames) && decide (o.frames ≤ prm m P.eth_plca_burst_count port) && decide (now ≤ o.until_)
  | none => false

/-- The next opportunity can have come: each other node of the segment has had one, at least as long as the opportunity
timer, since the port's last. -/
def nextOpportunity (m : Module) (port now : Nat) : Bool :=
  match (ethAt m port).opp with
  | some o => decide (o.until_ + bitTimes m port ((prm m P.eth_plca_node_count port - 1) * prm m P.eth_plca_to_timer port) ≤ now)
  | none => true

/-- A node of a PLCA segment has its opportunity, for which the coordinator opens the cycle with a beacon; none when it
cannot have come yet (R344). -/
def takeOpportunity (v : View) (port : Nat) (w : W) : Option W :=
  if !plcaRuns w.m port || burstOpen w.m port v.now then some w
  else if !nextOpportunity w.m port v.now then none
  else
    let w := if prm w.m P.eth_plca_node_id port == 0 then w.send (.plcaBeacon port) else w
    let until_ := v.now + bitTimes w.m port (prm w.m P.eth_plca_to_timer port)
    some (w.eth port fun e => { e with opp := some { until_ } })

/-- A frame that starts lengthens the port's opportunity to its own end, and by the burst timer while the burst may go
on. -/
def noteStart (v : View) (port : Nat) (w : W) : W :=
  match w.m.fab.tx.get? port with
  | none => w
  | some x =>
    if !plcaRuns w.m port || x.start != v.now then w
    else w.eth port fun e => { e with opp := e.opp.map (fun o => {
      until_ := v.now + txTime w.m port x.bytes.length
        + (if o.frames < prm w.m P.eth_plca_burst_count port then bitTimes w.m port (prm w.m P.eth_plca_burst_timer port) else 0)
      frames := o.frames + 1 }) }

/-! ### The MAC begins a frame (R235-R247) -/

/-- The eligible head of the highest class starts, or a preempted frame goes on. -/
def beginFrame (port : Nat) (t : Option TileFault) (v : View) (w : W) : W :=
  let w := settle v (w.each (List.range 8) fun q w => discardHeads v port q ((queueOf w.m port q).length) w)
  if !wireFree w.m port v.now then w
  else
    let w := if holdInForce w.m port v.time.tb0.full then preemptNow v port w else w
    let b := w.base v
    let paused := (w.m.fab.preempted.get? port).isSome || (w.m.fab.tx.get? port).isSome
    let classes := (List.range 8).reverse.filter (fun q => headEligible w.m v b port q && !(paused && preemptable w.m port q))
    match classes with
    | q :: _ => startHead v port q t (preemptNow v port w)
    | [] => if (w.m.fab.tx.get? port).isSome then w else resumeTx v port w

/-- ETH_TX_START: the MAC can begin a frame (on E8 and E9: its transmit opportunity has come), or a preemptable frame on
the wire has reached a point where it can be cut: for an express frame, or for a HOLD (R243). -/
def ethTxStartCore (port : Nat) (t : Option TileFault) (v : View) (w : W) : W :=
  if !powered w.m then w
  else match takeOpportunity v port w with
    | none => w
    | some w => if portHeld w.m port then w else noteStart v port (beginFrame port t v w)

def execEthTxStart (port : Nat) (t : Option TileFault) (s : State) : Host.Outcome State Fault Refusal :=
  run (isEthPort port) (ethTxStartCore port t) s

/-! ### ETH_TX_COMPLETE (R204, R245, R246) -/

/-- An underrun raises cut_start by 128 bytes up to 2,048, outside the parameter generation (R246). -/
def underrun (v : View) (port : Nat) (w : W) : W :=
  let old := prm w.m P.fabric_cut_start 0 port
  let new := min (old + 128) 2048
  let w := w.count C.egress_underrun port
  let w := if old < new then { w with m := setPrm w.m P.fabric_cut_start 0 port new }.count C.cut_start_raise port else w
  w.limited v 0x0801 1 port 1000000000 fun n => u8 port ++ u8 0 ++ u16 new ++ u32 n

/-- The credit of a class whose queue is empty is never positive. -/
def creditIdle (v : View) (port q : Nat) (w : W) : W :=
  if shaped w.m port q && (queueOf w.m port q).isEmpty then
    setCredit port q (min 0 (creditAt w.m (w.base v) port q)) v.now w
  else w

/-- A cut-through output has sent the last byte of its frame; its outcome was final at the input's end word (R255).
Nothing that needs protection leaves without it (R349, R352). -/
def laneTxDone (v : View) (port : Nat) (x : EthTx) (w : W) : W :=
  match macsecSend v port x.bytes (w.fab fun y => { y with tx := y.tx.erase port }) with
  | (w, some bs) => (w.send (.eth port bs)).count C.egress_bytes port (bs.length + 4)
  | (w, none) => w

/-- The fast lane still waits to hear how this output of the frame ends. -/
def laneWaits (m : Module) (port seq : Nat) : Bool :=
  match m.fab.fl.get? seq with
  | some y => y.open_.contains port
  | none => false

/-- ETH_TX_COMPLETE: the frame on the wire has ended: good, cut short by a failing tile, or, while it still arrives, by an
underrun (R213, R246). A frame whose end word has not arrived cannot have ended well. -/
def ethTxCompleteCore (port : Nat) (e : EthTxEnd) (v : View) (w : W) : W :=
  match w.m.fab.tx.get? port with
  | none => w
  | some x =>
    let seq := x.copy.frame.seq
    if !powered w.m then w
    else if x.fastLane then (if e == .good && !laneWaits w.m port seq then laneTxDone v port x w else w)
    else
      let w1 := creditIdle v port x.tc (chargeTx v port x (w.fab fun y => { y with tx := y.tx.erase port }))
      let done := fun (w : W) => settle v (dropRef v seq w)
      let e : EthTxEnd := match e, (chainOfFrame w.m seq).findSome? (badTile w.m.fab) with
        | .good, some t => .tile t
        | e, _ => e
      match e, x.copy.frame.unfinished with
      | .good, false =>
        done (((w1.send (.eth port x.bytes)).count C.egress_frames (queueKey port x.tc)).count C.egress_bytes port
          (x.bytes.length + 4))
      | .tile t, _ => if !(chainOfFrame w.m seq).contains t.tile then w else done (tileFail v 7 x.copy.frame t (stompTx v port x w1))
      | .underrun, true => done (underrun v port (stompTx v port x w1))
      | _, _ => w

def execEthTxComplete (port : Nat) (e : EthTxEnd) (s : State) : Host.Outcome State Fault Refusal :=
  run (isEthPort port) (ethTxCompleteCore port e) s

/-! ### Links (R337, R338, R241, R243) -/

/-- Sum of the idle slopes of the shaped classes, and their mask. -/
def shapedLoad (m : Module) (port : Nat) : Nat × Nat :=
  let l := (List.range 8).filter (shaped m port)
  ((l.map (idleSlope m port)).sum, maskOf l)

/-- A PHY that is powered down loses its link. -/
def dropLinks (v : View) (w : W) : W :=
  w.each (List.range 11) fun p w =>
    if (ethAt w.m p).up && !ethPowered w.m p then linkTo v p false 0 false 0 w else w

/-- R241: a link that trained at a lower rate than its shapers need. -/
def checkShapers (v : View) (port : Nat) (w : W) : W :=
  let (sum, mask) := shapedLoad w.m port
  let rate := (ethAt w.m port).rate
  if mask != 0 && decide (rate * 750 < sum) then
    w.event v 0x0807 1 (u8 port ++ u8 mask ++ zeros 2 ++ u32 rate ++ u32 sum)
  else w

/-- Nominal rate of a PHY mode in Mbit/s (Table 11-1). -/
def phyRate (mode : Nat) : Nat :=
  match mode with
  | 1 => 10000 | 2 => 5000 | 3 => 2500 | 4 => 1000 | 5 => 100 | 6 => 10 | 7 => 100
  | _ => 0

/-- The rate and role at which a link of the port can come up: forced by phy_mode and phy_role on a T1 port, and 100BASE-TX
on E10 (R337). -/
def trains (m : Module) (port rate : Nat) (master : Bool) : Bool :=
  rate == phyRate (prm m P.eth_phy_mode port) && master == (decide (port < 10) && prmB m P.eth_phy_role port)

/-- LINK_CHANGE: a link comes up, at a rate in Mbit/s, or goes down. -/
def linkChangeCore (port : Nat) (up : Bool) (rate : Nat) (master : Bool) (sqi : Nat) (v : View) (w : W) : W :=
  let e := ethAt w.m port
  let can := ethPowered w.m port && prm w.m P.eth_phy_mode port != 0 && !e.sleeping && !portAsleep w.m port
  let can := can && trains w.m port rate master
  if (up && !can) || !powered w.m then w
  else if e.up == up then (if up then w.eth port fun e => { e with sqi := sqi } else w)
  else
    let w := linkTo v port up rate master sqi w
    if up then judgeStatic v ([port].filter (· < 10)) (checkShapers v port w) else w

def execLinkChange (port : Nat) (up : Bool) (rate : Nat) (master : Bool) (sqi : Nat) (s : State) :
    Host.Outcome State Fault Refusal :=
  run (isEthPort port && decide (sqi < 8) && (!up || rateCode rate != 0)) (linkChangeCore port up rate master sqi) s

/-- PREEMPTION_VERIFICATION (R243): IEEE 802.3br verification goes on, succeeds or fails. -/
def preemptionVerificationCore (port : Nat) (status : Nat) (v : View) (w : W) : W :=
  let g := gateOf w.m port
  let entry := gateRow w.m port 516
  if !Ge.preEnable.on entry || Ge.verifyOff.on entry || !(ethAt w.m port).up || g.verify == status then w
  else
    let on := status == 3
    (w.gate port fun g => { g with verify := status, active := on }).event v 0x0808 (if status == 4 then 1 else 0)
      (u8 port ++ u8 status ++ u8 (b2n on) ++ u8 0)

def execPreemptionVerification (port status : Nat) (s : State) : Host.Outcome State Fault Refusal :=
  run (decide (port < 8 ∧ 1 ≤ status ∧ status ≤ 4)) (preemptionVerificationCore port status) s

/-- PLCA_BEACON_LOSS (R345): a non-coordinator has received no beacon for the standard's period, or it sees them. -/
def plcaBeaconLossCore (port : Nat) (present : Bool) (v : View) (w : W) : W :=
  let on := prmB w.m P.eth_plca_enable port && prm w.m P.eth_plca_node_id port != 0
  let e := ethAt w.m port
  if !on || !powered w.m then w
  else if present && !e.beaconLost then w.eth port fun e => { e with beacons := true }
  else if e.beaconLost != present then w
  else
    let w := w.eth port fun e => { e with beacons := present, beaconLost := !present }
    let w := if present then w else w.count C.plca_beacon_loss port
    w.event v 0x0B05 (if present then 0 else 1) (u8 port ++ u8 (b2n present) ++ zeros 2)

def execPlcaBeaconLoss (port : Nat) (present : Bool) (s : State) : Host.Outcome State Fault Refusal :=
  run (decide (port = 8 ∨ port = 9)) (plcaBeaconLossCore port present) s

/-! ### TC10 (R353) -/

/-- The egress queues of a port hold no frame, and none is on the wire. -/
def egressEmpty (m : Module) (port : Nat) : Bool :=
  (List.range 8).all (fun q => (queueOf m port q).isEmpty) && (m.fab.tx.get? port).isNone
    && (m.fab.preempted.get? port).isNone

def tc10SleepRequestCore (port : Nat) (v : View) (w : W) : W :=
  let e := ethAt w.m port
  if !tc10Port w.m port || !e.up || e.sleeping || !powered w.m then w
  else if prmB w.m P.eth_tc10_sleep_accept port && egressEmpty w.m port then
    tc10State v port 1 (w.eth port fun e => { e with sleeping := true })
  else tc10State v port 3 w

def execTc10SleepRequest (port : Nat) (s : State) : Host.Outcome State Fault Refusal :=
  run (decide (port < 8)) (tc10SleepRequestCore port) s

/-- TC10_WAKE: the port retrains, and the wake-up is wake source 5 (Table 13-1); `ticks` as in WAKE_SOURCE_LATCH. -/
def tc10WakeCore (port ticks : Nat) (v : View) (w : W) : W :=
  if !tc10Port w.m port then w
  else if w.m.mod.state == .sleep then latchSources v [{ code := 5, inst := port }] ticks w
  else if !(ethAt w.m port).sleeping then w
  else
    let w := tc10State v port 2 (w.eth port fun e => { e with sleeping := false })
    let w := if (ethAt w.m port).up then linkTo v port false 0 false 0 w else w
    latchSources v [{ code := 5, inst := port }] ticks w

def execTc10Wake (port ticks : Nat) (s : State) : Host.Outcome State Fault Refusal :=
  run (decide (port < 8)) (tc10WakeCore port ticks) s

end Sys2Proof.Machine
end

