-- ==== Sys2Proof/Machine/Doip.lean ====
section
/-! DEFINITION. The activation input, vehicle announcement, routing activation and diagnostic bridge of the workshop
port E10 (spec/11, R354-R358). -/

namespace Sys2Proof.Machine

/-! ### Activation (R355, R498) -/

/-- A link-local address by RFC 3927 (R354, R498). -/
def linkLocal (v : View) (w : W) : W × Nat :=
  let (w, r) := w.free v 65024
  (w, 0xA9FE0100 + r)

/-- E10 becomes active as the DoIP edge node: its address is configured, and, where the input activates it, announcements
begin. -/
def startDoip (v : View) (w : W) : W :=
  let m := w.m
  let always := prm m P.eth_doip_activation_mode 10 == 1
  if !prmB m P.eth_doip_enable 10 || (!always && !bit m.io.din 12) then w
  else
    let fresh := !m.doip.active
    let (w, a) := if m.doip.addr == 0 then linkLocal v w else (w, m.doip.addr)
    if always then w.doip fun d => { d with addr := a }
    else w.doip fun d => { d with active := true, deassertedAt := none, addr := a,
                                  announced := if fresh then 0 else d.announced }

/-- The service path of R498 opens with its own link-local address where none is configured. -/
def openService (v : View) (w : W) : W :=
  if serviceOpen w.m && serviceAddress w.m == none then
    let (w, a) := linkLocal v w
    w.borul fun b => { b with serviceAddr := some a }
  else w

/-- An input that holds the module awake may have changed since `old` (R395, R399, R400). -/
def inputChanged (v : View) (old : Module) (w : W) : W :=
  let w := if inputHolds w.m then confirmWake v.now (reasonArisen v v.now w) else w
  let w := if inputHolds old || inputHolds w.m then w.slp fun x => { x with quietSince := v.now } else w
  followGroups v w

/-- The level an input takes, in the low or the high threshold mode, after `time` µs at it: none between the thresholds or
before the debounce completes (R557, R558). -/
def debounced (low : Bool) (time : Nat) (x : Level) : Option Bool :=
  let (hi, lo) : Int × Int := if low then (2500, 1500) else (6000, 3500)
  if x.samples < (time + 999) / 1000 then none
  else if hi ≤ x.mv then some true else if x.mv ≤ lo then some false else none

/-- DOIP_ACT is asserted or de-asserted. -/
def doipActTurns (asserted : Bool) (v : View) (w : W) : W :=
  if bit w.m.io.din 12 == asserted || w.m.mod.state == .off || (w.m.mod.state == .sleep && !bit (prm w.m P.sleep_input_wake_mask) 12)
  then w
  else
    let old := w.m
    let w := w.io fun x => { x with din := setFld x.din 12 1 (b2n asserted) }
    if !powered w.m then w
    else
      let w := if asserted then
          openService v (if fullService w.m then startDoip v w else w.doip fun d => { d with deassertedAt := none })
        else dropLinks v (w.doip fun d => { d with deassertedAt := if d.active then some v.now else none })
      let w := w.event v 0x0B06 0 (u8 (b2n asserted) ++ zeros 3 ++ u32 (doipAddress w.m))
      inputChanged v old w

/-- DOIP_ACTIVATION_CHANGE: DOIP_ACT completes its debounce at this level. -/
def doipActivationChangeCore (x : Level) (v : View) (w : W) : W :=
  match debounced false (prm w.m P.io_doip_act_debounce) x with
  | none => w
  | some asserted => doipActTurns asserted v w

def execDoipActivationChange (x : Level) (s : State) : Host.Outcome State Fault Refusal :=
  run true (doipActivationChangeCore x) s

/-- Diagnostic channels end, with their transfers (R356). -/
def closeDoip (p : DoipConn → Bool) (w : W) : W :=
  let gone := w.m.doip.conns.filter p
  let ends := fun (t : IsoTp) => match t.owner with
    | .diag n => gone.any (fun c => c.conn == n && c.tester % 256 == t.txId % 256)
    | .pair _ => false
  (w.doip fun d => { d with conns := d.conns.filter (fun c => !p c) }).borul fun b =>
    { b with isotp := b.isotp.filter (fun t => !ends t) }

/-- DOIP_DEACTIVATION: the input has been de-asserted for doip_deactivation_delay. -/
def doipDeactivationCore (v : View) (w : W) : W :=
  match w.m.doip.deassertedAt with
  | none => w
  | some t =>
    if prm w.m P.eth_doip_activation_mode 10 == 1 || !v.expired (t + prmNs w.m P.eth_doip_deactivation_delay 10) then w
    else dropLinks v ((closeDoip (fun _ => true) w).doip fun d => { d with active := false, deassertedAt := none })

def execDoipDeactivation (s : State) : Host.Outcome State Fault Refusal := run true doipDeactivationCore s

/-! ### Identification and status (R355, R356) -/

/-- The firmware serves DoIP on E10. -/
def doipServed (m : Module) : Bool :=
  doipActive m && (ethAt m 10).up && m.mod.firmwareRunning && fullService m

def vinBytes (m : Module) : List Byte := (((List.range 5).map (fun e => u32 (prm m P.module_vin 0 e))).flatten).take 17

/-- EID and GID: the MAC address of E10. -/
def eidBytes (m : Module) : List Byte := beBytes 6 (portMac m 10)

/-- Payload of a vehicle announcement or identification response: VIN, logical address, EID, GID, no further action. -/
def announcement (m : Module) : List Byte :=
  vinBytes m ++ beBytes 2 (prm m P.eth_doip_logical_address 10) ++ eidBytes m ++ eidBytes m ++ u8 0

/-- Announcements after an activation (ISO 13400-2, A_DoIP_Announce_Num; PRESUMED, notes/assumptions/61.md). -/
def announceNum : Nat := 3

/-- VEHICLE_ANNOUNCEMENT: the ISO 13400-2 wait or interval has passed. -/
def vehicleAnnouncementCore (_v : View) (w : W) : W :=
  if !doipServed w.m || decide (announceNum ≤ w.m.doip.announced) then w
  else (w.send (.doipUdp (doipMsg 0x0004 (announcement w.m)))).doip fun d => { d with announced := d.announced + 1 }

def execVehicleAnnouncement (s : State) : Host.Outcome State Fault Refusal := run true vehicleAnnouncementCore s

/-- VEHICLE_IDENTIFICATION_REQUEST of payload type 0x0001 (any), 0x0002 (with EID) or 0x0003 (with VIN). -/
def vehicleIdentificationRequestCore (type : Nat) (payload : List Byte) (_v : View) (w : W) : W :=
  let meant := type == 1 || (type == 2 && payload == eidBytes w.m) || (type == 3 && payload == vinBytes w.m)
  if doipServed w.m && meant then w.send (.doipUdp (doipMsg 0x0004 (announcement w.m))) else w

def execVehicleIdentificationRequest (type : Nat) (payload : List Byte) (s : State) : Host.Outcome State Fault Refusal :=
  run true (vehicleIdentificationRequestCore type payload) s

/-- Diagnostic channels and connections a module serves (R356). -/
def doipChannels : Nat := 32

/-- ENTITY_STATUS_REQUEST: gateway, largest and present number of connections, largest message. -/
def entityStatusRequestCore (_v : View) (w : W) : W :=
  let open_ := ((w.m.doip.conns.map DoipConn.conn).eraseDups).length
  if doipServed w.m then
    w.send (.doipUdp (doipMsg 0x4002 (u8 0 ++ u8 doipChannels ++ u8 open_ ++ beBytes 4 (prm w.m P.eth_doip_max_message 10))))
  else w

def execEntityStatusRequest (s : State) : Host.Outcome State Fault Refusal := run true entityStatusRequestCore s

/-- POWER_MODE_REQUEST: ready in RUN. -/
def powerModeRequestCore (_v : View) (w : W) : W :=
  if doipServed w.m then w.send (.doipUdp (doipMsg 0x4004 (u8 (b2n (w.m.mod.state == .run))))) else w

def execPowerModeRequest (s : State) : Host.Outcome State Fault Refusal := run true powerModeRequestCore s

/-- A message arrived on a connection: its channels are not idle. -/
def touchConn (v : View) (conn : Nat) (w : W) : W :=
  w.doip fun d => { d with conns := d.conns.map (fun c => if c.conn == conn then { c with last := v.now } else c) }

/-- ALIVE_CHECK_REQUEST on a connection: answered with the module's logical address. -/
def aliveCheckRequestCore (conn : Nat) (v : View) (w : W) : W :=
  if doipServed w.m then
    (touchConn v conn w).send (.doip conn (doipMsg 0x0008 (beBytes 2 (prm w.m P.eth_doip_logical_address 10))))
  else w

def execAliveCheckRequest (conn : Nat) (s : State) : Host.Outcome State Fault Refusal :=
  run true (aliveCheckRequestCore conn) s

/-! ### Routing activation (R356) -/

/-- The response code. -/
def routingCode (m : Module) (conn sa type : Nat) : Nat :=
  let base := prm m P.eth_doip_tester_base 10
  let mine := m.doip.conns.any (fun c => c.conn == conn && c.tester == sa)
  if 1 < type then 6
  else if sa < base || decide (base + 255 < sa) then 0
  else if m.doip.conns.any (fun c => c.conn != conn && c.tester == sa) then 3
  else if !mine && decide (doipChannels ≤ m.doip.conns.length) then 1
  else 0x10

/-- ROUTING_ACTIVATION_REQUEST of source address `sa` on a TCP connection. -/
def routingActivationRequestCore (conn sa type : Nat) (v : View) (w : W) : W :=
  if !doipServed w.m then w
  else
    let code := routingCode w.m conn sa type
    let w := touchConn v conn w
    let reply := beBytes 2 sa ++ beBytes 2 (prm w.m P.eth_doip_logical_address 10) ++ u8 code ++ zeros 4
    let w := w.send (.doip conn (doipMsg 0x0006 reply))
    if code == 0x10 then
      w.doip fun d => { d with
        conns := if d.conns.any (fun c => c.conn == conn && c.tester == sa) then d.conns else d.conns ++ [⟨conn, sa, v.now⟩] }
    else
      (w.count C.doip_routing_refused 10).event v 0x0B07 1
        (u8 code ++ u8 0 ++ u16 sa ++ u8 w.m.doip.conns.length ++ zeros 3)

def execRoutingActivationRequest (conn sa type : Nat) (s : State) : Host.Outcome State Fault Refusal :=
  run (decide (sa < 65536)) (routingActivationRequestCore conn sa type) s

/-! ### Diagnostic messages (R357, R358) -/

/-- CAN instances reachable. -/
def diagChans (m : Module) : List Nat := bitsOf 22 (prm m P.eth_doip_channel_mask 10)

/-- Format of the bridge's frames on a channel: 29-bit, classic or FD. -/
def diagFmt (m : Module) (ch : Nat) : Nat := if bit (prm m P.eth_doip_fd_mask 10) ch then 3 else 1

/-- A transfer of this identifier is still being sent on the channel. -/
def diagBusy (m : Module) (ch id : Nat) : Bool :=
  m.borul.isotp.any (fun t => t.sending && t.ch == ch && t.txId == id)
    || (canAt m ch).objs.any (fun o => decide (77 ≤ o.1 ∧ o.1 < 85) && o.2.id == id)
    || (canAt m ch).backlog.any (fun b => b.2.2.id == id)

/-- A diagnostic request as it goes to CAN: instance, request and response identifiers. -/
def diagTargets (m : Module) (sa ta : Nat) : List (Nat × Nat × Nat) :=
  let s := sa % 256
  if ta == prm m P.eth_doip_functional_address 10 then (diagChans m).map fun i => (i, 0x18DB3300 + s, 0)
  else
    let i := (ta - 0x4000) / 256
    let t := ta % 256
    if 0x4000 ≤ ta && (diagChans m).contains i then [(i, 0x18DA0000 + 256 * t + s, 0x18DA0000 + 256 * s + t)] else []

/-- The negative acknowledgement a message meets first (R358). -/
def diagRefused (m : Module) (conn sa ta len : Nat) : Option Nat :=
  let l := diagTargets m sa ta
  let functional := ta == prm m P.eth_doip_functional_address 10
  if !m.doip.conns.any (fun c => c.conn == conn && c.tester == sa) then some 2
  else if l.isEmpty then some 3
  else if prm m P.eth_doip_max_message 10 < len
      || (functional && l.any (fun x => decide (tpSingle (diagFmt m x.1) < len))) then some 4
  else if l.any (fun x => diagBusy m x.1 x.2.1) then some 5
  else if l.all (fun x => !canSends m x.1) then some 6
  else none

/-- DIAGNOSTIC_MESSAGE of tester `sa` for target `ta` on a connection. -/
def diagnosticMessageCore (conn sa ta : Nat) (data : List Byte) (v : View) (w : W) : W :=
  if !doipServed w.m then w
  else
    let w := touchConn v conn w
    match diagRefused w.m conn sa ta data.length with
    | some code => doipNack conn ta sa code w
    | none =>
      let l := (diagTargets w.m sa ta).filter (fun x => canSends w.m x.1)
      let w := w.each l fun x w => startTp v (.diag conn) x.1 (diagFmt w.m x.1) x.2.1 x.2.2 data w
      (w.send (.doip conn (doipMsg 0x8002 (beBytes 2 ta ++ beBytes 2 sa ++ u8 0)))).count C.doip_messages 10

def execDiagnosticMessage (conn sa ta : Nat) (data : List Byte) (s : State) : Host.Outcome State Fault Refusal :=
  run (decide (sa < 65536 ∧ ta < 65536)) (diagnosticMessageCore conn sa ta data) s

/-- DOIP_INACTIVITY_TIMEOUT: channels without a message for doip_inactivity_timeout end. -/
def doipInactivityTimeoutCore (v : View) (w : W) : W :=
  closeDoip (fun c => v.expired (c.last + prmNs w.m P.eth_doip_inactivity_timeout 10)) w

def execDoipInactivityTimeout (s : State) : Host.Outcome State Fault Refusal := run true doipInactivityTimeoutCore s

/-- DOIP_CONNECTION_CLOSE: a TCP connection closes. -/
def doipConnectionCloseCore (conn : Nat) (_v : View) (w : W) : W := closeDoip (fun c => c.conn == conn) w

def execDoipConnectionClose (conn : Nat) (s : State) : Host.Outcome State Fault Refusal :=
  run true (doipConnectionCloseCore conn) s

end Sys2Proof.Machine
end

