-- ==== Sys2Proof/Machine/Io.lean ====
section
/-! DEFINITION. Discrete, frequency and analogue inputs, the sensor supply, and the open-drain outputs
(spec/21, R557-R564, Table 17-4). -/

namespace Sys2Proof.Machine

/-! ### Inputs (R558-R560) -/

/-- The input is sampled in this state: in SLEEP, only when it is a wake source. -/
def inputSampled (m : Module) (n : Nat) : Bool :=
  match m.mod.state with
  | .off => false
  | .sleep => bit (prm m P.sleep_input_wake_mask) n
  | _ => true

/-- The state input Dn takes at this level: asserted is high, or low where the input is inverted (R557). -/
def dinState (m : Module) (n : Nat) (x : Level) : Option Bool :=
  let cfg := prm m P.io_din_config 0 n
  (debounced (bit cfg 2) (prm m P.io_din_debounce 0 n) x).map fun high => high != bit cfg 3

/-- Input Dn takes a new, asserted or de-asserted, state. -/
def dinTurns (n : Nat) (asserted : Bool) (v : View) (w : W) : W :=
  if !inputSampled w.m n || bit w.m.io.din n == asserted then w
  else
    let old := w.m
    let w := w.io fun x => { x with din := setFld x.din n 1 (b2n asserted) }
    if powered w.m then inputChanged v old w else w

/-- DISCRETE_INPUT_CHANGE: input Dn completes its debounce at this level. -/
def discreteInputChangeCore (n : Nat) (x : Level) (v : View) (w : W) : W :=
  match dinState w.m n x with
  | none => w
  | some asserted => dinTurns n asserted v w

def execDiscreteInputChange (n : Nat) (x : Level) (s : State) : Host.Outcome State Fault Refusal :=
  run (decide (n < 12)) (discreteInputChangeCore n x) s

/-- Frequency in mHz from the edges of a second: 10^12 ns·mHz over the mean of the periods that end in it. -/
def windowHz (x : FreqIn) : Nat :=
  match x.start, x.last with
  | some a, some b => if a < b then x.inSecond * 1000000000000 / (b - a) else 0
  | _, _ => 0

/-- io.freq_hz: 0 when fewer than 2 edges were accepted in the last 2 s, else the last complete second's. -/
def freqNow (now : Nat) (x : FreqIn) : Nat :=
  match x.before with
  | none => 0
  | some a =>
    if a + 2000000000 < now then 0
    else if x.second < now / 1000000000 then windowHz x else x.milliHz

/-- An accepted edge at TB2 time `now`. -/
def addEdge (now : Nat) (x : FreqIn) : FreqIn :=
  let sec := now / 1000000000
  let x' := { x with count := (x.count + 1) % 2 ^ 32, before := x.last, last := some now }
  if x.inSecond != 0 && x.second == sec then
    { x' with inSecond := x.inSecond + (if x.start.isSome then 1 else 0), start := if x.start.isSome then x.start else x.last }
  else
    { x' with second := sec, inSecond := 1, start := x.last, milliHz := windowHz x }

/-- A frequency input in use accepts its configured edge when the pulse before it lasted the glitch filter time (R559). -/
def edgeAccepted (m : Module) (p : Pulse) : Bool :=
  let cfg := prm m P.io_freq_config 0 p.input
  bit cfg 0 && p.rising != bit cfg 1 && decide (10 * fld cfg 8 8 ≤ p.us)

/-- FREQ_EDGE: an edge ends a pulse at a frequency input. -/
def freqEdgeCore (p : Pulse) (v : View) (w : W) : W :=
  if !powered w.m || !edgeAccepted w.m p then w
  else w.io fun x => { x with freq := upd x.freq p.input (addEdge v.now) }

def execFreqEdge (p : Pulse) (s : State) : Host.Outcome State Fault Refusal := run (decide (p.input < 2)) (freqEdgeCore p) s

/-- io.ain_value: the mean of the last 10 samples within the input's range (R560). -/
def ainValue (m : Module) (n : Nat) : Nat :=
  let l := atD m.io.ain n []
  let top : Int := if bit (prm m P.io_ain_config 0 n) 0 then 5000 else 32000
  if l.isEmpty then 0 else (max 0 (min top (l.sum / (l.length : Int)))).toNat

/-- ANALOGUE_INPUT_SAMPLE: input An reads this many millivolts. -/
def analogueInputSampleCore (n : Nat) (mv : Int) (_v : View) (w : W) : W :=
  if !powered w.m then w else w.io fun x => { x with ain := upd x.ain n (fun l => (mv :: l).take 10) }

def execAnalogueInputSample (n : Nat) (mv : Int) (s : State) : Host.Outcome State Fault Refusal :=
  run (decide (n < 4)) (analogueInputSampleCore n mv) s

/-! ### Sensor supply (R561) -/

/-- The mode and the state ask for SENS5V. -/
def sensorWanted (m : Module) : Bool :=
  let mode := prm m P.io_sensor_supply_mode
  match m.mod.state with
  | .run | .unmanaged | .sleepPrep => mode != 0
  | .safe => mode == 2
  | _ => false

def sensorOn (m : Module) : Bool := sensorWanted m && !m.io.sensorLimited

/-- SENSOR_SUPPLY_TRIP: 10 ms in limitation. -/
def sensorSupplyTripCore (battery : Bool) (mv : Nat) (v : View) (w : W) : W :=
  if sensorOn w.m then w.io fun x => { x with sensorLimited := true, sensorOffAt := v.now, sensorShort := battery, sensorMv := mv } else w

def execSensorSupplyTrip (battery : Bool) (mv : Nat) (s : State) : Host.Outcome State Fault Refusal :=
  run (decide (mv < 65536)) (sensorSupplyTripCore battery mv) s

/-- SENSOR_SUPPLY_RETRY: 1 s after it switched off, while its mode asks for it. -/
def sensorSupplyRetryCore (battery : Bool) (mv : Nat) (v : View) (w : W) : W :=
  if w.m.io.sensorLimited && sensorWanted w.m && decide (w.m.io.sensorOffAt + 1000000000 ≤ v.now) then
    w.io fun x => { x with sensorLimited := false, sensorShort := battery, sensorMv := mv }
  else w

def execSensorSupplyRetry (battery : Bool) (mv : Nat) (s : State) : Host.Outcome State Fault Refusal :=
  run (decide (mv < 65536)) (sensorSupplyRetryCore battery mv) s

/-- io.sensor_supply_status. -/
def sensorStatus (m : Module) : Nat :=
  b2n (sensorOn m) + 2 * b2n m.io.sensorLimited + 4 * b2n m.io.sensorShort + 65536 * m.io.sensorMv

/-! ### Open-drain outputs (R564, Table 17-4) -/

/-- Q output `n` as its configuration commands it. -/
def qCommanded (m : Module) (n : Nat) : Bool :=
  let q := prm m P.io_q_config 0 n
  let src := fld q 8 4
  match q % 4 with
  | 0 => bit (prm m P.io_q_state) n
  | 1 => bit m.io.din src
  | 2 => groupState m src == 0
  | _ => false

/-- Q output `n` conducts. -/
def qConducts (m : Module) (n : Nat) : Bool :=
  match m.mod.state with
  | .run | .sleepPrep => qCommanded m n
  | .unmanaged => bit m.io.frozenQ n
  | _ => false

/-- Conditions that last, with the code and severity of the event that reports them (notes/assumptions/64.md). -/
def conditions (m : Module) : List (Nat × Nat × Bool) :=
  [(0x0B02, 2, m.eth.any (fun e => e.macsec == 3)), (0x0E04, 3, m.sw.running && m.sw.dies.any Die.lost),
   (0x1001, prm m P.journal_disagreement_severity, m.jr.watch == 3), (0x1101, 1, m.supply.range != 0),
   (0x1102, 1, m.supply.warnLow || m.supply.warnHigh), (0x1105, 2, m.supply.shed), (0x1106, 1, m.supply.basePlateWarn),
   (0x1107, 1, m.supply.powerOver)]

/-- An event of this code and severity asserts FAULT_OUT. -/
def faultSelects (m : Module) (code sev : Nat) : Bool :=
  prmB m P.module_fault_out_enable && decide (prm m P.module_fault_out_min_severity ≤ sev)
    && bit (prm m P.module_fault_out_chapter_mask) (code / 256)

/-- FAULT_OUT as the module.fault_out_* parameters command it. -/
def faultCommanded (m : Module) (b : Base) : Bool :=
  if prmB m P.module_fault_out_latch then b.ev.entries.any (fun e => faultSelects m e.code e.severity)
  else (conditions m).any (fun c => c.2.2 && faultSelects m c.1 c.2.1)

/-- FAULT_OUT conducts. -/
def faultOut (m : Module) (b : Base) : Bool :=
  match m.mod.state with
  | .run | .sleepPrep => faultCommanded m b
  | .unmanaged => m.io.frozenFault
  | .safe => true
  | _ => false

/-- WAKE_OUT conducts. -/
def wakeOut (m : Module) : Bool :=
  match m.mod.state with
  | .run | .unmanaged | .sleepPrep | .safe => true
  | .footpath => m.mod.fromRun
  | _ => false

/-- The twin parameters of FAULT_OUT are used while it follows its parameters (R63, R537, Table 17-4). -/
def useFaultOut (v : View) (w : W) : W :=
  match w.m.mod.state with
  | .run | .sleepPrep => useTwin v P.module_fault_out_min_severity 0 0 (useTwin v P.module_fault_out_enable 0 0 w)
  | _ => w

/-- Outputs are frozen as they are at the entry into UNMANAGED. -/
def freezeOutputs (v : View) (w : W) : W :=
  let w := useFaultOut v w
  let q := maskOf ((List.range 4).filter (qCommanded w.m))
  let f := faultCommanded w.m (w.base v)
  w.io fun x => { x with frozenQ := q, frozenFault := f }

end Sys2Proof.Machine
end

