-- ==== Sys2Proof/Machine/Holds.lean ====
section
/-! DEFINITION. Holds: opening, draining, releasing and ending them (R68-R72 of spec/03). -/

namespace Sys2Proof.Machine

/-- The highest instance of a hold scope; none for a block that is no scope. -/
def holdScope (block : Nat) : Option Nat :=
  if block == 0 then some 0 else if block == 0x0A then some 21 else if block == 0x0B then some 7
  else if block == 0x0C then some 10 else none

/-- A frame of this port is on the wire, or a posted write of I1 awaits its acknowledgement (R72, R290). -/
def portBusy (m : Module) (now p : Nat) : Bool :=
  if p == 12 then m.jn.posted.any (fun x => x.queued now)
  else if isCanPort p then (canAt m (p - 14)).attempt.isSome
  else if isLinPort p then (linAt m (p - 36)).await.isSome || decide (now < (linAt m (p - 36)).busyUntil)
  else (m.fab.tx.get? p).isSome

def scopeBusy (m : Module) (now block inst : Nat) : Bool := (holdPorts block inst).any (portBusy m now)

/-- Frames that wait for a held port are abandoned (R72): its queues, copies waiting for them, the remainder of a
preempted frame, and what I1 has not taken up. A CAN channel keeps them instead, queued and loaded (R250,
notes/assumptions/27.md). -/
def abandonPort (v : View) (p : Nat) (w : W) : W :=
  if isCanPort p then w
  else if p == 12 then (w.each w.m.fab.i1 fun c w => dropRef v c.frame.seq w).fab fun x => { x with i1 := [] }
  else
  let w := w.each (List.range 8) fun q w =>
    if isQueue p q then (setQueue p q [] w).each (queueOf w.m p q) fun c w => dropRef v c.frame.seq w else w
  let gone := w.m.fab.waiting.filter (fun x => x.port == p)
  let w := w.fab fun x => { x with waiting := x.waiting.filter (fun y => y.port != p) }
  let w := w.each gone fun x w => dropRef v x.copy.frame.seq w
  match w.m.fab.preempted.get? p with
  | some t => dropRef v t.copy.frame.seq (w.fab fun x => { x with preempted := x.preempted.erase p })
  | none => w

def abandon (v : View) (block inst : Nat) (w : W) : W :=
  settle v (w.each (holdPorts block inst) (abandonPort v))

def isHoldOf (block inst : Nat) : OpKind → Bool
  | .hold b i => b == block && i == inst
  | _ => false

/-- A hold ends (R71): time is charged, its ports resume, PHYs retrain, and an operation that still waited for its
drain completes with WRONG_STATE (DESIGN CHOICE, notes/assumptions/87.md: R72 names no status). -/
def endHold (v : View) (h : Hold) (w : W) : W :=
  let w := w.mod fun x => { x with holds := x.holds.filter (fun y => !(y.block == h.block && y.inst == h.inst)) }
  let w := chargeHold v h w
  let w := w.each ((holdPorts h.block h.inst).filter isCanPort) fun p w =>
    if portHeld w.m p then w else resumeCan v (p - 14) w
  let w := w.each h.retrain fun p w => if (ethAt w.m p).up then linkTo v p false 0 false 0 w else w
  w.each (waitingOps w.m (isHoldOf h.block h.inst)) fun o w => finishOp v o St.wrongState [] w

def endHolds (v : View) (w : W) : W := w.each w.m.mod.holds (endHold v)

def findHold (m : Module) (block inst : Nat) : Option Hold :=
  m.mod.holds.find? (fun h => h.block == block && h.inst == inst)

/-- R70: the vehicle speed of the plausibility watch is valid and at or below module.hold_max_speed. -/
def speedAllows (m : Module) : Bool :=
  match m.jr.watchSpeed with
  | some s => decide (s ≤ prm m P.module_hold_max_speed)
  | none => false

/-- R70: a module-wide hold ends when the speed no longer allows it. -/
def checkHoldSpeed (v : View) (w : W) : W :=
  match findHold w.m 0 0 with
  | some h => if speedAllows w.m then w else endHold v h w
  | none => w

/-! ### PARAM_HOLD and PARAM_RELEASE (Table 03-5) -/

/-- A hold of the scope that is past its end makes way for a new one (R71). -/
def clearScope (v : View) (block inst : Nat) (w : W) : W :=
  match findHold w.m block inst with
  | some h => endHold v h w
  | none => w

/-- The scope is held from now on, and nothing new begins on its ports (R72). -/
def openHold (v : View) (block inst span : Nat) (w : W) : W :=
  let h : Hold := { block := block, inst := inst, since := v.now, until_ := v.now + span
                    drained := !scopeBusy w.m v.now block inst }
  abandon v block inst (w.mod fun x => { x with holds := x.holds ++ [h] })

def paramHoldBody : Body := need 8 fun _ p v w =>
  let block := leAt p 0 1
  let inst := leAt p 1 1
  let us := leAt p 4 4
  let top := prm w.m P.module_hold_max_duration
  match holdScope block with
  | none => refuse w St.badParam
  | some n =>
    if n < inst ∨ top < us then refuse w St.outOfRange
    else if (findHold w.m block inst).any (fun h => decide (v.now < h.until_)) then refuse w St.locked
    else if block == 0 && !speedAllows w.m then refuse w St.wrongState
    else
      let w := clearScope v block inst w
      let held := openHold v block inst ((if us == 0 then top else us) * 1000) w
      if scopeBusy w.m v.now block inst then (held, .wait (.hold block inst) []) else answer held []

def opParamHold : OpInfo := { code := 0x0303, role := 3, post := true }
def execParamHold (r : Request) (s : State) : Host.Outcome State Fault Refusal :=
  run true (request opParamHold r paramHoldBody) s

def paramReleaseBody : Body := need 4 fun _ p v w =>
  let block := leAt p 0 1
  let inst := leAt p 1 1
  match holdScope block with
  | none => refuse w St.badParam
  | some n =>
    if n < inst then refuse w St.outOfRange
    else match findHold w.m block inst with
      | none => refuse w St.wrongState
      | some h => if v.now < h.until_ then answer (endHold v h w) [] else refuse w St.wrongState

def opParamRelease : OpInfo := { code := 0x0304, role := 3 }
def execParamRelease (r : Request) (s : State) : Host.Outcome State Fault Refusal :=
  run true (request opParamRelease r paramReleaseBody) s

/-! ### HOLD_DRAIN_COMPLETE and HOLD_EXPIRY (R71, R72) -/

/-- Every port of the scope has finished or abandoned the frame it was sending. -/
def holdDrainCompleteCore (block inst : Nat) (v : View) (w : W) : W :=
  match findHold w.m block inst with
  | none => w
  | some h =>
    if h.drained || scopeBusy w.m v.now block inst then w
    else
      let w := abandon v block inst w
      let mark := fun (y : Hold) => if y.block == block && y.inst == inst then { y with drained := true } else y
      finishWaiting v (isHoldOf block inst) (w.mod fun x => { x with holds := x.holds.map mark })

def execHoldDrainComplete (block inst : Nat) (s : State) : Host.Outcome State Fault Refusal :=
  run true (holdDrainCompleteCore block inst) s

def holdExpiryCore (block inst : Nat) (v : View) (w : W) : W :=
  match findHold w.m block inst with
  | none => w
  | some h => if v.expired h.until_ then endHold v h w else w

def execHoldExpiry (block inst : Nat) (s : State) : Host.Outcome State Fault Refusal :=
  run true (holdExpiryCore block inst) s

/-- module.hold_scope and module.hold_remaining: the hold ending last. -/
def lastHold (m : Module) : Option Hold :=
  m.mod.holds.foldl (fun o h => match o with
    | some x => if x.until_ < h.until_ then some h else some x
    | none => some h) none

end Sys2Proof.Machine
end

