-- ==== Sys2Proof/Machine/JournalOps.lean ====
section
/-! DEFINITION. The milestone journal: sampling, the plausibility watch, minute records and the JOURNAL operations
(spec/16). Speeds are in 0.1 km/h, distances in micrometres. -/

namespace Sys2Proof.Machine

/-! ### Sources (R456, R457) -/

/-- The number of the pulse input, when there is one. -/
def pulseInput (m : Module) : Option Nat :=
  match prm m P.journal_pulse_input with
  | 1 => some 0
  | 2 => some 1
  | _ => none

/-- Pulses counted on both inputs, modulo 2^32. -/
def pulseCounts (m : Module) : List Nat := (List.range 2).map (fun i => (atD m.io.freq i {}).count)

/-- Pulses of the pulse input since the last sample. -/
def newPulses (m : Module) : Nat :=
  match pulseInput m with
  | some i => (2 ^ 32 + atD (pulseCounts m) i 0 - atD m.jr.pulseLast i 0) % 2 ^ 32
  | none => 0

/-- A source whose last value came within its time. -/
def recent (now limit : Nat) : Option (Nat × Nat) → Option Nat
  | some (v, t) => if now < t + limit then some v else none
  | none => none

def canSample (m : Module) (now : Nat) : Option Nat := recent now (prmNs m P.journal_can_speed_timeout) m.jr.canSpeed
def gnssSample (m : Module) (now : Nat) : Option Nat := recent now (prmNs m P.journal_gnss_max_age) m.jr.gnssSpeed

/-! ### Minute records (R458, R462) -/

/-- Metres of a source, 0xFFFF when it was invalid all minute. -/
def metres (um ok : Nat) : Nat := if ok = 0 then 0xFFFF else min (um / 1000000) 0xFFFE

def vmax (ok top : Nat) : Nat := if ok = 0 then 255 else min (top / 10) 254

/-- Bytes 16 to 31 of a minute record (Table 16-3). -/
def minuteBody (j : Journal) : List Byte :=
  let a := j.acc
  let all := fun (n : Nat) => b2n (n == a.samples && a.samples != 0)
  u16 (metres a.pulseUm a.pulseOk) ++ u16 (metres a.canUm a.canOk) ++ u16 (metres a.gnssUm a.gnssOk)
    ++ u8 (vmax a.pulseOk a.pulseMax) ++ u8 (vmax a.canOk a.canMax) ++ u8 (min a.ignition 60) ++ u8 (min a.moving 255)
    ++ u8 j.activity ++ u8 a.activityChanges
    ++ u8 (all a.pulseOk + 2 * all a.canOk + 4 * all a.gnssOk + 8 * all a.syncOk + 16 * a.worst)
    ++ u8 (min a.disagree 255) ++ u16 (j.odometerUm / 10000000 / 65536)

/-- Close the running minute: its record, when at least one second of it was spent in RUN or UNMANAGED, and new
accumulators for minute `next`. -/
def closeMinute (v : View) (partial_ : Bool) (next : Nat) (w : W) : W :=
  let a := w.m.jr.acc
  let w := if prmB w.m P.journal_enable && a.active != 0 then
      sealIfDue v ((appendRecord 0 (b2n partial_) 0 a.minute 0 (minuteBody w.m.jr) w).count C.journal_minutes)
    else w
  w.jr fun j => { j with acc := { minute := next } }

/-- MINUTE_RECORD: the journal minute has closed. -/
def minuteRecordCore (v : View) (w : W) : W :=
  let k := tb3Minute v
  if decide (w.m.jr.acc.minute < k) && powered w.m then closeMinute v false k w else w

def execMinuteRecord (s : State) : Host.Outcome State Fault Refusal := run true minuteRecordCore s

/-! ### The plausibility watch (R469, R470) -/

/-- Two speeds disagree. -/
def disagree (m : Module) (a b : Nat) : Bool :=
  let hi := max a b
  let lo := min a b
  decide (max (256 * prm m P.journal_abs_tolerance) (prm m P.journal_rel_tolerance * hi) < 256 * (hi - lo))

/-- A pair in a sample: since when it disagrees, and the cause; none while it does not. -/
def pairStep (m : Module) (now : Nat) (old : Option (Nat × Nat)) (cause : Nat) (a b : Option Nat) : Option (Nat × Nat) :=
  match a, b with
  | some x, some y => if disagree m x y then some (old.getD (now, cause)) else none
  | _, _ => none

/-- The pairs after a sample; causes: 0 pulse lower, 1 pulse higher, 2 CAN against GNSS (R470). -/
def pairsStep (m : Module) (now : Nat) (p c g : Option Nat) : List (Option (Nat × Nat)) :=
  let old := fun (k : Nat) => atD m.jr.pairs k none
  let cause := fun (o : Option Nat) => if decide (p.getD 0 < o.getD 0) then 0 else 1
  [pairStep m now (old 0) (cause c) p c, pairStep m now (old 1) (cause g) p g, pairStep m now (old 2) 2 c g]

/-- The pair that has disagreed longest: since when, and its cause. -/
def firstPair (l : List (Option (Nat × Nat))) : Option (Nat × Nat) :=
  l.foldl (fun best o => match best, o with
    | some b, some x => if x.1 < b.1 then some x else some b
    | none, x => x
    | b, none => b) none

/-- The pair whose cause event 0x1001 carries: the first to disagree. Where CAN and GNSS are among the first and the pulse
agrees with one of them, the cause is 2 (R470). -/
def firstCause (l : List (Option (Nat × Nat))) : Option (Nat × Nat) :=
  match firstPair l, atD l 2 none with
  | some b, some g => if g.1 == b.1 && ((atD l 0 none).isNone || (atD l 1 none).isNone) then some g else some b
  | o, _ => o

def orFfff (o : Option Nat) : List Byte := u16 (match o with | some x => min x 0xFFFE | none => 0xFFFF)

/-- The watch after a sample: states of Table 16-5, events 0x1001 and 0x1002. -/
def watchStep (v : View) (p c g : Option Nat) (w : W) : W :=
  let w := [P.journal_abs_tolerance, P.journal_rel_tolerance, P.journal_disagree_time,
    P.journal_disagreement_severity].foldl (fun w r => useTwin v r 0 0 w) w
  let valid := [p, c, g].filterMap id
  let now := v.now
  let calm := match valid with
    | [] => (0, none)
    | [x] => (1, some x)
    | l => (2, some (l.foldl max 0))
  let pairs := pairsStep w.m now p c g
  let bad := firstCause pairs
  let w := w.jr fun j => { j with
    pairs := pairs, agreeSince := if bad.isSome then none else some (j.agreeSince.getD now) }
  let j := w.m.jr
  let elapsed := fun (o : Option Nat) (t : Nat) => match o with | some s => decide (s + t ≤ now) | none => false
  if j.watch == 3 then
    if elapsed j.agreeSince (prmNs w.m P.journal_agree_time) then
      let s := (now - j.disagreeAt) / 1000000000
      (w.jr fun j => { j with watch := calm.1, watchSpeed := calm.2 }).event v 0x1002 0 (u32 s)
    else w
  else if elapsed (bad.map Prod.fst) (prmNs w.m P.journal_disagree_time) then
    let w := w.jr fun j => { j with watch := 3, watchSpeed := none, disagreeAt := now }
    let mask := b2n p.isSome + 2 * b2n c.isSome + 4 * b2n g.isSome
    (w.count C.watch_disagreements).event v 0x1001 (prm w.m P.journal_disagreement_severity)
      (u8 ((bad.map Prod.snd).getD 0) ++ u8 mask ++ zeros 2 ++ orFfff p ++ orFfff c ++ orFfff g ++ zeros 2)
  else w.jr fun j => { j with watch := calm.1, watchSpeed := calm.2 }

/-- What one sample finds: the pulses counted so far, the way since the last sample, and the three speeds (R457, R458). -/
structure Sample where
  pulses : List Nat
  pulseUm : Nat
  pulse : Option Nat
  can : Option Nat
  canTenth : Option Nat
  gnss : Option Nat
  deriving DecidableEq, Repr

def sampleOf (m : Module) (now : Nat) : Sample :=
  let pk := prm m P.journal_pulse_k
  let n := newPulses m
  let can := canSample m now
  { pulses := pulseCounts m, pulseUm := n * 1000000000 / pk, pulse := (pulseInput m).map fun _ => n * 36000 / pk
    can := can, canTenth := can.map fun x => x * 10 / 256, gnss := gnssSample m now }

/-- The journal keeps the sample's speeds and adds its way to the odometer. -/
def noteSample (x : Sample) (j : Journal) : Journal :=
  { j with pulseLast := x.pulses, pulseKmh := x.pulse, canKmh := x.canTenth, gnssKmh := x.gnss
           odometerUm := j.odometerUm + (if x.pulse.isSome then x.pulseUm else 0) }

/-- The sample enters the running minute (Table 16-3). -/
def accumulate (x : Sample) (m : Module) (j : Journal) : Journal :=
  let moving := match m.jr.watchSpeed with | some s => decide (prm m P.journal_moving_threshold ≤ s) | none => false
  let ign := bit m.io.din (prm m P.journal_ignition_input)
  let active := match m.mod.state with | .run | .unmanaged => true | _ => false
  { j with acc := { j.acc with
    samples := j.acc.samples + 1
    pulseUm := j.acc.pulseUm + (if x.pulse.isSome then x.pulseUm else 0)
    canUm := j.acc.canUm + (match x.can with | some y => y * 1000000000 / (256 * 3600) | none => 0)
    gnssUm := j.acc.gnssUm + (match x.gnss with | some y => y * 100000000 / 3600 | none => 0)
    pulseOk := j.acc.pulseOk + b2n x.pulse.isSome, canOk := j.acc.canOk + b2n x.can.isSome
    gnssOk := j.acc.gnssOk + b2n x.gnss.isSome, syncOk := j.acc.syncOk + b2n (synced (tb0State m))
    pulseMax := max j.acc.pulseMax (x.pulse.getD 0), canMax := max j.acc.canMax (x.canTenth.getD 0)
    ignition := j.acc.ignition + b2n ign, moving := j.acc.moving + b2n moving
    worst := max j.acc.worst j.watch, disagree := j.acc.disagree + b2n (j.watch == 3)
    active := j.acc.active + b2n active } }

/-- JOURNAL_SAMPLE: the speed sources of the last second (R457), the watch, and the minute's accumulators. -/
def journalSampleCore (v : View) (w : W) : W :=
  if !powered w.m then w else
  let k := tb3Minute v
  let w := if w.m.jr.acc.minute < k then closeMinute v false k w else w
  let w := useTwin v P.journal_pulse_k 0 0 w
  let x := sampleOf w.m v.now
  let w := checkHoldSpeed v (watchStep v x.pulse x.canTenth x.gnss (w.jr (noteSample x)))
  w.jr (accumulate x w.m)

def execJournalSample (s : State) : Host.Outcome State Fault Refusal := run true journalSampleCore s

/-! ### JOURNAL operations (R471) -/

def oldestRecord (m : Module) : Nat × Nat := match m.jr.ring with | r :: _ => (r.seq, r.minute) | [] => (m.jr.next, 0)

def journalStatusBody : Body := fun _ _ _ w =>
  let j := w.m.jr
  let (seq, minute) := oldestRecord w.m
  answer w (u32 seq ++ u32 j.next ++ u32 j.lastSeal ++ u32 (ringBytes j.ring) ++ u32 minute ++ chainOf w.m)

def opJournalStatus : OpInfo := { code := 0x0D01, role := 1 }
def execJournalStatus (r : Request) (s : State) : Host.Outcome State Fault Refusal :=
  run true (request opJournalStatus r journalStatusBody) s

/-- Whole records as long as they fit. -/
def fitRecords (room : Nat) : List JRecord → List JRecord
  | [] => []
  | r :: l => if room < r.bytes.length then [] else r :: fitRecords (room - r.bytes.length) l

def journalReadBody : Body := need 8 fun _ p _ w =>
  let first := leAt p 0 4
  let limit := leAt p 4 4
  let l := if first = 0 then w.m.jr.ring else w.m.jr.ring.dropWhile (fun r => r.seq != first)
  if limit < 64 ∨ 64896 < limit then refuse w St.outOfRange
  else if first != 0 && l.isEmpty then refuse w St.outOfRange
  else
    let l := fitRecords limit l
    answer w (u16 l.length ++ zeros 2 ++ l.flatMap JRecord.bytes)

def opJournalRead : OpInfo := { code := 0x0D02, role := 1 }
def execJournalRead (r : Request) (s : State) : Host.Outcome State Fault Refusal :=
  run true (request opJournalRead r journalReadBody) s

def journalGnssBody : Body := need 4 fun _ p v w =>
  let fix := leAt p 2 1
  if 2 < fix then refuse w St.badParam
  else if fix = 0 then answer w []
  else answer ((w.jr fun j => { j with gnssSpeed := some (leAt p 0 2, v.now) }).count C.journal_gnss_rx) []

def opJournalGnss : OpInfo := { code := 0x0D03, role := 2 }
def execJournalGnss (r : Request) (s : State) : Host.Outcome State Fault Refusal :=
  run true (request opJournalGnss r journalGnssBody) s

def journalAnnotateBody : Body := need 4 fun _ p v w =>
  let n := leAt p 0 1
  if n = 0 ∨ 76 < n ∨ p.length ≠ 4 + n then refuse w St.badLength
  else if !prmB w.m P.journal_enable then refuse w St.wrongState
  else
    let bs := slice p 4 n
    let seq := w.m.jr.next
    let w := journalEvent v 0x1005 0 bs w
    let w := w.event v 0x1005 0 (u32 seq ++ u8 n ++ zeros 3 ++ bs.take 40)
    answer w (u32 seq)

def opJournalAnnotate : OpInfo := { code := 0x0D04, role := 2 }
def execJournalAnnotate (r : Request) (s : State) : Host.Outcome State Fault Refusal :=
  run true (request opJournalAnnotate r journalAnnotateBody) s

def journalSealNowBody : Body := fun _ _ v w =>
  if !prmB w.m P.journal_enable then refuse w St.wrongState
  else
    let seq := w.m.jr.next
    answer (writeSeal v (if w.m.jr.deferred then 4 else 0) w) (u32 seq)

def opJournalSealNow : OpInfo := { code := 0x0D05, role := 2 }
def execJournalSealNow (r : Request) (s : State) : Host.Outcome State Fault Refusal :=
  run true (request opJournalSealNow r journalSealNowBody) s

end Sys2Proof.Machine
end

