-- ==== Sys2Proof/Machine/Books.lean ====
section
/-! DEFINITION. Route books: slots and their checks, loading and activating one, what a change of parameters does at
once, and the ROUTEBOOK operations (spec/19, R523-R527; R67, R80, R99, R187, R295, R332, R501, R504). -/

namespace Sys2Proof.Machine

/-! ### What a change of parameters does at once -/

/-- Values of can.mode end the LISTEN_ONLY that rate detection left (R306, R309; notes/assumptions/98.md). -/
def leaveListen (chs : List Nat) (v : View) (w : W) : W :=
  w.each (chs.filter (fun ch => (canAt w.m ch).listen)) fun ch w =>
    if portHeld w.m (canPort ch) then w.can ch fun c => { c with changed := true } else restartCan v ch w

/-- A PHY whose mode changed retrains: at the release of its hold, or now (Table 03-3). -/
def followPhy (v : View) (old : Module) (w : W) : W :=
  w.each (List.range 11) fun p w =>
    if prm old P.eth_phy_mode p == prm w.m P.eth_phy_mode p then w
    else if portHeld w.m p then
      w.mod fun x => { x with holds := x.holds.map (fun h =>
        if (holdPorts h.block h.inst).contains p && !h.retrain.contains p then { h with retrain := h.retrain ++ [p] } else h) }
    else if (ethAt w.m p).up then linkTo v p false 0 false 0 w else w

/-- Until the next allotment milestone the budgets in force stay (R219). -/
def followAllot (v : View) (old : Module) (w : W) : W :=
  let now := (List.range 96).map (fun i => prm old P.fabric_allot 0 i)
  if now == (List.range 96).map (fun i => prm w.m P.fabric_allot 0 i) then w
  else
    let w := if w.m.fab.allotInForce.isEmpty then
        w.fab fun x => { x with allotInForce := (List.range 96).foldl (fun a i => a.put i (atD now i 0)) [] }
      else w
    checkStarvation v w

/-- Modes of TB0 and TB1 that changed take effect (R376). -/
def followTime (v : View) (old : Module) (w : W) : W :=
  let w := if prm old P.time_tb0_mode == prm w.m P.time_tb0_mode then w else tb0ModeSet v (prm w.m P.time_tb0_mode) w
  let w := if prm old P.time_tb1_mode == prm w.m P.time_tb1_mode then w else tb1ModeSet v (prm w.m P.time_tb1_mode) w
  noteTbStates v old w

/-- What follows at once from parameters that differ from those of `old`. -/
def followParams (v : View) (old : Module) (w : W) : W :=
  let w := followTime v old (followAllot v old (followPhy v old (followCan v old w)))
  let w := stopLins (fun n => !prmB w.m P.lin_enable n) w
  let w := w.mod fun x => { x with override := prm w.m P.module_position_override }
  judgeStatic v (List.range 10) <| followGroups v (dropLinks v (if fullService w.m then startDoip v (holdReservations old w) else holdReservations old w))

/-! ### Slots (R523, Table 19-3) -/

def bookSlot (m : Module) (s : Nat) : BookSlot := atD m.upd.slots s {}
def W.bookSlot (w : W) (s : Nat) (f : BookSlot → BookSlot) : W :=
  w.update fun u => { u with slots := upd u.slots s f }

def slotSize : Nat := 2097152
def bookId (b : BookSlot) : Nat := leAt b.bytes 8 4
def bookFormat (b : BookSlot) : Nat := leAt b.bytes 4 2
def bookContent (b : BookSlot) : List Byte := slice b.bytes 128 (leAt b.bytes 28 4)

/-- The image of a header reads this route book format (Table 19-2). -/
def readsFormat (header : List Byte) (fmt : Nat) : Bool := decide (leAt header 12 2 ≤ fmt ∧ fmt ≤ leAt header 14 2)

/-- Magic, length and hash. -/
def bookHashOk (b : BookSlot) : Bool :=
  let n := leAt b.bytes 28 4
  decide (128 ≤ b.bytes.length) && leAt b.bytes 0 4 == 0x42525A47 && decide (n ≤ 2096992)
    && (bookContent b).length == n && sha (bookContent b) == slice b.bytes 32 32

/-- The signature under the key of security.routebook_key_slot; the user code of a refused use is free. -/
def bookSigned (v : View) (b : BookSlot) (w : W) : W × Bool :=
  let w := useTwin v P.security_routebook_key_slot 0 0 w
  let slot := prm w.m P.security_routebook_key_slot
  let w := readRecord v slot w
  match usableKey w.m slot Attr.decrypt with
  | some k => (w, Config.ecdsaVerify k (sha (b.bytes.take 64)) (slice b.bytes 64 64))
  | none =>
    let (w, user) := w.free v 256
    (denyKey v slot user Attr.decrypt w, false)

/-- Why a slot is not usable, as ROUTEBOOK_VERIFY codes it; 0 when it is. `header` is the image that has to read the
format, none where that check is left out (R518). -/
def bookCause (v : View) (s : Nat) (header : Option (List Byte)) (w : W) : W × Nat :=
  let b := bookSlot w.m s
  if !bookHashOk b then (w, 1)
  else
    let (w, signed) := bookSigned v b w
    let w := useTwin v P.update_routebook_min_version 0 0 w
    let pos := w.m.mod.effective
    if !signed then (w, 2)
    else if leAt b.bytes 12 4 < prm w.m P.update_routebook_min_version then (w, 3)
    else if (match header with | some h => !readsFormat h (bookFormat b) | none => false) then (w, 4)
    else if 63 < pos || !bit (leAt b.bytes 16 8) pos then (w, 5)
    else (w, 0)

def bookUsable (v : View) (s : Nat) (w : W) : W × Nat := bookCause v s (some (runningBank w.m).header) w

/-- Event 0x1307 and its count. -/
def rejectBook (v : View) (s cause : Nat) (w : W) : W :=
  (w.count C.routebook_rejected).event v 0x1307 1 (u8 s ++ u8 cause ++ zeros 2 ++ u32 (bookId (bookSlot w.m s)))

/-! ### The footpath table (R501, R502, Tables 18-4 to 18-6) -/

def footChanOf (bs : List Byte) : FootChan :=
  { mode := leAt bs 0 1 % 4, autoRetransmit := bit (leAt bs 0 1) 2, formats := leAt bs 1 1 % 8
    nominal := [leAt bs 2 2, leAt bs 4 2, leAt bs 6 1, leAt bs 7 1]
    data := (List.range 4).map (fun k => leAt bs (8 + k) 1), xl := (List.range 4).map (fun k => leAt bs (12 + k) 1) }

def footRouteOf (bs : List Byte) : FootRoute :=
  let a := leAt bs 0 4
  let f := leAt bs 5 1
  { id := fld a 0 29, ide := bit a 29, port := leAt bs 4 1 % 64, valid := bit f 0, queue := fld f 1 2, xl := bit f 3
    portMask := leAt bs 8 8 }

/-- The copy built from a route book: `body` is bytes 64 on. -/
def footCopyOf (body : List Byte) (generation position id : Nat) (enable : Bool) : FootCopy :=
  let routes := (List.range 512).map (fun k => footRouteOf (slice body (448 + 16 * k) 16))
  let routes := routes.take (512 - (routes.reverse.takeWhile (fun r => !r.valid)).length)
  { magic := 0x46505A47, format := 1, routeCount := routes.length, generation := generation, position := position
    enable := enable, bookId := id, crcOk := true
    chans := (List.range 22).map (fun k => footChanOf (slice body (16 * k) 16)), routes := routes }

/-- What a copy puts into the footpath lookup memory: nothing when footpath_enable is 0 (R496). -/
def footLoad (c : FootCopy) : FootCopy := if c.enable then c else { c with chans := [], routes := [], routeCount := 0 }

/-- Write a new copy into the slot that was not loaded, and load it (R501, R502, R524). -/
def writeFoot (b : BookSlot) (w : W) : W :=
  let x := w.m.mod
  let slot := match x.footLoaded with | some k => 1 - k | none => 0
  let c := footCopyOf (Config.bookFoot (bookFormat b) (bookContent b)) ((x.foot.generation + 1) % 2 ^ 32) x.effective
    (bookId b) (prmB w.m P.module_footpath_enable)
  w.mod fun x => { x with foot := footLoad c, footLoaded := some slot
                          footCopies := upd x.footCopies slot (fun _ => some c) }

/-! ### Loading a route book -/

/-- can.nominal_rate to can.xl_sample_point: views of the stored segments (R303). -/
def isBasicTiming (r : PRef) : Bool := r.blk == 0x0A && decide (2 ≤ r.idx ∧ r.idx < 8)

/-- A value to store: row, instance, element, value. -/
abbrev PVal := PRef × Nat × Nat × Nat

/-- The values a preset covers (R80, R220). -/
def storePreset (p : Nat) (m : Module) : Module :=
  let m := (List.range 96).foldl (fun (m : Module) e => setPrm m P.fabric_allot 0 e (allotPreset p e)) m
  { m with mod := { m.mod with presetStatus := setFld m.mod.presetStatus 7 1 0 } }

/-- An allotment pair that leaves its preset sets bit 7 of module.preset_status (R80). -/
def markPreset (e x : Nat) (m : Module) : Module :=
  if (storedPair m P.fabric_allot 0 e).1 == x then m
  else { m with mod := { m.mod with presetStatus := setFld m.mod.presetStatus 7 1 1 } }

def storeOne (m : Module) (p : PVal) : Module :=
  let (r, i, e, x) := p
  if isBasicTiming r then m
  else if r.id == P.fabric_allot_preset.id then setPrm (storePreset x m) r i e x
  else if r.blk == 0x07 && r.idx == 0 then setPrm (markPreset e x m) r i e x
  else setPrm m r i e x

/-- Rate and sample point that a list of values asks of a phase; none where it names neither. -/
def askedTiming (m : Module) (l : List PVal) (ch ph : Nat) : Option (Nat × Nat) :=
  let asked := fun idx => ((l.filter (fun p => isBasicTiming p.1 && p.1.idx == idx && p.2.1 == ch)).getLast?).map
    (fun p => p.2.2.2)
  let rate := asked (2 + 2 * ph)
  let point := asked (3 + 2 * ph)
  if rate.isNone && point.isNone then none
  else some (rate.getD (canRate m ch ph), point.getD (phasePoint (fun r => prm m r ch) ph))

/-- Derive and store the segments of the phases whose rate or sample point is written (R302). -/
def storeTiming (l : List PVal) (ch ph : Nat) (m : Module) : Module :=
  match askedTiming m l ch ph with
  | none => m
  | some (rate, sp) =>
    match deriveSegments ph rate sp with
    | none => m
    | some (b, t1, t2) =>
      let (rb, r1, r2, rs) := phaseRows ph
      setPrm (setPrm (setPrm (setPrm m rb ch 0 b) r1 ch 0 t1) r2 ch 0 t2) rs ch 0 t2

/-- Store values together: in order, then the derived segments. -/
def storeAll (l : List PVal) (m : Module) : Module :=
  let m := l.foldl storeOne m
  (List.range 22).foldl (fun (m : Module) ch => (List.range 3).foldl (fun (m : Module) ph => storeTiming l ch ph m) m) m

/-- Parameters: the book's values, and the default where it sets none (R67). -/
def loadParams (l : List (Nat × Nat)) (w : W) : W :=
  let w := w.mod fun x => { x with params := [], bookParams := [], twinFailed := [] }
  let vals : List PVal := l.filterMap fun p => match findParam p.1 with
    | .found r i e => if r.cls == .o then none else some (r, i, e, p.2)
    | .bad _ => none
  let m := storeAll vals w.m
  { w with m := { m with mod := { m.mod with bookParams := m.mod.params.map (fun p => (p.1, p.2.1)) } } }

/-- A waypoint record the book sets (R187): `old` is the record before. -/
def bookRecord (m : Module) (t0 old e : Nat) : Nat :=
  let head := e % 2 ^ 64 - e % 2 ^ 21
  let r := setFld old 0 64 (Wp.quarantined.set head (Wp.quarantined.get old))
  let profile := [Wp.kind, Wp.period, Wp.minGap, Wp.jitter, Wp.lenMin, Wp.lenMax]
  let st := Wp.state.get e
  let was := Wp.state.get old
  if st == wpFrozen then
    setAll (if was < wpWatch then setAll r [(Wp.tail, 0), (Wp.forwardKnown, 0)] else r)
      ((Wp.justLearned, 0) :: profile.map (fun f => (f, f.get e)))
  else if st == wpOff || !Wp.valid.on e then r
  else if prmB m P.flows_relearn_on_activation || was == wpOff then startLearning r t0
  else Wp.kind.set (Wp.state.set r (if was == wpLearn then wpLearn else wpWatch)) (Wp.kind.get old)

/-- What the tables keep through a switch: quarantine of waypoint records, and F of secured flows. -/
def keptTables (x : Tables) : Tables :=
  let keep := fun (t i e : Nat) =>
    if t == 0x0C then Wp.quarantined.set (entryDefault t i) (Wp.quarantined.get e)
    else Sf.freshness.set (entryDefault t i) (Sf.freshness.get e)
  x.ent.foldl (fun (y : Tables) p =>
    let t := p.1 / 2 ^ 20
    let i := p.1 % 2 ^ 20
    if t == 0x0C || t == 0x0D then y.put t i (keep t i p.2) else y) { generation := x.generation, lastPause := x.lastPause }

/-- One entry of the book; `old` is the module before the load. Its templates start with the engine (R287, R295), and its
LPM entries take their places in the sorted partition, whatever index the book gives them (R144, R145). -/
def loadEntry (v : View) (old : Module) (t i e : Nat) (w : W) : W :=
  match tableShape t with
  | none => w
  | some (_, n) =>
    if n ≤ i then w
    else if t == 0x0C then wpPut i (bookRecord w.m v.time.tb0.full (wpGet old i) e) w
    else if t == 0x0F then w.tab fun x => x.put t i (storedEntry v w.m t i e)
    else if t == 0x0A then
      let w := w.tab fun x => x.put t i (storedEntry v w.m t i e)
      w.tpl i fun x => { x with initial := leBytes 64 (Tp.image.get (tplGet w.m i)) }
    else if t == 4 || t == 5 then
      let sp := (if t == 4 then L4.sp else L6.sp).get e
      if lpmOk t e && Sp.valid.on sp then w.tab fun x => match x.insertLpm t e with | some (y, _) => y | none => x else w
    else writeEntry v t i e w

/-- Tables: the book's entries over their defaults; NAME entries that are bound leave with the tables they came from
(R151, R187). -/
def loadTables (v : View) (l : List (Nat × Nat × Nat)) (w : W) : W :=
  let old := w.m
  let w := w.tab keptTables
  let w := w.jn fun x => { x with maps := [], sigs := [], tpls := [] }
  let gone := (w.m.ing.names.filter (fun p => p.2.bound)).map Prod.fst
  let w := endBindings (gone.contains ·) (w.ing fun x => { x with names := x.names.filter (fun p => !p.2.bound) })
  let w := w.each l fun (t, i, e) w => loadEntry v old t i e w
  w.each (List.range 11) fun p w => preemptControl p (gateControl v p w)

def bookCtx : Ctx := ⟨none, 0, 2, latest, 0, 0⟩

/-- Objects, LIN tables and wake filters (R332, R391). -/
def loadObjects (v : View) (fmt : Nat) (bs : List Byte) (w : W) : W :=
  let cans := w.m.can.map (fun c => { c with objs := c.objs.filter (fun p => decide (p.1 < 96)) })
  let lins := w.m.lin.map fun l => { l with
    bufs := [], tables := [], active := 0, entry := 0, pending := none, back := none, running := false, reading := none,
    collide := none }
  let w := { w with m := { w.m with can := cans, lin := lins } }
  let w := w.slp fun x => { x with filters := List.replicate 8 (List.replicate 24 0) }
  let w := w.each (Config.bookObjects fmt bs) fun p w => (objectConfigBody bookCtx p v w).1
  let w := w.each (Config.bookSchedules fmt bs) fun p w => (objectLinScheduleWriteBody bookCtx p v w).1
  w.each (Config.bookFilters fmt bs) fun p w => (sleepFilterWriteBody bookCtx p v w).1

/-- Load slot `s` into the data plane. -/
def loadBook (v : View) (s : Nat) (w : W) : W :=
  let old := w.m
  let b := bookSlot w.m s
  let fmt := bookFormat b
  let bs := bookContent b
  let w := loadParams (Config.bookParams fmt bs) w
  let w := followAllot v old (loadObjects v fmt bs (loadTables v (Config.bookTables fmt bs) w))
  w.mod fun x => { x with configSource := s, bookId := bookId b, bookFormat := fmt, bookVariant := leAt b.bytes 24 2
                          presetStatus := 0, configModified := false }

/-! ### Entry into RUN (R166, R491, R504, R511, R521, R538) -/

/-- Events kept for the entry into RUN, or into the state of R497: `p` selects the codes. -/
def raiseLate (v : View) (p : Nat → Bool) (w : W) : W :=
  let l := w.m.mod.late.filter (fun e => p e.code)
  let w := w.mod fun x => { x with late := x.late.filter (fun e => !p e.code) }
  w.each l fun e w => w.event v e.code e.severity e.detail

/-- Event 0x1201. In the state of R497 the time to RUN is a free value, since no RUN has come (DESIGN CHOICE,
notes/assumptions/119.md). -/
def bringUpDone (v : View) (w : W) : W :=
  let x := w.m.mod
  let (w, none_) := if x.configSource == 2 then w.free v (2 ^ 32) else (w, 0)
  let run := if x.configSource == 2 then none_ else if x.runAt = 0 then v.now / 1000 else x.runAt
  w.event v 0x1201 (if x.configSource == 2 then 1 else 0)
    (u8 x.resetCause ++ u8 x.effective ++ u8 x.bootBank ++ u8 x.configSource ++ u32 x.footAt ++ u32 run)

/-- A flag of R480 is reported and cleared. -/
def raiseFlag (v : View) (code : Nat) (o : Option (Nat × Nat)) (w : W) : W :=
  match o with
  | some (st, s) => w.event v code 2 (u8 st ++ zeros 3 ++ u32 s)
  | none => w

/-- The window in which the wake that started this run must be confirmed (R400). -/
def confirmWindow (v : View) (m : Module) : Option Nat :=
  match m.slp.records with
  | r :: _ =>
    if m.mod.resetCause == 4 && !([0, 8, 9] : List Nat).contains r.source && !r.duringEntry then
      some (v.now + prmNs m P.sleep_false_wake_window)
    else none
  | [] => none

/-- The first entry into RUN after a data-plane reset. -/
def firstRun (v : View) (w : W) : W :=
  let w := bringUpDone v (raiseLate v (fun _ => true) w)
  let w := raiseFlag v 0x1104 w.m.mod.groundLoss (raiseFlag v 0x1103 w.m.mod.brownOut w)
  let w := match w.m.mod.dpFault with
    | some (c, a, s) => w.event v 0x1402 3 (u8 c ++ zeros 3 ++ u32 a ++ u32 s)
    | none => w
  let w := w.mod fun x => { x with brownOut := none, groundLoss := none, dpFault := none, ran := true }
  let w := w.slp fun x => { x with groups := List.replicate 8 0, accruedAt := v.now, recent := [] }
  let w := w.each (List.range 8) fun g w => holdWoken v g w
  let w := w.slp fun x => { x with confirm := confirmWindow v w.m }
  let w := if inputHolds w.m then confirmWake v.now w else w
  startJunction v (reportLoss v w)

/-- A new image has reached RUN: event 0x1302, and the posted UPDATE_ACTIVATE completes (R519). -/
def announceUpdate (v : View) (w : W) : W :=
  match w.m.upd.announce with
  | none => w
  | some dp =>
    if w.m.mod.bootBank != w.m.upd.target then w else
    let w := w.event v 0x1302 0 (u32 (firmwareVersion w.m) ++ u8 w.m.mod.bootBank ++ u8 (b2n dp) ++ zeros 2)
    let w := match w.m.upd.activating with
      | some o => completeEvent v o.sid o.tag o.opcode St.ok [] w
      | none => w
    w.update fun u => { u with announce := none, activating := none }

/-- The module enters RUN with firmware running: the epoch rises, controllers take the settings of the parameters, own
addresses given up in FOOTPATH are claimed, and what waited for RUN is reported. -/
def enterRun (v : View) (w : W) : W :=
  let old := w.m
  let w := w.mod fun x => { x with state := .run, fromRun := false }
  let w := (w.tc fun t => { t with epoch := (t.epoch + 1) % 16 }).update fun u =>
    { u with runSince := if w.m.mod.configSource == 2 then none else some v.now }
  let w := if w.m.mod.ran then w else firstRun v w
  let w := followCan v old w
  let w := if old.mod.state != .footpath then w
    else w.each (List.range 22) fun ch w => if (canAt w.m ch).ownAddr == 255 then claimOwn v ch w else w
  followGroups v (announceUpdate v (startDoip v w))

/-! ### ROUTEBOOK_ACTIVATE (R524) -/

/-- The bank switch and everything after it; the answer carries the route book and the pause, a free value of at most
2 µs. -/
def switchBook (v : View) (s : Nat) (w : W) : W × List Byte :=
  let old := w.m
  let b := bookSlot w.m s
  let w := loadBook v s w
  let w := w.mod fun x => { x with generation := (x.generation + 1) % 2 ^ 32 }
  let w := w.borul fun x => { x with slots := x.slots.map (fun s => { s with staged := [] }) }
  let w := startJunction v (leaveListen (List.range 22) v (followParams v old (writeFoot b w)))
  let w := (endHolds v w).update fun u => { u with committed := some s, slots := upd u.slots s (fun x => { x with st := 1 }) }
  let w := (w.count C.routebook_activations).event v 0x1306 0
    (u8 s ++ zeros 3 ++ u32 (bookId b) ++ u16 (bookFormat b) ++ zeros 2)
  let w := if noBook old && rangeRuns w.m then enterRun v w else w
  let w := if w.m.mod.state == .run && w.m.upd.runSince == none then w.update fun u => { u with runSince := some v.now } else w
  let (w, pause) := w.free v 2001
  (w, u32 (bookId b) ++ u32 pause)

/-- Contexts that run the old program hold the switch up (R99). -/
def busyContexts (m : Module) : Bool := m.ing.ctxs.any (fun c => c.frame.isSome)

def activateBook (v : View) (s : Nat) (w : W) : W × Ans :=
  let (w, cause) := bookUsable v s w
  if cause != 0 then refuse (rejectBook v s cause w) St.integrity
  else if busyContexts w.m then
    let w := w.ing fun x => { x with ctxs := x.ctxs.map (fun c => { c with draining := c.draining || c.frame.isSome }) }
    (w, .wait (.book s) [])
  else
    let (w, p) := switchBook v s w
    (w, .ok p)

def slotOp (f : Nat → Body) : Body := need 4 fun c p v w =>
  let s := leAt p 0 1
  if 1 < s then refuse w St.outOfRange else f s c p v w

def routebookActivateBody : Body := slotOp fun s _ _ v w =>
  if switching w.m then refuse w St.inProgress else activateBook v s w

def opRoutebookActivate : OpInfo := { code := 0x0504, role := 3, post := true }
def execRoutebookActivate (r : Request) (s : State) : Host.Outcome State Fault Refusal :=
  run true (request opRoutebookActivate r routebookActivateBody) s

/-- Waiting switches take place. -/
def finishSwitches (v : View) (w : W) : W :=
  w.each (waitingOps w.m isBookSwitch) fun o w =>
    match o.kind with
    | .book s =>
      let (w, p) := switchBook v s w
      finishOp v o St.ok p w
    | _ => w

/-- No port is left whose contexts run an old program. -/
def isDrained : OpKind → Bool
  | .drain [] => true
  | _ => false

/-- The write no longer waits for this port. -/
def drainedOf (port : Nat) (o : Op) : Op :=
  match o.kind with
  | .drain ports => { o with kind := .drain (ports.filter (· != port)) }
  | _ => o

/-- PARSE_ENTRY_DRAIN_COMPLETE (R99): the contexts that ran the old program of a port have ended. -/
def parseEntryDrainCompleteCore (port : Nat) (v : View) (w : W) : W :=
  let busy := fun (p : Nat) => w.m.ing.ctxs.any (fun c => c.draining &&
    (match c.frame with | some f => f.port == p | none => false))
  let none_ := w.m.ing.ctxs.all (fun c => !c.draining)
  if busy port then w
  else
    let w := w.borul fun b => { b with ops := b.ops.map (drainedOf port) }
    let w := finishWaiting v isDrained w
    if none_ then finishSwitches v w else w

def execParseEntryDrainComplete (port : Nat) (s : State) : Host.Outcome State Fault Refusal :=
  run (decide (port < 44)) (parseEntryDrainCompleteCore port) s

/-! ### The other ROUTEBOOK operations (Table 19-4) -/

/-- A slot under the protection of a trial (R520). -/
def protected_ (m : Module) (s : Nat) : Bool := m.upd.st == 3 && m.upd.protected_ == some s

def slotStatus (m : Module) (s : Nat) : List Byte :=
  let b := bookSlot m s
  u8 b.st ++ u8 (b2n (protected_ m s)) ++ u8 (b2n (m.upd.committed == some s)) ++ u8 0 ++ u32 b.bytes.length

def routebookStatusBody : Body := fun _ _ _ w => answer w (slotStatus w.m 0 ++ slotStatus w.m 1)

def opRoutebookStatus : OpInfo := { code := 0x0501, role := 1 }
def execRoutebookStatus (r : Request) (s : State) : Host.Outcome State Fault Refusal :=
  run true (request opRoutebookStatus r routebookStatusBody) s

def routebookWriteBody : Body := need 8 fun c p v w => slotOp (fun s _ p _ w =>
  let off := leAt p 4 4
  let bs := p.drop 8
  let b := bookSlot w.m s
  if slotSize < off + bs.length then refuse w St.outOfRange
  else if off != 0 && off != b.bytes.length then refuse w St.badParam
  else if w.m.upd.committed == some s || protected_ w.m s then refuse w St.locked
  else if switching w.m then refuse w St.inProgress
  else
    let all := if off = 0 then bs else b.bytes ++ bs
    let w := w.bookSlot s fun _ => { st := if all.isEmpty then 2 else 3, bytes := all }
    answer w (u32 all.length)) c p v w

def opRoutebookWrite : OpInfo := { code := 0x0502, role := 3, post := true }
def execRoutebookWrite (r : Request) (s : State) : Host.Outcome State Fault Refusal :=
  run true (request opRoutebookWrite r routebookWriteBody) s

def routebookVerifyBody : Body := slotOp fun s _ _ v w =>
  let (w, cause) := bookUsable v s w
  let w := w.bookSlot s fun b => { b with st := if cause = 0 then 1 else if b.st = 0 then 0 else 2 }
  answer w (u8 (b2n (cause == 0)) ++ u8 cause ++ zeros 2)

def opRoutebookVerify : OpInfo := { code := 0x0503, role := 3, post := true }
def execRoutebookVerify (r : Request) (s : State) : Host.Outcome State Fault Refusal :=
  run true (request opRoutebookVerify r routebookVerifyBody) s

/-- The header as it stands in flash; bytes never written read as erased flash, a free value. -/
def routebookHeaderReadBody : Body := slotOp fun s _ _ v w =>
  let h := (bookSlot w.m s).bytes.take 128
  let missing := 128 - h.length
  let (w, pad) := if missing = 0 then (w, []) else
    let (w, x) := w.free v (256 ^ missing)
    (w, leBytes missing x)
  answer w (h ++ pad)

def opRoutebookHeaderRead : OpInfo := { code := 0x0505, role := 1, rev := 2 }
def execRoutebookHeaderRead (r : Request) (s : State) : Host.Outcome State Fault Refusal :=
  run true (request opRoutebookHeaderRead r routebookHeaderReadBody) s

end Sys2Proof.Machine
end

