-- ==== Sys2Proof/Machine/Keys.lean ====
section
/-! DEFINITION. The KEY family and the orphan sweep (spec/15, R436-R443, R452). -/

namespace Sys2Proof.Machine

/-- Key operations in use: KEY operations accepted and not yet complete (R452). -/
def keyOpsInUse (m : Module) : Nat := (m.borul.ops.filter (fun o => o.opcode / 256 == 0x0B)).length

/-- Each KEY operation needs one of the 8 key operations (R452). -/
def keyOp (body : Body) : Body := fun c p v w =>
  if 8 ≤ keyOpsInUse w.m then refuse w St.busy else body c p v w

/-- A key status entry (Table 15-8). -/
def keyEntry (m : Module) (i : Nat) : List Byte :=
  let k := keySlot m i
  u8 i ++ u8 (keyState m i) ++ u8 k.type ++ u8 k.attrs ++ u16 k.parent ++ u8 k.depth ++ u8 0 ++ u32 k.counter
    ++ u32 k.lineage ++ u32 k.kcv ++ u32 k.commitS

def keyEntries (m : Module) (first n : Nat) : List Byte :=
  ((List.range n).map (fun k => keyEntry m (first + k))).flatten

def keyStatusBody : Body := need 4 fun c p v w =>
  let first := leAt p 0 1
  let n := if leAt p 1 1 == 0 then 256 else leAt p 1 1
  if 256 < first + n then refuse w St.outOfRange
  else keyOp (fun _ _ _ w => answer w (u16 n ++ zeros 2 ++ keyEntries w.m first n)) c p v w

def opKeyStatus : OpInfo := { code := 0x0B01, role := 1 }
def execKeyStatus (r : Request) (s : State) : Host.Outcome State Fault Refusal :=
  run true (request opKeyStatus r keyStatusBody) s

/-! ### KEY_UPDATE (R438-R443) -/

/-- The fields of a KEY_UPDATE message (Table 15-4). -/
structure KeyMsg where
  slot : Nat
  op : Nat
  parent : Nat
  counter : Nat
  type : Nat
  attrs : Nat
  bytes : List Byte

def KeyMsg.block (k : KeyMsg) : List Byte := slice k.bytes 20 72
def KeyMsg.context (k : KeyMsg) : List Byte := slice k.bytes 0 16

def keyMsg (p : List Byte) : KeyMsg :=
  { slot := leAt p 8 1, op := leAt p 9 1, parent := leAt p 10 2, counter := leAt p 12 4, type := leAt p 16 1
    attrs := leAt p 17 1 % 16, bytes := p.take 108 }

/-- The parent key of a message, when its slot is VALID and carries the attribute (R435, R439 step 4). -/
def parentKey (m : Module) (k : KeyMsg) : Option (List Byte) :=
  let attr := if k.op == 2 then Attr.derive else Attr.wrap
  if k.parent == 0xFFFF then some (transportKey m)
  else if k.parent == k.slot then none
  else usableKey m k.parent attr

def parentFits (m : Module) (k : KeyMsg) : Bool := k.op != 1 || k.parent == (keySlot m k.slot).parent

/-- Step 8 of R439: type, attributes, depth and fixed slots. -/
def keyShapeOk (k : KeyMsg) (depth : Nat) : Bool :=
  let common := decide (depth ≤ 4) && decide (k.type ≤ 2) && (k.type != 2 || (k.op == 0 && (k.attrs == 0 || k.attrs == 2)))
  let fixed :=
    if k.slot == 248 then k.type == 2 && k.attrs == 2
    else if 250 ≤ k.slot ∧ k.slot ≤ 252 then decide (k.type ≤ 1) && k.attrs == 8
    else decide (k.slot < 248)
  k.op == 1 || (common && fixed)

def keySize (type : Nat) : Nat := if type == 0 then 16 else if type == 1 then 32 else 64

/-- Steps 7 and the key itself: the material of a LOAD or a DERIVE; none when the integrity check fails. -/
def newMaterial (p : List Byte) (bits : Nat) (k : KeyMsg) : Option (List Byte) :=
  if k.op == 1 then some []
  else if k.op == 2 then some (kdf p (slice k.block 0 32) (slice k.block 32 32) (if k.type == 0 then 128 else 256))
  else
    match Config.keyUnwrap (kdf p (ascii 12 "ZGM KEY WRAP") k.context bits) k.block with
    | none => none
    | some b =>
      if k.type == 2 && !Config.onCurve (b.take 64) then none else some (b.take (keySize k.type))

def depthOf (m : Module) (parent : Nat) : Nat := if parent == 0xFFFF then 0 else (keySlot m parent).depth

def lineageOf (m : Module) (parent : Nat) : List (Nat × Nat) :=
  if parent == 0xFFFF then [] else ((parent, (keySlot m parent).lineage) :: (keySlot m parent).ancestry).take 4

/-- The KEY_UPDATE reply, without and with its proof (R443). -/
def keyReply (km : List Byte) (slot state counter kcv : Nat) : List Byte :=
  let head := u8 slot ++ u8 state ++ zeros 2 ++ u32 counter ++ u32 kcv
  head ++ cmacBytes km head

/-- Commit an accepted message (R440, R442): the record, generation, event 0x0F01. A FAULTY slot stays so until a LOAD
(R443). -/
def commitKey (v : View) (k : KeyMsg) (km material : List Byte) (w : W) : W × List Byte :=
  let old := keySlot w.m k.slot
  let s := tb3Seconds (w.base v)
  let kcv := if k.op == 1 || k.type == 2 then 0 else beVal ((cmacBytes material (zeros 16)).take 4)
  let raise := k.op == 1 || (k.op == 0 && k.parent != old.parent)
  let lineage := if raise then (old.lineage + 1) % 2 ^ 32 else old.lineage
  let st := if k.op != 0 && old.st == 4 then 4 else if k.op == 1 then 0 else 1
  let reply := keyReply km k.slot st k.counter kcv
  let rec0 : KeySlot :=
    { st := st, parent := old.parent, counter := k.counter, lineage := lineage, commitS := s, digest := sha k.bytes, reply := reply }
  let new : KeySlot :=
    if k.op == 1 then rec0
    else { rec0 with type := k.type, attrs := k.attrs, parent := k.parent, depth := depthOf w.m k.parent + 1
                     kcv := kcv, material := material, ancestry := lineageOf w.m k.parent }
  let before := orphans w.m
  let w := writeRecord k.slot new w
  let w := w.keys fun x => { x with generation := (x.generation + 1) % 2 ^ 32
                                    lastCommit := (v.time.tb3).full }
  let gone := ((orphans w.m).filter (fun i => !before.contains i)).length
  let w := (w.count C.key_update_ok).event v 0x0F01 0
    (u8 k.slot ++ u8 k.op ++ zeros 2 ++ u32 k.counter ++ u32 kcv ++ u16 gone ++ zeros 2)
  (w, reply)

/-- A failure after step 1 (R439). -/
def rejectKey (v : View) (k : KeyMsg) (st : Nat) (w : W) : W × Ans :=
  refuse ((w.count C.key_update_rejected).event v 0x0F02 1 (u8 k.slot ++ u8 k.op ++ u16 st ++ u32 k.counter)) st

/-- Role whose access key a slot holds (Table 15-2). -/
def accessRole (slot : Nat) : Option Nat := if 250 ≤ slot ∧ slot ≤ 252 then some (slot - 250) else none

/-- INVALIDATE of an access key ends every open session of its role (R30); the own one after the reply (R442). -/
def endRole (v : View) (c : Ctx) (role : Nat) (w : W) : W :=
  w.each (List.range 4) fun i w =>
    let s := slotAt w.m i
    if s.st == .opened && s.role == role && !(c.slot == some i && s.id == c.sid) then endSession v i 4 w else w

/-- Steps 5 to 8 of R439 and the commit. -/
def checkKey (v : View) (c : Ctx) (k : KeyMsg) (p : List Byte) (w : W) : W × Ans :=
  let bits := 8 * p.length
  let km := kdf p (ascii 11 "ZGM KEY MAC") k.context bits
  let old := keySlot w.m k.slot
  if cmacBytes km (k.bytes.take 92) != slice k.bytes 92 16 then rejectKey v k St.integrity w
  else if k.counter == old.counter && old.digest == sha k.bytes then answer w old.reply
  else if k.counter ≤ old.counter then rejectKey v k St.counterStale w
  else match newMaterial p bits k with
    | none => rejectKey v k St.integrity w
    | some material =>
      if !keyShapeOk k (depthOf w.m k.parent + 1) then rejectKey v k St.badParam w
      else
        let (w, reply) := commitKey v k km material w
        match k.op, accessRole k.slot with
        | 1, some role =>
          let w := endRole v c role w
          if c.role == role then (w, .okEnd reply 4) else (w, .ok reply)
        | _, _ => answer w reply

def keyUpdateBody : Body := need 108 fun c p v w =>
  let k := keyMsg p
  if leAt p 0 8 != w.m.ident.uniqueId then refuse w St.badParam
  else
  let w := useTwin v P.security_key_update_enable 0 0 w
  if prm w.m P.security_key_update_enable == 0 then rejectKey v k St.locked w
  else if keyUpdating w.m k.slot then
    rejectKey v k St.inProgress w
  else if 8 ≤ keyOpsInUse w.m then rejectKey v k St.busy w
  else if 2 < k.op || !parentFits w.m k then rejectKey v k St.badParam w
  else
  let w := if k.parent < 256 && k.parent != k.slot then readRecord v k.parent w else w
  match parentKey w.m k with
    | some pk => checkKey v c k pk w
    | none =>
      let w := if k.parent < 256 && k.parent != k.slot
        then denyKey v k.parent 4 (if k.op == 2 then Attr.derive else Attr.wrap) w else w
      rejectKey v k St.badParam w

def opKeyUpdate : OpInfo := { code := 0x0B02, role := 3, post := true }
def execKeyUpdate (r : Request) (s : State) : Host.Outcome State Fault Refusal :=
  run true (request opKeyUpdate r keyUpdateBody) s

/-! ### KEY_CERT_READ, KEY_ATTEST -/

def keyCertReadBody : Body := keyOp fun _ _ _ w =>
  let der := w.m.ident.certificate
  answer w (u16 der.length ++ zeros 2 ++ der)

def opKeyCertRead : OpInfo := { code := 0x0B03, role := 1 }
def execKeyCertRead (r : Request) (s : State) : Host.Outcome State Fault Refusal :=
  run true (request opKeyCertRead r keyCertReadBody) s

def keyAttestBody : Body := need 32 <| keyOp fun _ p _ w =>
  if prm w.m P.security_attest_enable == 0 then refuse w St.wrongState
  else
    let head := u64 w.m.ident.uniqueId ++ u32 w.m.keys.generation ++ u32 (firmwareVersion w.m)
      ++ sha (keyEntries w.m 0 256)
    answer w (head ++ sealSign w.m (head ++ p.take 32))

def opKeyAttest : OpInfo := { code := 0x0B04, role := 1, rev := 2 }
def execKeyAttest (r : Request) (s : State) : Host.Outcome State Fault Refusal :=
  run true (request opKeyAttest r keyAttestBody) s

/-! ### ORPHAN_SWEEP (R437) -/

/-- An orphaned slot, swept: its key is gone; the parent stays the one of its last LOAD or DERIVE (R432, R437). -/
def sweptSlot (k : KeySlot) : KeySlot :=
  { parent := k.parent, counter := k.counter, lineage := k.lineage, commitS := k.commitS, digest := k.digest, reply := k.reply }

def orphanSweepCore (_ : View) (w : W) : W :=
  if !powered w.m then w else w.each (orphans w.m) fun i w => writeRecord i (sweptSlot (keySlot w.m i)) w

def execOrphanSweep (s : State) : Host.Outcome State Fault Refusal := run true orphanSweepCore s

end Sys2Proof.Machine
end

