-- ==== Sys2Proof/Machine/Restart.lean ====
section
/-! DEFINITION. Bring-up, what a management restart ends and interrupts, SAFE, and faults of the data plane (spec/18,
R492-R512; spec/19, R514, R522; spec/20, R538, R539). -/

namespace Sys2Proof.Machine

/-! ### Firmware images (R514, R522) -/

def bankAt (m : Module) (k : Nat) : Bank :=
  if k < 2 then atD m.upd.banks k {} else { st := 1, header := m.ident.detourHeader, image := m.ident.detourImage }

def W.bank (w : W) (k : Nat) (f : Bank → Bank) : W := w.update fun u => { u with banks := upd u.banks k f }

def headerVersion (h : List Byte) : Nat := leAt h 4 4
def headerSecurity (h : List Byte) : Nat := leAt h 8 2
def headerCompat (h : List Byte) : Nat := leAt h 10 2
def headerSize (h : List Byte) : Nat := leAt h 16 4

/-- Header checks of R514 that need no image: magic, signature, hardware revision, size. -/
def headerOk (m : Module) (h : List Byte) : Bool :=
  leAt h 0 4 == 0x46575A47 && Config.ecdsaVerify m.ident.firmwareKey (sha (h.take 64)) (slice h 64 64)
    && bit (leAt h 20 4) m.ident.hardwareRevision && decide (headerSize h ≤ 25165696)

/-- Why an image may not start, as event 0x1308 codes it; the detour image is exempt from the fuse check. -/
def imageFault (m : Module) (k : Nat) : Option Nat :=
  let b := bankAt m k
  if !headerOk m b.header then some 0
  else if b.image.length != headerSize b.header || sha b.image != slice b.header 24 32 then some 1
  else if k < 2 && decide (headerSecurity b.header < m.ident.fuseVersion) then some 2
  else none

/-- Boot order (R522): the trial bank, the last confirmed bank, the other bank, the detour image. -/
def bootOrder (m : Module) : List Nat :=
  let c := m.upd.confirmed
  let l := (if m.upd.st == 3 then [m.upd.target] else []) ++ [c, 1 - c]
  (l.foldl (fun a k => if a.contains k then a else a ++ [k]) []).filter
    (fun k => (bankAt m k).st == 1 || (bankAt m k).st == 3) ++ [2]

/-- The trial is over: its bank is invalid and the update IDLE (R522). `raise` reports event 0x1304. -/
def endTrial (cause boots : Nat) (report : Nat → Nat → List Byte → W → W) (w : W) : W :=
  let u := w.m.upd
  let failed := headerVersion (bankAt w.m u.target).header
  let w := w.bank u.target fun b => { b with st := 2 }
  let w := w.update fun u => { u with
    st := 0, result := cause, announce := none, activating := none, trialNs := 0, trialRestarts := 0, trialOver := false
    wanted := if u.switched then u.protected_ else none
    committed := if u.switched then u.protected_ else u.committed, protected_ := none, switched := false }
  let w := (w.count C.update_fallbacks).mod fun x => { x with restarts := [] }
  report 0x1304 2 (u8 cause ++ u8 boots ++ zeros 2 ++ u32 failed) w

/-! ### SAFE (R509, R539) -/

/-- What a restart of the management processor ends: sessions, holds, DoIP connections, transfers, operations
(Table 18-7), and the closures of requesters 12 and 13 (R226). DESIGN CHOICE (notes/assumptions/112.md): the failure
counts of R35 and a running lockout stay. -/
def endManagement (v : View) (w : W) : W :=
  let w := w.each (List.range 4) fun i w => if (slotAt w.m i).st == .free then w else endSession v i 5 w
  let w := releaseClosure v 13 (releaseClosure v 12 (endHolds v (closeDoip (fun _ => true) w)))
  w.borul fun b => { b with ops := [], partials := [], isotp := [], pairQueue := [] }

/-- The context of the session that posted an operation. -/
def postedCtx (m : Module) (o : Op) : Ctx :=
  let s := slotAt m o.slot
  ⟨some o.slot, o.sid, o.role, if s.id == o.sid then (s.major, s.minor) else latest, o.seq, o.tag⟩

/-- An accepted operation leaves the list of those in flight. -/
def leave (o : Op) (w : W) : W :=
  w.borul fun b => { b with ops := b.ops.filter (fun x => !(x.sid == o.sid && x.tag == o.tag)) }

def Ans.isOk : Ans → Bool
  | .ok _ | .okEnd .. => true
  | _ => false

/-- How far the write of immediate table entries had come when it is interrupted is free: the entries applied, and
whether the closure of the next one is open, with its write under way (R226, R507; notes/assumptions/51.md). -/
def interruptWrite (v : View) (o : Op) (w : W) : W × List Byte :=
  let p := o.payload
  let t := leAt p 0 1
  let count := leAt p 2 2
  let first := leAt p 4 4
  let busy := (w.m.fab.closures.getD 12 []).any (fun c => c.live (v.cycle))
  let nothing := (w, u32 0 ++ u32 0xFFFFFFFF)
  if t == 2 || t == 3 || busy || !(tableWriteBody (postedCtx w.m o) p v w).2.isOk then nothing
  else
    let (w, k) := w.free v (count + 1)
    let (w, half) := w.free v 2
    let es := (payloadEntries (entrySize t first) count p).take k
    let w := w.each es.zipIdx fun q w => writeEntry v t (first + q.2) q.1 w
    let w := if k = 0 then w else modified w
    if k < count ∧ half = 1 then
      (w.fab fun x => { x with closures := x.closures.put 12 [{ entryClosure t (first + k) with start := v.cycle }] },
        u32 k ++ u32 (first + k))
    else (w, u32 k ++ u32 0xFFFFFFFF)

def late (code sev : Nat) (detail : List Byte) (w : W) : W :=
  w.mod fun x => { x with late := x.late ++ [⟨code, sev, detail⟩] }

/-- The KEY_UPDATE that leads from `m` to `m'` has written a record, and is no replay (R439 step 6, R441). -/
def stages (m m' : Module) : Bool := m.keys.generation != m'.keys.generation

/-- The staged record of a KEY_UPDATE without its commit burst is discarded (R441). -/
def discardStaged (o : Op) (w : W) : W :=
  late 0x0F04 1 (u8 (leAt o.payload 8 1) ++ zeros 3 ++ u32 (leAt o.payload 12 4)) (w.count C.key_staging_discarded)

/-- What an interrupted operation has done, and what its completion says (R507). Whether the commit burst of a
KEY_UPDATE was written, and whether its record was staged, is free; every other operation has had no effect yet. -/
def interruptOp (v : View) (o : Op) (w : W) : W × Interrupted :=
  let none_ : Interrupted := ⟨o, St.internal, u32 0 ++ u32 0xFFFFFFFF⟩
  let w := leave o w
  match o.kind with
  | .posted =>
    if o.opcode == opTableWrite.code then
      let (w, d) := interruptWrite v o w
      (w, ⟨o, St.internal, d⟩)
    else if o.opcode == opKeyUpdate.code then
      let (w, far) := w.free v 3
      match keyUpdateBody (postedCtx w.m o) o.payload v w with
      | (x, .ok p) | (x, .okEnd p _) =>
        if far = 2 then (x, ⟨o, St.ok, p⟩) else (if far = 1 && stages w.m x.m then discardStaged o w else w, none_)
      | _ => (w, none_)
    else (w, none_)
  | _ => (w, none_)

/-- Operations a restart of cause 1 or 4 interrupts are reported later (R507). -/
def keepInterrupted (v : View) (w : W) : W :=
  let w := w.each (w.m.borul.ops.filter Op.posted) fun o w =>
    let (w, x) := interruptOp v o w
    w.borul fun b => { b with interrupted := b.interrupted ++ [x] }
  w.borul fun b => { b with ops := [] }

/-- Entry into SAFE: the causes of events 0x1205 and 0x1403. The management processor starts the detour image, which
then reports itself running. -/
def enterSafe (v : View) (cause fault : Nat) (w : W) : W :=
  let old := w.m
  let w := accrueTrial v (chargeUnmanaged v w)
  let w := w.event v 0x1403 3 (u8 fault ++ zeros 3)
  let w := w.event v 0x1205 3 (u8 cause ++ zeros 3 ++ u16 0x1403 ++ zeros 2)
  let w := (endManagement v (keepInterrupted v w)).count C.safe_entries
  let w := w.mod fun x => { x with
    state := .safe, bootBank := 2, firmwareRunning := false, fromRun := false, safeSince := v.now, booting := none
    unmanagedSince := none, mgmtStart := v.now, restartAt := v.now }
  let w := (w.slp fun x => { x with quietSince := v.now }).update fun u => { u with runSince := none }
  dropLinks v (dropOwn (followCan v old (chansToSafe v (stopLins (fun _ => true) w))))

/-! ### Management restarts (R505-R508, R522) -/

/-- The management processor has been started. -/
def mgmtUp (m : Module) : Bool := m.mod.firmwareRunning || m.mod.unmanagedSince.isSome

/-- The restart itself: in RUN the module becomes UNMANAGED; a sleep under way is cancelled (R399). -/
def beginRestart (v : View) (cause bank : Nat) (w : W) : W :=
  let w := if w.m.mod.state == .sleepPrep then cancelSleep v [] 255 255 w else w
  let w := if w.m.mod.state == .run then freezeOutputs v w else w
  let w := endManagement v (if cause == 1 || cause == 4 then keepInterrupted v w else w)
  let w := w.mod fun x => { x with
    state := if x.state == .run then .unmanaged else x.state
    restartCause := cause, bootBank := if x.state == .safe then 2 else bank, firmwareRunning := false
    unmanagedSince := some (x.unmanagedSince.getD v.now), restartAt := v.now, mgmtStart := v.now }
  w.update fun u => { u with runSince := none }

/-- The bank that boots when the trial is over: the first of the order that passes R514. -/
def bootBankOf (m : Module) : Nat := ((bootOrder m).find? (fun k => (imageFault m k).isNone)).getD 2

/-- Counted restarts that lie in module.restart_window (R508). -/
def counted (m : Module) (now : Nat) : List Nat :=
  m.mod.restarts.filter (fun t => decide (now < t + prmNs m P.module_restart_window))

/-! ### Step 7 and RUN (Table 18-3, R525) -/

/-- The freshness of every secured flow is the one MRAM holds (R445, R447), in the route book or not. -/
def restoreFreshness (w : W) : W :=
  w.each (w.m.keys.mram.map Prod.fst) fun i w => flowPut i (Sf.freshness.set (flowGet w.m i) (w.m.keys.mram.getD i 0)) w

/-- The committed slot when it is usable, and otherwise the other one (R525). -/
def selectBook (v : View) (w : W) : W :=
  let old := w.m
  let w := restoreFreshness w
  match w.m.upd.committed with
  | none => w
  | some s =>
    let (w, cause) := bookUsable v s w
    if cause = 0 then followTime v old (loadBook v s w)
    else
      let (w, other) := bookUsable v (1 - s) w
      if other = 0 then followTime v old (loadBook v (1 - s) (rejectBook v s cause w)) else w

/-- KEY_UPDATE operations that were cut off: how far each had come is free. Before its staging marker it leaves nothing
(0), a staged record without its commit burst is discarded (1), and with its burst the update stands (2; R440, R441). -/
def discardStaging (v : View) (w : W) : W :=
  let cut := w.m.keys.cut
  let w := w.keys fun k => { k with cut := [] }
  w.each cut fun o w =>
    let (w, far) := w.free v 3
    let (x, a) := keyUpdateBody (postedCtx w.m o) o.payload v w
    if far = 0 || !a.isOk then w
    else if far = 1 then (if stages w.m x.m then discardStaged o w else w)
    else x

/-- The firmware runs again: a deferred seal is written (R465). -/
def sealDeferred (v : View) (w : W) : W := if w.m.jr.deferred then writeSeal v 4 w else w

/-- An event that the journal appends whatever its filter says (R466). -/
def appendedEvent (v : View) (code sev : Nat) (detail : List Byte) (w : W) : W :=
  let w := w.event v code sev detail
  if prmB w.m P.journal_enable && !journalTakes w.m code sev then sealIfDue v (journalEvent v code sev detail w) else w

/-- The journal goes on after the break: the deferred seal, and event 0x1004 (R465, R466). -/
def resumeJournal (v : View) (w : W) : W :=
  let cause := if w.m.mod.resetCause == 4 then 0 else if w.m.mod.resetCause < 2 then 1 else 2
  let minute := tb3Minute (w.base v)
  let last := w.m.jr.lastMinute
  let w := sealDeferred v (if w.m.jr.acc.minute < minute then closeMinute v false minute w else w)
  appendedEvent v 0x1004 (if cause == 1 then 1 else 0) (u8 cause ++ zeros 3 ++ u32 last ++ u32 minute) w

/-- A slot the new image, or after a fallback the previous one, wants active is activated at its entry into RUN (R520,
R522). -/
def activateWanted (v : View) (w : W) : W :=
  match w.m.upd.wanted with
  | none => w
  | some s =>
    if w.m.upd.st == 3 && w.m.mod.bootBank != w.m.upd.target then w else
    let w := w.update fun u => { u with wanted := none }
    let (w, cause) := bookUsable v s w
    if cause = 0 then (switchBook v s w).1.update fun u => { u with switched := u.st == 3 }
    else rejectBook v s cause w

def runNow (v : View) (w : W) : W := activateWanted v (enterRun v w)

/-- FOOTPATH ends once a route book is loaded, firmware runs and the range is normal or high (Table 17-3). -/
def leaveFootpath (v : View) (w : W) : W :=
  if w.m.mod.state == .footpath && w.m.mod.firmwareRunning && w.m.mod.booting.isNone && rangeRuns w.m
      && (w.m.mod.configSource != 2 || w.m.mod.fromRun) then runNow v w
  else w

/-- The firmware reports itself running at bring-up: step 7, and RUN, FOOTPATH or the state of R497. -/
def firmwareUp (v : View) (w : W) : W :=
  let w := w.mod fun x => { x with firmwareRunning := true, booting := none, mgmtStart := v.now }
  let w := w.update fun u => { u with dpCompat := headerCompat (runningBank w.m).header }
  let w := resumeJournal v (selectBook v (discardStaging v w))
  let w := w.mod fun x => { x with override := prm w.m P.module_position_override }
  let hold := w.m.supply.holdup
  let w := if hold < prm w.m P.supply_holdup_warning then w.event v 0x1108 2 (u32 hold) else w
  if w.m.mod.configSource == 2 then bringUpDone v (openService v (raiseLate v (fun c => c == 0x1202) w))
  else if rangeRuns w.m then runNow v w
  else w

/-! ### BRING_UP (R495, Table 18-3) -/

/-- Band of a ratio in ‰ (Table 21-8). -/
def bandOf (x : Nat) : Option Nat :=
  if 1050 < x then none
  else some (([64, 204, 354, 496, 635, 782, 929].filter (fun t => decide (t < x))).length)

/-- All four samples lie in one band. -/
def sameBand (l : List Nat) : Option Nat :=
  match l.map bandOf with
  | some b :: r => if l.length == 4 && r.all (· == some b) then some b else none
  | _ => none

/-- The position code (R499). -/
def positionCode (a b : List Nat) : Nat :=
  match sameBand a, sameBand b with
  | some x, some y => x * 8 + y
  | _, _ => 255

/-- Mean of the four samples of an input, in ‰, rounded down; 0xFFFF when they lie in no one band (Table 21-9). -/
def meanRatio (l : List Nat) : Nat := if (sameBand l).isSome then l.sum / 4 else 0xFFFF

/-- Step 2, with event 0x1203 (R500). -/
def readPosition (v : View) (b : BringUp) (w : W) : W :=
  let code := positionCode b.posA b.posB
  let w := w.io fun x => { x with posA := meanRatio b.posA, posB := meanRatio b.posB }
  let prev := w.m.mod.prevPosition
  let forced := w.m.mod.override
  let w := w.mod fun x => { x with
    positionCode := code, prevPosition := some code, effective := if forced == 255 then code else forced }
  let differs := match prev with | some p => p != code | none => false
  if code == 255 || differs then
    w.event v 0x1203 (if code == 255 then 2 else 1) (u8 code ++ u8 (prev.getD 255) ++ u8 forced ++ u8 0)
  else w

/-- A copy of the footpath table is valid (R501). -/
def copyValid (eff : Nat) (c : FootCopy) : Bool :=
  c.magic == 0x46505A47 && c.format == 1 && decide (c.routeCount ≤ 512) && c.crcOk
    && (c.position == eff || c.position == 255)

/-- Step 4, with the report of event 0x1202 (R496, R501). -/
def loadFoot (w : W) : W :=
  let eff := w.m.mod.effective
  let copies := w.m.mod.footCopies.zipIdx.filterMap (fun (o, k) => o.map (fun c => (k, c)))
  let good := copies.filter (fun p => copyValid eff p.2)
  let bad := copies.length - good.length
  let w := w.count C.footpath_copy_invalid 0 bad
  let best := good.foldl (fun (o : Option (Nat × FootCopy)) p => match o with
    | some q => if q.2.generation < p.2.generation then some p else some q
    | none => some p) none
  match best with
  | none =>
    late 0x1202 2 (u8 0 ++ u8 255 ++ u16 0 ++ u32 0) (w.mod fun x => { x with foot := {}, footLoaded := none })
  | some (k, c) =>
    let w := w.mod fun x => { x with foot := footLoad c, footLoaded := some k }
    let report := fun cause => late 0x1202 1 (u8 cause ++ u8 k ++ u16 c.routeCount ++ u32 c.generation) w
    if !c.enable then report 2 else if bad != 0 then report 1 else w

/-- The chain value the stored records give (R464, R467): it starts at the oldest seal kept, or at the journal's start value
where none was freed, and a chain restart gives a new one. -/
def recomputed (m : Module) (ring : List JRecord) : List Byte :=
  let start := match ring with
    | r :: _ => if r.kind == 2 then slice r.bytes 32 32 else sha (ascii 11 "ZGM JOURNAL" ++ u64 m.ident.uniqueId)
    | [] => chainOf m
  ring.foldl (fun h (r : JRecord) =>
    if r.kind != 2 then sha (h ++ r.bytes) else if bit (leAt r.bytes 2 1) 0 then slice r.bytes 32 32 else h) start

/-- Steps 1 to 5: FOOTPATH. -/
def bringUpFoot (v : View) (b : BringUp) (w : W) : W :=
  let w := { w with m := { w.m with ident := { w.m.ident with fuseStatus := b.fuses } } }
  let w := if b.badCounters.isEmpty then w else w.eff (.damaged b.badCounters)
  let w := w.mod fun x => { x with
    clockStatus := b.clocks, runAt := b.runUs, footAt := b.footUs
    footCopies := x.footCopies.zipIdx.map (fun (o, k) =>
      if b.badCopies.contains k then o.map (fun c => { c with crcOk := false }) else o) }
  let w := readPosition v b (w.supply fun x => { x with holdup := b.holdup })
  let w := loadFoot w
  let w := b.badKeys.foldl (fun w i =>
    late 0x0F08 3 (u8 i ++ zeros 3) (faultyKey i w)) w
  let w := w.each b.wornKeys fun i w => w.keySlot i fun k =>
    { k with copies := upd k.copies k.active (fun c => { c with bad := true }) }
  let w := match b.journal with
    | none => w
    | some (q, c) =>
      let w := w.jr fun j => { j with chain := some (recomputed w.m j.ring) }
      writeSeal v 1 (w.event v 0x1006 3 (u32 q ++ u8 c ++ zeros 3))
  let cause := w.m.mod.resetCause
  let w := if cause == 2 || cause == 3 then w.count C.avail_reset_time 0 (max b.footUs (v.now / 1000))
    else w.count C.avail_bringup_time 0 (min b.footUs 3000)
  resumeHeartbeat (w.mod fun x => { x with state := .footpath, fromRun := false })

/-- Step 6: start the first image of the boot order that passes R514 and has not been tried. `starts` says that it
reports itself running before its deadline. -/
def startImage (v : View) (starts : Bool) : List Nat → W → W
  | [], w => enterSafe v 1 3 w
  | k :: r, w =>
    match imageFault w.m k with
    | some c =>
      let w := late 0x1308 2 (u8 k ++ u8 c ++ zeros 2) (w.count C.boot_verify_fail)
      let w := if w.m.upd.st == 3 && k == w.m.upd.target then endTrial 4 (atD r 0 2) late w else w
      startImage v starts r w
    | none =>
      let w := w.mod fun x => { x with bootBank := k, booting := some k }
      if starts then firmwareUp v w else w

def nextImages (m : Module) : List Nat := (bootOrder m).filter (fun k => !m.mod.bootTried.contains k)

/-- BRING_UP from WAKING. A unit whose MRAM or fuses cannot be read goes to SAFE (R539), and so does one that slept in
SAFE (R399). -/
def bringUpCore (b : BringUp) (v : View) (w : W) : W :=
  if w.m.mod.state != .waking || w.m.mod.heldHot then w
  else
    let w := bringUpFoot v b w
    if !b.mramOk then enterSafe v 2 0 w
    else if b.fuses % 8 != 7 then enterSafe v 2 1 w
    else if w.m.mod.safeWake then
      let w := w.mod fun x => { x with state := .safe, bootBank := 2, safeSince := v.now, safeWake := false }
      w.slp fun x => { x with quietSince := v.now }
    else
      let w := if w.m.upd.st == 3 && w.m.upd.trialOver then endTrial 3 (atD ((bootOrder w.m).drop 1) 0 2) late w else w
      startImage v b.starts (nextImages w.m) w

def execBringUp (b : BringUp) (s : State) : Host.Outcome State Fault Refusal :=
  run ((b.badKeys ++ b.wornKeys).all (fun i => decide (i < 256))) (bringUpCore b) s

/-- BRING_UP_DEADLINE (Table 18-8): the image has not started within 500 ms of the reference point, or of its own start
where another was tried before; the next choice is tried. -/
def bringUpDeadlineCore (starts : Bool) (v : View) (w : W) : W :=
  match w.m.mod.booting with
  | none => w
  | some k =>
    if v.now < w.m.mod.mgmtStart + 500000000 then w else
    let w := w.mod fun x => { x with booting := none, bootTried := x.bootTried ++ [k], mgmtStart := v.now }
    startImage v starts (nextImages w.m) (late 0x1308 2 (u8 k ++ u8 3 ++ zeros 2) w)

def execBringUpDeadline (starts : Bool) (s : State) : Host.Outcome State Fault Refusal :=
  run true (bringUpDeadlineCore starts) s

/-! ### FIRMWARE_RUNNING (R478, R505-R508) -/

/-- Completions of interrupted operations, the deferred seal, and event 0x1204. -/
def restartDone (v : View) (w : W) : W :=
  let x := w.m.mod
  let us := match x.unmanagedSince with | some t => (v.now - t) / 1000 | none => 0
  let ops := w.m.borul.interrupted
  let w := w.each ops fun x w => completeEvent v x.op.sid x.op.tag x.op.opcode x.status x.detail w
  let w := raiseLate v (fun c => c == 0x0F04) (w.borul fun b => { b with interrupted := [] })
  let w := (sealDeferred v w).mod fun x => { x with unmanagedSince := none }
  if x.state == .safe then w
  else w.event v 0x1204 (if x.restartCause == 4 then 2 else 1)
    (u8 x.restartCause ++ u8 (counted w.m v.now).length ++ zeros 2 ++ u32 us ++ u32 ops.length)

def firmwareRunningCore (v : View) (w : W) : W :=
  let x := w.m.mod
  if x.firmwareRunning then w
  else
    let up := fun (w : W) => w.mod fun x => { x with firmwareRunning := true, mgmtStart := v.now }
    match x.state with
    | .unmanaged =>
      let w := up (chargeUnmanaged v w)
      if lowRange w.m then
        restartDone v (enterFootpath v w)
      else activateWanted v (restartDone v (enterRun v w))
    | .footpath =>
      if x.booting.isSome then firmwareUp v (w.mod fun x => { x with runAt := 0 })
      else if x.unmanagedSince.isSome then restartDone v (leaveFootpath v (up w)) else w
    | .safe => openService v (restartDone v (up w))
    | _ => w

def execFirmwareRunning (s : State) : Host.Outcome State Fault Refusal := run true firmwareRunningCore s

/-! ### Faults (R538, R539) -/

def sequencerWatchdogCore (v : View) (w : W) : W := faultData v 3 0 w
def execSequencerWatchdog (s : State) : Host.Outcome State Fault Refusal := run true sequencerWatchdogCore s

def timeBaseParityErrorCore (tb : Nat) (v : View) (w : W) : W := faultData v 2 tb w
def execTimeBaseParityError (tb : Nat) (s : State) : Host.Outcome State Fault Refusal :=
  run (decide (tb < 4)) (timeBaseParityErrorCore tb) s

/-- TILE_AUDIT: free, charged and retired tiles add up to 65,536, or the data plane has failed. `lost` is what the audit
finds missing. -/
def tileAuditCore (lost : Nat) (v : View) (w : W) : W :=
  if lost = 0 || !powered w.m then w else faultData v 1 lost w

def execTileAudit (lost : Nat) (s : State) : Host.Outcome State Fault Refusal := run true (tileAuditCore lost) s

/-- MRAM_TIMEOUT: MRAM has not responded for 10 ms (R539). -/
def mramTimeoutCore (v : View) (w : W) : W := if powered w.m && w.m.mod.state != .safe then enterSafe v 2 0 w else w
def execMramTimeout (s : State) : Host.Outcome State Fault Refusal := run true mramTimeoutCore s

end Sys2Proof.Machine
end

