-- ==== Sys2Proof/Machine/Supply.lean ====
section
/-! DEFINITION. Supply ranges, brown-out, loss of ground, thermal limits (spec/17, R475-R491), and the two ways into
SLEEP (spec/13, R398, R399; spec/16, R459). -/

namespace Sys2Proof.Machine

/-! ### SUPPLY_RANGE_CHANGE (R423, R476-R479) -/

/-- A new VBAT mean, with its extremes since the data-plane reset. -/
def noteVbat (mv : Nat) (w : W) : W :=
  w.supply fun x => { x with vbat := mv, vbatMin := min x.vbatMin mv, vbatMax := max x.vbatMax mv }

/-- The mean over 10 ms and the last sample of VBAT, with the extremes of the samples. -/
def noteSamples (x : VbatSamples) (w : W) : W :=
  w.supply fun y => { y with vbat := x.mean, vbatMin := min y.vbatMin x.sample, vbatMax := max y.vbatMax x.sample }

/-- The switch channels of a P unit follow the range (R3, R423). -/
def followInhibit (v : View) (w : W) : W :=
  let want := inhibitOf w.m.supply.range
  if w.m.ident.variantG || w.m.sw.inhibit == want then w
  else
    let w := endInhibit v w
    match want with
    | some c => beginInhibit v c w
    | none => w

/-- The low range begins: FOOTPATH from RUN, E0 and E1 off (R477, R478). -/
def enterLow (v : View) (w : W) : W :=
  let w := (w.supply fun x => { x with lowSince := v.now }).count C.supply_low_entries
  dropLinks v (if w.m.mod.state == .run then enterFootpath v w else w)

/-- The supply monitor goes from range `old` to `new` (Table 17-2). The table gives no threshold between normal and high;
32 V of Table 17-1 is taken, without a filter (DESIGN CHOICE, notes/assumptions/118.md). -/
def rangeChanges (m : Module) (old new : Nat) (x : VbatSamples) : Bool :=
  let held := fun r => decide (prm m r ≤ x.us)
  match old, new with
  | 0, 1 | 2, 1 => decide (x.sample < 8000) && held P.supply_uv_filter
  | 1, 0 => decide (8500 ≤ x.sample) && held P.supply_uv_recover_time
  | 0, 2 => decide (32000 < x.sample)
  | 2, 0 => decide (x.sample ≤ 32000)
  | 2, 3 => decide (36000 ≤ x.sample) && held P.supply_ov_filter
  | 3, 2 => decide (x.sample ≤ 34000) && held P.supply_ov_recover_time
  | _, _ => false

/-- SUPPLY_RANGE_CHANGE: the supply monitor's decision after its filter. The time of a low range that ends is recorded, and
FOOTPATH ends where the new range lets it (R477, R478, R544). -/
def supplyRangeChangeCore (range : Nat) (x : VbatSamples) (v : View) (w : W) : W :=
  let old := w.m.supply.range
  let mv := x.mean
  if !rangeChanges w.m old range x || w.m.mod.state == .off || w.m.mod.state == .sleep then w
  else
    let w := (noteSamples x (chargeLow v w)).supply fun x => { x with range := range }
    let w := w.event v 0x1101 (if range == 0 then 0 else 1) (u8 old ++ u8 range ++ zeros 2 ++ u32 mv)
    let w := followInhibit v w
    let w := if range == 3 then w.count C.supply_ov_entries else w
    leaveFootpath v (if range == 1 then enterLow v w else w)

def execSupplyRangeChange (range : Nat) (x : VbatSamples) (s : State) : Host.Outcome State Fault Refusal :=
  run (decide (range < 4)) (supplyRangeChangeCore range x) s

/-! ### VBAT_WARNING (Table 17-8) -/

/-- One warning: `kind` 0 low, 1 high. -/
def vbatWarn (v : View) (kind mv : Nat) (now : Bool) (w : W) : W :=
  w.limited v 0x1102 1 0 (prmNs w.m P.supply_supply_event_interval)
    (fun _ => u8 kind ++ u8 (b2n now) ++ zeros 2 ++ u32 mv)

def vbatWarningCore (mv : Nat) (v : View) (w : W) : W :=
  if w.m.mod.state == .off || w.m.mod.state == .sleep then w
  else
    let w := useTwin v P.supply_vbat_warn_high 0 0 (useTwin v P.supply_vbat_warn_low 0 0 (noteVbat mv w))
    let lo := prm w.m P.supply_vbat_warn_low
    let hi := prm w.m P.supply_vbat_warn_high
    let hyst := prm w.m P.supply_vbat_warn_hysteresis
    let s := w.m.supply
    let low := if s.warnLow then decide (mv < lo + hyst) else decide (mv < lo)
    let high := if s.warnHigh then decide (hi < mv + hyst) else decide (hi < mv)
    let w := w.supply fun x => { x with warnLow := low, warnHigh := high }
    let w := if low == s.warnLow then w else vbatWarn v 0 mv low w
    if high == s.warnHigh then w else vbatWarn v 1 mv high w

def execVbatWarning (mv : Nat) (s : State) : Host.Outcome State Fault Refusal := run true (vbatWarningCore mv) s

/-! ### BROWN_OUT, GROUND_LOSS and SUPPLY_VALID (R480-R483) -/

/-- The brown-out sequence: flags in one MRAM burst, then the data plane, the heartbeat and every output stop. -/
def powerDown (v : View) (ground : Bool) (w : W) : W :=
  let st := w.m.mod.state.code
  let s := tb3Seconds (w.base v)
  let w := (closeAccounts v w).count C.supply_brownouts
  let w := if ground then w.count C.supply_ground_loss else w
  let w := w.mod fun x => { x with
    brownOut := some (st, s), groundLoss := if ground then some (st, s) else x.groundLoss
    state := .off, firmwareRunning := false, booting := none, unmanagedSince := none }
  { w with m := haltData w.m }

/-- BROWN_OUT: VBAT below 5.5 V for 5 µs. In SLEEP it is latched for wake source 9. -/
def brownOutCore (v : View) (w : W) : W :=
  match w.m.mod.state with
  | .off => w
  | .sleep => w.supply fun x => { x with sleepDip := true }
  | _ => powerDown v false w

def execBrownOut (s : State) : Host.Outcome State Fault Refusal := run true brownOutCore s

/-- GROUND_LOSS: the ground offset, in mV, has been above its threshold for 100 µs. -/
def groundLossCore (offset : Int) (v : View) (w : W) : W :=
  let w := w.supply fun x => { x with groundOffset := offset }
  match w.m.mod.state with
  | .off => w
  | .sleep => w
  | _ => if offset ≤ (prm w.m P.supply_ground_loss_threshold : Nat) then w else powerDown v true w

def execGroundLoss (offset : Int) (s : State) : Host.Outcome State Fault Refusal := run true (groundLossCore offset) s

/-- Range of a supply that has just become valid. -/
def rangeAt (mv : Nat) : Nat := if mv < 8000 then 1 else if mv ≤ 32000 then 0 else if mv ≤ 36000 then 2 else 3

/-- A power-on or brown-out reset: no elapsed time is known, and TB3 gains the checkpoint interval so that it never
falls behind (R371, R372). A power-on that ends a sleep is wake source 0 (R389, R392; notes/assumptions/47.md). -/
def supplyReset (v : View) (cause mv : Nat) (slept : Bool) (w : W) : W :=
  let margin := prmNs w.m P.time_tb3_checkpoint_interval
  let w := w.supply fun x => { x with range := rangeAt mv, vbat := mv }
  let r : WakeRec := { source := 0, inst := 255, mask := 1, seq := nextWake w.m }
  let w := if slept then recordWake r w else w
  let at_ := w.m.tc.checkpoint
  let w := restoredEvent v at_.2.2 1 (resetData cause at_ 0 margin w)
  if slept then lateWake r w else w

/-- SUPPLY_VALID: VBAT, in mV, has been above 6.5 V for 200 µs. `deep` says that it had been below 3.5 V; `ticks` counts
the 32.768 kHz periods of a sleep. -/
def supplyValidCore (deep : Bool) (mv ticks : Nat) (v : View) (w : W) : W :=
  if mv ≤ 6500 then w else
  match w.m.mod.state with
  | .off => supplyReset v (if deep then 0 else 1) mv false w
  | .sleep =>
    if deep then supplyReset v 0 mv true w
    else if w.m.supply.sleepDip then
      latchSources v [{ code := 9 }] ticks ((noteVbat mv w).supply fun x => { x with range := rangeAt mv })
    else w
  | _ => w

def execSupplyValid (deep : Bool) (mv ticks : Nat) (s : State) : Host.Outcome State Fault Refusal :=
  run true (supplyValidCore deep mv ticks) s

/-! ### Thermal limits (R487, R488) -/

/-- THERMAL_SHED: the gateway die, in 0.001 °C, has been at 135 °C for 10 ms, or is below 125 °C again. -/
def thermalShedCore (temp : Int) (v : View) (w : W) : W :=
  let w := w.supply fun x => { x with dieTemp := temp }
  if !powered w.m then w
  else
    let w := useTwin v P.supply_thermal_shed_enable 0 0 w
    if !w.m.supply.shed && decide (135000 ≤ temp) && prmB w.m P.supply_thermal_shed_enable then
      let w := (w.supply fun x => { x with shed := true }).count C.thermal_shed
      (dropLinks v w).event v 0x1105 2 (u8 1 ++ zeros 3 ++ s32 temp)
    else if w.m.supply.shed && decide (temp < 125000) then
      (w.supply fun x => { x with shed := false }).event v 0x1105 0 (u8 0 ++ zeros 3 ++ s32 temp)
    else w

def execThermalShed (temp : Int) (s : State) : Host.Outcome State Fault Refusal := run true (thermalShedCore temp) s

/-- DIE_OVERTEMP: at 150 °C the data plane resets and stays in reset until the die is below 125 °C. -/
def dieOvertempCore (temp : Int) (v : View) (w : W) : W :=
  let w := w.supply fun x => { x with dieTemp := temp }
  if w.m.mod.heldHot then (if temp < 125000 then w.mod fun x => { x with heldHot := false } else w)
  else if temp < 150000 || w.m.mod.state == .off || w.m.mod.state == .sleep then w
  else faultData v 4 0 (w.mod fun x => { x with heldHot := true })

def execDieOvertemp (temp : Int) (s : State) : Host.Outcome State Fault Refusal := run true (dieOvertempCore temp) s

/-- BASE_PLATE_WARNING: the base plate sensor crosses supply.base_plate_warning, or falls 2 °C below it. -/
def basePlateWarningCore (temp : Int) (v : View) (w : W) : W :=
  let w := w.supply fun x => { x with basePlate := temp }
  if !powered w.m then w
  else
    let w := useTwin v P.supply_base_plate_warning 0 0 w
    let top := prmI w.m P.supply_base_plate_warning
    let was := w.m.supply.basePlateWarn
    let now := if was then decide (top - 2000 ≤ temp) else decide (top < temp)
    if now == was then w
    else (w.supply fun x => { x with basePlateWarn := now }).event v 0x1106 (b2n now) (u8 (b2n now) ++ zeros 3 ++ s32 temp)

def execBasePlateWarning (temp : Int) (s : State) : Host.Outcome State Fault Refusal :=
  run true (basePlateWarningCore temp) s

/-- supply.channel_power_limit in mW (Table 17-6): between two rows it is interpolated. -/
def powerLimit (m : Module) : Nat :=
  let t := m.supply.basePlate
  if t ≤ 85000 then 8400 else if 95000 ≤ t then 4200 else 8400 - ((t - 85000).toNat * 2100) / 5000

/-- CHANNEL_POWER_LIMIT: the summed channel dissipation, in mW, measured against its limit. -/
def channelPowerLimitCore (mw : Nat) (v : View) (w : W) : W :=
  if !powered w.m || w.m.ident.variantG then w
  else
    let limit := powerLimit w.m
    let was := w.m.supply.powerOver
    let now := decide (limit < mw)
    let w := w.supply fun x => { x with channelPower := mw, powerOver := now }
    if now && !was then (w.count C.channel_power_exceeded).event v 0x1107 1 (u32 mw ++ u32 limit) else w

def execChannelPowerLimit (mw : Nat) (s : State) : Host.Outcome State Fault Refusal :=
  run true (channelPowerLimitCore mw) s

/-! ### SLEEP_COMMIT and SAFE_SLEEP (R399, R459) -/

/-- Power is removed from everything outside the always-on domain. -/
def enterSleep (w : W) : W :=
  let w := (w.mod fun x => { x with state := .sleep, firmwareRunning := false }).count C.sleep_entries
  { w with m := { haltData w.m with supply := { w.m.supply with sleepDip := false } } }

/-- The running minute closes early and a seal is written (R459, R465). -/
def sealSleep (v : View) (w : W) : W :=
  let k := tb3Minute (w.base v)
  let w := closeMinute v true k (if w.m.jr.acc.minute < k then closeMinute v false k w else w)
  if !prmB w.m P.journal_enable then w
  else if w.m.mod.firmwareRunning then writeSeal v 2 w
  else if w.m.jr.deferred then w
  else (w.jr fun j => { j with deferred := true }).count C.journal_seals_deferred

/-- SLEEP_COMMIT: at the end of SLEEP_PREP the running minute closes, a seal is written, and the module sleeps. A source
latched at or after that end wakes it at once. -/
def sleepCommitCore (v : View) (w : W) : W :=
  if w.m.mod.state != .sleepPrep || !v.expired (prepEnd w.m) then w
  else
    let w := (judgeFalse v w).slp fun x => { x with commitMarker := true }
    let w := enterSleep (closeAccounts v (sealSleep v w))
    wakeModule v w.m.slp.latched 0 true w

def execSleepCommit (s : State) : Host.Outcome State Fault Refusal := run true sleepCommitCore s

/-- SAFE_SLEEP: in SAFE no wake source and no keep-awake input for 2 × nm_timeout; SLEEP without negotiation, and the
wake returns to SAFE. -/
def safeSleepCore (v : View) (w : W) : W :=
  let limit := 2 * prmNs w.m P.sleep_nm_timeout
  if w.m.mod.state != .safe || inputHolds w.m || !v.expired (w.m.slp.quietSince + limit) then w
  else
    let w := takeCheckpoint v (sealSleep v (closeAccounts v (judgeFalse v w)))
    enterSleep (w.mod fun x => { x with safeWake := true })

def execSafeSleep (s : State) : Host.Outcome State Fault Refusal := run true safeSleepCore s

end Sys2Proof.Machine
end

