-- ==== Sys2Proof/Machine/Updates.lean ====
section
/-! DEFINITION. Firmware updates and their trial (spec/19, R513-R521, R527), the COUNTER family and the TEST family
(spec/20, R530-R535, R545, R546). -/

namespace Sys2Proof.Machine

/-! ### UPDATE_STATUS and UPDATE_BEGIN -/

def bytesWritten (m : Module) : Nat := if m.upd.st == 0 then 0 else (bankAt m m.upd.target).image.length

/-- Trial time in nanoseconds up to now (R521). -/
def trialTime (v : View) (w : W) : Nat := (accrueTrial v w).m.upd.trialNs

def updateStatusBody : Body := fun _ _ v w =>
  let u := w.m.upd
  answer w (u8 u.st ++ u8 u.target ++ zeros 2 ++ u32 u.chunks ++ u32 (bytesWritten w.m)
    ++ u32 (trialTime v w / 1000000000) ++ u8 u.trialRestarts ++ u8 (b2n u.selfConfirmed) ++ zeros 2)

def opUpdateStatus : OpInfo := { code := 0x0C01, role := 1, safe := true }
def execUpdateStatus (r : Request) (s : State) : Host.Outcome State Fault Refusal :=
  run true (request opUpdateStatus r updateStatusBody) s

/-- The bank an update goes to (R515). -/
def updateTarget (m : Module) : Nat :=
  if m.mod.bootBank == 2 then
    (if (bankAt m 0).st == 1 && (bankAt m 1).st == 1 then 1 else 1 - m.upd.confirmed)
  else 1 - m.mod.bootBank

def updateBeginBody : Body := need 128 fun _ p _ w =>
  let st := w.m.upd.st
  if st == 1 || st == 2 then refuse w St.locked
  else if st == 3 then refuse w St.wrongState
  else
    let k := updateTarget w.m
    let w := (w.bank k fun _ => {}).update fun u => { u with
      st := 1, target := k, header := p.take 128, chunks := 0, lastChunk := [] }
    answer w (u8 k ++ zeros 3)

def opUpdateBegin : OpInfo := { code := 0x0C02, role := 3, safe := true }
def execUpdateBegin (r : Request) (s : State) : Host.Outcome State Fault Refusal :=
  run true (request opUpdateBegin r updateBeginBody) s

/-! ### UPDATE_CHUNK (R516) -/

/-- A record of a chunk: bytes of the base, or bytes carried. -/
inductive DeltaRec where
  | copy (off len : Nat)
  | literal (bs : List Byte)
  deriving DecidableEq, Repr

/-- The records of a chunk: the status that refuses their form, or the records. -/
def deltaRecords : Nat → List Byte → Except Nat (List DeltaRec)
  | 0, _ => .ok []
  | _ + 1, [] => .ok []
  | k + 1, bs =>
    let len := leAt bs 4 4
    let pad := (4 - len % 4) % 4
    let type := leAt bs 0 1
    if bs.length < 8 then .error St.badLength
    else if 1 < type then .error St.badParam
    else if bs.length < (if type = 0 then 12 else 8 + len + pad) then .error St.badLength
    else
      let (r, used) := if type = 0 then (DeltaRec.copy (leAt bs 8 4) len, 12)
        else (DeltaRec.literal (slice bs 8 len), 8 + len + pad)
      match deltaRecords k (bs.drop used) with
      | .ok l => .ok (r :: l)
      | .error st => .error st

def DeltaRec.isCopy : DeltaRec → Bool
  | .copy .. => true
  | .literal _ => false

/-- The bytes records produce; none when a COPY lies beyond the base. -/
def applyDelta (base : List Byte) : List DeltaRec → Option (List Byte)
  | [] => some []
  | .literal bs :: r => (applyDelta base r).map (bs ++ ·)
  | .copy off len :: r =>
    if base.length < off + len then none else (applyDelta base r).map (slice base off len ++ ·)

/-- A rejected step of an update (event 0x1305). -/
def rejectUpdate (v : View) (status step index : Nat) (w : W) : W × Ans :=
  refuse ((w.count C.update_rejected).event v 0x1305 1 (u16 status ++ u8 step ++ u8 0 ++ u32 index)) status

def targetHash (h : List Byte) : List Byte := slice h 24 32

def updateChunkBody : Body := need 40 fun _ p v w =>
  let u := w.m.upd
  let index := leAt p 0 4
  let bad := fun st => rejectUpdate v st 0 index w
  match deltaRecords p.length (p.drop 40) with
  | .error st => refuse w st
  | .ok recs =>
    if u.st != 1 then refuse w St.wrongState
    else
      let base := runningBank w.m
      let hash := slice p 8 32
      let written := (bankAt w.m u.target).image
      if hash != targetHash base.header && !(hash == zeros 32 && recs.all (fun r => !r.isCopy)) then bad St.integrity
      else if u.chunks != 0 && p == u.lastChunk then answer w (u32 written.length)
      else if index != u.chunks || leAt p 4 4 != written.length then bad St.badParam
      else match applyDelta base.image recs with
        | none => bad St.outOfRange
        | some bs =>
          if min (headerSize u.header) 25165696 < written.length + bs.length then bad St.outOfRange
          else
            let w := (w.bank u.target fun b => { b with image := b.image ++ bs }).update fun u => { u with
              chunks := u.chunks + 1, lastChunk := p }
            answer (w.count C.update_chunks) (u32 (written.length + bs.length))

def opUpdateChunk : OpInfo := { code := 0x0C03, role := 3, post := true, safe := true }
def execUpdateChunk (r : Request) (s : State) : Host.Outcome State Fault Refusal :=
  run true (request opUpdateChunk r updateChunkBody) s

/-! ### UPDATE_FINISH (R517) -/

def updateFinishBody : Body := fun _ _ v w =>
  let u := w.m.upd
  if u.st != 1 then refuse w St.wrongState
  else
    let image := (bankAt w.m u.target).image
    let fail := fun st => rejectUpdate v st 1 u.chunks
      ((w.bank u.target fun b => { b with st := 2, header := u.header }).update fun u => { u with st := 0 })
    if image.length != headerSize u.header || !headerOk w.m u.header || sha image != targetHash u.header then
      fail St.integrity
    else if headerSecurity u.header < w.m.ident.fuseVersion then fail St.counterStale
    else
      let w := (w.bank u.target fun b => { b with st := 1, header := u.header }).update fun u => { u with st := 2 }
      answer (w.event v 0x1301 0 (u32 (headerVersion u.header) ++ u16 (headerSecurity u.header)
        ++ u16 (headerCompat u.header))) []

def opUpdateFinish : OpInfo := { code := 0x0C04, role := 3, post := true, safe := true }
def execUpdateFinish (r : Request) (s : State) : Host.Outcome State Fault Refusal :=
  run true (request opUpdateFinish r updateFinishBody) s

/-! ### UPDATE_ACTIVATE (R518-R520) -/

/-- The slot of the active route book, and the other ones. -/
def activeSlot (m : Module) : Option Nat := if m.mod.configSource < 2 then some m.mod.configSource else none
def otherSlots (m : Module) : List Nat := [0, 1].filter (fun s => activeSlot m != some s)

/-- The active format is in the image's range. -/
def activeFits (m : Module) (h : List Byte) : Bool := (activeSlot m).isSome && readsFormat h m.mod.bookFormat

/-- A slot other than the active one that the image could use (R518). -/
def otherFits (v : View) (h : List Byte) : List Nat → W → W × Option Nat
  | [], w => (w, none)
  | s :: r, w =>
    let (w, cause) := bookCause v s none w
    if cause = 0 && readsFormat h (bookFormat (bookSlot w.m s)) then (w, some s) else otherFits v h r w

/-- TRIAL begins, with its counters at 0 and the active slot protected. -/
def beginTrial (v : View) (dp : Bool) (wanted : Option Nat) (w : W) : W :=
  let k := w.m.upd.target
  (w.bank k fun b => { b with st := 3 }).update fun u => { u with
    st := 3, trialNs := 0, trialFrom := v.now, trialRestarts := 0, trialOver := false, selfConfirmed := false
    protected_ := activeSlot w.m, switched := false, wanted := wanted, announce := some dp }

/-- Codes of a reset or restart that follows a reply: 1 TEST_RESTART, 2 full reset, 3 and 4 UPDATE_ACTIVATE without and
with a data-plane reset, 5 lockstep mismatch. -/
def afterReply (code : Nat) (w : W) : W := w.mod fun x => { x with resetting := code }

def updateActivateBody : Body := need 4 fun _ p v w =>
  let mode := leAt p 0 1
  let u := w.m.upd
  if 1 < mode then refuse w St.badParam
  else if u.st != 2 then refuse w St.wrongState
  else
    let w := useTwin v P.update_allow_dp_reset 0 0 (useTwin v P.update_update_enable 0 0 w)
    let h := u.header
    let fits := activeFits w.m h
    let (w, other) := if fits then (w, none) else otherFits v h (otherSlots w.m) w
    let dp := headerCompat h != u.dpCompat
    if !prmB w.m P.update_update_enable || (!fits && other.isNone) then refuse w St.wrongState
    else if dp && !(mode == 1 && prmB w.m P.update_allow_dp_reset) then refuse w St.wrongState
    else answer (afterReply (if dp then 4 else 3) (beginTrial v dp other w)) []

def opUpdateActivate : OpInfo := { code := 0x0C05, role := 3, post := true, safe := true }

/-! ### UPDATE_CONFIRM, UPDATE_ABORT, SELF_CONFIRM (R521, R522) -/

/-- The fuse version after a confirmation: update.fuse_advance raises it to the security version of the trial's image. -/
def confirmedFuse (w : W) : Nat :=
  if prmB w.m P.update_fuse_advance then
    max w.m.ident.fuseVersion (headerSecurity (bankAt w.m w.m.upd.target).header)
  else w.m.ident.fuseVersion

/-- The trial's bank becomes the confirmed one; another valid bank below the fuse version becomes invalid. -/
def confirmTrial (v : View) (w : W) : W :=
  let h := (bankAt w.m w.m.upd.target).header
  let fuse := confirmedFuse w
  let below := fun (b : Bank) => b.st == 1 && decide (headerSecurity b.header < fuse)
  let target := w.m.upd.target
  let w := { w with m := { w.m with ident := { w.m.ident with fuseVersion := fuse } } }
  let w := w.update fun u => { u with
    st := 0, confirmed := u.target, result := 1, protected_ := none, switched := false, wanted := none
    trialNs := 0, trialRestarts := 0, trialOver := false
    banks := u.banks.map (fun b => if below b then { b with st := 2 } else b) }
  (w.bank target fun b => { b with st := 1 }).event v 0x1303 0 (u32 (headerVersion h) ++ u16 fuse ++ zeros 2)

def updateConfirmBody : Body := fun _ _ v w =>
  let u := w.m.upd
  if u.st != 3 || !u.selfConfirmed then refuse w St.wrongState
  else
    let w := useTwin v P.update_fuse_advance 0 0 w
    answer (confirmTrial v w) (u16 (confirmedFuse w) ++ zeros 2)

def opUpdateConfirm : OpInfo := { code := 0x0C06, role := 3, safe := true }
def execUpdateConfirm (r : Request) (s : State) : Host.Outcome State Fault Refusal :=
  run true (request opUpdateConfirm r updateConfirmBody) s

def updateAbortBody : Body := fun _ _ _ w =>
  let u := w.m.upd
  if u.st != 1 && u.st != 2 then refuse w St.wrongState
  else answer ((w.bank u.target fun b => { b with st := 2 }).update fun u => { u with st := 0, result := 5 }) []

def opUpdateAbort : OpInfo := { code := 0x0C07, role := 3, rev := 2, safe := true }
def execUpdateAbort (r : Request) (s : State) : Host.Outcome State Fault Refusal :=
  run true (request opUpdateAbort r updateAbortBody) s

/-- SELF_CONFIRM: the trial's image has been in RUN with a usable route book for self_confirm_time without a break and without a critical event. -/
def selfConfirmCore (v : View) (w : W) : W :=
  match w.m.upd.runSince with
  | none => w
  | some t =>
    if w.m.upd.st != 3 || w.m.mod.bootBank != w.m.upd.target || w.m.mod.state != .run || !w.m.mod.firmwareRunning
        || !v.expired (t + prmNs w.m P.update_self_confirm_time) then w
    else w.update fun u => { u with selfConfirmed := true }

def execSelfConfirm (s : State) : Host.Outcome State Fault Refusal := run true selfConfirmCore s

/-! ### COUNTER (R530-R535) -/

/-- The counter an ID names, with the status of its instance. -/
def counterOf (id : Nat) : Except Nat (CRef × Nat) :=
  match counterRef (id / 16777216) (id / 65536 % 256) with
  | none => .error St.badParam
  | some c => if c.covers (id % 65536) then .ok (c, id % 65536) else .error St.outOfRange

def saturated (x : Nat) : Nat := b2n (x == counterMax)

/-- An entry of Table 20-4. -/
def counterEntry (b : Base) (id : Nat) : List Byte :=
  match counterOf id with
  | .error st => u32 id ++ u16 st ++ zeros 10
  | .ok (c, _) =>
    let bad := b.cntBad.contains id
    let x := if bad then counterMax else b.cnt.getD id 0
    u32 id ++ u16 St.ok ++ u8 (saturated x + 2 * b2n c.mram + 4 * b2n bad) ++ u8 0 ++ u64 x

def counterHead (b : Base) (n : Nat) : List Byte :=
  let t := b.time.tb0
  u16 n ++ zeros 2 ++ u32 t.n.toNat ++ u32 t.n.toNat ++ u16 t.m.toNat ++ zeros 2


/-- Length checks of both operations (R581). -/
def counterLengthOk (p : List Byte) : Bool :=
  let n := leAt p 0 2
  decide (1 ≤ n ∧ n ≤ 252) && p.length == 4 + 4 * n

/-- The gate table of a port shows the last snapshot of preempt_fragments_rx (R266). -/
def snapFragments (b : Base) (ids : List Nat) (w : W) : W :=
  w.each ((List.range 8).filter (fun p => ids.contains (C.preempt_fragments_rx.id p))) fun p w =>
    w.fab fun x => { x with rxSnap := x.rxSnap.put p (b.cnt.getD (C.preempt_fragments_rx.id p) 0) }

def counterReadBody : Body := need 4 fun _ p v w =>
  if !counterLengthOk p then refuse w St.badLength
  else
    let b := w.base v
    let ids := counterIds p
    answer (snapFragments b ids (bridgeRead w)) (counterHead b ids.length ++ ids.flatMap (counterEntry b))

def opCounterRead : OpInfo := { code := 0x0601, role := 1, safe := true }
def execCounterRead (r : Request) (s : State) : Host.Outcome State Fault Refusal :=
  run true (request opCounterRead r counterReadBody) s

/-- The status of an entry of COUNTER_CLEAR; instance 0xFFFF names all. -/
def clearStatus (id : Nat) : Option Nat :=
  match counterRef (id / 16777216) (id / 65536 % 256), counterOf id with
  | none, _ => some St.badParam
  | some _, .error st => if id % 65536 == 0xFFFF then none else some st
  | some _, .ok _ => none

/-- The IDs an entry clears, of those that are not 0 or fail their check. -/
def clearedIds (b : Base) (id : Nat) : List Nat :=
  if id % 65536 != 0xFFFF then [id]
  else (b.cnt.keys ++ b.cntBad).filter (fun k => k / 65536 == id / 65536)

def clearedEntry (b : Base) (id : Nat) : List Byte :=
  if id % 65536 != 0xFFFF then counterEntry b id
  else
    let x := min ((b.cnt.filter (fun p => p.1 / 65536 == id / 65536)).map Prod.snd).sum counterMax
    u32 id ++ u16 St.ok ++ u8 (saturated x + 2 * b2n (isMramCounter id)) ++ u8 0 ++ u64 x

/-- Entries in order: each shows the value that the ones before it left. -/
def clearAll (v : View) : List Nat → W → W × List Byte
  | [], w => (w, [])
  | id :: r, w =>
    let b := w.base v
    let (x, rest) := clearAll v r (w.eff (.clear (clearedIds b id)))
    (x, clearedEntry b id ++ rest)

def counterClearBody : Body := need 4 fun c p v w =>
  let ids := counterIds p
  let at_ := fun (k : Nat) => u16 k ++ zeros 2
  if !counterLengthOk p then refuse w St.badLength
  else match firstIndex (fun id => (clearStatus id).isSome) ids with
    | some k => refuse w ((clearStatus (atD ids k 0)).getD 0) (at_ k)
    | none =>
      let head := counterHead (w.base v) ids.length
      let (w, body) := clearAll v ids w
      answer (w.event v 0x1405 0 (u32 c.sid ++ u16 ids.length ++ zeros 2 ++ u32 (atD ids 0 0))) (head ++ body)

def opCounterClear : OpInfo := { code := 0x0602, role := 2, safe := true }
def execCounterClear (r : Request) (s : State) : Host.Outcome State Fault Refusal :=
  run true (request opCounterClear r counterClearBody) s

def counterDescribeBody : Body := need 4 fun _ p _ w =>
  let id := leAt p 0 4
  match counterRef (id / 16777216) (id / 65536 % 256) with
  | none => refuse w St.badParam
  | some c => answer w (u32 (c.id 0) ++ u8 c.scope ++ u8 (b2n c.mram) ++ u16 c.count ++ ascii 32 c.name)

def opCounterDescribe : OpInfo := { code := 0x0603, role := 1, safe := true }
def execCounterDescribe (r : Request) (s : State) : Host.Outcome State Fault Refusal :=
  run true (request opCounterDescribe r counterDescribeBody) s

/-! ### TEST (R545, R546) -/

/-- Kinds that are pending. -/
def pendingKinds (m : Module) (now : Nat) : Nat :=
  maskOf (m.mod.injections.map Prod.fst ++ (if m.sw.dies.any (fun d => decide (now < d.withheld)) then [4] else []))

def testStatusBody : Body := fun _ _ v w =>
  answer w (u32 (pendingKinds w.m v.now) ++ u8 (b2n (prmB w.m P.module_full_reset_enable))
    ++ u8 (prm w.m P.module_safe_exit_mode) ++ zeros 2 ++ u32 w.m.mod.injected)

def opTestStatus : OpInfo := { code := 0x1001, role := 1, safe := true }
def execTestStatus (r : Request) (s : State) : Host.Outcome State Fault Refusal :=
  run true (request opTestStatus r testStatusBody) s

def testRestartBody : Body := fun _ _ _ w => answer (afterReply 1 w) []
def opTestRestart : OpInfo := { code := 0x1002, role := 3, safe := true }

def testFullResetBody : Body := need 8 fun _ p _ w =>
  if leAt p 0 8 != w.m.ident.uniqueId then refuse w St.badParam
  else if !prmB w.m P.module_full_reset_enable then refuse w St.wrongState
  else answer (afterReply 2 w) []

def opTestFullReset : OpInfo := { code := 0x1003, role := 3, safe := true }

def testSafeExitBody : Body := fun _ _ _ w =>
  if w.m.mod.state != .safe || prm w.m P.module_safe_exit_mode == 0 then refuse w St.wrongState
  else answer (afterReply 2 w) []

def opTestSafeExit : OpInfo := { code := 0x1004, role := 3, safe := true }

/-- The check of a target against its kind. -/
def injectStatus (m : Module) (kind target : Nat) : Option Nat :=
  if 5 < kind then some St.badParam
  else if kind = 0 then (if 43 < target then some St.outOfRange else none)
  else if kind = 1 then
    match tableShape (target / 2 ^ 24) with
    | none => some St.badParam
    | some (_, n) => if n ≤ target % 2 ^ 24 then some St.outOfRange else none
  else if kind = 2 then
    match findParam target with
    | .bad st => some st
    | .found r _ _ => if r.twin then none else some St.badParam
  else if kind = 3 then (if 79 < target then some St.outOfRange else none)
  else if kind = 4 then
    (if 4 < target then some St.outOfRange else if m.ident.variantG then some St.wrongState else none)
  else none

/-- Arm the fault. -/
def inject (v : View) (kind target : Nat) (w : W) : W :=
  let arm := fun (w : W) => w.mod fun x => { x with injections := x.injections ++ [(kind, target)] }
  match kind with
  | 0 => arm w
  | 1 => arm (w.tab fun x => { x with faulty := insertOnce (entryKey (target / 2 ^ 24) (target % 2 ^ 24)) x.faulty })
  | 2 => match findParam target with
    | .found r i e =>
      let p := storedPair w.m r i e
      w.mod fun x => { x with params := x.params.put target (p.1, (p.2 + 1) % 2 ^ r.ty.width) }
    | .bad _ => w
  | 3 => arm w
  | 4 => w.die target fun d => { d with withheld := v.now + 30000000 }
  | _ => afterReply 5 w

def testInjectBody : Body := need 8 fun c p v w =>
  let kind := leAt p 0 1
  let target := leAt p 4 4
  match injectStatus w.m kind target with
  | some st => refuse w st
  | none =>
    if w.m.mod.state != .run || !speedAllows w.m then refuse w St.wrongState
    else if bit (pendingKinds w.m v.now) kind then refuse w St.busy
    else
      let w := (inject v kind target w).mod fun x => { x with injected := x.injected + 1 }
      answer ((w.count C.test_injections kind).event v 0x1406 1 (u8 kind ++ zeros 3 ++ u32 target ++ u32 c.sid)) []

def opTestInject : OpInfo := { code := 0x1005, role := 3, safe := true }

end Sys2Proof.Machine
end

