-- ==== Sys2Proof/Machine/Params.lean ====
section
/-! DEFINITION. The INFO and PARAM families: identity and state, reading, writing, describing and listing parameters,
and the firmware's rewrite of a failed twin pair (spec/03, R57-R67, R74-R80; R537). -/

namespace Sys2Proof.Machine

/-! ### Class O parameters: what the module itself reports -/

/-- A value that depends on the module and the time bases alone. -/
abbrev Live := Module → Base → Nat → Nat → Nat

def liveModule (idx : Nat) : Live := fun m b _ _ =>
  let x := m.mod
  match idx with
  | 0 => x.state.code
  | 1 => b2n m.ident.variantG
  | 2 => m.ident.hardwareRevision
  | 3 => firmwareVersion m
  | 4 => headerVersion m.ident.detourHeader
  | 5 => m.ident.uniqueId
  | 6 => x.positionCode
  | 8 => x.bookVariant
  | 9 => x.bookId
  | 10 => x.bookFormat
  | 11 => x.generation
  | 12 => b.now
  | 13 => b.now - x.mgmtStart
  | 14 => x.resetCause
  | 15 => x.restartCause
  | 16 => match lastHold m with | some h => h.block * 256 + h.inst | none => 0xFFFF
  | 17 => match lastHold m with | some h => (h.until_ - b.now) / 1000 | none => 0
  | 18 => b2n x.configModified
  | 31 => x.foot.routes.length
  | 35 => 120000
  | 38 => twos 32 m.supply.dieTemp
  | 39 => twos 32 (-2147483648)
  | 59 => x.presetStatus
  | 60 => x.clockStatus
  | 61 => x.bootBank
  | 62 => m.ident.fuseVersion
  | _ => x.configSource

def liveSession (idx : Nat) : Live := fun m _ _ _ =>
  if idx == 30 then (m.borul.slots.filter (fun s => s.st != .free)).length else leVal versionRange.reverse

def liveClass (idx : Nat) : Live := fun m _ _ _ =>
  let used := fun t => usedEntries ⟨m, []⟩ t
  match idx with
  | 62 => used 2
  | 63 => used 7
  | 64 => used 3
  | 65 => used 4
  | 66 => used 5
  | 67 => used 6
  | 68 => m.tab.poison.length
  | 69 => m.tab.generation
  | 70 => m.tab.lastPause
  | _ => (m.borul.slots.map (fun s => s.staged.length)).sum

def liveFlows (idx : Nat) : Live := fun m _ _ _ =>
  match idx with
  | 57 => (m.flow.layby.map Held.tiles).sum
  | 58 => m.flow.layby.length
  | _ => (m.tab.ent.filter (fun p => p.1 / 2 ^ 20 == 0x0C && Wp.quarantined.on p.2)).length

def liveFabric (idx : Nat) : Live := fun m _ _ e =>
  match idx with
  | 98 => atD m.fab.starvation e 0
  | 126 => tilesFree m
  | _ => tilesRetired m

/-- queue_status (Tables 08-7, 08-8): each part saturates. -/
def liveEgress : Live := fun m _ i e =>
  let port := if 32 ≤ i then i - 18 else i
  let frames := min (queueOf m port e ++ loadedCopies m port e).length 0xFFFF
  if 32 ≤ i then
    frames + min (loadedCopies m port e).length 255 * 2 ^ 16 + b2n (canAt m (i - 32)).suspended * 2 ^ 31
  else frames + min (queueTiles m port e) 0xFFFF * 2 ^ 16

def liveCan (idx : Nat) : Live := fun m b i _ =>
  let c := canAt m i
  match idx with
  | 34 => controllerState m i
  | 35 => c.detectedRate
  | 37 => c.ownAddr
  | 38 => busLoad c.load b.now
  | _ => c.lastError

/-- Identifiers of the schedule entries of a channel that subscribe, or that publish. -/
def linMask (l : LinCh) (subscribes : Bool) : Nat :=
  maskOf ((l.tables.flatMap (fun p => p.2.filter (fun e => leSubscribes e == subscribes))).map leId)

def linState (m : Module) (n : Nat) : Nat :=
  if portHeld m (n + 36) then 3
  else if !prmB m P.lin_enable n then 0
  else if (linAt m n).asleep then 2
  else b2n (linRuns m n)

def liveLin (idx : Nat) : Live := fun m b i _ =>
  let l := linAt m i
  match idx with
  | 13 => l.active
  | 14 => l.entry
  | 15 => linState m i
  | 16 => l.lastError
  | 17 => entriesUsed l
  | 18 => linMask l false
  | 19 => linMask l true
  | 20 => busLoad l.load b.now
  | 21 => l.headerDelay
  | 22 => l.generation
  | _ => l.pending.getD 255

/-- Classes that PAUSE or PFC has stopped. -/
def pausedClasses (m : Module) (now p : Nat) : Nat :=
  maskOf ((List.range 8).filter (fun q => decide (now < m.fab.paused.getD (queueKey p q) 0)))

def linkStatus (m : Module) (b : Base) (p : Nat) : Nat :=
  let e := ethAt m p
  let plca := prmB m P.eth_plca_enable p && (prm m P.eth_plca_node_id p == 0 || e.beacons)
  let paused := pausedClasses m b.now p
  b2n e.up + 2 * rateCode e.rate + 2 ^ 4 * b2n e.master + 2 ^ 5 * (e.sqi % 8) + 2 ^ 8 * b2n e.sleeping + 2 ^ 9 * b2n plca
    + 2 ^ 10 * b2n (p == 10 && doipActive m) + 2 ^ 11 * b2n (paused != 0) + 2 ^ 16 * paused

def liveEth (idx : Nat) : Live := fun m b i _ =>
  let e := ethAt m i
  match idx with
  | 29 => linkStatus m b i
  | 30 => if !prmB m P.eth_macsec_enable i then 0 else max 1 e.macsec + 4 * b2n e.keyServer + 8 * b2n e.rekey + 16 * (e.txAn % 4) + 256 * min e.peers 255
  | 31 => match e.txSa with | some s => s.pn | none => 0
  | 32 => (m.ident.macBase + i) % 2 ^ 48
  | _ => if i == 10 then m.doip.conns.length else 0

def liveTime (idx : Nat) : Live := fun m b _ _ =>
  let t := m.tc
  match idx with
  | 78 => tb0State m
  | 79 => tb1State m
  | 80 => b.time.tb0.incr.toNat
  | 81 => b.time.tb1.incr.toNat
  | 82 => twos 32 (satS 32 t.s0.lastOffset)
  | 83 => twos 32 (satS 32 t.s1.lastOffset)
  | 84 => t.gm
  | 85 => twos 32 (satS 32 t.s0.ratePpb)
  | 86 => twos 32 (satS 32 t.offsetB)
  | 87 => t.epoch
  | 88 => maskOf ((List.range 10).filter (asCapable m))
  | 89 => t.checkpoints
  | 90 => if t.s0.st == 3 || t.s0.st == 4 then (b.now - t.s0.heldAt) / 1000 else 0
  | 91 => b2n (t.s0.rateBad || t.s1.rateBad) + 2 * b2n (!t.s0.big.isEmpty || !t.s1.big.isEmpty) + 4 * b2n t.ctsFailing
  | 92 => t.lastStep
  | 93 => t.gmB
  | 94 => t.ctsLast
  | _ => t.sleepElapsed

def liveSleep (idx : Nat) : Live := fun m _ _ _ =>
  if idx == 46 then groupStateWord m
  else match m.slp.records with
    | r :: _ => r.source + r.inst * 2 ^ 8 + r.flags * 2 ^ 16 + r.ticks % 2 ^ 32 * 2 ^ 32
    | [] => 0

def liveSecurity (idx : Nat) : Live := fun m b _ _ =>
  let slots := fun st => ((List.range 256).filter (fun i => keyState m i == st)).length
  match idx with
  | 32 => slots 1
  | 33 => slots 2
  | 34 => (m.tab.ent.filter (fun p => p.1 / 2 ^ 20 == 0x0D && Sf.valid.on p.2)).length
  | 35 =>
    let s := b.now / 1000000000
    if m.keys.opsAt == s then m.keys.opsLast else if m.keys.opsAt + 1 == s then m.keys.opsNow else 0
  | 36 => m.ident.fuseStatus
  | 37 => m.ident.certSerial
  | 38 => m.keys.generation
  | _ => m.keys.lastCommit

def liveJournal (idx : Nat) : Live := fun m _ _ _ =>
  let j := m.jr
  match idx with
  | 14 => j.watch
  | 15 => j.watchSpeed.getD 0xFFFF
  | 16 => j.pulseKmh.getD 0xFFFF
  | 17 => j.canKmh.getD 0xFFFF
  | 18 => j.gnssKmh.getD 0xFFFF
  | 19 => j.next
  | 20 => (oldestRecord m).1
  | 21 => ringBytes j.ring
  | 22 => j.lastSeal
  | _ => j.odometerUm / 10000000

/-- The most electronics power in mW, by state (R486, Table 17-5). -/
def powerBound (m : Module) : Nat :=
  match m.mod.state with
  | .run | .unmanaged | .sleepPrep => 17000
  | .safe => 12000
  | _ => 6000

def liveSupply (idx : Nat) : Live := fun m _ _ _ =>
  let s := m.supply
  match idx with
  | 0 => s.vbat
  | 1 => s.vbatMin
  | 2 => s.vbatMax
  | 3 => s.range
  | 12 => twos 32 s.basePlate
  | 14 => if m.ident.variantG then 0 else s.channelPower
  | 15 => powerLimit m
  | 18 => twos 32 s.groundOffset
  | 20 => s.holdup
  | 22 => 8500
  | _ => 34000

/-- update.bank_a_version and bank_b_version: 0 for a bank that holds no image to boot. -/
def bankVersion (m : Module) (k : Nat) : Nat :=
  let b := bankAt m k
  if b.st == 1 || b.st == 3 then headerVersion b.header else 0

def liveUpdate (idx : Nat) : Live := fun m b _ _ =>
  let u := m.upd
  match idx with
  | 7 => u.st
  | 8 => bankVersion m 0
  | 9 => bankVersion m 1
  | 10 => (bankAt m 0).st + 4 * (bankAt m 1).st + 16 * u.confirmed
  | 11 => trialTime b ⟨m, []⟩ / 1000
  | 12 => min u.trialRestarts 11
  | 13 => if u.st == 2 || u.st == 3 then headerSecurity (bankAt m u.target).header else 0
  | 14 => u.committed.getD 255
  | _ => u.result

def liveIo (idx : Nat) : Live := fun m b _ e =>
  match idx with
  | 24 => m.io.din
  | 28 => (atD m.io.freq e {}).count
  | 30 => freqNow b.now (atD m.io.freq e {})
  | 36 => ainValue m e
  | 46 => sensorStatus m
  | _ => m.io.posA + 65536 * m.io.posB

/-- Class O values that are measured outside the model or follow no stated rule are free, within their range; the
others follow from the module (R61, R407). -/
def liveValue (v : View) (r : PRef) (i e : Nat) (w : W) : W × Nat :=
  let m := w.m
  let b := w.base v
  let pure := fun (f : Live) => (w, f m b i e)
  match r.blk with
  | 0x01 => if r.idx == 39 && !m.ident.variantG then w.free v (2 ^ 32) else pure (liveModule r.idx)
  | 0x02 => pure (liveSession r.idx)
  | 0x05 => pure (liveClass r.idx)
  | 0x06 => pure (liveFlows r.idx)
  | 0x07 => pure (liveFabric r.idx)
  | 0x08 => pure liveEgress
  | 0x09 => (w, (junctionOps b 0 w).m.jn.opsLast)
  | 0x0A => if r.idx == 36 then transceiverStatus v i w else pure (liveCan r.idx)
  | 0x0B => pure (liveLin r.idx)
  | 0x0C => pure (liveEth r.idx)
  | 0x0D => pure (liveTime r.idx)
  | 0x0E => pure (liveSleep r.idx)
  | 0x0F =>
    if m.ident.variantG then (w, 0) else if r.idx == 14 then chanStatus v i w else chanCurrent v i w
  | 0x10 => pure (liveIo r.idx)
  | 0x11 => pure (liveSecurity r.idx)
  | 0x12 => pure (liveJournal r.idx)
  | 0x13 => if r.idx == 16 then w.free v (powerBound m + 1) else pure (liveSupply r.idx)
  | _ => pure (liveUpdate r.idx)

/-! ### The stored value of any other parameter -/

/-- What a getter of stored values shows: rates and sample points follow from the segments (R303). -/
def shown (get : PRef → Nat → Nat → Nat) (r : PRef) (i e : Nat) : Nat :=
  if isBasicTiming r then
    let ph := (r.idx - 2) / 2
    if r.idx % 2 == 0 then phaseRate (fun x => get x i 0) ph else phasePoint (fun x => get x i 0) ph
  else get r i e

/-- allot_preset reads CUSTOM once a covered value has left the preset (R80). -/
def readStored (m : Module) (r : PRef) (i e : Nat) : Nat :=
  if r.id == P.fabric_allot_preset.id && bit m.mod.presetStatus 7 then 3
  else shown (fun x i e => (storedPair m x i e).1) r i e

/-- The value and complement that PARAM_READ shows (R63, R407, R537). -/
def readPair (m : Module) (r : PRef) (i e : Nat) : Nat × Nat :=
  if r.blk == 0x0F && m.ident.variantG then r.pair (r.raw (r.default i e))
  else if r.twin then storedPair m r i e
  else (readStored m r i e, 0)

/-- A stored value in its 8-byte field: S32 is sign-extended (R58). -/
def wireValue (r : PRef) (x : Nat) : Nat :=
  match r.ty with
  | .s32 => twos 64 (signed 32 x)
  | _ => x % 2 ^ 64

/-! ### INFO (Table 03-5) -/

def infoIdentityBody : Body := fun _ _ _ w =>
  let m := w.m
  answer w (u8 (b2n m.ident.variantG) ++ u8 m.ident.hardwareRevision ++ zeros 2 ++ u64 m.ident.uniqueId
    ++ u32 (firmwareVersion m) ++ u32 (headerVersion m.ident.detourHeader) ++ u8 m.mod.positionCode ++ zeros 3
    ++ u32 m.mod.bookId)

def opInfoIdentity : OpInfo := { code := 0x0201, role := 0, safe := true }
def execInfoIdentity (r : Request) (s : State) : Host.Outcome State Fault Refusal :=
  run true (request opInfoIdentity r infoIdentityBody) s

def infoVersionsBody : Body := fun _ _ _ w =>
  let l := familyList latest
  answer w (versionRange.reverse ++ u8 l.length ++ zeros 3 ++ l.flatMap (fun f => u8 f.1 ++ u8 f.2))

def opInfoVersions : OpInfo := { code := 0x0202, role := 0, safe := true }
def execInfoVersions (r : Request) (s : State) : Host.Outcome State Fault Refusal :=
  run true (request opInfoVersions r infoVersionsBody) s

def infoStateBody : Body := fun _ _ v w =>
  let b := w.base v
  answer w (u8 w.m.mod.state.code ++ u8 w.m.mod.configSource ++ u8 w.m.mod.bootBank ++ u8 0 ++ u64 b.now
    ++ u16 b.ev.entries.length ++ u16 (b.ev.entries.filter isCritical).length)

def opInfoState : OpInfo := { code := 0x0203, role := 0, safe := true }
def execInfoState (r : Request) (s : State) : Host.Outcome State Fault Refusal :=
  run true (request opInfoState r infoStateBody) s

def infoBlocksBody : Body := fun _ _ _ w =>
  answer w (u16 blockDir.length ++ zeros 2
    ++ blockDir.flatMap (fun b => u8 b.1 ++ u8 b.2.1 ++ u8 b.2.2.1 ++ u8 b.2.2.2.1 ++ u16 b.2.2.2.2 ++ zeros 2))

def opInfoBlocks : OpInfo := { code := 0x0204, role := 0, rev := 2, safe := true }
def execInfoBlocks (r : Request) (s : State) : Host.Outcome State Fault Refusal :=
  run true (request opInfoBlocks r infoBlocksBody) s

/-! ### PARAM_READ (R61, R76) -/

/-- An entry of Table 03-6. -/
def readEntry (v : View) (id : Nat) (w : W) : W × List Byte :=
  match findParam id with
  | .bad st => (w, u32 id ++ u16 st ++ zeros 18)
  | .found r i e =>
    let (w, x) :=
      if r.cls == .o then
        let (w, x) := liveValue v r i e w
        (w, (x, 0))
      else (w, readPair w.m r i e)
    (w, u32 id ++ u16 St.ok ++ u8 r.ty.code ++ u8 (b2n r.twin + 2 * r.cls.code) ++ u64 (wireValue r x.1) ++ u64 x.2)

def readParams (v : View) : List Nat → W → W × List Byte
  | [], w => (w, [])
  | id :: l, w =>
    let (w, x) := readEntry v id w
    let (w, rest) := readParams v l w
    (w, x ++ rest)

def paramReadBody : Body := need 4 fun _ p v w =>
  let n := leAt p 0 2
  if !decide (1 ≤ n ∧ n ≤ 168) || p.length != 4 + 4 * n then refuse w St.badLength
  else
    let (w, es) := readParams v ((List.range n).map (fun k => leAt p (4 + 4 * k) 4)) w
    answer w (u16 n ++ zeros 2 ++ u32 w.m.mod.generation ++ es)

def opParamRead : OpInfo := { code := 0x0301, role := 1, safe := true }
def execParamRead (r : Request) (s : State) : Host.Outcome State Fault Refusal :=
  run true (request opParamRead r paramReadBody) s

/-! ### Checks of one value (R59, R62) -/

def inSpan (x : Int) (p : Int × Int) : Bool := decide (p.1 ≤ x ∧ x ≤ p.2)

/-- The value lies in the range of its row. -/
def inRange (r : PRef) (i : Nat) (x : Int) : Bool :=
  match r.range with
  | .any | .bits _ => true
  | .ascii => (List.range 4).all (fun k => decide (x.toNat / 256 ^ k % 256 < 128))
  | .span lo hi => inSpan x (lo, hi)
  | .spans l => l.any (inSpan x) || x == r.default i 0
  | .mult lo hi step => inSpan x (lo, hi) && x % step == 0
  | .perClass a b c => inSpan x (if chanClass i == 0 then a else if chanClass i == 1 then b else c)

/-- Bits a range names; the others are reserved and stored as 0 (R6, R59). -/
def keptBits (r : PRef) (x : Nat) : Nat :=
  match r.range with
  | .bits mask => x &&& mask
  | _ => x

/-- The row is one that the Ethernet port has (Table 11-5). -/
def ethHere (r : PRef) (port : Nat) : Bool :=
  match r.idx with
  | 1 => decide (port < 10)
  | 10 | 21 => decide (port < 8)
  | 23 => port == 8 || port == 9
  | 33 => port == 10
  | _ => true

/-- A value that an instance refuses with BAD_PARAM whatever its range: one that accepts only the default there (R333, R359), and
on the trailer channels any format and any other nominal rate than their own (R325). -/
def refusedThere (r : PRef) (i val : Nat) : Bool :=
  (r.blk == 0x0C && !ethHere r i && (val : Int) != r.default i 0)
  || r.blk == 0x0A && decide (8 ≤ i) &&
    ((([6, 7, 16, 17, 18, 19, 22, 23] : List Nat).contains r.idx && (val : Int) != r.default i 0)
      || (r.idx == 1 && (bit val 1 || (decide (20 ≤ i) && val != 0)))
      || (r.idx == 2 && decide (20 ≤ i) && val != 125000))

/-- The stored form of a value field, or the status that refuses it. -/
def checkValue (r : PRef) (i val comp : Nat) : Except Nat Nat :=
  let wdt := r.ty.width
  let low := val % 2 ^ wdt
  let wide := match r.ty with
    | .s32 => val != twos 64 (signed 32 val)
    | _ => val != low
  if refusedThere r i val then .error St.badParam
  else if wide then .error St.outOfRange
  else if r.ty == .bool && decide (1 < low) then .error St.badParam
  else if !inRange r i (match r.ty with | .s32 => signed 32 low | _ => (low : Int)) then .error St.outOfRange
  else if r.twin && comp != r.comp low then .error St.twinMismatch
  else .ok (keptBits r low)

/-! ### Checks of a value beside the others (the owning chapters) -/

/-- `bad` answers the status, otherwise the next check decides. -/
def failIf (bad : Bool) (st : Nat) (next : Option Nat) : Option Nat := if bad then some st else next

/-- R119. -/
def checkPortMode (port x : Nat) : Option Nat :=
  let xoff := fld x 8 8
  let xon := fld x 16 8
  failIf (fld x 0 2 == 3 || (!isCanPort port && fld x 4 2 != 0)) St.badParam
    (if 14 ≤ port then failIf (xoff != 0 || xon != 0) St.badParam none
     else failIf (!decide (xon < xoff ∧ xoff ≤ dcqSize port / 256)) St.outOfRange none)

/-- R159. -/
def checkLookupMode (port x : Nat) : Option Nat :=
  failIf ((bit x 2 && !isCanPort port) || (bit x 4 && decide (10 < port)) || decide (3 < fld x 5 3)) St.badParam none

/-- Place an entry of `old` anew in `y`, with its hit bit, its learning slot and its poison mark; the number of entries
that found no place goes up where it does not fit. -/
def placeAgain (seed kicks : Nat) (old : Tables) (acc : Tables × Nat) (p : Nat × Nat) : Tables × Nat :=
  let i := p.1 % 2 ^ 20
  match acc.1.placeKey seed kicks (He.key.get p.2) (He.sp.get p.2) with
  | none => (acc.1, acc.2 + 1)
  | some (z, j, _) =>
    let z := if old.isPoisoned 2 i then z.poisonEntry 2 j else z
    ({ z with
      hits := if old.hits.contains i then insertOnce j z.hits else z.hits
      learned := match old.learnedAt i with
        | some (slot, l) => z.learned.put slot { l with index := j }
        | none => z.learned }, acc.2)

/-- Every hash entry in a new place (R158), and how many find none. -/
def replaceHash (seed kicks : Nat) (x : Tables) : Tables × Nat :=
  let is2 := fun (p : Nat × Nat) => p.1 / 2 ^ 20 == 2
  let used := (x.ent.filter is2).filter (fun p => Sp.valid.on (He.sp.get p.2))
  let empty := { x with
    ent := x.ent.filter (fun p => !is2 p), hits := [], learned := []
    poison := x.poison.filter (fun k => k / 2 ^ 20 != 2 || !used.any (fun p => p.1 == k)) }
  used.foldl (placeAgain seed kicks x) (empty, 0)

/-- R221, but for the reserved pairs. -/
def checkAllot (e x : Nat) : Option Nat :=
  if usedPair e then failIf (x == 0 || decide (resourceSlots (e / 16) < x)) St.outOfRange none
  else failIf (x != 0) St.badParam none

/-- PHY modes of a port (Table 11-1). -/
def phyModes (port : Nat) : List Nat :=
  if port < 2 then [0, 1, 2, 3] else if port < 8 then [0, 4, 5] else if port < 10 then [0, 6] else [0, 7]

/-- R241: the write raises the slopes of the shaped classes above 75 % of the PHY mode's rate. -/
def overShaped (old new : Module) (port : Nat) : Bool :=
  let sum := (shapedLoad new port).1
  decide ((shapedLoad old port).1 < sum) && decide (phyRate (prm new P.eth_phy_mode port) * 750 < sum)

def checkEgress (old new : Module) (i idx x : Nat) : Option Nat :=
  if 32 ≤ i then
    let sum := ((List.range 4).map (fun q => prm new P.egressCan_queue_objects i q)).sum
    failIf (decide (4 ≤ idx ∧ idx < 8) && decide (64 < sum)) St.outOfRange none
  else
    let flags := decide (8 ≤ idx ∧ idx < 16)
    let slope := decide (16 ≤ idx ∧ idx < 24)
    failIf (flags && bit x 1 && decide (8 ≤ i)) St.badParam
      (failIf ((flags || slope) && overShaped old new i) St.outOfRange none)

/-- R302 to R305, R325, R333 and the ranges of Table 10-10 that name two fields. -/
def checkCan (vals : List PVal) (old new : Module) (r : PRef) (ch x : Nat) : Option Nat :=
  let idx := r.idx
  let ph := if idx < 8 then (idx - 2) / 2 else (idx - 8) / 4
  let timed := decide (2 ≤ idx ∧ idx < 20)
  let expert := fun (k : Nat) => decide (8 + 4 * ph ≤ k ∧ k < 12 + 4 * ph)
  let basic := fun (k : Nat) => decide (2 + 2 * ph ≤ k ∧ k < 4 + 2 * ph)
  let has := fun (p : Nat → Bool) => vals.any (fun q => q.1.blk == 0x0A && q.2.1 == ch && p q.1.idx)
  let noXl := decide (8 ≤ ch)
  let xlOnly := [6, 7, 16, 17, 18, 19, 22, 23].contains idx
  let derived := match askedTiming old vals ch ph with
    | some (rate, sp) => (deriveSegments ph rate sp).isSome
    | none => true
  let sjwBad := fun (sjw tseg2 : PRef) => decide (prm new tseg2 ch < prm new sjw ch)
  let xl := bit (prm new P.can_formats ch) 1
  let xlWritten := decide (ch < 8) && timed && ph == 2
  let above := decide (1000000 < canRate new ch 1) || ((xl || xlWritten) && decide (1000000 < canRate new ch 2))
  failIf (timed && has expert && has basic) St.badParam
    (failIf (noXl && ((idx == 1 && bit x 1) || (xlOnly && (x : Int) != r.default ch 0))) St.badParam
    (failIf (decide (20 ≤ ch) && ((idx == 1 && x != 0) || (timed && ph == 0 && canRate new ch 0 != 125000))) St.badParam
    (failIf (timed && decide (idx < 8) && !derived) St.outOfRange
    (failIf (((idx == 10 || idx == 11) && sjwBad P.can_nominal_sjw P.can_nominal_tseg2)
      || ((idx == 14 || idx == 15) && sjwBad P.can_data_sjw P.can_data_tseg2)) St.outOfRange
    (failIf ((idx == 20 || idx == 1 || (timed && ph != 0)) && prm new P.can_tdc_mode ch == 0 && above) St.badParam
    (failIf ((idx == 23 || xlWritten) && prm new P.can_xl_transceiver_mode ch == 0
      && decide (8000000 < canRate new ch 2)) St.outOfRange
    (failIf (idx == 28 && x != 0xFFFF && (decide (253 < x % 256) || decide (253 < x / 256))) St.outOfRange none)))))))

/-- R337, R344, R346, R353, R354, R359. -/
def checkEth (new : Module) (r : PRef) (port x : Nat) : Option Nat :=
  let idx := r.idx
  failIf (!ethHere r port && (x : Int) != r.default port 0) St.badParam
    (failIf (idx == 0 && !(phyModes port).contains x) St.badParam
    (failIf ((idx == 23 || idx == 24) && prmB new P.eth_plca_enable port && prm new P.eth_plca_node_id port == 255)
      St.badParam none))

/-- R381: an FD follow-up needs FD on every master channel. -/
def checkTime (new : Module) (idx : Nat) : Option Nat :=
  let masters := bitsOf 22 (prm new P.time_cts_master_mask)
  failIf ((idx == 23 || idx == 28) && prm new P.time_cts_fup_format == 1
    && masters.any (fun ch => !bit (prm new P.can_formats ch) 0)) St.badParam none

/-- R390, R391, R393. -/
def checkSleep (new : Module) (idx e x : Nat) : Option Nat :=
  if idx == 0 then
    failIf (fld x 0 2 == 3 || (decide (20 ≤ e) && (fld x 0 2 == 2 || bit x 5))) St.badParam
      (failIf (fld x 0 2 == 2 && !([125000, 250000, 500000, 1000000] : List Nat).contains (canRate new e 0)) St.outOfRange none)
  else if idx == 34 then
    let twice := (List.range 44).any (fun p =>
      decide (1 < ((List.range 8).filter (fun g => bit (prm new P.sleep_group_ports 0 g) p)).length))
    failIf twice St.badParam none
  else none

/-- R428. -/
def checkSwitch (new : Module) (idx k : Nat) : Option Nat :=
  let limit := prm new P.switch_current_limit k
  let bad := decide (prm new P.switch_inrush_limit k < limit) || decide (limit < prm new P.switch_overload_current k)
  failIf ([2, 3, 6].contains idx && bad) St.outOfRange none

/-- R568. -/
def checkIo (idx x : Nat) : Option Nat :=
  match idx with
  | 0 => failIf (fld x 0 2 == 3 || (fld x 0 2 == 2 && !bit x 2)) St.badParam none
  | 32 => failIf (bit x 1 && !bit x 0) St.badParam none
  | 40 =>
    let f := fld x 0 2
    let src := fld x 8 4
    failIf (f == 3) St.badParam
      (failIf ((f == 1 && decide (12 < src)) || (f == 2 && decide (7 < src))) St.outOfRange none)
  | _ => none

/-- R203. -/
def checkReserve (new : Module) : Option Nat :=
  failIf (decide (49152 < reservationSum new)) St.outOfRange none

/-- The check of a value among all values of its request: `new` holds them all. -/
def crossCheck (vals : List PVal) (old new : Module) (p : PVal) : Option Nat :=
  let (r, i, e, x) := p
  match r.blk with
  | 0x04 => if r.idx == 44 then checkPortMode e x else none
  | 0x05 =>
    if r.idx == 0 then checkLookupMode e x
    else none
  | 0x07 =>
    if r.idx == 0 then checkAllot e x
    else if decide (104 ≤ r.idx ∧ r.idx ≤ 110) then checkReserve new
    else none
  | 0x08 => checkEgress old new i (r.idx + e) x
  | 0x0A => checkCan vals old new r i x
  | 0x0C => checkEth new r i x
  | 0x0D => checkTime new r.idx
  | 0x0E => checkSleep new r.idx e x
  | 0x0F => checkSwitch new r.idx i
  | 0x10 => checkIo r.idx x
  | _ => none

/-! ### PARAM_WRITE (R64, R65, R77) -/

/-- An entry of Table 03-7. -/
structure WEntry where
  id : Nat
  value : Nat
  comp : Nat
  deriving DecidableEq, Repr

def writeEntries (p : List Byte) (n : Nat) : List WEntry :=
  (List.range n).map (fun k => ⟨leAt p (8 + 20 * k) 4, leAt p (12 + 20 * k) 8, leAt p (20 + 20 * k) 8⟩)

/-- Step 6 of Table 02-2: the class of the parameter (R60), and the reserved pairs of R221. -/
def roleCheck (role : Nat) (x : WEntry) : Option Nat :=
  match findParam x.id with
  | .bad _ => none
  | .found r _ e =>
    let denied := match r.cls with
      | .o => true
      | .l => decide (role < 1)
      | .c | .s => decide (role < 2)
    failIf (denied || (r.id == P.fabric_allot.id && reservedPair e)) St.notPermitted none

/-- The value an entry asks to store, or its status. -/
def entryValueOf (x : WEntry) : Except Nat PVal :=
  match findParam x.id with
  | .bad st => .error st
  | .found r i e => (checkValue r i x.value x.comp).map (fun s => (r, i, e, s))

/-- The values of all entries that pass on their own. -/
def wantedValues (l : List WEntry) : List PVal := l.filterMap (fun x => (entryValueOf x).toOption)

/-- Step 9 for entry `k`: its own value, a second occurrence, and the other values of the request. A second occurrence
whose own value is refused too gets the value's status (DESIGN CHOICE, notes/assumptions/86.md: R64 gives no order). -/
def fieldCheck (vals : List PVal) (old new : Module) (before : List WEntry) (x : WEntry) : Option Nat :=
  match entryValueOf x with
  | .error st => some st
  | .ok p => failIf (before.any (fun y => y.id == x.id)) St.badParam (crossCheck vals old new p)

/-- The first entry, in order, that a check refuses. -/
def firstRefused (check : List WEntry → WEntry → Option Nat) : List WEntry → List WEntry → Option (Nat × Nat)
  | _, [] => none
  | before, x :: r =>
    match check before x with
    | some st => some (before.length, st)
    | none => firstRefused check (before ++ [x]) r

/-- The scope of a class C parameter is held at this time (Table 03-3, R71). -/
def scopeHeld (m : Module) (now blk i : Nat) : Bool :=
  match blk with
  | 0x08 => if i < 32 then heldAt m now 0x0C i else heldAt m now 0x0A (i - 32)
  | 0x0A | 0x0B | 0x0C => heldAt m now blk i
  | _ => heldAllAt m now

/-- Step 10: the G variant (R407), the hold (R60), and a LIN table that is empty (R330). -/
def stateCheck (m : Module) (now : Nat) (x : WEntry) : Option Nat :=
  match findParam x.id with
  | .bad _ => none
  | .found r i _ =>
    let emptyTable := r.id == P.lin_requested_table.id && (linTable (linAt m i) x.value).isEmpty
    failIf ((r.blk == 0x0F && m.ident.variantG) || (r.cls == .c && !scopeHeld m now r.blk i) || emptyTable) St.wrongState none

/-- The position of the first entry that writes class.hash_seed or class.hash_max_kicks. -/
def hashWritten (vals : List PVal) : Option Nat :=
  let l := vals.map (fun p => p.1.id == P.cls_hash_seed.id || p.1.id == P.cls_hash_max_kicks.id)
  if l.any id then some (l.findIdx id) else none

/-- Hash entries that a write of these values cannot place again (R158). -/
def unplaced (vals : List PVal) (m : Module) : Nat :=
  let new := storeAll vals m
  if (hashWritten vals).isSome then (replaceHash (seedOf new) (kicksOf new) m.tab).2 else 0

/-- Hash entries take new places at a write of the seed or of the number of kicks (R158). -/
def followHash (vals : List PVal) (w : W) : W :=
  if (hashWritten vals).isSome then w.tab fun x => (replaceHash (seedOf w.m) (kicksOf w.m) x).1 else w

/-- A slope, a flag or a PHY mode of a port that trained below its shapers (R241). -/
def followShapers (v : View) (old : Module) (w : W) : W :=
  w.each (List.range 11) fun p w =>
    if shapedLoad old p == shapedLoad w.m p || !(ethAt w.m p).up
      || phyRate (prm w.m P.eth_phy_mode p) ≤ (ethAt w.m p).rate then w else checkShapers v p w

/-- Requests for LIN tables (R330). -/
def followLin (vals : List PVal) (w : W) : W :=
  w.each vals fun p w =>
    if p.1.id == P.lin_requested_table.id then (requestTable p.2.1 p.2.2.2 w).getD w else w

/-- Ports whose parse_entry changes while contexts still run its old program (R99). -/
def drainPorts (old new : Module) : List Nat :=
  (List.range 44).filter fun p =>
    prm old P.ingress_parse_entry 0 p != prm new P.ingress_parse_entry 0 p
      && new.ing.ctxs.any (fun c => match c.frame with | some f => f.port == p | none => false)

def markDraining (ports : List Nat) (w : W) : W :=
  w.ing fun x => { x with ctxs := x.ctxs.map (fun (c : ParseCtx) => match c.frame with
    | some f => if ports.contains f.port then { c with draining := true } else c
    | none => c) }

/-- All values take effect together (R64, R65). -/
def writeParams (v : View) (vals : List PVal) (w : W) : W :=
  let old := w.m
  let w := { w with m := storeAll vals w.m }
  let ids := vals.map (fun p => p.1.id p.2.1 p.2.2.1)
  let w := w.mod fun x => { x with
    generation := (x.generation + 1) % 2 ^ 32, configModified := true
    twinFailed := x.twinFailed.filter (fun k => !ids.contains k) }
  let modes := (vals.filter (fun p => p.1.id == P.can_mode.id)).map (fun p => p.2.1)
  followShapers v old (followLin vals (followHash vals (leaveListen modes v (followParams v old w))))

def paramWriteBody : Body := need 8 fun c p v w =>
  let n := leAt p 0 2
  let detail := fun (k : Nat) => u16 k ++ zeros 2 ++ u32 w.m.mod.generation
  if !decide (1 ≤ n ∧ n ≤ 202) || p.length != 8 + 20 * n then refuse w St.badLength
  else if bit (leAt p 2 1) 0 && leAt p 4 4 != w.m.mod.generation then refuse w St.counterStale (detail 0)
  else
    let es := writeEntries p n
    let vals := wantedValues es
    let new := storeAll vals w.m
    let found := (firstRefused (fun _ x => roleCheck c.role x) [] es).orElse fun _ =>
      (firstRefused (fieldCheck vals w.m new) [] es).orElse fun _ => firstRefused (fun _ x => stateCheck w.m v.now x) [] es
    match found with
    | some (k, st) => refuse w st (detail k)
    | none =>
      if switching w.m then refuse w St.inProgress (detail 0)
      else if unplaced vals w.m != 0 then
        refuse (w.count C.hash_insert_fail 0 (unplaced vals w.m)) St.busy (detail ((hashWritten vals).getD 0))
      else
        let old := w.m
        let w := writeParams v vals (bridgePost true w)
        let ports := drainPorts old w.m
        if ports.isEmpty then answer w (u32 w.m.mod.generation)
        else (markDraining ports w, .wait (.drain ports) (u32 w.m.mod.generation))

def opParamWrite : OpInfo := { code := 0x0302, role := 2 }
def execParamWrite (r : Request) (s : State) : Host.Outcome State Fault Refusal :=
  run true (request opParamWrite r paramWriteBody) s

/-! ### PARAM_DESCRIBE and PARAM_CHANGED -/

/-- Least and greatest value of a row. -/
def bounds (r : PRef) (i : Nat) : Int × Int :=
  let full : Int × Int := match r.ty with
    | .s32 => (-(2 ^ 31), 2 ^ 31 - 1)
    | .bool => (0, 1)
    | _ => (0, 2 ^ r.ty.width - 1)
  match r.range with
  | .any => full
  | .ascii => (0, 0x7F7F7F7F)
  | .span lo hi => (lo, hi)
  | .spans l => (l.foldl (fun a p => min a p.1) full.2, l.foldl (fun a p => max a p.2) full.1)
  | .mult lo hi _ => (lo, hi)
  | .bits mask => (0, mask)
  | .perClass a b c => if chanClass i == 0 then a else if chanClass i == 1 then b else c

/-- The name of an element as the tables write it, without its block (R57). -/
def paramName (r : PRef) (e : Nat) : List Byte :=
  let base := (r.name.toList.dropWhile (· != '.')).drop 1
  let index := if r.count = 1 then [] else ['['] ++ Nat.toDigits 10 e ++ [']']
  let bs := (base ++ index).map (fun c => BitVec.ofNat 8 c.toNat)
  (bs ++ zeros 32).take 32

/-- A class O parameter without a default describes 0 (DESIGN CHOICE, notes/assumptions/59.md). -/
def paramDescribeBody : Body := need 4 fun _ p _ w =>
  let id := leAt p 0 4
  match findParam id with
  | .bad st => refuse w st
  | .found r i e =>
    let (lo, hi) := bounds r i
    answer w (u32 id ++ u8 r.cls.code ++ u8 (b2n r.twin) ++ u8 r.ty.code ++ u8 0 ++ u64 (twos 64 lo) ++ u64 (twos 64 hi)
      ++ u64 (twos 64 (r.default i e)) ++ paramName r e)

def opParamDescribe : OpInfo := { code := 0x0305, role := 1, rev := 2 }
def execParamDescribe (r : Request) (s : State) : Host.Outcome State Fault Refusal :=
  run true (request opParamDescribe r paramDescribeBody) s

/-- IDs whose value can differ from the route book's: those stored or set by the book, and the views that follow from
others. -/
def changeable (m : Module) : List Nat :=
  let basic := (List.range 22).flatMap (fun ch => (List.range 6).map (fun k => 0x0A000002 + ch * 65536 + k))
  ((m.mod.params.keys ++ m.mod.bookParams.keys ++ basic ++ [P.fabric_allot_preset.id]).foldl
    (fun (s : SMap Unit) k => s.put k ()) []).keys

def differs (m : Module) (id : Nat) : Bool :=
  match findParam id with
  | .bad _ => false
  | .found r i e => r.cls != .o && readStored m r i e != shown (bookValue m) r i e

def paramChangedBody : Body := need 4 fun _ p _ w =>
  let start := leAt p 0 4
  let l := (changeable w.m).filter (fun k => decide (start < k) && differs w.m k)
  let some_ := l.take 1000
  answer w (u16 some_.length ++ u8 (b2n (decide (1000 < l.length))) ++ u8 0 ++ some_.flatMap u32)

def opParamChanged : OpInfo := { code := 0x0306, role := 1, rev := 2 }
def execParamChanged (r : Request) (s : State) : Host.Outcome State Fault Refusal :=
  run true (request opParamChanged r paramChangedBody) s

/-! ### TWIN_PAIR_REWRITE (R537) -/

/-- The firmware rewrites a failed pair from the active route book or the default. -/
def twinPairRewriteCore (id : Nat) (v : View) (w : W) : W :=
  if !w.m.mod.firmwareRunning || !w.m.mod.twinFailed.contains id then w
  else match findParam id with
    | .bad _ => w
    | .found r i e =>
      let old := w.m
      let w := { w with m := setPrm w.m r i e (bookValue w.m r i e) }
      let w := w.mod fun x => { x with
        twinFailed := x.twinFailed.filter (· != id), twinRewritten := x.twinRewritten.put id v.now }
      followParams v old w

def execTwinPairRewrite (id : Nat) (s : State) : Host.Outcome State Fault Refusal :=
  run true (twinPairRewriteCore id) s

end Sys2Proof.Machine
end

