-- ==== Sys2Proof/Machine/Complete.lean ====
section
/-! DEFINITION. The completion of posted operations, management restarts with the fallback of a trial and the watchdogs
that start them, and the restarts and resets that follow a reply (R46, R505-R508, R510, R519, R522; spec/20, R546). -/

namespace Sys2Proof.Machine

/-! ### COMMAND_COMPLETE (R46) -/

/-- The operations that can be posted, with their bodies. -/
def postable : List (OpInfo × Body) :=
  [(opParamHold, paramHoldBody), (opTableWrite, tableWriteBody), (opTableInsert, tableInsertBody),
   (opTableDelete, tableDeleteBody), (opTableFlush, tableFlushBody), (opTableCommit, tableCommitBody),
   (opKeyUpdate, keyUpdateBody), (opRoutebookWrite, routebookWriteBody), (opRoutebookVerify, routebookVerifyBody),
   (opRoutebookActivate, routebookActivateBody), (opUpdateChunk, updateChunkBody), (opUpdateFinish, updateFinishBody),
   (opUpdateActivate, updateActivateBody)]

def bodyOf (code : Nat) : Option Body := (postable.find? (fun p => p.1.code == code)).map Prod.snd

/-- A posted operation has done its work. An UPDATE_ACTIVATE that succeeds completes when its image reaches RUN. -/
def endPosted (v : View) (o : Op) (res : W × Ans) : W :=
  match res with
  | (w, .fail st d) => finishOp v o st d w
  | (w, .ok p) =>
    if o.opcode == opUpdateActivate.code then w.update fun u => { u with activating := some o } else finishOp v o St.ok p w
  | (w, .okEnd p reason) =>
    let w := finishOp v o St.ok p w
    if (slotAt w.m o.slot).id == o.sid then endSession v o.slot reason w else w
  | (w, .wait kind p) => addOp { o with kind := kind, answer := p } w
  | (w, .done) => w

/-- Carry out a posted operation: it leaves the list of those in flight, and its body runs. -/
def runPosted (v : View) (o : Op) (w : W) : W :=
  match bodyOf o.opcode with
  | none => w
  | some body =>
    let w := leave o w
    endPosted v o (body (postedCtx w.m o) o.payload v w)

def isPosted : OpKind → Bool
  | .posted => true
  | _ => false

/-! ### Before a planned restart (R505 step 2) -/

/-- A waiting operation reaches its end. -/
def settleOp (v : View) (o : Op) (w : W) : W :=
  match o.kind with
  | .commit .. => commitApplyCore v w
  | .book s =>
    let (w, p) := switchBook v s w
    finishOp v o St.ok p w
  | .posted => w
  | .drain _ | .hold .. | .heartbeat _ => finishOp v o St.ok o.answer w

/-- Every accepted operation completes: the posted ones first, then those that waited. -/
def settleOps (v : View) (w : W) : W :=
  let w := w.each (waitingOps w.m isPosted) (runPosted v)
  w.each w.m.borul.ops (settleOp v)

/-! ### Management restarts (R505, R508, R522) -/

/-- A management restart of cause 2 or 3, which comes after every accepted operation; one of them may have asked for an
activation itself. -/
def restartAfter (v : View) (cause bank : Nat) (w : W) : W :=
  let w := settleOps v w
  let asked := w.m.mod.resetting
  let w := w.mod fun x => { x with resetting := 0 }
  match asked with
  | 3 => (beginRestart v 2 w.m.upd.target w).count C.management_restarts 2
  | 4 => restartData 3 (closeAccounts v w)
  | _ => (beginRestart v cause bank w).count C.management_restarts cause

/-- Fallback (R522): the previous bank by a management restart when its layout is that of the running data plane, by a
data-plane reset otherwise. Before step 6 of a bring-up the boot order alone brings it. -/
def fallback (v : View) (cause : Nat) (w : W) : W :=
  let trial := w.m.upd.target
  let next := bootBankOf { w.m with upd := { w.m.upd with st := 0, banks := upd w.m.upd.banks trial (fun b => { b with st := 2 }) } }
  let w := endTrial cause next (fun c s d w => w.event v c s d) w
  if w.m.mod.state == .waking then w
  else if headerCompat (bankAt w.m next).header == w.m.upd.dpCompat then
    restartAfter v 2 next w
  else restartData 3 (closeAccounts v w)

/-- A management restart of cause 1 (watchdog) or 4 (lockstep): the trial's bound first, then the limit of R508. -/
def faultRestart (v : View) (cause : Nat) (w : W) : W :=
  if !mgmtUp w.m then w
  else
    let w := countTrial (w.count C.management_restarts cause)
    if w.m.upd.st == 3 && w.m.upd.trialOver then fallback v 3 (keepInterrupted v w)
    else
      let l := counted w.m v.now ++ [v.now]
      let w := w.mod fun x => { x with restarts := l }
      if w.m.mod.state != .safe && decide (prm w.m P.module_restart_limit < l.length) then
        enterSafe v 0 2 (w.mod fun x => { x with restartCause := cause })
      else beginRestart v cause w.m.mod.bootBank w

/-! ### What starts one (Table 18-8, R521) -/

/-- MGMT_WATCHDOG_EXPIRY: the firmware, running for at least that long, has given no service for
module.mgmt_watchdog_timeout. -/
def mgmtWatchdogExpiryCore (v : View) (w : W) : W :=
  if w.m.mod.firmwareRunning && v.expired (w.m.mod.mgmtStart + prmNs w.m P.module_mgmt_watchdog_timeout) then faultRestart v 1 w
  else w

def execMgmtWatchdogExpiry (s : State) : Host.Outcome State Fault Refusal := run true mgmtWatchdogExpiryCore s

def lockstepFaultCore (v : View) (w : W) : W := faultRestart v 4 w
def execLockstepFault (s : State) : Host.Outcome State Fault Refusal := run true lockstepFaultCore s

/-- MGMT_MEMORY_ERROR: single-bit errors are corrected and counted, others restart the management processor
(Table 20-5). -/
def mgmtMemoryErrorCore (correctable : Bool) (addr : Nat) (v : View) (w : W) : W :=
  if !mgmtUp w.m then w
  else if correctable then w.count C.mgmt_ecc_corrected
  else faultRestart v 4 (w.event v 0x1404 2 (u32 addr))

def execMgmtMemoryError (correctable : Bool) (addr : Nat) (s : State) : Host.Outcome State Fault Refusal :=
  run true (mgmtMemoryErrorCore correctable addr) s

/-- UNMANAGED_LIMIT (R508): the firmware has not reported itself running for module.unmanaged_limit. -/
def unmanagedLimitCore (v : View) (w : W) : W :=
  if w.m.mod.firmwareRunning || w.m.mod.unmanagedSince.isNone || !v.expired (w.m.mod.restartAt + 120000000) then w
  else faultRestart v 1 w

def execUnmanagedLimit (s : State) : Host.Outcome State Fault Refusal := run true unmanagedLimitCore s
/-- TRIAL_WINDOW_EXPIRY: trial time reaches update.trial_window. -/
def trialWindowExpiryCore (v : View) (w : W) : W :=
  let w := accrueTrial v w
  if w.m.upd.st != 3 || !powered w.m || w.m.mod.state == .safe
      || decide (w.m.upd.trialNs < prmNs w.m P.update_trial_window) then w
  else fallback v 2 w

def execTrialWindowExpiry (s : State) : Host.Outcome State Fault Refusal := run true trialWindowExpiryCore s

/-! ### What follows the reply -/

/-- The restart or reset that the operation just answered asked for. -/
def afterAction (v : View) (w : W) : W :=
  let code := w.m.mod.resetting
  let w := w.mod fun x => { x with resetting := 0 }
  match code with
  | 0 => w
  | 1 => restartAfter v 3 w.m.mod.bootBank w
  | 2 => restartData 3 (closeAccounts v w)
  | 3 => restartAfter v 2 w.m.upd.target w
  | 4 => restartData 3 (closeAccounts v w)
  | _ => faultRestart v 4 w

/-- A request whose reply may be followed by a restart. -/
def requestThen (op : OpInfo) (r : Request) (body : Body) (v : View) (w : W) : W := afterAction v (request op r body v w)

def execUpdateActivate (r : Request) (s : State) : Host.Outcome State Fault Refusal :=
  run true (requestThen opUpdateActivate r updateActivateBody) s

def execTestRestart (r : Request) (s : State) : Host.Outcome State Fault Refusal :=
  run true (requestThen opTestRestart r testRestartBody) s

def execTestFullReset (r : Request) (s : State) : Host.Outcome State Fault Refusal :=
  run true (requestThen opTestFullReset r testFullResetBody) s

def execTestSafeExit (r : Request) (s : State) : Host.Outcome State Fault Refusal :=
  run true (requestThen opTestSafeExit r testSafeExitBody) s

def execTestInject (r : Request) (s : State) : Host.Outcome State Fault Refusal :=
  run true (fun v w => useFaultOut v (requestThen opTestInject r testInjectBody v w)) s

/-- COMMAND_COMPLETE: the posted operation of this session and tag completes. -/
def commandCompleteCore (sid tag : Nat) (v : View) (w : W) : W :=
  if !managed w.m then w
  else match (waitingOps w.m isPosted).find? (fun o => o.sid == sid && o.tag == tag) with
    | none => w
    | some o => afterAction v (runPosted v o w)

def execCommandComplete (sid tag : Nat) (s : State) : Host.Outcome State Fault Refusal :=
  run true (commandCompleteCore sid tag) s

end Sys2Proof.Machine
end

