-- ==== Sys2Proof/Machine/Dispatch.lean ====
section
/-! DEFINITION. One arm per command: a direct call of its meaning, or its rejection by name. -/

namespace Sys2Proof.Machine

def exec (i : Instr) (s : State) : Host.Outcome State Fault Refusal :=
  match i with
  | .sessionHello r => Sys2Proof.Machine.execSessionHello r s
  | .sessionAuth r => Sys2Proof.Machine.execSessionAuth r s
  | .authLockoutEnd role => Sys2Proof.Machine.execAuthLockoutEnd role s
  | .sessionPing r => Sys2Proof.Machine.execSessionPing r s
  | .sessionClose r => Sys2Proof.Machine.execSessionClose r s
  | .sessionList r => Sys2Proof.Machine.execSessionList r s
  | .sessionEvict r => Sys2Proof.Machine.execSessionEvict r s
  | .sessionRekey r => Sys2Proof.Machine.execSessionRekey r s
  | .authWindowExpiry slot => Sys2Proof.Machine.execAuthWindowExpiry slot s
  | .sessionIdleTimeout slot => Sys2Proof.Machine.execSessionIdleTimeout slot s
  | .ipReassemblyTimeout k => Sys2Proof.Machine.execIpReassemblyTimeout k s
  | .isotpTimeout k => Sys2Proof.Machine.execIsotpTimeout k s
  | .fragmentTimeout slot tag => Sys2Proof.Machine.execFragmentTimeout slot tag s
  | .commandComplete sid tag => Sys2Proof.Machine.execCommandComplete sid tag s
  | .eventDelivery slot => Sys2Proof.Machine.execEventDelivery slot s
  | .criticalResend => Sys2Proof.Machine.execCriticalResend s
  | .eventSubscribe r => Sys2Proof.Machine.execEventSubscribe r s
  | .eventAck r => Sys2Proof.Machine.execEventAck r s
  | .eventStatus r => Sys2Proof.Machine.execEventStatus r s
  | .eventRead r => Sys2Proof.Machine.execEventRead r s
  | .infoIdentity r => Sys2Proof.Machine.execInfoIdentity r s
  | .infoVersions r => Sys2Proof.Machine.execInfoVersions r s
  | .infoState r => Sys2Proof.Machine.execInfoState r s
  | .infoBlocks r => Sys2Proof.Machine.execInfoBlocks r s
  | .paramRead r => Sys2Proof.Machine.execParamRead r s
  | .paramWrite r => Sys2Proof.Machine.execParamWrite r s
  | .parseEntryDrainComplete port => Sys2Proof.Machine.execParseEntryDrainComplete port s
  | .paramHold r => Sys2Proof.Machine.execParamHold r s
  | .holdDrainComplete block unit => Sys2Proof.Machine.execHoldDrainComplete block unit s
  | .paramRelease r => Sys2Proof.Machine.execParamRelease r s
  | .holdExpiry block unit => Sys2Proof.Machine.execHoldExpiry block unit s
  | .paramDescribe r => Sys2Proof.Machine.execParamDescribe r s
  | .paramChanged r => Sys2Proof.Machine.execParamChanged r s
  | .twinPairRewrite id => Sys2Proof.Machine.execTwinPairRewrite id s
  | .ethFrameReceive port f => Sys2Proof.Machine.execEthFrameReceive port f s
  | .canFrameReceive ch f => Sys2Proof.Machine.execCanFrameReceive ch f s
  | .preclassify port h => Sys2Proof.Machine.execPreclassify port h s
  | .fastlaneCanSof ch => Sys2Proof.Machine.execFastlaneCanSof ch s
  | .fastlaneEthStart port => Sys2Proof.Machine.execFastlaneEthStart port s
  | .parseAccept => Sys2Proof.Machine.execParseAccept s
  | .nop ctx => Sys2Proof.Machine.execNop ctx s
  | .jmp ctx => Sys2Proof.Machine.execJmp ctx s
  | .bz ctx => Sys2Proof.Machine.execBz ctx s
  | .bnz ctx => Sys2Proof.Machine.execBnz ctx s
  | .bc ctx => Sys2Proof.Machine.execBc ctx s
  | .bnc ctx => Sys2Proof.Machine.execBnc ctx s
  | .bs ctx => Sys2Proof.Machine.execBs ctx s
  | .call ctx => Sys2Proof.Machine.execCall ctx s
  | .ret ctx => Sys2Proof.Machine.execRet ctx s
  | .parseDone ctx => Sys2Proof.Machine.execParseDone ctx s
  | .dropFrame ctx => Sys2Proof.Machine.execDropFrame ctx s
  | .jtab ctx => Sys2Proof.Machine.execJtab ctx s
  | .ldb ctx => Sys2Proof.Machine.execLdb ctx s
  | .ldh ctx => Sys2Proof.Machine.execLdh ctx s
  | .ldw ctx => Sys2Proof.Machine.execLdw ctx s
  | .ldhl ctx => Sys2Proof.Machine.execLdhl ctx s
  | .ldwl ctx => Sys2Proof.Machine.execLdwl ctx s
  | .ldm ctx => Sys2Proof.Machine.execLdm ctx s
  | .advi ctx => Sys2Proof.Machine.execAdvi ctx s
  | .advr ctx => Sys2Proof.Machine.execAdvr ctx s
  | .setc ctx => Sys2Proof.Machine.execSetc ctx s
  | .getc ctx => Sys2Proof.Machine.execGetc ctx s
  | .movi ctx => Sys2Proof.Machine.execMovi ctx s
  | .movhi ctx => Sys2Proof.Machine.execMovhi ctx s
  | .mov ctx => Sys2Proof.Machine.execMov ctx s
  | .add ctx => Sys2Proof.Machine.execAdd ctx s
  | .addi ctx => Sys2Proof.Machine.execAddi ctx s
  | .sub ctx => Sys2Proof.Machine.execSub ctx s
  | .andR ctx => Sys2Proof.Machine.execAndR ctx s
  | .andi ctx => Sys2Proof.Machine.execAndi ctx s
  | .orR ctx => Sys2Proof.Machine.execOrR ctx s
  | .ori ctx => Sys2Proof.Machine.execOri ctx s
  | .xor ctx => Sys2Proof.Machine.execXor ctx s
  | .shli ctx => Sys2Proof.Machine.execShli ctx s
  | .shri ctx => Sys2Proof.Machine.execShri ctx s
  | .ext ctx => Sys2Proof.Machine.execExt ctx s
  | .cmp ctx => Sys2Proof.Machine.execCmp ctx s
  | .cmpi ctx => Sys2Proof.Machine.execCmpi ctx s
  | .keyw ctx => Sys2Proof.Machine.execKeyw ctx s
  | .keyi ctx => Sys2Proof.Machine.execKeyi ctx s
  | .hash ctx => Sys2Proof.Machine.execHash ctx s
  | .nameRef ctx => Sys2Proof.Machine.execNameRef ctx s
  | .nameWaitResume ctx => Sys2Proof.Machine.execNameWaitResume ctx s
  | .tpsub ctx => Sys2Proof.Machine.execTpsub ctx s
  | .j1939TpTimeout k => Sys2Proof.Machine.execJ1939TpTimeout k s
  | .acsub ctx => Sys2Proof.Machine.execAcsub ctx s
  | .mark ctx => Sys2Proof.Machine.execMark ctx s
  | .parseOverrun ctx => Sys2Proof.Machine.execParseOverrun ctx s
  | .classify errors => Sys2Proof.Machine.execClassify errors s
  | .learnInsert => Sys2Proof.Machine.execLearnInsert s
  | .ageSweep => Sys2Proof.Machine.execAgeSweep s
  | .tableInfo r => Sys2Proof.Machine.execTableInfo r s
  | .tableRead r => Sys2Proof.Machine.execTableRead r s
  | .tableWrite r => Sys2Proof.Machine.execTableWrite r s
  | .tableInsert r => Sys2Proof.Machine.execTableInsert r s
  | .tableDelete r => Sys2Proof.Machine.execTableDelete r s
  | .tableSearch r => Sys2Proof.Machine.execTableSearch r s
  | .tableCommit r => Sys2Proof.Machine.execTableCommit r s
  | .commitApply => Sys2Proof.Machine.execCommitApply s
  | .tableFlush r => Sys2Proof.Machine.execTableFlush r s
  | .tableDiscard r => Sys2Proof.Machine.execTableDiscard r s
  | .waypointEvaluate => Sys2Proof.Machine.execWaypointEvaluate s
  | .profileSweep => Sys2Proof.Machine.execProfileSweep s
  | .laybyExpiry id => Sys2Proof.Machine.execLaybyExpiry id s
  | .flowRead r => Sys2Proof.Machine.execFlowRead r s
  | .flowLearn r => Sys2Proof.Machine.execFlowLearn r s
  | .flowWatch r => Sys2Proof.Machine.execFlowWatch r s
  | .flowFreeze r => Sys2Proof.Machine.execFlowFreeze r s
  | .flowQuarantineClear r => Sys2Proof.Machine.execFlowQuarantineClear r s
  | .flowLaybyList r => Sys2Proof.Machine.execFlowLaybyList r s
  | .flowLaybyRead r => Sys2Proof.Machine.execFlowLaybyRead r s
  | .flowLaybyDispose r => Sys2Proof.Machine.execFlowLaybyDispose r s
  | .flowKindsAck r => Sys2Proof.Machine.execFlowKindsAck r s
  | .frameEnqueue t => Sys2Proof.Machine.execFrameEnqueue t s
  | .enqueueHoldExpiry => Sys2Proof.Machine.execEnqueueHoldExpiry s
  | .bpCeiling port queue => Sys2Proof.Machine.execBpCeiling port queue s
  | .dropOldestRemove port queue => Sys2Proof.Machine.execDropOldestRemove port queue s
  | .allotmentMilestone d => Sys2Proof.Machine.execAllotmentMilestone d s
  | .closureWatchdog resource requester addrs => Sys2Proof.Machine.execClosureWatchdog resource requester addrs s
  | .tileAudit lost => Sys2Proof.Machine.execTileAudit lost s
  | .ethTxStart port t => Sys2Proof.Machine.execEthTxStart port t s
  | .ethTxComplete port e => Sys2Proof.Machine.execEthTxComplete port e s
  | .gateEntryChange port => Sys2Proof.Machine.execGateEntryChange port s
  | .gateListActivated port => Sys2Proof.Machine.execGateListActivated port s
  | .pauseQuantaExpiry port => Sys2Proof.Machine.execPauseQuantaExpiry port s
  | .pauseResend port => Sys2Proof.Machine.execPauseResend port s
  | .canObjectLoad ch q t => Sys2Proof.Machine.execCanObjectLoad ch q t s
  | .canTxAttemptStart ch => Sys2Proof.Machine.execCanTxAttemptStart ch s
  | .canTxAttemptEnd ch e => Sys2Proof.Machine.execCanTxAttemptEnd ch e s
  | .collisionHoldExpiry ch n => Sys2Proof.Machine.execCollisionHoldExpiry ch n s
  | .busOffRecovered ch => Sys2Proof.Machine.execBusOffRecovered ch s
  | .rateDetectTimeout ch => Sys2Proof.Machine.execRateDetectTimeout ch s
  | .trailerLine ch lines => Sys2Proof.Machine.execTrailerLine ch lines s
  | .objectStatus r => Sys2Proof.Machine.execObjectStatus r s
  | .objectConfig r => Sys2Proof.Machine.execObjectConfig r s
  | .objectRead r => Sys2Proof.Machine.execObjectRead r s
  | .objectAck r => Sys2Proof.Machine.execObjectAck r s
  | .objectSend r => Sys2Proof.Machine.execObjectSend r s
  | .objectCancel r => Sys2Proof.Machine.execObjectCancel r s
  | .objectRetry r => Sys2Proof.Machine.execObjectRetry r s
  | .objectRecover r => Sys2Proof.Machine.execObjectRecover r s
  | .objectRateDetect r => Sys2Proof.Machine.execObjectRateDetect r s
  | .objectCollisions r => Sys2Proof.Machine.execObjectCollisions r s
  | .objectLinScheduleWrite r => Sys2Proof.Machine.execObjectLinScheduleWrite r s
  | .objectLinScheduleSelect r => Sys2Proof.Machine.execObjectLinScheduleSelect r s
  | .objectLinBufferRead r => Sys2Proof.Machine.execObjectLinBufferRead r s
  | .addressClaimConfirm ch => Sys2Proof.Machine.execAddressClaimConfirm ch s
  | .cannotClaimSend ch => Sys2Proof.Machine.execCannotClaimSend ch s
  | .linSlotStart n => Sys2Proof.Machine.execLinSlotStart n s
  | .linResponseReceive n data e => Sys2Proof.Machine.execLinResponseReceive n data e s
  | .linResponseTimeout n => Sys2Proof.Machine.execLinResponseTimeout n s
  | .junctionProcess t bad => Sys2Proof.Machine.execJunctionProcess t bad s
  | .pduTimeout entry => Sys2Proof.Machine.execPduTimeout entry s
  | .templateGridSend t => Sys2Proof.Machine.execTemplateGridSend t s
  | .templateDeferredSend t => Sys2Proof.Machine.execTemplateDeferredSend t s
  | .tunnelFlush k => Sys2Proof.Machine.execTunnelFlush k s
  | .postedWriteFail p => Sys2Proof.Machine.execPostedWriteFail p s
  | .junctionStatus r => Sys2Proof.Machine.execJunctionStatus r s
  | .junctionMapStatus r => Sys2Proof.Machine.execJunctionMapStatus r s
  | .junctionTemplateRead r => Sys2Proof.Machine.execJunctionTemplateRead r s
  | .junctionSignalRead r => Sys2Proof.Machine.execJunctionSignalRead r s
  | .junctionSignalWrite r => Sys2Proof.Machine.execJunctionSignalWrite r s
  | .junctionTemplateSend r => Sys2Proof.Machine.execJunctionTemplateSend r s
  | .junctionTemplateRestore r => Sys2Proof.Machine.execJunctionTemplateRestore r s
  | .junctionGroupRead r => Sys2Proof.Machine.execJunctionGroupRead r s
  | .linkChange port up rate master sqi => Sys2Proof.Machine.execLinkChange port up rate master sqi s
  | .plcaBeaconLoss port present => Sys2Proof.Machine.execPlcaBeaconLoss port present s
  | .mkaLifeTimeout port => Sys2Proof.Machine.execMkaLifeTimeout port s
  | .tc10SleepRequest port => Sys2Proof.Machine.execTc10SleepRequest port s
  | .tc10Wake port ticks => Sys2Proof.Machine.execTc10Wake port ticks s
  | .doipActivationChange x => Sys2Proof.Machine.execDoipActivationChange x s
  | .doipDeactivation => Sys2Proof.Machine.execDoipDeactivation s
  | .vehicleAnnouncement => Sys2Proof.Machine.execVehicleAnnouncement s
  | .vehicleIdentificationRequest type payload => Sys2Proof.Machine.execVehicleIdentificationRequest type payload s
  | .entityStatusRequest => Sys2Proof.Machine.execEntityStatusRequest s
  | .powerModeRequest => Sys2Proof.Machine.execPowerModeRequest s
  | .aliveCheckRequest conn => Sys2Proof.Machine.execAliveCheckRequest conn s
  | .routingActivationRequest conn sa type => Sys2Proof.Machine.execRoutingActivationRequest conn sa type s
  | .diagnosticMessage conn sa ta data => Sys2Proof.Machine.execDiagnosticMessage conn sa ta data s
  | .doipInactivityTimeout => Sys2Proof.Machine.execDoipInactivityTimeout s
  | .doipConnectionClose conn => Sys2Proof.Machine.execDoipConnectionClose conn s
  | .milestoneWrap tb => Sys2Proof.Machine.execMilestoneWrap tb s
  | .syncReceive g => Sys2Proof.Machine.execSyncReceive g s
  | .gptpSyncSend => Sys2Proof.Machine.execGptpSyncSend s
  | .gptpPdelayExchange port answer => Sys2Proof.Machine.execGptpPdelayExchange port answer s
  | .syncReceiptTimeout tb => Sys2Proof.Machine.execSyncReceiptTimeout tb s
  | .holdoverLimit tb => Sys2Proof.Machine.execHoldoverLimit tb s
  | .tb3Checkpoint => Sys2Proof.Machine.execTb3Checkpoint s
  | .ctsSyncSend ch => Sys2Proof.Machine.execCtsSyncSend ch s
  | .ctsFupSend ch => Sys2Proof.Machine.execCtsFupSend ch s
  | .ctsSyncCancel ch => Sys2Proof.Machine.execCtsSyncCancel ch s
  | .ctsPairReceive => Sys2Proof.Machine.execCtsPairReceive s
  | .ctsFupTimeout => Sys2Proof.Machine.execCtsFupTimeout s
  | .timeRead r => Sys2Proof.Machine.execTimeRead r s
  | .timeAdjust r => Sys2Proof.Machine.execTimeAdjust r s
  | .timeSetRate r => Sys2Proof.Machine.execTimeSetRate r s
  | .timeTb3Advance r => Sys2Proof.Machine.execTimeTb3Advance r s
  | .timePortStatus r => Sys2Proof.Machine.execTimePortStatus r s
  | .wakeSourceLatch l ticks => Sys2Proof.Machine.execWakeSourceLatch l ticks s
  | .nmTimeout port node => Sys2Proof.Machine.execNmTimeout port node s
  | .minAwakeExpiry group => Sys2Proof.Machine.execMinAwakeExpiry group s
  | .keepAwakeExpiry => Sys2Proof.Machine.execKeepAwakeExpiry s
  | .nmSend group => Sys2Proof.Machine.execNmSend group s
  | .linWakeStart n => Sys2Proof.Machine.execLinWakeStart n s
  | .sleepPrepEntry => Sys2Proof.Machine.execSleepPrepEntry s
  | .sleepCommit => Sys2Proof.Machine.execSleepCommit s
  | .safeSleep => Sys2Proof.Machine.execSafeSleep s
  | .falseWake => Sys2Proof.Machine.execFalseWake s
  | .ledgerAccrue => Sys2Proof.Machine.execLedgerAccrue s
  | .sleepStatus r => Sys2Proof.Machine.execSleepStatus r s
  | .sleepKeepAwake r => Sys2Proof.Machine.execSleepKeepAwake r s
  | .sleepWakeRecords r => Sys2Proof.Machine.execSleepWakeRecords r s
  | .sleepFilterWrite r => Sys2Proof.Machine.execSleepFilterWrite r s
  | .sleepFilterRead r => Sys2Proof.Machine.execSleepFilterRead r s
  | .sleepLedgerRead r => Sys2Proof.Machine.execSleepLedgerRead r s
  | .sleepLedgerClear r => Sys2Proof.Machine.execSleepLedgerClear r s
  | .heartbeatFrame die bad => Sys2Proof.Machine.execHeartbeatFrame die bad s
  | .heartbeatAck die => Sys2Proof.Machine.execHeartbeatAck die s
  | .heartbeatTimeout die => Sys2Proof.Machine.execHeartbeatTimeout die s
  | .inrushWindowEnd ch => Sys2Proof.Machine.execInrushWindowEnd ch s
  | .fastTrip ch current temp => Sys2Proof.Machine.execFastTrip ch current temp s
  | .overloadTrip ch current temp => Sys2Proof.Machine.execOverloadTrip ch current temp s
  | .thermalShutdown ch current temp => Sys2Proof.Machine.execThermalShutdown ch current temp s
  | .sympatheticRetry ch => Sys2Proof.Machine.execSympatheticRetry ch s
  | .channelRetry ch => Sys2Proof.Machine.execChannelRetry ch s
  | .tripCountReset ch => Sys2Proof.Machine.execTripCountReset ch s
  | .openLoad ch current => Sys2Proof.Machine.execOpenLoad ch current s
  | .supplyInhibitRelease die => Sys2Proof.Machine.execSupplyInhibitRelease die s
  | .channelStatus r => Sys2Proof.Machine.execChannelStatus r s
  | .channelSet r => Sys2Proof.Machine.execChannelSet r s
  | .channelClear r => Sys2Proof.Machine.execChannelClear r s
  | .channelAllOff r => Sys2Proof.Machine.execChannelAllOff r s
  | .channelTripLog r => Sys2Proof.Machine.execChannelTripLog r s
  | .keyStatus r => Sys2Proof.Machine.execKeyStatus r s
  | .keyUpdate r => Sys2Proof.Machine.execKeyUpdate r s
  | .keyCertRead r => Sys2Proof.Machine.execKeyCertRead r s
  | .keyAttest r => Sys2Proof.Machine.execKeyAttest r s
  | .orphanSweep => Sys2Proof.Machine.execOrphanSweep s
  | .zspVerify => Sys2Proof.Machine.execZspVerify s
  | .zspSign => Sys2Proof.Machine.execZspSign s
  | .zspCounterFrame ch f => Sys2Proof.Machine.execZspCounterFrame ch f s
  | .zspCounterSend flow => Sys2Proof.Machine.execZspCounterSend flow s
  | .freqEdge p => Sys2Proof.Machine.execFreqEdge p s
  | .journalSample => Sys2Proof.Machine.execJournalSample s
  | .minuteRecord => Sys2Proof.Machine.execMinuteRecord s
  | .journalStatus r => Sys2Proof.Machine.execJournalStatus r s
  | .journalRead r => Sys2Proof.Machine.execJournalRead r s
  | .journalGnss r => Sys2Proof.Machine.execJournalGnss r s
  | .journalAnnotate r => Sys2Proof.Machine.execJournalAnnotate r s
  | .journalSealNow r => Sys2Proof.Machine.execJournalSealNow r s
  | .supplyValid deep mv ticks => Sys2Proof.Machine.execSupplyValid deep mv ticks s
  | .supplyRangeChange range x => Sys2Proof.Machine.execSupplyRangeChange range x s
  | .vbatWarning mv => Sys2Proof.Machine.execVbatWarning mv s
  | .brownOut => Sys2Proof.Machine.execBrownOut s
  | .groundLoss offset => Sys2Proof.Machine.execGroundLoss offset s
  | .thermalShed temp => Sys2Proof.Machine.execThermalShed temp s
  | .dieOvertemp temp => Sys2Proof.Machine.execDieOvertemp temp s
  | .basePlateWarning temp => Sys2Proof.Machine.execBasePlateWarning temp s
  | .channelPowerLimit mw => Sys2Proof.Machine.execChannelPowerLimit mw s
  | .bringUp b => Sys2Proof.Machine.execBringUp b s
  | .bringUpDeadline starts => Sys2Proof.Machine.execBringUpDeadline starts s
  | .sequencerWatchdog => Sys2Proof.Machine.execSequencerWatchdog s
  | .mgmtWatchdogExpiry => Sys2Proof.Machine.execMgmtWatchdogExpiry s
  | .lockstepFault => Sys2Proof.Machine.execLockstepFault s
  | .mgmtMemoryError correctable addr => Sys2Proof.Machine.execMgmtMemoryError correctable addr s
  | .firmwareRunning => Sys2Proof.Machine.execFirmwareRunning s
  | .unmanagedLimit => Sys2Proof.Machine.execUnmanagedLimit s
  | .mramTimeout => Sys2Proof.Machine.execMramTimeout s
  | .routebookStatus r => Sys2Proof.Machine.execRoutebookStatus r s
  | .routebookWrite r => Sys2Proof.Machine.execRoutebookWrite r s
  | .routebookVerify r => Sys2Proof.Machine.execRoutebookVerify r s
  | .routebookActivate r => Sys2Proof.Machine.execRoutebookActivate r s
  | .routebookHeaderRead r => Sys2Proof.Machine.execRoutebookHeaderRead r s
  | .updateStatus r => Sys2Proof.Machine.execUpdateStatus r s
  | .updateBegin r => Sys2Proof.Machine.execUpdateBegin r s
  | .updateChunk r => Sys2Proof.Machine.execUpdateChunk r s
  | .updateFinish r => Sys2Proof.Machine.execUpdateFinish r s
  | .updateActivate r => Sys2Proof.Machine.execUpdateActivate r s
  | .updateConfirm r => Sys2Proof.Machine.execUpdateConfirm r s
  | .updateAbort r => Sys2Proof.Machine.execUpdateAbort r s
  | .selfConfirm => Sys2Proof.Machine.execSelfConfirm s
  | .trialWindowExpiry => Sys2Proof.Machine.execTrialWindowExpiry s
  | .counterRead r => Sys2Proof.Machine.execCounterRead r s
  | .counterClear r => Sys2Proof.Machine.execCounterClear r s
  | .counterDescribe r => Sys2Proof.Machine.execCounterDescribe r s
  | .testStatus r => Sys2Proof.Machine.execTestStatus r s
  | .testRestart r => Sys2Proof.Machine.execTestRestart r s
  | .testFullReset r => Sys2Proof.Machine.execTestFullReset r s
  | .testSafeExit r => Sys2Proof.Machine.execTestSafeExit r s
  | .testInject r => Sys2Proof.Machine.execTestInject r s
  | .discreteInputChange n x => Sys2Proof.Machine.execDiscreteInputChange n x s
  | .sensorSupplyTrip battery mv => Sys2Proof.Machine.execSensorSupplyTrip battery mv s
  | .sensorSupplyRetry battery mv => Sys2Proof.Machine.execSensorSupplyRetry battery mv s
  | .preemptionVerification port status => Sys2Proof.Machine.execPreemptionVerification port status s
  | .mkaHello l => Sys2Proof.Machine.execMkaHello l s
  | .timeSlewEnd tb => Sys2Proof.Machine.execTimeSlewEnd tb s
  | .timeBaseParityError tb => Sys2Proof.Machine.execTimeBaseParityError tb s
  | .openLoadClear ch current => Sys2Proof.Machine.execOpenLoadClear ch current s
  | .pwmPeriodStart ch => Sys2Proof.Machine.execPwmPeriodStart ch s
  | .analogueInputSample n mv => Sys2Proof.Machine.execAnalogueInputSample n mv s
  | .isotpStminExpiry k => Sys2Proof.Machine.execIsotpStminExpiry k s

end Sys2Proof.Machine
end

