-- ==== Sys2Proof/WellFormed.lean ====
section
/-! DEFINITION. Well-formed commands: every operand names a unit the module has, and every packet field fits the width
Table 02-1 gives it. The ranges are the ones the meanings themselves ask for. -/

namespace Sys2Proof

/-- The ingress port or pair, VLAN, addresses and UDP port of a source fit their widths. -/
def Source.wf : Source → Bool
  | .udp port vlan v6 src sport dst dport =>
    decide (port < 11 ∧ vlan < 4096 ∧ sport < 65536 ∧ dport < 65536)
      && (if v6 then decide (src < 2 ^ 128 ∧ dst < 2 ^ 128) else decide (src < 2 ^ 32 ∧ dst < 2 ^ 32))
  | .isotp p => decide (p < 2)

/-- Operations of each family, numbered from 1 (the tables of their chapters). -/
def familyOps : List (Nat × Nat) :=
  [(0x01, 7), (0x02, 4), (0x03, 6), (0x04, 9), (0x05, 5), (0x06, 3), (0x07, 4), (0x08, 5), (0x09, 5), (0x0A, 7), (0x0B, 4),
   (0x0C, 7), (0x0D, 5), (0x0E, 9), (0x0F, 13), (0x10, 5), (0x11, 8)]

/-- The opcode of a request command. -/
def isRequestOpcode (c : Nat) : Bool := familyOps.any fun f => c / 256 == f.1 && decide (1 ≤ c % 256 ∧ c % 256 ≤ f.2)

/-- The header fields fit their widths (Table 02-1); an opcode of another name is one that no command has (R26). -/
def Request.wf (r : Request) : Bool :=
  r.src.wf && decide (r.magic < 2 ^ 16 ∧ r.major < 2 ^ 8 ∧ r.minor < 2 ^ 8 ∧ r.payloadLength < 2 ^ 16 ∧ r.status < 2 ^ 16)
    && decide (r.sessionId < 2 ^ 32 ∧ r.sequence < 2 ^ 32)
    && r.other.all (fun c => decide (c < 65536) && !isRequestOpcode c)

open Machine in
/-- The command's operands are in range. -/
def Instr.wf : Instr → Bool
  | .sessionHello r => r.wf
  | .sessionAuth r => r.wf
  | .authLockoutEnd role => decide (role < 3)
  | .sessionPing r => r.wf
  | .sessionClose r => r.wf
  | .sessionList r => r.wf
  | .sessionEvict r => r.wf
  | .sessionRekey r => r.wf
  | .authWindowExpiry slot => decide (slot < 4)
  | .sessionIdleTimeout slot => decide (slot < 4)
  | .ipReassemblyTimeout _ => true
  | .isotpTimeout _ => true
  | .fragmentTimeout slot tag => decide (slot < 4 ∧ tag < 32)
  | .commandComplete _ _ => true
  | .eventDelivery slot => decide (slot < 4)
  | .criticalResend => true
  | .eventSubscribe r => r.wf
  | .eventAck r => r.wf
  | .eventStatus r => r.wf
  | .eventRead r => r.wf
  | .infoIdentity r => r.wf
  | .infoVersions r => r.wf
  | .infoState r => r.wf
  | .infoBlocks r => r.wf
  | .paramRead r => r.wf
  | .paramWrite r => r.wf
  | .parseEntryDrainComplete port => decide (port < 44)
  | .paramHold r => r.wf
  | .holdDrainComplete _ _ => true
  | .paramRelease r => r.wf
  | .holdExpiry _ _ => true
  | .paramDescribe r => r.wf
  | .paramChanged r => r.wf
  | .twinPairRewrite _ => true
  | .ethFrameReceive port _ => isEthPort port
  | .canFrameReceive ch f => decide (ch < 22) && isCanFormat f.fmt
  | .preclassify port _ => isEthPort port || isCanPort port
  | .fastlaneCanSof ch => decide (ch < 22)
  | .fastlaneEthStart port => isEthPort port
  | .parseAccept => true
  | .nop ctx => ctxOk ctx
  | .jmp ctx => ctxOk ctx
  | .bz ctx => ctxOk ctx
  | .bnz ctx => ctxOk ctx
  | .bc ctx => ctxOk ctx
  | .bnc ctx => ctxOk ctx
  | .bs ctx => ctxOk ctx
  | .call ctx => ctxOk ctx
  | .ret ctx => ctxOk ctx
  | .parseDone ctx => ctxOk ctx
  | .dropFrame ctx => ctxOk ctx
  | .jtab ctx => ctxOk ctx
  | .ldb ctx => ctxOk ctx
  | .ldh ctx => ctxOk ctx
  | .ldw ctx => ctxOk ctx
  | .ldhl ctx => ctxOk ctx
  | .ldwl ctx => ctxOk ctx
  | .ldm ctx => ctxOk ctx
  | .advi ctx => ctxOk ctx
  | .advr ctx => ctxOk ctx
  | .setc ctx => ctxOk ctx
  | .getc ctx => ctxOk ctx
  | .movi ctx => ctxOk ctx
  | .movhi ctx => ctxOk ctx
  | .mov ctx => ctxOk ctx
  | .add ctx => ctxOk ctx
  | .addi ctx => ctxOk ctx
  | .sub ctx => ctxOk ctx
  | .andR ctx => ctxOk ctx
  | .andi ctx => ctxOk ctx
  | .orR ctx => ctxOk ctx
  | .ori ctx => ctxOk ctx
  | .xor ctx => ctxOk ctx
  | .shli ctx => ctxOk ctx
  | .shri ctx => ctxOk ctx
  | .ext ctx => ctxOk ctx
  | .cmp ctx => ctxOk ctx
  | .cmpi ctx => ctxOk ctx
  | .keyw ctx => ctxOk ctx
  | .keyi ctx => ctxOk ctx
  | .hash ctx => ctxOk ctx
  | .nameRef ctx => ctxOk ctx
  | .nameWaitResume ctx => ctxOk ctx
  | .tpsub ctx => ctxOk ctx
  | .j1939TpTimeout _ => true
  | .acsub ctx => ctxOk ctx
  | .mark ctx => ctxOk ctx
  | .parseOverrun ctx => ctxOk ctx
  | .classify errors => errors.entries.all entryAddrOk
  | .learnInsert => true
  | .ageSweep => true
  | .tableInfo r => r.wf
  | .tableRead r => r.wf
  | .tableWrite r => r.wf
  | .tableInsert r => r.wf
  | .tableDelete r => r.wf
  | .tableSearch r => r.wf
  | .tableCommit r => r.wf
  | .commitApply => true
  | .tableFlush r => r.wf
  | .tableDiscard r => r.wf
  | .waypointEvaluate => true
  | .profileSweep => true
  | .laybyExpiry _ => true
  | .flowRead r => r.wf
  | .flowLearn r => r.wf
  | .flowWatch r => r.wf
  | .flowFreeze r => r.wf
  | .flowQuarantineClear r => r.wf
  | .flowLaybyList r => r.wf
  | .flowLaybyRead r => r.wf
  | .flowLaybyDispose r => r.wf
  | .flowKindsAck r => r.wf
  | .frameEnqueue _ => true
  | .enqueueHoldExpiry => true
  | .bpCeiling port queue => isQueue port queue
  | .dropOldestRemove port queue => isQueue port queue
  | .allotmentMilestone d => d.all (fun x => decide (x.index < 96 ∧ x.at_ < 400))
  | .closureWatchdog resource requester addrs => decide (resource < 6 ∧ requester < 16 ∧ addrs.length ≤ 8)
  | .tileAudit _ => true
  | .ethTxStart port _ => isEthPort port
  | .ethTxComplete port _ => isEthPort port
  | .gateEntryChange port => isEthPort port
  | .gateListActivated port => isEthPort port
  | .pauseQuantaExpiry port => isEthPort port
  | .pauseResend port => isEthPort port
  | .canObjectLoad ch q _ => decide (ch < 22 ∧ q < 5)
  | .canTxAttemptStart ch => decide (ch < 22)
  | .canTxAttemptEnd ch _ => decide (ch < 22)
  | .collisionHoldExpiry ch n => decide (ch < 22 ∧ n < 96)
  | .busOffRecovered ch => decide (ch < 22)
  | .rateDetectTimeout ch => decide (ch < 22)
  | .trailerLine ch lines => decide (20 ≤ ch ∧ ch < 22 ∧ lines < 8)
  | .objectStatus r => r.wf
  | .objectConfig r => r.wf
  | .objectRead r => r.wf
  | .objectAck r => r.wf
  | .objectSend r => r.wf
  | .objectCancel r => r.wf
  | .objectRetry r => r.wf
  | .objectRecover r => r.wf
  | .objectRateDetect r => r.wf
  | .objectCollisions r => r.wf
  | .objectLinScheduleWrite r => r.wf
  | .objectLinScheduleSelect r => r.wf
  | .objectLinBufferRead r => r.wf
  | .addressClaimConfirm ch => decide (ch < 22)
  | .cannotClaimSend ch => decide (ch < 22)
  | .linSlotStart n => decide (n < 8)
  | .linResponseReceive n _ _ => decide (n < 8)
  | .linResponseTimeout n => decide (n < 8)
  | .junctionProcess _ _ => true
  | .pduTimeout entry => decide (entry < 4096)
  | .templateGridSend t => isTpl t
  | .templateDeferredSend t => isTpl t
  | .tunnelFlush k => decide (k < 16)
  | .postedWriteFail p => decide (p.target < 3)
  | .junctionStatus r => r.wf
  | .junctionMapStatus r => r.wf
  | .junctionTemplateRead r => r.wf
  | .junctionSignalRead r => r.wf
  | .junctionSignalWrite r => r.wf
  | .junctionTemplateSend r => r.wf
  | .junctionTemplateRestore r => r.wf
  | .junctionGroupRead r => r.wf
  | .linkChange port up rate _ sqi => isEthPort port && decide (sqi < 8) && (!up || rateCode rate != 0)
  | .plcaBeaconLoss port _ => decide (port = 8 ∨ port = 9)
  | .mkaLifeTimeout port => decide (port < 8)
  | .tc10SleepRequest port => decide (port < 8)
  | .tc10Wake port _ => decide (port < 8)
  | .doipActivationChange _ => true
  | .doipDeactivation => true
  | .vehicleAnnouncement => true
  | .vehicleIdentificationRequest _ _ => true
  | .entityStatusRequest => true
  | .powerModeRequest => true
  | .aliveCheckRequest _ => true
  | .routingActivationRequest _ sa _ => decide (sa < 65536)
  | .diagnosticMessage _ sa ta _ => decide (sa < 65536 ∧ ta < 65536)
  | .doipInactivityTimeout => true
  | .doipConnectionClose _ => true
  | .milestoneWrap tb => decide (tb < 4)
  | .syncReceive g => decide (g.port < 10)
  | .gptpSyncSend => true
  | .gptpPdelayExchange port _ => decide (port < 10)
  | .syncReceiptTimeout tb => decide (tb < 2)
  | .holdoverLimit tb => decide (tb < 2)
  | .tb3Checkpoint => true
  | .ctsSyncSend ch => decide (ch < 22)
  | .ctsFupSend ch => decide (ch < 22)
  | .ctsSyncCancel ch => decide (ch < 22)
  | .ctsPairReceive => true
  | .ctsFupTimeout => true
  | .timeRead r => r.wf
  | .timeAdjust r => r.wf
  | .timeSetRate r => r.wf
  | .timeTb3Advance r => r.wf
  | .timePortStatus r => r.wf
  | .wakeSourceLatch l _ => l.all (fun x => decide (x.code < 10))
  | .nmTimeout port _ => decide (port < 44)
  | .minAwakeExpiry group => decide (group < 8)
  | .keepAwakeExpiry => true
  | .nmSend group => decide (group < 8)
  | .linWakeStart n => decide (n < 8)
  | .sleepPrepEntry => true
  | .sleepCommit => true
  | .safeSleep => true
  | .falseWake => true
  | .ledgerAccrue => true
  | .sleepStatus r => r.wf
  | .sleepKeepAwake r => r.wf
  | .sleepWakeRecords r => r.wf
  | .sleepFilterWrite r => r.wf
  | .sleepFilterRead r => r.wf
  | .sleepLedgerRead r => r.wf
  | .sleepLedgerClear r => r.wf
  | .heartbeatFrame die bad => decide (die < 5) && bad.all (fun l => l.all (fun k => k / 4 == die))
  | .heartbeatAck die => decide (die < 5)
  | .heartbeatTimeout die => decide (die < 5)
  | .inrushWindowEnd ch => isChan ch
  | .fastTrip ch _ _ => isChan ch
  | .overloadTrip ch _ _ => isChan ch
  | .thermalShutdown ch _ _ => isChan ch
  | .sympatheticRetry ch => isChan ch
  | .channelRetry ch => isChan ch
  | .tripCountReset ch => isChan ch
  | .openLoad ch _ => isChan ch
  | .supplyInhibitRelease die => decide (die < 5)
  | .channelStatus r => r.wf
  | .channelSet r => r.wf
  | .channelClear r => r.wf
  | .channelAllOff r => r.wf
  | .channelTripLog r => r.wf
  | .keyStatus r => r.wf
  | .keyUpdate r => r.wf
  | .keyCertRead r => r.wf
  | .keyAttest r => r.wf
  | .orphanSweep => true
  | .zspVerify => true
  | .zspSign => true
  | .zspCounterFrame ch f => decide (ch < 22 ∧ f.fmt < 4 ∧ f.id < 2 ^ 29)
  | .zspCounterSend flow => decide (flow < 2048)
  | .freqEdge p => decide (p.input < 2)
  | .journalSample => true
  | .minuteRecord => true
  | .journalStatus r => r.wf
  | .journalRead r => r.wf
  | .journalGnss r => r.wf
  | .journalAnnotate r => r.wf
  | .journalSealNow r => r.wf
  | .supplyValid _ _ _ => true
  | .supplyRangeChange range _ => decide (range < 4)
  | .vbatWarning _ => true
  | .brownOut => true
  | .groundLoss _ => true
  | .thermalShed _ => true
  | .dieOvertemp _ => true
  | .basePlateWarning _ => true
  | .channelPowerLimit _ => true
  | .bringUp b => (b.badKeys ++ b.wornKeys).all (fun i => decide (i < 256))
  | .bringUpDeadline _ => true
  | .sequencerWatchdog => true
  | .mgmtWatchdogExpiry => true
  | .lockstepFault => true
  | .mgmtMemoryError _ _ => true
  | .firmwareRunning => true
  | .unmanagedLimit => true
  | .mramTimeout => true
  | .routebookStatus r => r.wf
  | .routebookWrite r => r.wf
  | .routebookVerify r => r.wf
  | .routebookActivate r => r.wf
  | .routebookHeaderRead r => r.wf
  | .updateStatus r => r.wf
  | .updateBegin r => r.wf
  | .updateChunk r => r.wf
  | .updateFinish r => r.wf
  | .updateActivate r => r.wf
  | .updateConfirm r => r.wf
  | .updateAbort r => r.wf
  | .selfConfirm => true
  | .trialWindowExpiry => true
  | .counterRead r => r.wf
  | .counterClear r => r.wf
  | .counterDescribe r => r.wf
  | .testStatus r => r.wf
  | .testRestart r => r.wf
  | .testFullReset r => r.wf
  | .testSafeExit r => r.wf
  | .testInject r => r.wf
  | .discreteInputChange n _ => decide (n < 12)
  | .sensorSupplyTrip _ mv => decide (mv < 65536)
  | .sensorSupplyRetry _ mv => decide (mv < 65536)
  | .preemptionVerification port status => decide (port < 8 ∧ 1 ≤ status ∧ status ≤ 4)
  | .mkaHello l => l.all (fun r => decide (r.port < 8))
  | .timeSlewEnd tb => decide (tb < 2)
  | .timeBaseParityError tb => decide (tb < 4)
  | .openLoadClear ch _ => isChan ch
  | .pwmPeriodStart ch => isChan ch
  | .analogueInputSample n _ => decide (n < 4)
  | .isotpStminExpiry _ => true

end Sys2Proof
end

