-- ==== Sys2Proof/Safety.lean ====
section
/-! DEFINITION. The terms statements are made in: what a command does when nothing turns it away, when a request is
accepted, and the invariant that every step keeps. -/

namespace Sys2Proof.Machine

/-- The outcome in which a command has had the effect `f`, and nothing else has happened. -/
def after (s : State) (f : View → W → W) : Host.Outcome State Fault Refusal := .next (commit s (f s.base ⟨s.m, []⟩))

/-! ### Requests -/

/-- A request in the session of slot `i` passes step 1 of Table 02-2: its framing, endpoint, time and trailer. -/
structure Verified (op : OpInfo) (r : Request) (s : State) (i : Nat) : Prop where
  own : r.other = none
  managed : managed s.m = true
  named : r.sessionId ≠ 0
  found : findSlot s.m r.sessionId = some i
  isBorul : ∃ t, admitted s.m (some (slotAt s.m i)) r.src = .yes t
  framed : framingOk r = true
  endpoint : sameEndpoint (slotAt s.m i).src r.src = true
  inTime : s.base.late (slotAt s.m i).deadline = false
  trailer : r.trailer = trailerOf (some (slotAt s.m i).key) (requestBytes op.code r)

/-- A request in the session of slot `i` passes steps 1 to 3 of Table 02-2: an OPEN session, or a PENDING one for
SESSION_AUTH. -/
structure Reaches (op : OpInfo) (r : Request) (s : State) (i : Nat) : Prop extends Verified op r s i where
  standing : (slotAt s.m i).st = if op.code = 0x0102 then .pending else .opened
  opcode : op.code ≠ 0x0101
  version : (r.major, r.minor) = ((slotAt s.m i).major, (slotAt s.m i).minor)

/-- The request passes steps 4 to 7 too, as one whole packet with nothing of it seen before. -/
structure Accepted (op : OpInfo) (r : Request) (s : State) (i : Nat) : Prop extends Reaches op r s i where
  new : findDup op r (slotAt s.m i) = none
  fresh : (slotAt s.m i).rxHigh < r.sequence
  gate : gate s.m op ((slotAt s.m i).major, (slotAt s.m i).minor) ((slotAt s.m i).role + 1) r.payload = none
  noTrain : trainOf (slotAt s.m i) r.tag = none
  tagFree : (slotAt s.m i).tags.contains r.tag = false
  whole : r.more = false

/-- A request outside any session (R22) passes every check before its body: SESSION_HELLO, or an INFO operation in a
version that has it. -/
structure AcceptedBare (op : OpInfo) (r : Request) (s : State) : Prop where
  own : r.other = none
  managed : managed s.m = true
  unnamed : r.sessionId = 0
  isBorul : ∃ t, admitted s.m none r.src = .yes t
  framed : framingOk r = true
  trailer : r.trailer = trailerOf none (requestBytes op.code r)
  served : op.code = 0x0101 ∨
    op.code / 256 = 0x02 ∧ isVersion r.major r.minor = true ∧ op.rev ≤ familyRev 0x02 (r.major, r.minor)
  whole : r.more = false

/-- The working pair in which the body of an accepted request runs. -/
def entered (op : OpInfo) (r : Request) (i : Nat) (s : State) : W := noted op r i (heard s.base r i ⟨s.m, []⟩)

/-- The context of the session in slot `i`. -/
def asked (r : Request) (i : Nat) (s : State) : Ctx := sessionCtx r i (slotAt s.m i)

/-- The outcome in which an accepted request has had the effect that `w` holds and its reply carries `p` with OK. -/
def repliedOk (op : OpInfo) (r : Request) (i : Nat) (s : State) (w : W) (p : List Byte) : Host.Outcome State Fault Refusal :=
  .next (commit s (replied s.base op r i (slotAt s.m i).id St.ok p w))

/-- Who asks outside any session. -/
def askedBare (r : Request) : Ctx := ⟨none, 0, 0, (r.major, r.minor), r.sequence, r.tag⟩

/-- The working pair in which the body of a request outside any session runs: the packet has been counted. -/
def enteredBare (s : State) : W := W.count ⟨s.m, []⟩ C.borul_rx_packets

/-- The outcome in which a request outside any session has had the effect that `w` holds and its reply carries `p`. -/
def repliedBare (op : OpInfo) (r : Request) (s : State) (w : W) (p : List Byte) : Host.Outcome State Fault Refusal :=
  .next (commit s (sendBare r op.code St.ok p w))

/-- The outcome in which an accepted request is answered with a status and its detail (R25). -/
def repliedWith (op : OpInfo) (r : Request) (i : Nat) (s : State) (w : W) (st : Nat) (d : List Byte) :
    Host.Outcome State Fault Refusal :=
  .next (commit s (replied s.base op r i (slotAt s.m i).id st d w))

/-- The outcome in which an accepted request has begun an operation of a kind that ends later (R41): it holds its tag,
and its reply carries `p` once the operation ends. -/
def waiting (op : OpInfo) (r : Request) (i : Nat) (s : State) (w : W) (kind : OpKind) (p : List Byte) :
    Host.Outcome State Fault Refusal :=
  .next (commit s (addOp { sid := (slotAt s.m i).id, tag := r.tag, opcode := op.code, seq := r.sequence
                           posted := false, payload := r.payload, kind := kind, slot := i
                           role := (slotAt s.m i).role, answer := p, src := r.src } (holdTag r i w)))

/-- The outcome in which an accepted request is answered with OK and the reset or restart it asks for follows. -/
def repliedThen (op : OpInfo) (r : Request) (i : Nat) (s : State) (w : W) (p : List Byte) : Host.Outcome State Fault Refusal :=
  .next (commit s (afterAction s.base (replied s.base op r i (slotAt s.m i).id St.ok p w)))

/-- The working pair after a FLOW request has marked the records of its range as read. -/
def flowTouched (op : OpInfo) (r : Request) (i : Nat) (s : State) : W :=
  touch s.base (((List.range (leAt r.payload 2 2)).map (· + leAt r.payload 0 2)).map (entryKey 0x0C)) (entered op r i s)

/-- The records of its range on which a FLOW request acts: those that are valid and readable. -/
def flowRecords (op : OpInfo) (r : Request) (i : Nat) (s : State) : List Nat :=
  let w := flowTouched op r i s
  ((List.range (leAt r.payload 2 2)).map (· + leAt r.payload 0 2)).filter
    (fun k => Wp.valid.on (wpGet w.m k) && !w.m.tab.isPoisoned 0x0C k)

/-- The working pair after the slot has become FREE: the session's requests to stay awake end with it. -/
def freed (i : Nat) (w : W) : W :=
  (w.slot i (fun _ => {})).slp fun x => { x with
    reasons := x.reasons.filter (fun r => !(r.kind == 2 && r.unit == i && r.node == (slotAt w.m i).id)) }

/-! ### Frames -/

/-- The module without its journal and without the start of self-confirmation time: what an event leaves alone. -/
def withoutJournal (m : Module) : Module := { m with jr := {}, upd := { m.upd with runSince := none } }

/-- `b` differs from `a` in the journal and the start of self-confirmation time only. -/
def SameButJournal (a b : Module) : Prop := withoutJournal b = withoutJournal a

/-- The module without its sessions, the requests they made to stay awake, its journal and the start of
self-confirmation time; and, where `across`, without what a read of the counters leaves in the snapshots of the fragment
counters (R266). -/
def withoutSessions (across : Bool) (m : Module) : Module :=
  withoutJournal { m with
    borul := {}, slp := { m.slp with reasons := [] }
    fab := if across then { m.fab with rxSnap := [] } else m.fab }

/-- `b` differs from `a` in the sessions and what ends with them, the journal and the start of self-confirmation time
only; and, where `across`, in what a read of the counters leaves behind. -/
def SameOutside (across : Bool) (a b : Module) : Prop := withoutSessions across b = withoutSessions across a

/-- The outcome is a next state that differs from `s` in the sessions and the journal only. -/
def OnlyReads (s : State) (o : Host.Outcome State Fault Refusal) : Prop := ∃ t, o = .next t ∧ SameOutside false s.m t.m

/-- The outcome is a next state that differs from `s` in the sessions, the journal and the snapshots of the fragment
counters only. -/
def OnlyReadsAcross (s : State) (o : Host.Outcome State Fault Refusal) : Prop :=
  ∃ t, o = .next t ∧ SameOutside true s.m t.m

/-! ### Parse instructions -/

/-- What fetching the word at the program counter of context `i` does: nothing, but where the entry has an uncorrectable
error that no access has found yet, which this one finds (R152). -/
def fetched (s : State) (i : Nat) (v : View) (w : W) : W := fetch v (ctxAt s.m i).pc w

/-- The word that parse context `i` fetches. -/
def wordAt (s : State) (i : Nat) : Nat := parseWord (fetched s i s.base ⟨s.m, []⟩).m (ctxAt s.m i).pc

/-- Context `i` holds a frame, is not waiting, has budget left, the instruction of opcode `op` is its next, and the
module is in a state in which programs run. -/
structure Issues (op i : Nat) (s : State) : Prop where
  number : i < 64
  powered : powered s.m = true
  programs : footService s.m = false
  busy : (ctxAt s.m i).frame.isSome = true
  awake : (ctxAt s.m i).waiting = none
  budget : (ctxAt s.m i).issued < prm s.m P.ingress_parse_budget
  address : (ctxAt s.m i).pc ≤ 8191
  opcode : opOf (wordAt s i) = op

/-- The outcome in which the instruction has issued: context `i` holds `c` and goes on at `pc`, with one instruction more
against the budget (R102); a fetch from above 8,191 is then a fault (R98). -/
def goesOn (s : State) (i pc : Nat) (c : ParseCtx) : Host.Outcome State Fault Refusal :=
  after s fun v w => checkFetch v i ((fetched s i v w).ctx i fun _ =>
    { c with pc := pc, issued := (ctxAt s.m i).issued + 1, from_ := (ctxAt s.m i).pc })

/-! ### The invariant -/

/-- An event entry as the queue keeps it (Table 02-11): repeat count and sequence fit their fields. -/
def Event.ok (e : Event) : Bool := decide (e.rep ≤ 255 ∧ e.seq < 2 ^ 32)

/-- What every step keeps of the event queue and the counters: at most 1,024 entries (R48), repeat counts that fit a
byte (R49), counters at most 2^64 − 1 in the canonical form (R530), and only counters held in MRAM marked as
unreadable. -/
structure Base.Inv (b : Base) : Prop where
  bounded : b.ev.entries.length ≤ queueBound
  entries : ∀ e ∈ b.ev.entries, e.ok = true
  next : b.ev.next < 2 ^ 32
  counters : b.cnt.wf 0 = true
  saturated : ∀ p ∈ b.cnt, p.2 ≤ counterMax
  damaged : ∀ i ∈ b.cntBad, isMramCounter i = true

end Sys2Proof.Machine
end

