-- ==== Sys2Proof/Certificates/Slice0/Obligations.lean ====
section
/-! DEFINITION. The statements made of the model. A request's outcome is stated for a request that passes the checks of
Table 02-2 (`Accepted`, `AcceptedBare`); an event command's, for every state in which its condition holds. -/

open Sys2Proof Sys2Proof.Machine

/-- SESSION_HELLO opens a PENDING session in the lowest FREE slot in the highest common version under the role's
access key; SESSION_AUTH that echoes the nonce opens the session, clears the role's failures, confirms the wake and
raises 0x0202; PING answers empty; CLOSE answers empty and ends the session with reason 0; LIST answers the slot
records; EVICT ends the named session with reason 1; REKEY answers a nonce and puts the new key in force after the
reply. -/
def Obligations.SessionRequestsAnswer : Prop :=
  (∀ r s k ver w key, AcceptedBare opSessionHello r s → freeSlot s.m = some k → 24 ≤ r.payload.length →
    (leAt r.payload 2 1, leAt r.payload 3 1) = (r.major, r.minor) → leAt r.payload 4 1 ≤ 2 →
    chooseVersion (leAt r.payload 0 1, leAt r.payload 1 1) (r.major, r.minor) = some ver →
    roleLocked s.m (leAt r.payload 4 1) s.base.now = false →
    accessKey s.base (leAt r.payload 4 1) (enteredBare s) = (w, some key) →
    exec (.sessionHello r) s = .next (commit s (openPending s.base r k (leAt r.payload 4 1) ver key w))) ∧
  (∀ r s i, Accepted opSessionAuth r s i → 16 ≤ r.payload.length → r.payload.take 16 = (slotAt s.m i).nonce →
    exec (.sessionAuth r) s = repliedOk opSessionAuth r i s
      ((confirmWake s.base.now (((entered opSessionAuth r i s).slot i (fun x => { x with
          st := .opened, deadline := s.base.now + prm s.m P.session_session_idle_timeout * 1000 })).borul
        (fun b => { b with fails := upd b.fails (slotAt s.m i).role (fun _ => 0) }))).event s.base 0x0202 0
        (u32 (slotAt s.m i).id ++ u8 (slotAt s.m i).role ++ u8 (slotAt s.m i).major ++ u8 (slotAt s.m i).minor
          ++ u8 (transportCode r.src)))
      (u8 (slotAt s.m i).role ++ zeros 3 ++ u32 (prm s.m P.session_session_idle_timeout))) ∧
  (∀ r s i, Accepted opSessionPing r s i →
    exec (.sessionPing r) s = repliedOk opSessionPing r i s (entered opSessionPing r i s) []) ∧
  (∀ r s i, Accepted opSessionClose r s i →
    exec (.sessionClose r) s = .next (commit s (endSession s.base i 0
      (respond s.base opSessionClose r (some i) St.ok false [] (entered opSessionClose r i s))))) ∧
  (∀ r s i, Accepted opSessionList r s i →
    exec (.sessionList r) s = repliedOk opSessionList r i s (entered opSessionList r i s)
      ((entered opSessionList r i s).m.borul.slots.map slotRecord).flatten) ∧
  (∀ r s i j, Accepted opSessionEvict r s i → 4 ≤ r.payload.length →
    findSlot (entered opSessionEvict r i s).m (leAt r.payload 0 4) = some j → j ≠ i →
    exec (.sessionEvict r) s = repliedOk opSessionEvict r i s
      (endSession s.base j 1 (entered opSessionEvict r i s)) []) ∧
  (∀ r s i, Accepted opSessionEvict r s i → 4 ≤ r.payload.length →
    findSlot (entered opSessionEvict r i s).m (leAt r.payload 0 4) = some i →
    exec (.sessionEvict r) s = .next (commit s (endSession s.base i 1
      (respond s.base opSessionEvict r (some i) St.ok false [] (entered opSessionEvict r i s))))) ∧
  (∀ r s i w key, Accepted opSessionRekey r s i → 16 ≤ r.payload.length →
    accessKey s.base (slotAt s.m i).role (entered opSessionRekey r i s) = (w, some key) →
    exec (.sessionRekey r) s = .next (commit s (switchKeys (replied s.base opSessionRekey r i (slotAt s.m i).id St.ok
      (beBytes 16 (Config.random (w.base s.base).fresh).toNat)
      ((w.eff .draw).slot i (fun x => { x with nextKey := some (sessionKey key (slotAt s.m i).id
        (r.payload.take 16) (beBytes 16 (Config.random (w.base s.base).fresh).toNat)
        ((slotAt s.m i).major, (slotAt s.m i).minor) (slotAt s.m i).role) }))))))

/-- AUTH_LOCKOUT_END lifts an expired lockout; AUTH_WINDOW_EXPIRY frees a PENDING slot and SESSION_IDLE_TIMEOUT ends
an OPEN session with reason 2 once the deadline and 1.2 us have passed; IP_REASSEMBLY_TIMEOUT drops a partial datagram
1 s after its first fragment, unless a fragment of it that began to arrive in time is still arriving; FRAGMENT_TIMEOUT
drops the train; each changes nothing while its deadline has not expired. -/
def Obligations.SessionTimersEnd : Prop :=
  (∀ role s t, role < 3 → atD s.m.borul.lockUntil role none = some t →
    exec (.authLockoutEnd role) s = if t + 1200 ≤ s.base.now then
      after s fun _ w => w.borul fun b => { b with lockUntil := upd b.lockUntil role (fun _ => none) } else .next s) ∧
  (∀ k s, k < 4 → (slotAt s.m k).st = .pending →
    exec (.authWindowExpiry k) s = if (slotAt s.m k).deadline + 1200 ≤ s.base.now then
      after s fun _ w => freed k w else .next s) ∧
  (∀ k s, k < 4 → (slotAt s.m k).st = .opened →
    exec (.sessionIdleTimeout k) s = if (slotAt s.m k).deadline + 1200 ≤ s.base.now then
      after s fun v w => (freed k w).event v 0x0203 0 (u32 (slotAt s.m k).id ++ u8 2) else .next s) ∧
  (∀ k s p, s.m.borul.partials[k]? = some p →
    exec (.ipReassemblyTimeout k) s = if p.first + 1000000000 + 1200 ≤ s.base.now ∧ fragmentInTime s.m p (p.first + 1000000000) = false then
      after s fun _ w => w.borul fun b => { b with partials := b.partials.eraseIdx k } else .next s) ∧
  (∀ k tag s t, k < 4 → tag < 32 → trainOf (slotAt s.m k) tag = some t →
    exec (.fragmentTimeout k tag) s = if t.deadline + 1200 ≤ s.base.now then
      after s fun v w => ((w.slot k (fun x => { x with trains := x.trains.filter (fun y => y.tag != t.tag)
                                                       tags := x.tags.filter (· != t.tag) })).count
          C.borul_fragment_timeout).event v 0x0205 1
        (u32 (slotAt s.m k).id ++ u8 t.tag ++ u8 0 ++ u16 t.opcode ++ u32 t.data.length) else .next s)

/-- EVENT_SUBSCRIBE sets or ends the subscription, a first one from the oldest entry; EVENT_ACK removes the named
entry and earlier ones for an operator or maintainer and nothing for an observer; EVENT_STATUS and EVENT_READ answer
from the queue; EVENT_DELIVERY sends the session's matching new entries; CRITICAL_RESEND, once the interval and 1.2 us
have passed, resends to operator and maintainer subscribers and counts each entry it resends once. -/
def Obligations.EventFamilyAnswers : Prop :=
  (∀ r s i, Accepted opEventSubscribe r s i → 8 ≤ r.payload.length → leAt r.payload 0 1 ≤ 3 → leAt r.payload 1 1 = 1 →
    exec (.eventSubscribe r) s = repliedOk opEventSubscribe r i s
      ((entered opEventSubscribe r i s).slot i (fun x => { x with
        sub := some ({ minSeverity := leAt r.payload 0 1, chapterMask := leAt r.payload 4 4
                       next := match x.sub with | some o => o.next | none => oldestSeq s.base.ev } : Subscription) })) []) ∧
  (∀ r s i, Accepted opEventSubscribe r s i → 8 ≤ r.payload.length → leAt r.payload 0 1 ≤ 3 → leAt r.payload 1 1 = 0 →
    exec (.eventSubscribe r) s = repliedOk opEventSubscribe r i s
      ((entered opEventSubscribe r i s).slot i (fun x => { x with sub := none })) []) ∧
  (∀ r s i, Accepted opEventAck r s i → 4 ≤ r.payload.length →
    exec (.eventAck r) s = repliedOk opEventAck r i s
      (if 1 ≤ (slotAt s.m i).role then (entered opEventAck r i s).eff (.ack (leAt r.payload 0 4))
        else entered opEventAck r i s) []) ∧
  (∀ r s i, Accepted opEventStatus r s i →
    exec (.eventStatus r) s = repliedOk opEventStatus r i s (entered opEventStatus r i s)
      (u16 s.base.ev.entries.length ++ u16 (s.base.ev.entries.filter isCritical).length ++ u32 (oldestSeq s.base.ev)
        ++ u32 (match s.base.ev.entries.getLast? with | some e => e.seq | none => s.base.ev.last))) ∧
  (∀ r s i, Accepted opEventRead r s i → 5 ≤ r.payload.length →
    exec (.eventRead r) s = repliedOk opEventRead r i s (entered opEventRead r i s)
      (((s.base.ev.entries.filter (fun e => seqLe (leAt r.payload 0 4) e.seq)).take (leAt r.payload 4 1)).map
        eventRecord).flatten) ∧
  (∀ k s o, k < 4 → (slotAt s.m k).st = .opened → (slotAt s.m k).sub = some o → managed s.m = true →
    exec (.eventDelivery k) s = after s fun v w =>
      sendEvents v k ((s.base.ev.entries.filter (fun e => seqLe o.next e.seq)).filter (subMatches o))
        (w.slot k (fun x => { x with sub := some { o with next := s.base.ev.next } }))) ∧
  (∀ s, managed s.m = true →
    s.m.borul.lastResend + prmNs s.m P.session_critical_resend_interval + 1200 ≤ s.base.now →
    exec .criticalResend s = after s fun v w =>
      ((w.borul fun b => { b with lastResend := s.base.now }).count C.event_resent 0
        (s.base.ev.entries.filter (fun e => (List.range 4).any (fun i => !(resentOn s.m i [e]).isEmpty))).length).each
          (List.range 4) fun i w => sendEvents v i (resentOn w.m i s.base.ev.entries) w) ∧
  (∀ i es m, resentOn m i es = match (slotAt m i).sub with
    | some o => if (slotAt m i).st = .opened ∧ (slotAt m i).role ≠ 0 then es.filter (fun e => isCritical e && subMatches o e)
        else []
    | none => [])

/-- INFO_IDENTITY, INFO_VERSIONS, INFO_STATE and INFO_BLOCKS answer with their payloads in an open session, and with
session_id 0 the same operations are answered under a CRC-32C trailer. -/
def Obligations.InfoFamilyAnswers : Prop :=
  (∀ r s i, Accepted opInfoIdentity r s i →
    exec (.infoIdentity r) s = repliedOk opInfoIdentity r i s (entered opInfoIdentity r i s)
      (u8 (b2n s.m.ident.variantG) ++ u8 s.m.ident.hardwareRevision ++ zeros 2 ++ u64 s.m.ident.uniqueId
        ++ u32 (firmwareVersion s.m) ++ u32 (headerVersion s.m.ident.detourHeader) ++ u8 s.m.mod.positionCode ++ zeros 3
        ++ u32 s.m.mod.bookId)) ∧
  (∀ r s i, Accepted opInfoVersions r s i →
    exec (.infoVersions r) s = repliedOk opInfoVersions r i s (entered opInfoVersions r i s)
      (u8 2 ++ u8 2 ++ u8 0 ++ u8 1 ++ u8 (familyList latest).length ++ zeros 3
        ++ (familyList latest).flatMap (fun f => u8 f.1 ++ u8 f.2))) ∧
  (∀ r s i, Accepted opInfoState r s i →
    exec (.infoState r) s = repliedOk opInfoState r i s (entered opInfoState r i s)
      (u8 s.m.mod.state.code ++ u8 s.m.mod.configSource ++ u8 s.m.mod.bootBank ++ u8 0 ++ u64 s.base.now
        ++ u16 s.base.ev.entries.length ++ u16 (s.base.ev.entries.filter isCritical).length)) ∧
  (∀ r s i, Accepted opInfoBlocks r s i →
    exec (.infoBlocks r) s = repliedOk opInfoBlocks r i s (entered opInfoBlocks r i s)
      (u16 blockDir.length ++ zeros 2
        ++ blockDir.flatMap (fun b => u8 b.1 ++ u8 b.2.1 ++ u8 b.2.2.1 ++ u8 b.2.2.2.1 ++ u16 b.2.2.2.2 ++ zeros 2))) ∧
  (∀ r s, AcceptedBare opInfoIdentity r s →
    exec (.infoIdentity r) s = repliedBare opInfoIdentity r s (enteredBare s)
      (u8 (b2n s.m.ident.variantG) ++ u8 s.m.ident.hardwareRevision ++ zeros 2 ++ u64 s.m.ident.uniqueId
        ++ u32 (firmwareVersion s.m) ++ u32 (headerVersion s.m.ident.detourHeader) ++ u8 s.m.mod.positionCode ++ zeros 3
        ++ u32 s.m.mod.bookId)) ∧
  (∀ r s, AcceptedBare opInfoVersions r s →
    exec (.infoVersions r) s = repliedBare opInfoVersions r s (enteredBare s)
      (u8 2 ++ u8 2 ++ u8 0 ++ u8 1 ++ u8 (familyList latest).length ++ zeros 3
        ++ (familyList latest).flatMap (fun f => u8 f.1 ++ u8 f.2))) ∧
  (∀ r s, AcceptedBare opInfoBlocks r s →
    exec (.infoBlocks r) s = repliedBare opInfoBlocks r s (enteredBare s)
      (u16 blockDir.length ++ zeros 2
        ++ blockDir.flatMap (fun b => u8 b.1 ++ u8 b.2.1 ++ u8 b.2.2.1 ++ u8 b.2.2.2.1 ++ u16 b.2.2.2.2 ++ zeros 2))) ∧
  (∀ r s, AcceptedBare opInfoState r s →
    exec (.infoState r) s = repliedBare opInfoState r s (enteredBare s)
      (u8 s.m.mod.state.code ++ u8 s.m.mod.configSource ++ u8 s.m.mod.bootBank ++ u8 0 ++ u64 s.base.now
        ++ u16 s.base.ev.entries.length ++ u16 (s.base.ev.entries.filter isCritical).length))

/-- PARAM_READ answers one entry per ID with the generation; PARAM_WRITE whose entries all pass (R64, R65) and whose
hash entries find their places (R158) crosses its bridge and stores them together, raises the generation and answers
it, or waits while contexts drain; PARAM_DESCRIBE answers a row; PARAM_CHANGED lists up to 1,000 changed IDs above the
start; TWIN_PAIR_REWRITE rewrites a failed pair from the book or the default. -/
def Obligations.ParamFamilyAnswers : Prop :=
  (∀ r s i, Accepted opParamRead r s i → 4 ≤ r.payload.length → 1 ≤ leAt r.payload 0 2 → leAt r.payload 0 2 ≤ 168 →
    r.payload.length = 4 + 4 * leAt r.payload 0 2 →
    exec (.paramRead r) s =
      (let ids := (List.range (leAt r.payload 0 2)).map (fun k => leAt r.payload (4 + 4 * k) 4)
       let w := (readParams s.base ids (entered opParamRead r i s)).1
       let es := (readParams s.base ids (entered opParamRead r i s)).2
       repliedOk opParamRead r i s w (u16 (leAt r.payload 0 2) ++ zeros 2 ++ u32 w.m.mod.generation ++ es))) ∧
  (∀ r s i, Accepted opParamWrite r s i → 1 ≤ leAt r.payload 0 2 → leAt r.payload 0 2 ≤ 202 →
    r.payload.length = 8 + 20 * leAt r.payload 0 2 →
    (bit (leAt r.payload 2 1) 0 = false ∨ leAt r.payload 4 4 = s.m.mod.generation) →
    (let es := writeEntries r.payload (leAt r.payload 0 2)
     firstRefused (fun _ x => roleCheck (slotAt s.m i).role x) [] es = none ∧
     firstRefused (fieldCheck (wantedValues es) (entered opParamWrite r i s).m
       (storeAll (wantedValues es) (entered opParamWrite r i s).m)) [] es = none ∧
     firstRefused (fun _ x => stateCheck (entered opParamWrite r i s).m s.base.now x) [] es = none ∧
     unplaced (wantedValues es) (entered opParamWrite r i s).m = 0) → switching s.m = false →
    exec (.paramWrite r) s =
      (let es := writeEntries r.payload (leAt r.payload 0 2)
       let w := writeParams s.base (wantedValues es) (bridgePost true (entered opParamWrite r i s))
       let ports := drainPorts (entered opParamWrite r i s).m w.m
       if ports.isEmpty then repliedOk opParamWrite r i s w (u32 w.m.mod.generation)
       else waiting opParamWrite r i s (markDraining ports w) (.drain ports) (u32 w.m.mod.generation))) ∧
  (∀ r s i row j e, Accepted opParamDescribe r s i → 4 ≤ r.payload.length →
    findParam (leAt r.payload 0 4) = .found row j e →
    exec (.paramDescribe r) s = repliedOk opParamDescribe r i s (entered opParamDescribe r i s)
      (u32 (leAt r.payload 0 4) ++ u8 row.cls.code ++ u8 (b2n row.twin) ++ u8 row.ty.code ++ u8 0
        ++ u64 (twos 64 (bounds row j).1) ++ u64 (twos 64 (bounds row j).2)
        ++ u64 (twos 64 (row.default j e)) ++ paramName row e)) ∧
  (∀ r s i, Accepted opParamChanged r s i → 4 ≤ r.payload.length →
    exec (.paramChanged r) s = repliedOk opParamChanged r i s (entered opParamChanged r i s)
      (let l := (changeable s.m).filter (fun k => decide (leAt r.payload 0 4 < k) && differs s.m k)
       u16 (l.take 1000).length ++ u8 (b2n (decide (1000 < l.length))) ++ u8 0 ++ (l.take 1000).flatMap u32)) ∧
  (∀ id s row j e, s.m.mod.firmwareRunning = true → id ∈ s.m.mod.twinFailed → findParam id = .found row j e →
    exec (.twinPairRewrite id) s = after s fun v w =>
      followParams v s.m ((({ w with m := setPrm s.m row j e (bookValue s.m row j e) } : W)).mod fun x => { x with
        twinFailed := x.twinFailed.filter (· != id), twinRewritten := x.twinRewritten.put id s.base.now }))

/-- An unposted PARAM_HOLD on a scope that is free, or whose hold is past its end, adds the hold, abandons waiting
frames and answers at once when no port of the scope is sending, else it waits; HOLD_DRAIN_COMPLETE marks the hold
drained and answers what waited once no port of the scope is busy; PARAM_RELEASE and an expired HOLD_EXPIRY end the
hold; PARSE_ENTRY_DRAIN_COMPLETE with no context draining answers the writes that waited for that port;
COMMAND_COMPLETE runs a posted operation. -/
def Obligations.HoldsOpenDrainAndEnd : Prop :=
  (∀ r s i top, Accepted opParamHold r s i → r.posted = false → 8 ≤ r.payload.length →
    holdScope (leAt r.payload 0 1) = some top → leAt r.payload 1 1 ≤ top →
    leAt r.payload 4 4 ≤ prm s.m P.module_hold_max_duration →
    (∀ x, findHold s.m (leAt r.payload 0 1) (leAt r.payload 1 1) = some x → x.until_ ≤ s.base.now) →
    (leAt r.payload 0 1 ≠ 0 ∨ speedAllows s.m = true) →
    exec (.paramHold r) s =
      (let block := leAt r.payload 0 1
       let inst := leAt r.payload 1 1
       let us := leAt r.payload 4 4
       let w := clearScope s.base block inst (entered opParamHold r i s)
       let held := openHold s.base block inst ((if us = 0 then prm s.m P.module_hold_max_duration else us) * 1000) w
       if scopeBusy w.m s.base.now block inst then waiting opParamHold r i s held (.hold block inst) []
       else repliedOk opParamHold r i s held [])) ∧
  (∀ r s i top h, Accepted opParamRelease r s i → 4 ≤ r.payload.length →
    holdScope (leAt r.payload 0 1) = some top → leAt r.payload 1 1 ≤ top →
    findHold s.m (leAt r.payload 0 1) (leAt r.payload 1 1) = some h → s.base.now < h.until_ →
    exec (.paramRelease r) s = repliedOk opParamRelease r i s (endHold s.base h (entered opParamRelease r i s)) []) ∧
  (∀ block inst s h, findHold s.m block inst = some h → h.drained = false → scopeBusy s.m s.base.now block inst = false →
    exec (.holdDrainComplete block inst) s = after s fun v w =>
      finishWaiting v (isHoldOf block inst) ((abandon v block inst w).mod fun x => { x with
        holds := x.holds.map (fun y => if y.block == block && y.inst == inst then { y with drained := true } else y) })) ∧
  (∀ block inst s h, findHold s.m block inst = some h →
    exec (.holdExpiry block inst) s = if h.until_ + 1200 ≤ s.base.now then after s fun v w => endHold v h w else .next s) ∧
  (∀ port s, port < 44 → (∀ c ∈ s.m.ing.ctxs, c.draining = false) →
    exec (.parseEntryDrainComplete port) s = after s fun v w =>
      finishSwitches v (finishWaiting v isDrained
        (w.borul fun b => { b with ops := b.ops.map (drainedOf port) }))) ∧
  (∀ sid tag s o, managed s.m = true →
    (waitingOps s.m isPosted).find? (fun o => o.sid == sid && o.tag == tag) = some o →
    exec (.commandComplete sid tag) s = after s fun v w => afterAction v (runPosted v o w))

/-- Each ALU instruction of opcodes 0x20 to 0x2F, issued in a context, writes its result to gd and sets Z from it,
leaving C and S; CMP and CMPI set Z and C from the unsigned comparison and write no register; the context goes on at
the next word and nothing else of it changes. -/
def Obligations.AluInstructionsWriteGdAndFlags : Prop :=
  (∀ i s, Issues 0x20 i s → 
    exec (.movi i) s = goesOn s i ((ctxAt s.m i).pc + 1) { (ctxAt s.m i) with
      g := upd (ctxAt s.m i).g (gdOf (wordAt s i)) (fun _ => BitVec.ofNat 32 (immOf (wordAt s i))), z := (BitVec.ofNat 32 (immOf (wordAt s i))) == 0 }) ∧
  (∀ i s, Issues 0x21 i s → 
    exec (.movhi i) s = goesOn s i ((ctxAt s.m i).pc + 1) { (ctxAt s.m i) with
      g := upd (ctxAt s.m i).g (gdOf (wordAt s i)) (fun _ => BitVec.ofNat 32 (((ctxAt s.m i).reg (gdOf (wordAt s i))).toNat % 2 ^ 16 + immOf (wordAt s i) * 2 ^ 16)), z := (BitVec.ofNat 32 (((ctxAt s.m i).reg (gdOf (wordAt s i))).toNat % 2 ^ 16 + immOf (wordAt s i) * 2 ^ 16)) == 0 }) ∧
  (∀ i s, Issues 0x22 i s → 
    exec (.mov i) s = goesOn s i ((ctxAt s.m i).pc + 1) { (ctxAt s.m i) with
      g := upd (ctxAt s.m i).g (gdOf (wordAt s i)) (fun _ => ((ctxAt s.m i).reg (gsOf (wordAt s i)))), z := (((ctxAt s.m i).reg (gsOf (wordAt s i)))) == 0 }) ∧
  (∀ i s, Issues 0x23 i s → 
    exec (.add i) s = goesOn s i ((ctxAt s.m i).pc + 1) { (ctxAt s.m i) with
      g := upd (ctxAt s.m i).g (gdOf (wordAt s i)) (fun _ => ((ctxAt s.m i).reg (gdOf (wordAt s i))) + ((ctxAt s.m i).reg (gsOf (wordAt s i)))), z := (((ctxAt s.m i).reg (gdOf (wordAt s i))) + ((ctxAt s.m i).reg (gsOf (wordAt s i)))) == 0 }) ∧
  (∀ i s, Issues 0x24 i s → 
    exec (.addi i) s = goesOn s i ((ctxAt s.m i).pc + 1) { (ctxAt s.m i) with
      g := upd (ctxAt s.m i).g (gdOf (wordAt s i)) (fun _ => ((ctxAt s.m i).reg (gdOf (wordAt s i))) + BitVec.ofNat 32 (immOf (wordAt s i))), z := (((ctxAt s.m i).reg (gdOf (wordAt s i))) + BitVec.ofNat 32 (immOf (wordAt s i))) == 0 }) ∧
  (∀ i s, Issues 0x25 i s → 
    exec (.sub i) s = goesOn s i ((ctxAt s.m i).pc + 1) { (ctxAt s.m i) with
      g := upd (ctxAt s.m i).g (gdOf (wordAt s i)) (fun _ => ((ctxAt s.m i).reg (gdOf (wordAt s i))) - ((ctxAt s.m i).reg (gsOf (wordAt s i)))), z := (((ctxAt s.m i).reg (gdOf (wordAt s i))) - ((ctxAt s.m i).reg (gsOf (wordAt s i)))) == 0 }) ∧
  (∀ i s, Issues 0x26 i s → 
    exec (.andR i) s = goesOn s i ((ctxAt s.m i).pc + 1) { (ctxAt s.m i) with
      g := upd (ctxAt s.m i).g (gdOf (wordAt s i)) (fun _ => ((ctxAt s.m i).reg (gdOf (wordAt s i))) &&& ((ctxAt s.m i).reg (gsOf (wordAt s i)))), z := (((ctxAt s.m i).reg (gdOf (wordAt s i))) &&& ((ctxAt s.m i).reg (gsOf (wordAt s i)))) == 0 }) ∧
  (∀ i s, Issues 0x27 i s → 
    exec (.andi i) s = goesOn s i ((ctxAt s.m i).pc + 1) { (ctxAt s.m i) with
      g := upd (ctxAt s.m i).g (gdOf (wordAt s i)) (fun _ => ((ctxAt s.m i).reg (gdOf (wordAt s i))) &&& BitVec.ofNat 32 (immOf (wordAt s i))), z := (((ctxAt s.m i).reg (gdOf (wordAt s i))) &&& BitVec.ofNat 32 (immOf (wordAt s i))) == 0 }) ∧
  (∀ i s, Issues 0x28 i s → 
    exec (.orR i) s = goesOn s i ((ctxAt s.m i).pc + 1) { (ctxAt s.m i) with
      g := upd (ctxAt s.m i).g (gdOf (wordAt s i)) (fun _ => ((ctxAt s.m i).reg (gdOf (wordAt s i))) ||| ((ctxAt s.m i).reg (gsOf (wordAt s i)))), z := (((ctxAt s.m i).reg (gdOf (wordAt s i))) ||| ((ctxAt s.m i).reg (gsOf (wordAt s i)))) == 0 }) ∧
  (∀ i s, Issues 0x29 i s → 
    exec (.ori i) s = goesOn s i ((ctxAt s.m i).pc + 1) { (ctxAt s.m i) with
      g := upd (ctxAt s.m i).g (gdOf (wordAt s i)) (fun _ => ((ctxAt s.m i).reg (gdOf (wordAt s i))) ||| BitVec.ofNat 32 (immOf (wordAt s i))), z := (((ctxAt s.m i).reg (gdOf (wordAt s i))) ||| BitVec.ofNat 32 (immOf (wordAt s i))) == 0 }) ∧
  (∀ i s, Issues 0x2A i s → 
    exec (.xor i) s = goesOn s i ((ctxAt s.m i).pc + 1) { (ctxAt s.m i) with
      g := upd (ctxAt s.m i).g (gdOf (wordAt s i)) (fun _ => ((ctxAt s.m i).reg (gdOf (wordAt s i))) ^^^ ((ctxAt s.m i).reg (gsOf (wordAt s i)))), z := (((ctxAt s.m i).reg (gdOf (wordAt s i))) ^^^ ((ctxAt s.m i).reg (gsOf (wordAt s i)))) == 0 }) ∧
  (∀ i s, Issues 0x2B i s → 
    exec (.shli i) s = goesOn s i ((ctxAt s.m i).pc + 1) { (ctxAt s.m i) with
      g := upd (ctxAt s.m i).g (gdOf (wordAt s i)) (fun _ => ((ctxAt s.m i).reg (gdOf (wordAt s i))) <<< fld (wordAt s i) 0 5), z := (((ctxAt s.m i).reg (gdOf (wordAt s i))) <<< fld (wordAt s i) 0 5) == 0 }) ∧
  (∀ i s, Issues 0x2C i s → 
    exec (.shri i) s = goesOn s i ((ctxAt s.m i).pc + 1) { (ctxAt s.m i) with
      g := upd (ctxAt s.m i).g (gdOf (wordAt s i)) (fun _ => ((ctxAt s.m i).reg (gdOf (wordAt s i))) >>> fld (wordAt s i) 0 5), z := (((ctxAt s.m i).reg (gdOf (wordAt s i))) >>> fld (wordAt s i) 0 5) == 0 }) ∧
  (∀ i s, Issues 0x2D i s → 
    exec (.ext i) s = goesOn s i ((ctxAt s.m i).pc + 1) { (ctxAt s.m i) with
      g := upd (ctxAt s.m i).g (gdOf (wordAt s i)) (fun _ => BitVec.ofNat 32 (fld ((ctxAt s.m i).reg (gsOf (wordAt s i))).toNat (fld (wordAt s i) 5 5) (fld (wordAt s i) 0 5 + 1))), z := (BitVec.ofNat 32 (fld ((ctxAt s.m i).reg (gsOf (wordAt s i))).toNat (fld (wordAt s i) 5 5) (fld (wordAt s i) 0 5 + 1))) == 0 }) ∧
  (∀ i s, Issues 0x2E i s → 
    exec (.cmp i) s = goesOn s i ((ctxAt s.m i).pc + 1) { (ctxAt s.m i) with z := ((ctxAt s.m i).reg (gdOf (wordAt s i))) == ((ctxAt s.m i).reg (gsOf (wordAt s i))), c := decide (((ctxAt s.m i).reg (gdOf (wordAt s i))) < ((ctxAt s.m i).reg (gsOf (wordAt s i)))) }) ∧
  (∀ i s, Issues 0x2F i s → 
    exec (.cmpi i) s = goesOn s i ((ctxAt s.m i).pc + 1) { (ctxAt s.m i) with z := ((ctxAt s.m i).reg (gdOf (wordAt s i))) == BitVec.ofNat 32 (immOf (wordAt s i)), c := decide (((ctxAt s.m i).reg (gdOf (wordAt s i))) < BitVec.ofNat 32 (immOf (wordAt s i))) })

/-- LDB, LDH, LDW, LDHL and LDWL read the window at cursor plus offset (bytes beyond offset 256 or the frame end read
as 0) in their byte order into gd and set S exactly when a byte lies beyond; a load of bytes that have not arrived yet
stays where it is; LDM returns the listed item, for the length and the flags of an Ethernet frame only once it has
ended; ADVI, ADVR saturate the cursor at 256; SETC sets and GETC reads it; Z and C stay. -/
def Obligations.LoadAndCursorInstructions : Prop :=
  (∀ i s, Issues 0x10 i s → notArrived (ctxAt s.m i) (fld (wordAt s i) 0 8) 1 = false →
    exec (.ldb i) s = goesOn s i ((ctxAt s.m i).pc + 1) { (ctxAt s.m i) with
      g := upd (ctxAt s.m i).g (gdOf (wordAt s i)) (fun _ => BitVec.ofNat 32 (leVal (window (ctxAt s.m i) (fld (wordAt s i) 0 8) 1)))
      s := decide (min 256 (ctxSize (ctxAt s.m i)) < (ctxAt s.m i).cursor + fld (wordAt s i) 0 8 + 1) }) ∧
  (∀ i s, Issues 0x11 i s → notArrived (ctxAt s.m i) (fld (wordAt s i) 0 8) 2 = false →
    exec (.ldh i) s = goesOn s i ((ctxAt s.m i).pc + 1) { (ctxAt s.m i) with
      g := upd (ctxAt s.m i).g (gdOf (wordAt s i)) (fun _ => BitVec.ofNat 32 (beVal (window (ctxAt s.m i) (fld (wordAt s i) 0 8) 2)))
      s := decide (min 256 (ctxSize (ctxAt s.m i)) < (ctxAt s.m i).cursor + fld (wordAt s i) 0 8 + 2) }) ∧
  (∀ i s, Issues 0x12 i s → notArrived (ctxAt s.m i) (fld (wordAt s i) 0 8) 4 = false →
    exec (.ldw i) s = goesOn s i ((ctxAt s.m i).pc + 1) { (ctxAt s.m i) with
      g := upd (ctxAt s.m i).g (gdOf (wordAt s i)) (fun _ => BitVec.ofNat 32 (beVal (window (ctxAt s.m i) (fld (wordAt s i) 0 8) 4)))
      s := decide (min 256 (ctxSize (ctxAt s.m i)) < (ctxAt s.m i).cursor + fld (wordAt s i) 0 8 + 4) }) ∧
  (∀ i s, Issues 0x13 i s → notArrived (ctxAt s.m i) (fld (wordAt s i) 0 8) 2 = false →
    exec (.ldhl i) s = goesOn s i ((ctxAt s.m i).pc + 1) { (ctxAt s.m i) with
      g := upd (ctxAt s.m i).g (gdOf (wordAt s i)) (fun _ => BitVec.ofNat 32 (leVal (window (ctxAt s.m i) (fld (wordAt s i) 0 8) 2)))
      s := decide (min 256 (ctxSize (ctxAt s.m i)) < (ctxAt s.m i).cursor + fld (wordAt s i) 0 8 + 2) }) ∧
  (∀ i s, Issues 0x14 i s → notArrived (ctxAt s.m i) (fld (wordAt s i) 0 8) 4 = false →
    exec (.ldwl i) s = goesOn s i ((ctxAt s.m i).pc + 1) { (ctxAt s.m i) with
      g := upd (ctxAt s.m i).g (gdOf (wordAt s i)) (fun _ => BitVec.ofNat 32 (leVal (window (ctxAt s.m i) (fld (wordAt s i) 0 8) 4)))
      s := decide (min 256 (ctxSize (ctxAt s.m i)) < (ctxAt s.m i).cursor + fld (wordAt s i) 0 8 + 4) }) ∧
  (∀ i s, Issues 0x10 i s → notArrived (ctxAt s.m i) (fld (wordAt s i) 0 8) 1 = true → exec (.ldb i) s = after s (fetched s i)) ∧
  (∀ i s, Issues 0x11 i s → notArrived (ctxAt s.m i) (fld (wordAt s i) 0 8) 2 = true → exec (.ldh i) s = after s (fetched s i)) ∧
  (∀ i s, Issues 0x12 i s → notArrived (ctxAt s.m i) (fld (wordAt s i) 0 8) 4 = true → exec (.ldw i) s = after s (fetched s i)) ∧
  (∀ i s, Issues 0x13 i s → notArrived (ctxAt s.m i) (fld (wordAt s i) 0 8) 2 = true → exec (.ldhl i) s = after s (fetched s i)) ∧
  (∀ i s, Issues 0x14 i s → notArrived (ctxAt s.m i) (fld (wordAt s i) 0 8) 4 = true → exec (.ldwl i) s = after s (fetched s i)) ∧
  (∀ i s f, Issues 0x15 i s → (ctxAt s.m i).frame = some f → f.unfinished = true → f.fmt = 8 →
    (fld (wordAt s i) 0 8 = 0 ∨ fld (wordAt s i) 0 8 = 4) → exec (.ldm i) s = after s (fetched s i)) ∧
  (∀ i s f, Issues 0x15 i s → (ctxAt s.m i).frame = some f →
    (f.unfinished = true → f.fmt = 8 → fld (wordAt s i) 0 8 ≠ 0 ∧ fld (wordAt s i) 0 8 ≠ 4) →
    exec (.ldm i) s = goesOn s i ((ctxAt s.m i).pc + 1) { (ctxAt s.m i) with
      g := upd (ctxAt s.m i).g (gdOf (wordAt s i)) (fun _ => BitVec.ofNat 32 (ldmItem f (fld (wordAt s i) 0 8))) }) ∧
  (∀ i s, Issues 0x18 i s → 
    exec (.advi i) s = goesOn s i ((ctxAt s.m i).pc + 1) { (ctxAt s.m i) with cursor := min ((ctxAt s.m i).cursor + fld (wordAt s i) 0 8) 256 }) ∧
  (∀ i s, Issues 0x19 i s → 
    exec (.advr i) s = goesOn s i ((ctxAt s.m i).pc + 1) { (ctxAt s.m i) with cursor := min ((ctxAt s.m i).cursor + ((ctxAt s.m i).reg (gsOf (wordAt s i))).toNat) 256 }) ∧
  (∀ i s, Issues 0x1A i s → 
    exec (.setc i) s = goesOn s i ((ctxAt s.m i).pc + 1) { (ctxAt s.m i) with cursor := fld (wordAt s i) 0 8 }) ∧
  (∀ i s, Issues 0x1B i s → 
    exec (.getc i) s = goesOn s i ((ctxAt s.m i).pc + 1) { (ctxAt s.m i) with
      g := upd (ctxAt s.m i).g (gdOf (wordAt s i)) (fun _ => BitVec.ofNat 32 (ctxAt s.m i).cursor) })

/-- NOP goes on; JMP, and BZ, BNZ, BC, BNC and BS when their flag holds, go to the target; CALL saves the return
address, RET goes to it or is a parse fault of cause 1 with none pending; DONE releases the key vector and DROP
discards the frame, each freeing the context; JTAB jumps by a register below 256. -/
def Obligations.ControlInstructions : Prop :=
  (∀ i s, Issues 0x00 i s → 
    exec (.nop i) s = goesOn s i ((ctxAt s.m i).pc + 1) (ctxAt s.m i)) ∧
  (∀ i s, Issues 0x01 i s → 
    exec (.jmp i) s = goesOn s i (fld (wordAt s i) 0 13) (ctxAt s.m i)) ∧
  (∀ i s, Issues 0x02 i s →
    exec (.bz i) s = goesOn s i (if (ctxAt s.m i).z = true then fld (wordAt s i) 0 13 else (ctxAt s.m i).pc + 1) (ctxAt s.m i)) ∧
  (∀ i s, Issues 0x03 i s →
    exec (.bnz i) s = goesOn s i (if (!(ctxAt s.m i).z) = true then fld (wordAt s i) 0 13 else (ctxAt s.m i).pc + 1) (ctxAt s.m i)) ∧
  (∀ i s, Issues 0x04 i s →
    exec (.bc i) s = goesOn s i (if (ctxAt s.m i).c = true then fld (wordAt s i) 0 13 else (ctxAt s.m i).pc + 1) (ctxAt s.m i)) ∧
  (∀ i s, Issues 0x05 i s →
    exec (.bnc i) s = goesOn s i (if (!(ctxAt s.m i).c) = true then fld (wordAt s i) 0 13 else (ctxAt s.m i).pc + 1) (ctxAt s.m i)) ∧
  (∀ i s, Issues 0x06 i s →
    exec (.bs i) s = goesOn s i (if (ctxAt s.m i).s = true then fld (wordAt s i) 0 13 else (ctxAt s.m i).pc + 1) (ctxAt s.m i)) ∧
  (∀ i s, Issues 0x07 i s → 
    exec (.call i) s = goesOn s i (fld (wordAt s i) 0 13) { (ctxAt s.m i) with ret := some ((ctxAt s.m i).pc + 1) }) ∧
  (∀ i s a, Issues 0x08 i s → (ctxAt s.m i).ret = some a →
    exec (.ret i) s = goesOn s i a { (ctxAt s.m i) with ret := none }) ∧
  (∀ i s, Issues 0x08 i s → (ctxAt s.m i).ret = none →
    exec (.ret i) s = after s fun v w => parseFault v i 1 (ctxAt s.m i).pc (fetched s i v w)) ∧
  (∀ i s f, Issues 0x09 i s → (ctxAt s.m i).frame = some f →
    exec (.parseDone i) s = after s fun v w => freeCtx i ((fetched s i v w).ing fun x => { x with done := x.done ++
      [{ frame := f, key := (ctxAt s.m i).key.toNat, ending := .key, mirror := (ctxAt s.m i).mirror, noLearn := (ctxAt s.m i).noLearn }] })) ∧
  (∀ i s f, Issues 0x0A i s → (ctxAt s.m i).frame = some f →
    exec (.dropFrame i) s = after s fun v w => freeCtx i ((discardFrame f (fetched s i v w)).count C.pf_program_drop f.port)) ∧
  (∀ i s, Issues 0x0C i s →
    exec (.jtab i) s = goesOn s i (if ((ctxAt s.m i).reg (gsOf (wordAt s i))).toNat < 256 then fld (wordAt s i) 0 13 + ((ctxAt s.m i).reg (gsOf (wordAt s i))).toNat else (ctxAt s.m i).pc + 1) (ctxAt s.m i))

/-- KEYW and KEYI write key bits below 154 and fault with cause 3 above (KEYI of more than 12 bits: cause 2); HASH
updates gd by CRC-32C and leaves the flags; MARK sets the marks; NAME reads the binding or waits for an earlier claim
frame, and NAME_WAIT_RESUME gives the answer once none is ahead; TPSUB and ACSUB wait for the end of the frame and
hand it to their unit, ACSUB of a claim only after the claims ahead of it; PARSE_OVERRUN takes the overrun action of a
spent budget, or the fault of a reserved opcode or of an address above 8,191, and does nothing where another command
is due. -/
def Obligations.KeyNameAndSubmitInstructions : Prop :=
  (∀ i s, Issues 0x30 i s → fld (wordAt s i) 5 8 + (fld (wordAt s i) 0 5 + 1) - 1 < 154 →
    exec (.keyw i) s = goesOn s i ((ctxAt s.m i).pc + 1) { (ctxAt s.m i) with
      key := BitVec.ofNat 160 (setFld (ctxAt s.m i).key.toNat (fld (wordAt s i) 5 8) (fld (wordAt s i) 0 5 + 1) ((ctxAt s.m i).reg (gsOf (wordAt s i))).toNat) }) ∧
  (∀ i s, Issues 0x30 i s → 154 ≤ fld (wordAt s i) 5 8 + (fld (wordAt s i) 0 5 + 1) - 1 →
    exec (.keyw i) s = after s fun v w => parseFault v i 3 (ctxAt s.m i).pc (fetched s i v w)) ∧
  (∀ i s, Issues 0x31 i s → fld (wordAt s i) 0 5 + 1 ≤ 12 → fld (wordAt s i) 5 8 + (fld (wordAt s i) 0 5 + 1) - 1 < 154 →
    exec (.keyi i) s = goesOn s i ((ctxAt s.m i).pc + 1) { (ctxAt s.m i) with
      key := BitVec.ofNat 160 (setFld (ctxAt s.m i).key.toNat (fld (wordAt s i) 5 8) (fld (wordAt s i) 0 5 + 1) (fld (wordAt s i) 14 12)) }) ∧
  (∀ i s, Issues 0x31 i s → 12 < fld (wordAt s i) 0 5 + 1 →
    exec (.keyi i) s = after s fun v w => parseFault v i 2 (ctxAt s.m i).pc (fetched s i v w)) ∧
  (∀ i s, Issues 0x31 i s → fld (wordAt s i) 0 5 + 1 ≤ 12 → 154 ≤ fld (wordAt s i) 5 8 + (fld (wordAt s i) 0 5 + 1) - 1 →
    exec (.keyi i) s = after s fun v w => parseFault v i 3 (ctxAt s.m i).pc (fetched s i v w)) ∧
  (∀ i s, Issues 0x38 i s → 
    exec (.hash i) s = goesOn s i ((ctxAt s.m i).pc + 1) { (ctxAt s.m i) with
      g := upd (ctxAt s.m i).g (gdOf (wordAt s i)) (fun _ => crcRun ((ctxAt s.m i).reg (gdOf (wordAt s i))) (beBytes 4 ((ctxAt s.m i).reg (gsOf (wordAt s i))).toNat)) }) ∧
  (∀ i s, Issues 0x3C i s → 
    exec (.mark i) s = goesOn s i ((ctxAt s.m i).pc + 1) { (ctxAt s.m i) with
      mirror := (ctxAt s.m i).mirror || bit (wordAt s i) 0, noLearn := (ctxAt s.m i).noLearn || bit (wordAt s i) 1 }) ∧
  (∀ i s f, Issues 0x39 i s → (ctxAt s.m i).frame = some f → claimAhead s.m f = false →
    exec (.nameRef i) s = goesOn s i ((ctxAt s.m i).pc + 1) { (ctxAt s.m i) with
      g := upd (ctxAt s.m i).g (gdOf (wordAt s i)) (fun _ => BitVec.ofNat 32 (nameValue s.m f (((ctxAt s.m i).reg (gsOf (wordAt s i))).toNat % 256))) }) ∧
  (∀ i s f, Issues 0x39 i s → (ctxAt s.m i).frame = some f → claimAhead s.m f = true →
    exec (.nameRef i) s = after s fun v w => (fetched s i v w).ctx i fun _ => { (ctxAt s.m i) with
      issued := (ctxAt s.m i).issued + 1, from_ := (ctxAt s.m i).pc, waiting := some (gdOf (wordAt s i), ((ctxAt s.m i).reg (gsOf (wordAt s i))).toNat % 256) }) ∧
  (∀ i s f gd sa, i < 64 → (ctxAt s.m i).frame = some f → (ctxAt s.m i).waiting = some (gd, sa) → claimAhead s.m f = false →
    exec (.nameWaitResume i) s = after s fun v w => checkFetch v i (w.ctx i fun c => { c with
      g := upd c.g gd (fun _ => BitVec.ofNat 32 (nameValue s.m f sa)), waiting := none, pc := c.pc + 1 })) ∧
  (∀ i s f gd sa, i < 64 → (ctxAt s.m i).frame = some f → (ctxAt s.m i).waiting = some (gd, sa) → claimAhead s.m f = true →
    exec (.nameWaitResume i) s = after s fun v w => checkFetch v i w) ∧
  (∀ i s f, Issues 0x3A i s → (ctxAt s.m i).frame = some f → f.unfinished = true →
    exec (.tpsub i) s = after s (fetched s i)) ∧
  (∀ i s f, Issues 0x3A i s → (ctxAt s.m i).frame = some f → f.unfinished = false →
    exec (.tpsub i) s = after s fun v w => checkFetch v i (tpsubSide i v ((fetched s i v w).ctx i fun _ => { (ctxAt s.m i) with
      pc := (ctxAt s.m i).pc + 1, issued := (ctxAt s.m i).issued + 1, from_ := (ctxAt s.m i).pc }))) ∧
  (∀ i s f, Issues 0x3B i s → (ctxAt s.m i).frame = some f → (f.unfinished = true ∨ f.marked = true ∧ claimAhead s.m f = true) →
    exec (.acsub i) s = after s (fetched s i)) ∧
  (∀ i s f, Issues 0x3B i s → (ctxAt s.m i).frame = some f → f.unfinished = false → (f.marked = false ∨ claimAhead s.m f = false) →
    exec (.acsub i) s = after s fun v w => checkFetch v i (acsubSide i v ((fetched s i v w).ctx i fun _ => { (ctxAt s.m i) with
      pc := (ctxAt s.m i).pc + 1, issued := (ctxAt s.m i).issued + 1, from_ := (ctxAt s.m i).pc }))) ∧
  (∀ i s f, i < 64 → (ctxAt s.m i).frame = some f → (ctxAt s.m i).waiting = none → powered s.m = true → footService s.m = false →
    prm s.m P.ingress_parse_budget ≤ (ctxAt s.m i).issued →
    exec (.parseOverrun i) s = after s fun v w => overrunAction v i ((w.count C.pf_overrun f.port).limited v 0x0402 1 f.port
      1000000000 (fun n => u8 f.port ++ zeros 3 ++ u32 n))) ∧
  (∀ i s f, i < 64 → (ctxAt s.m i).frame = some f → (ctxAt s.m i).waiting = none → powered s.m = true → footService s.m = false →
    (ctxAt s.m i).issued < prm s.m P.ingress_parse_budget →
    (ctxAt s.m i).pc ≤ 8191 → reservedOp (opOf (wordAt s i)) = true →
    exec (.parseOverrun i) s = after s fun v w => parseFault v i 0 (ctxAt s.m i).pc (fetched s i v w)) ∧
  (∀ i s f, i < 64 → (ctxAt s.m i).frame = some f → (ctxAt s.m i).waiting = none → powered s.m = true → footService s.m = false →
    (ctxAt s.m i).issued < prm s.m P.ingress_parse_budget → 8191 < (ctxAt s.m i).pc →
    exec (.parseOverrun i) s = after s fun v w => parseFault v i 4 (ctxAt s.m i).from_ w) ∧
  (∀ i s f, i < 64 → (ctxAt s.m i).frame = some f → (ctxAt s.m i).waiting = none → powered s.m = true → footService s.m = true →
    exec (.parseOverrun i) s = after s fun _ w => endProgram i w) ∧
  (∀ i s, i < 64 → ((ctxAt s.m i).frame = none ∨ (ctxAt s.m i).waiting.isSome = true ∨ powered s.m = false ∨
      footService s.m = false ∧ (ctxAt s.m i).issued < prm s.m P.ingress_parse_budget ∧ (ctxAt s.m i).pc ≤ 8191 ∧
        reservedOp (opOf (wordAt s i)) = false) →
    exec (.parseOverrun i) s = .next s)

/-- When a context whose fetch finds no new memory error goes on at a word address of at most 8,191 (or with its
budget spent), the state after is the state before with that one context replaced, its instruction counted: no event,
counter, other context or other unit changes. A fetch above 8,191 with budget left is the parse fault of cause 4. In a
state that runs no programs the context's program ends instead; in OFF and SLEEP, and where the instruction is not the
one that issues next, nothing happens. -/
def Obligations.ParseStepFrame : Prop :=
  (∀ s i pc c, i < s.m.ing.ctxs.length →
    s.m.tab.faulty.contains (entryKey 8 ((ctxAt s.m i).pc / 4)) = false →
    (pc ≤ 8191 ∨ c.frame = none ∨ prm s.m P.ingress_parse_budget ≤ (ctxAt s.m i).issued + 1) →
    goesOn s i pc c = .next { s with m := { s.m with ing := { s.m.ing with
      ctxs := s.m.ing.ctxs.set i { c with pc := pc, issued := (ctxAt s.m i).issued + 1, from_ := (ctxAt s.m i).pc } } } }) ∧
  (∀ s i pc c, i < s.m.ing.ctxs.length → 8191 < pc → s.m.tab.faulty.contains (entryKey 8 ((ctxAt s.m i).pc / 4)) = false → c.frame.isSome = true →
    (ctxAt s.m i).issued + 1 < prm s.m P.ingress_parse_budget →
    goesOn s i pc c = after s fun v w => parseFault v i 4 (ctxAt s.m i).pc (w.ctx i fun _ =>
      { c with pc := pc, issued := (ctxAt s.m i).issued + 1, from_ := (ctxAt s.m i).pc })) ∧
  (∀ s i op f side, i < 64 → powered s.m = true → footService s.m = true →
    run (ctxOk i) (issue i op f side) s = after s fun _ w => endProgram i w) ∧
  (∀ s i op f side, i < 64 →
    (powered s.m = false ∨ footService s.m = false ∧ ((ctxAt s.m i).frame = none ∨ (ctxAt s.m i).waiting.isSome = true ∨
      prm s.m P.ingress_parse_budget ≤ (ctxAt s.m i).issued ∨ 8191 < (ctxAt s.m i).pc ∨ opOf (wordAt s i) ≠ op)) →
    run (ctxOk i) (issue i op f side) s = .next s)

/-- An issued KEYW or KEYI that stays below key bit 154 ends with exactly the key bits p to p + l - 1 taken from gs or
the immediate and every other key bit as before; HASH ends with gd the CRC-32C update of gd by gs, MARK with the marks
of its immediate, NAME with its answer in gd or, behind a claim frame, waiting, and NAME_WAIT_RESUME with the answer;
TPSUB marks its context and hands a TP.DT, RTS, BAM or other TP.CM frame of a J1939 channel to the matching part of
the transport unit and any other frame to none; ACSUB marks its context and hands a claim to the claim tracker and any
other frame to none; PARSE_OVERRUN of a spent budget under the overrun action DROP, LAYBY or MISS frees the context
with the frame discarded, held for the layby, or released without a lookup. -/
def Obligations.KeyNameAndSubmitFormsComplete : Prop :=
  (∀ i s, Issues 0x30 i s → i < s.m.ing.ctxs.length → (ctxAt s.m i).pc < 8191 →
    fld (wordAt s i) 5 8 + fld (wordAt s i) 0 5 < 154 →
    ∃ t, exec (.keyw i) s = .next t ∧ (ctxAt t.m i).pc = (ctxAt s.m i).pc + 1 ∧ ∀ j, j < 160 →
      (ctxAt t.m i).key.getLsbD j = if fld (wordAt s i) 5 8 ≤ j ∧ j ≤ fld (wordAt s i) 5 8 + fld (wordAt s i) 0 5
        then ((ctxAt s.m i).reg (gsOf (wordAt s i))).getLsbD (j - fld (wordAt s i) 5 8)
        else (ctxAt s.m i).key.getLsbD j) ∧
  (∀ i s, Issues 0x31 i s → i < s.m.ing.ctxs.length → (ctxAt s.m i).pc < 8191 → fld (wordAt s i) 0 5 < 12 →
    fld (wordAt s i) 5 8 + fld (wordAt s i) 0 5 < 154 →
    ∃ t, exec (.keyi i) s = .next t ∧ (ctxAt t.m i).pc = (ctxAt s.m i).pc + 1 ∧ ∀ j, j < 160 →
      (ctxAt t.m i).key.getLsbD j = if fld (wordAt s i) 5 8 ≤ j ∧ j ≤ fld (wordAt s i) 5 8 + fld (wordAt s i) 0 5
        then (fld (wordAt s i) 14 12).testBit (j - fld (wordAt s i) 5 8)
        else (ctxAt s.m i).key.getLsbD j) ∧
  (∀ i s, Issues 0x38 i s → i < s.m.ing.ctxs.length → (ctxAt s.m i).pc < 8191 →
    ∃ t, exec (.hash i) s = .next t ∧ ctxAt t.m i = { (ctxAt s.m i) with
      pc := (ctxAt s.m i).pc + 1, issued := (ctxAt s.m i).issued + 1, from_ := (ctxAt s.m i).pc
      g := upd (ctxAt s.m i).g (gdOf (wordAt s i)) (fun _ => crcRun ((ctxAt s.m i).reg (gdOf (wordAt s i)))
        (beBytes 4 ((ctxAt s.m i).reg (gsOf (wordAt s i))).toNat)) }) ∧
  (∀ i s, Issues 0x3C i s → i < s.m.ing.ctxs.length → (ctxAt s.m i).pc < 8191 →
    ∃ t, exec (.mark i) s = .next t ∧ ctxAt t.m i = { (ctxAt s.m i) with
      pc := (ctxAt s.m i).pc + 1, issued := (ctxAt s.m i).issued + 1, from_ := (ctxAt s.m i).pc
      mirror := (ctxAt s.m i).mirror || bit (wordAt s i) 0, noLearn := (ctxAt s.m i).noLearn || bit (wordAt s i) 1 }) ∧
  (∀ i s f, Issues 0x39 i s → i < s.m.ing.ctxs.length → (ctxAt s.m i).pc < 8191 → (ctxAt s.m i).frame = some f →
    ∃ t, exec (.nameRef i) s = .next t ∧ ctxAt t.m i =
      (let sa := ((ctxAt s.m i).reg (gsOf (wordAt s i))).toNat % 256
       if claimAhead s.m f = true then
         { (ctxAt s.m i) with
           issued := (ctxAt s.m i).issued + 1, from_ := (ctxAt s.m i).pc, waiting := some (gdOf (wordAt s i), sa) }
       else { (ctxAt s.m i) with
         pc := (ctxAt s.m i).pc + 1, issued := (ctxAt s.m i).issued + 1, from_ := (ctxAt s.m i).pc
         g := upd (ctxAt s.m i).g (gdOf (wordAt s i)) (fun _ => BitVec.ofNat 32 (nameValue s.m f sa)) })) ∧
  (∀ i s f gd sa, i < 64 → i < s.m.ing.ctxs.length → (ctxAt s.m i).pc < 8191 → (ctxAt s.m i).frame = some f →
    (ctxAt s.m i).waiting = some (gd, sa) → claimAhead s.m f = false →
    ∃ t, exec (.nameWaitResume i) s = .next t ∧ ctxAt t.m i = { (ctxAt s.m i) with
      pc := (ctxAt s.m i).pc + 1, waiting := none
      g := upd (ctxAt s.m i).g gd (fun _ => BitVec.ofNat 32 (nameValue s.m f sa)) }) ∧
  (∀ i s f, Issues 0x3A i s → i < s.m.ing.ctxs.length → (ctxAt s.m i).frame = some f → f.unfinished = false →
    exec (.tpsub i) s = after s fun v w => checkFetch v i
      (let w := (fetched s i v w).ctx i fun _ => { (ctxAt s.m i) with
        pc := (ctxAt s.m i).pc + 1, issued := (ctxAt s.m i).issued + 1, from_ := (ctxAt s.m i).pc, tpDone := true }
       let first := leAt f.data 0 1
       if isCanPort f.port = true ∧ isExt f.fmt = true ∧ 2 ≤ jMode w.m (f.port - 14) then
         if jPf f.id = 0xEB then tpData v f w
         else if jPf f.id = 0xEC then
           if first = 16 ∨ first = 32 then tpOpen v f (first == 32) w
           else if first = 17 ∨ first = 19 ∨ first = 255 then tpControl v f first w
           else w
         else w
       else w)) ∧
  (∀ i s f, Issues 0x3B i s → i < s.m.ing.ctxs.length → (ctxAt s.m i).frame = some f → f.unfinished = false →
    (f.marked = false ∨ claimAhead s.m f = false) →
    exec (.acsub i) s = after s fun v w => checkFetch v i
      (let w := (fetched s i v w).ctx i fun _ => { (ctxAt s.m i) with
        pc := (ctxAt s.m i).pc + 1, issued := (ctxAt s.m i).issued + 1, from_ := (ctxAt s.m i).pc, acDone := true }
       if isCanPort f.port = true ∧ isClaimId f.fmt f.id = true ∧ 1 ≤ jMode w.m (f.port - 14) then claimFrame v f w
       else w)) ∧
  (∀ i s f, i < 64 → (ctxAt s.m i).frame = some f → (ctxAt s.m i).waiting = none → powered s.m = true →
    footService s.m = false → prm s.m P.ingress_parse_budget ≤ (ctxAt s.m i).issued →
    exec (.parseOverrun i) s = after s fun v w =>
      let w := (w.count C.pf_overrun f.port).limited v 0x0402 1 f.port 1000000000 (fun n => u8 f.port ++ zeros 3 ++ u32 n)
      if portMode w.m f.port % 4 = 1 then freeCtx i (holdFrame v f 2 0 0 0xFFFF w)
      else if portMode w.m f.port % 4 = 2 then freeCtx i (w.ing fun x => { x with done := x.done ++
        [{ frame := f, key := (ctxAt s.m i).key.toNat, ending := .miss, mirror := (ctxAt s.m i).mirror
           noLearn := (ctxAt s.m i).noLearn }] })
      else freeCtx i (discardFrame f w))

/-- ETH_FRAME_RECEIVE on a receiving port counts a good frame and its bytes with the FCS: a PAUSE frame is obeyed and
goes no further, any other is taken, through MACsec where the port has it; a short, stomped or wrong-FCS frame is
counted as its error. CAN_FRAME_RECEIVE on a receiving channel takes a good frame, one whose error comes after its
acceptance too, and counts a frame in error or of a format the channel does not take; a channel that detects its rate
takes the frame for that. On a port that does not receive, the frame is discarded, for a hold apart from its Borul
traffic. PRECLASSIFY notes the arrival under the next sequence number, counts a candidate, and lets the fast lane take
it when both lanes decide so. PAUSE_RESEND repeats the port's flow-control frames while asserted and
PAUSE_QUANTA_EXPIRY lifts expired stops. -/
def Obligations.FrameReceptionCompletes : Prop :=
  (∀ port f s, port < 11 → portReceives s.m s.base.now port = true → 60 ≤ f.data.length →
    (f.fcsOk = false ∨ f.stomped = true) →
    exec (.ethFrameReceive port f) s = after s fun v w =>
      let t := takeArriving v port { fmt := 8, id := 0, len := f.data.length } w
      let w := if port < 8 then t.1.count C.preempt_fragments_rx port f.fragments else t.1
      badEnd v port t.2 (ethFrame port f.data false false t.2) (w.count C.eth_rx_fcs_error port)) ∧
  (∀ port f s, port < 11 → portReceives s.m s.base.now port = true → f.data.length < 60 →
    exec (.ethFrameReceive port f) s = after s fun v w =>
      let t := takeArriving v port { fmt := 8, id := 0, len := f.data.length } w
      let w := if port < 8 then t.1.count C.preempt_fragments_rx port f.fragments else t.1
      badEnd v port t.2 (ethFrame port f.data false false t.2) (w.count C.eth_rx_runt port)) ∧
  (∀ port f s, port < 11 → portReceives s.m s.base.now port = true → 60 ≤ f.data.length → f.fcsOk = true →
    f.stomped = false → isPause s.m port f.data = true →
    exec (.ethFrameReceive port f) s = after s fun v w =>
      let t := takeArriving v port { fmt := 8, id := 0, len := f.data.length } w
      let w := if port < 8 then t.1.count C.preempt_fragments_rx port f.fragments else t.1
      let w := (w.count C.eth_rx_frames port).count C.eth_rx_bytes port (f.data.length + 4)
      laneAbort v t.2.seq (receivePause v port f.data w)) ∧
  (∀ port f s, port < 11 → portReceives s.m s.base.now port = true → 60 ≤ f.data.length → f.fcsOk = true →
    f.stomped = false → isPause s.m port f.data = false →
    exec (.ethFrameReceive port f) s = after s fun v w =>
      let t := takeArriving v port { fmt := 8, id := 0, len := f.data.length } w
      let w := if port < 8 then t.1.count C.preempt_fragments_rx port f.fragments else t.1
      let w := (w.count C.eth_rx_frames port).count C.eth_rx_bytes port (f.data.length + 4)
      if t.2.streamed then ethGood v f.ringFull port f.data false t.2 w
      else match macsecPass v port f.data w with
        | (w, none) => laneAbort v t.2.seq w
        | (w, some (p, ok)) =>
          let x := lateLane v port p t.2 w
          ethGood v f.ringFull port p ok x.2 x.1) ∧
  (∀ port f s, port < 11 → portReceives s.m s.base.now port = false →
    exec (.ethFrameReceive port f) s = after s fun v w => ethHeld v port f (dropArriving v port w)) ∧
  (∀ ch f s, ch < 22 → isCanFormat f.fmt = true → canMode s.m ch ≠ 3 →
    portReceives s.m s.base.now (canPort ch) = true → formatSendable s.m ch f.fmt = true → f.ending = .good →
    exec (.canFrameReceive ch f) s = after s fun v w =>
      let t := takeArriving v (canPort ch) { fmt := f.fmt, id := f.id, len := f.data.length } w
      let w := t.1.can ch fun c => { c with load := addLoad c.load t.2.tb2 v.now }
      canGood v ch f t.2 w) ∧
  (∀ ch f e early dominant bitPos s, ch < 22 → isCanFormat f.fmt = true → canMode s.m ch ≠ 3 →
    portReceives s.m s.base.now (canPort ch) = true → formatSendable s.m ch f.fmt = true →
    f.ending = .bad e early dominant bitPos →
    exec (.canFrameReceive ch f) s = after s fun v w =>
      let t := takeArriving v (canPort ch) { fmt := f.fmt, id := f.id, len := f.data.length } w
      let w := t.1.can ch fun c => { c with load := addLoad c.load t.2.tb2 v.now }
      if early then canBad v ch e (inDataPhase f bitPos) dominant f.flagErrors t.2 (canFrame (canPort ch) f t.2) w
      else canGood v ch f t.2 w) ∧
  (∀ ch f s, ch < 22 → isCanFormat f.fmt = true → canMode s.m ch ≠ 3 →
    portReceives s.m s.base.now (canPort ch) = true → formatSendable s.m ch f.fmt = false →
    exec (.canFrameReceive ch f) s = after s fun v w =>
      let t := takeArriving v (canPort ch) { fmt := f.fmt, id := f.id, len := f.data.length } w
      let w := t.1.can ch fun c => { c with load := addLoad c.load t.2.tb2 v.now }
      canBad v ch .form false false f.flagErrors t.2 (canFrame (canPort ch) f t.2) w) ∧
  (∀ ch f s, ch < 22 → isCanFormat f.fmt = true → canMode s.m ch = 3 →
    portHeldAt s.m s.base.now (canPort ch) = false →
    exec (.canFrameReceive ch f) s = after s fun v w =>
      detectFrame v ch (countsForRate s.m ch f) w) ∧
  (∀ ch f s, ch < 22 → isCanFormat f.fmt = true → portReceives s.m s.base.now (canPort ch) = false →
    (canMode s.m ch = 3 → portHeldAt s.m s.base.now (canPort ch) = true) →
    exec (.canFrameReceive ch f) s = after s fun v w =>
      canHeld v ch f (dropArriving v (canPort ch) w)) ∧
  (∀ port h s, (isEthPort port || isCanPort port) = true → portReceives s.m s.base.now port = true →
    macsecHolds s.m port = true →
    exec (.preclassify port h) s = after s fun v w => noteArrival v port h (arrivalOf v s.m port h) w) ∧
  (∀ port h s, (isEthPort port || isCanPort port) = true → portReceives s.m s.base.now port = true →
    macsecHolds s.m port = false → laneRuns s.m s.base.now = false →
    exec (.preclassify port h) s = after s fun v w => noteArrival v port h (arrivalOf v s.m port h) w) ∧
  (∀ port h s, (isEthPort port || isCanPort port) = true → portReceives s.m s.base.now port = true →
    macsecHolds s.m port = false → laneRuns s.m s.base.now = true →
    isCandidate (touchLane s.base port ⟨s.m, []⟩).m s.base.now port h = false →
    exec (.preclassify port h) s = after s fun v w => noteArrival v port h (arrivalOf v s.m port h) (touchLane v port w)) ∧
  (∀ port h s, (isEthPort port || isCanPort port) = true → portReceives s.m s.base.now port = true →
    macsecHolds s.m port = false → laneRuns s.m s.base.now = true →
    isCandidate (touchLane s.base port ⟨s.m, []⟩).m s.base.now port h = true →
    exec (.preclassify port h) s = after s fun v w =>
      let w := (touchLane v port w).count C.fl_candidates port
      let a := { arrivalOf v s.m port h with cand := true }
      match !borulHead w.m port h, laneHit w.m port h with
      | true, some k => match laneDecision v k h.lanes w with
        | (w, some mask) =>
          let a := { a with taken := some k }
          takeFrame v k mask h.lanes (headFrame port h a) (noteArrival v port h a w)
        | (w, none) => noteArrival v port h a w
      | _, _ => noteArrival v port h a w) ∧
  (∀ port h s, (isEthPort port || isCanPort port) = true → portReceives s.m s.base.now port = false →
    exec (.preclassify port h) s = after s fun _ w => w) ∧
  (∀ port s, port < 11 → powered s.m = true → s.m.ing.xoff.contains port = true →
    exec (.pauseResend port) s = after s fun _ w => sendPause port (prm s.m P.eth_pause_quanta port) w) ∧
  (∀ port s, port < 11 →
    exec (.pauseQuantaExpiry port) s = after s fun _ w => w.fab fun x => { x with
      paused := x.paused.filter (fun p => !(p.1 / 8 == port && decide (p.2 ≤ s.base.now))) })

/-- FASTLANE_CAN_SOF starts a cut-through frame the channel may send, or one that has ended; FASTLANE_ETH_START starts
a lane frame on a free usable port once 64 bytes of it are captured, from the buffer onto a faster port; PARSE_ACCEPT
gives an injected frame, else the next admissible queue head, to a free context or the key builder; CLASSIFY
classifies the oldest released frame; LEARN_INSERT takes the oldest learning request; AGE_SWEEP ages every learned
entry but keeps one that a lookup meets at its end; J1939_TP_TIMEOUT ends an expired session with no awaited frame on
its way. -/
def Obligations.LaneAndPipelineCompletes : Prop :=
  (∀ ch seq x s, ch < 22 → served s.m (canPort ch) = some (seq, x) → x.started.contains (canPort ch) = false →
    mayCutThrough s.m ch x.frame = true → laneMayStart s.m ch x.frame = true → x.ended = false →
    exec (.fastlaneCanSof ch) s = after s fun v w =>
      ((dataPhase ch x.frame.fmt x.frame.brs w).can ch fun c => { c with
        attempt := some (.fast seq), sof := txCapture v ch }).flFrame seq
          fun y => { y with started := canPort ch :: y.started }) ∧
  (∀ ch seq x s, ch < 22 → served s.m (canPort ch) = some (seq, x) → x.started.contains (canPort ch) = false →
    mayCutThrough s.m ch x.frame = false → laneMayStart s.m ch x.frame = true → x.ended = true →
    exec (.fastlaneCanSof ch) s = after s fun v w =>
      ((dataPhase ch x.frame.fmt x.frame.brs w).can ch fun c => { c with
        attempt := some (.fast seq), sof := txCapture v ch }).flFrame seq
          fun y => { y with started := canPort ch :: y.started, buffered := canPort ch :: y.buffered }) ∧
  (∀ port seq x s, port < 11 → served s.m port = some (seq, x) → x.started.contains port = false → x.ended = false →
    (ethAt s.m port).rate ≤ (ethAt s.m x.frame.port).rate → linkUsable s.m port = true → portHeld s.m port = false →
    wireFree s.m port s.base.now = true → classStopped s.m port 7 s.base.now = false →
    macsecBlocks s.m port x.frame.data = false → laneForwards s.m x.frame = true →
    gateOpen s.m port 7 s.base.time.tb0.full (txTime s.m port (prm s.m P.eth_max_frame_size x.frame.port)) = true →
    64 ≤ capturedBytes s.m s.base x.frame →
    exec (.fastlaneEthStart port) s = after s fun v w =>
      let t : EthTx := { copy := { frame := x.frame, tc := 7 }, tc := 7, fastLane := true, start := v.now
                         bytes := x.frame.data }
      ((preemptNow v port w).fab fun y => { y with tx := y.tx.put port t }).flFrame seq
        fun y => { y with started := port :: y.started }) ∧
  (∀ port seq x s, port < 11 → served s.m port = some (seq, x) → x.started.contains port = false → x.ended = true →
    (ethAt s.m x.frame.port).rate < (ethAt s.m port).rate → linkUsable s.m port = true → portHeld s.m port = false →
    wireFree s.m port s.base.now = true → classStopped s.m port 7 s.base.now = false →
    macsecBlocks s.m port x.frame.data = false → laneForwards s.m x.frame = true →
    gateOpen s.m port 7 s.base.time.tb0.full (txTime s.m port x.frame.data.length) = true →
    exec (.fastlaneEthStart port) s = after s fun v w =>
      let t : EthTx := { copy := { frame := x.frame, tc := 7 }, tc := 7, fastLane := true, start := v.now
                         bytes := x.frame.data }
      flOutcome v seq port .sent ((((preemptNow v port w).fab fun y => { y with tx := y.tx.put port t }).flFrame seq
        fun y => { y with started := port :: y.started, buffered := port :: y.buffered }).count C.fl_buffered port)) ∧
  (∀ k f rest s, switching s.m = false → (List.range 64).find? (fun i => (ctxAt s.m i).frame.isNone) = some k →
    powered s.m = true → s.m.ing.inject = f :: rest →
    exec .parseAccept s = after s fun _ w => enterPipeline k f (w.ing fun x => { x with inject := rest })) ∧
  (∀ k s, switching s.m = false → (List.range 64).find? (fun i => (ctxAt s.m i).frame.isNone) = some k →
    powered s.m = true → s.m.ing.inject = [] →
    exec .parseAccept s = after s fun v w => acceptFrom v k (portOrder s.m) w) ∧
  (∀ errors r rest s, errors.entries.all entryAddrOk = true → s.m.ing.released = r :: rest → powered s.m = true →
    footService s.m = false →
    exec (.classify errors) s = after s fun v w => classifyFrame v r ((memoryErrors errors w).ing fun x => { x with released := rest })) ∧
  (∀ errors r rest s, errors.entries.all entryAddrOk = true → s.m.ing.released = r :: rest → powered s.m = true →
    footService s.m = true →
    exec (.classify errors) s = after s fun _ w => footpathLookup r.frame ((memoryErrors errors w).ing fun x => { x with released := rest })) ∧
  (∀ q rest y n k s, s.m.tab.learnQ = q :: rest → fullService s.m = true →
    s.m.tab.findSlot (seedOf s.m) q.key = none → learnLimit s.m q.port = none →
    ({ s.m.tab with learnQ := rest } : Tables).insertHash (seedOf s.m) (kicksOf s.m) q.key (learnedSp q.port) = some (y, n, k) →
    exec .learnInsert s = after s fun v w => lockEntries v 11 [(2, n)] ((w.tab fun _ => { y with
      learned := y.learned.put (freeLearnSlot y.learned) { key := q.key, port := q.port, index := n }
      hits := insertOnce n y.hits }).count C.learn_new q.port)) ∧
  (∀ q rest n slot l s, s.m.tab.learnQ = q :: rest → fullService s.m = true →
    s.m.tab.findSlot (seedOf s.m) q.key = some n → s.m.tab.learnedAt n = some (slot, l) →
    exec .learnInsert s = after s fun v w => lockEntries v 11 [(2, n)] (w.tab fun x =>
      { (({ x with learnQ := rest } : Tables).put 2 n (hashEntry q.key (learnedSp q.port))) with
        learned := (({ x with learnQ := rest } : Tables).put 2 n (hashEntry q.key (learnedSp q.port))).learned.put slot
          { l with port := q.port } })) ∧
  (∀ s, powered s.m = true →
    exec .ageSweep s = after s fun v w => w.each s.m.tab.learned fun (slot, l) w =>
      let (w, race) := w.free v 2
      let again := fun (w : W) =>
        if race == 1 then w.tab fun x => { x with hits := insertOnce l.index x.hits } else w
      if w.m.tab.hits.contains l.index then
        again (w.tab fun x => { x with
          hits := x.hits.filter (· != l.index), learned := x.learned.put slot { l with age := 0 } })
      else if l.age < 3 then again (w.tab fun x => { x with learned := x.learned.put slot { l with age := l.age + 1 } })
      else if race == 1 then (again w).count C.age_race_kept
      else lockEntries v 11 [(2, l.index)] ((w.tab fun x => (x.unlearn l.index).put 2 l.index 0).count C.learn_aged)) ∧
  (∀ k t s, s.m.ing.tp[k]? = some t → t.timer ≠ 0 → t.deadline + 1200 ≤ s.base.now →
    awaitedInTime s.m s.base t = false →
    exec (.j1939TpTimeout k) s = after s fun _ w =>
      if t.responder then sendAbort t 3 ((dropSession t w).count C.j1939_tp_timeout t.ch)
      else (dropSession t w).count C.j1939_tp_timeout t.ch) ∧
  (∀ k t s, s.m.borul.isotp[k]? = some t → (t.sending = false ∨ t.waitFc = true ∧ t.inFlight = false) →
    t.deadline + 1200 ≤ s.base.now → peerInTime s.m t = false →
    exec (.isotpTimeout k) s = after s fun _ w => failTp t w) ∧
  (∀ k t g s, s.m.borul.isotp[k]? = some t → t.gap = some g → g ≤ s.base.now →
    exec (.isotpStminExpiry k) s = after s fun _ w => nextCf t w)

/-- While fewer than 16 table operations are in use, each crossing its bridge: TABLE_INFO answers entry size, entries,
used entries and the session's own staged operations; TABLE_READ of a range in the table answers its entries;
TABLE_SEARCH answers the entry found or zeros; TABLE_DISCARD drops the session's staged operations and answers how
many there were. -/
def Obligations.TableReadsAnswer : Prop :=
  (∀ size n r s i, Accepted opTableInfo r s i → tableOpsInUse s.m < 16 → 4 ≤ r.payload.length →
    tableShape (leAt r.payload 0 1) = some (size, n) →
    exec (.tableInfo r) s = repliedOk opTableInfo r i s (bridgeFetch (bridgePost true (entered opTableInfo r i s)))
      (u16 size ++ zeros 2 ++ u32 n ++ u32 (usedEntries (entered opTableInfo r i s) (leAt r.payload 0 1))
        ++ u32 ((ownStaged (entered opTableInfo r i s).m (asked r i s)).filter (fun o => o.op.table == leAt r.payload 0 1)).length)) ∧
  (∀ size n r s i, Accepted opTableRead r s i → tableOpsInUse s.m < 16 → 12 ≤ r.payload.length →
    tableShape (leAt r.payload 0 1) = some (size, n) → leAt r.payload 8 2 ≠ 0 →
    rangeStatus (leAt r.payload 0 1) n (leAt r.payload 4 4) (leAt r.payload 8 2) = none →
    8 + leAt r.payload 8 2 * (4 + entrySize (leAt r.payload 0 1) (leAt r.payload 4 4)) ≤ 64896 →
    exec (.tableRead r) s = repliedOk opTableRead r i s (touch s.base (((List.range (leAt r.payload 8 2)).map (· + leAt r.payload 4 4)).map (entryKey (leAt r.payload 0 1)))
        (bridgeFetch (bridgePost true (entered opTableRead r i s))))
      (let t := leAt r.payload 0 1
       let first := leAt r.payload 4 4
       let idx := (List.range (leAt r.payload 8 2)).map (· + first)
       let w := touch s.base (idx.map (entryKey t)) (bridgeFetch (bridgePost true (entered opTableRead r i s)))
       u8 t ++ u8 0 ++ u16 (leAt r.payload 8 2) ++ u32 first ++ idx.flatMap (fun k =>
         u32 (sideWord s.base w.m (covered w.m) t k) ++ entryBytes (entrySize t first) (entryValue s.base w t k)))) ∧
  (∀ r s i, Accepted opTableSearch r s i → tableOpsInUse s.m < 16 → 4 ≤ r.payload.length →
    [2, 3, 4, 5, 7].contains (leAt r.payload 0 1) = true → 24 ≤ r.payload.length →
    exec (.tableSearch r) s = repliedOk opTableSearch r i s (let w := (bridgeFetch (bridgePost true (entered opTableSearch r i s)))
        if leAt r.payload 0 1 = 2 then touch s.base ((keySlots (seedOf w.m) (leAt r.payload 4 8)).map (entryKey 2)) w
        else touchTable s.base (leAt r.payload 0 1) w)
      (let t := leAt r.payload 0 1
       let w := (bridgeFetch (bridgePost true (entered opTableSearch r i s)))
       let w := if t = 2 then touch s.base ((keySlots (seedOf w.m) (leAt r.payload 4 8)).map (entryKey 2)) w
         else touchTable s.base t w
       match searchTable w.m t r.payload with
       | none => zeros (12 + entrySize t 0)
       | some k => u8 1 ++ zeros 3 ++ u32 k ++ u32 (sideWord s.base w.m (covered w.m) t k)
           ++ entryBytes (entrySize t 0) (entryValue s.base w t k))) ∧
  (∀ r s i, Accepted opTableDiscard r s i → tableOpsInUse s.m < 16 →
    ownSlot (entered opTableDiscard r i s).m (asked r i s) = some i →
    exec (.tableDiscard r) s = repliedOk opTableDiscard r i s ((entered opTableDiscard r i s).slot i (fun x => { x with staged := [] }))
      (u16 (slotAt s.m i).staged.length ++ zeros 2))

/-- Unposted and with no route book switch waiting: TABLE_WRITE to a plain table writes its entries and to the hash or
signpost table stages them; TABLE_INSERT of a route inserts it and of a hash entry stages it; TABLE_DELETE of a route
deletes it, of a learned address drops it, of a hash key stages its deletion, and answers whether it was there;
TABLE_COMMIT with nothing staged answers at once and otherwise waits for COMMIT_APPLY, which applies the operations
its session has staged by then; TABLE_FLUSH drops the learned addresses of its ports and VID. -/
def Obligations.TableWritesComplete : Prop :=
  (∀ size n r s i, Accepted opTableWrite r s i → r.posted = false → tableOpsInUse s.m < 16 → switching s.m = false →
    8 ≤ r.payload.length → tableShape (leAt r.payload 0 1) = some (size, n) →
    [2, 3, 4, 5, 7].contains (leAt r.payload 0 1) = false → leAt r.payload 2 2 ≠ 0 →
    rangeStatus (leAt r.payload 0 1) n (leAt r.payload 4 4) (leAt r.payload 2 2) = none →
    r.payload.length = 8 + leAt r.payload 2 2 * entrySize (leAt r.payload 0 1) (leAt r.payload 4 4) →
    checkAll s.base (leAt r.payload 0 1) (leAt r.payload 4 4) (payloadEntries (entrySize (leAt r.payload 0 1) (leAt r.payload 4 4)) (leAt r.payload 2 2) r.payload) (entered opTableWrite r i s).m = none →
    exec (.tableWrite r) s = repliedOk opTableWrite r i s (let es := payloadEntries (entrySize (leAt r.payload 0 1) (leAt r.payload 4 4)) (leAt r.payload 2 2) r.payload
        modified ((dmaWrite s.base ((List.range (leAt r.payload 2 2)).map (fun k => (leAt r.payload 0 1, leAt r.payload 4 4 + k))) (entered opTableWrite r i s)).each
          es.zipIdx fun q w => writeEntry s.base (leAt r.payload 0 1) (leAt r.payload 4 4 + q.2) q.1 w))
      (u16 (leAt r.payload 2 2) ++ zeros 2)) ∧
  (∀ size n w k r s i, Accepted opTableWrite r s i → r.posted = false → tableOpsInUse s.m < 16 →
    switching s.m = false → 8 ≤ r.payload.length → tableShape (leAt r.payload 0 1) = some (size, n) →
    (leAt r.payload 0 1 = 2 ∨ leAt r.payload 0 1 = 3) → leAt r.payload 2 2 ≠ 0 →
    rangeStatus (leAt r.payload 0 1) n (leAt r.payload 4 4) (leAt r.payload 2 2) = none →
    r.payload.length = 8 + leAt r.payload 2 2 * entrySize (leAt r.payload 0 1) (leAt r.payload 4 4) →
    checkAll s.base (leAt r.payload 0 1) (leAt r.payload 4 4) (payloadEntries (entrySize (leAt r.payload 0 1) (leAt r.payload 4 4)) (leAt r.payload 2 2) r.payload) (entered opTableWrite r i s).m = none →
    stage (asked r i s) ((payloadEntries (entrySize (leAt r.payload 0 1) (leAt r.payload 4 4)) (leAt r.payload 2 2)
      r.payload).zipIdx.map (fun q => .write (leAt r.payload 0 1) (leAt r.payload 4 4 + q.2)
        (clearBits (reservedOf s.m.tab (leAt r.payload 0 1) (leAt r.payload 4 4 + q.2) q.1) q.1)))
      (entered opTableWrite r i s) = (w, .ok k) →
    exec (.tableWrite r) s = repliedOk opTableWrite r i s w
      (u16 (leAt r.payload 2 2) ++ zeros 2)) ∧
  (∀ w k r s i, Accepted opTableInsert r s i → r.posted = false → tableOpsInUse s.m < 16 → switching s.m = false →
    4 + entrySize 2 0 ≤ r.payload.length → leAt r.payload 0 1 = 2 →
    (let e0 := leAt r.payload 4 (entrySize 2 0)
     let e := clearBits (reservedOf s.m.tab 2 0 e0) e0
     Sp.valid.on (He.sp.get e) = true ∧ signpostOk (He.sp.get e) = true ∧
       stage (asked r i s) [.insert 2 e] (entered opTableInsert r i s) = (w, .ok k)) →
    exec (.tableInsert r) s = repliedOk opTableInsert r i s w
      (u32 0xFFFFFFFF)) ∧
  (∀ w k r s i, Accepted opTableDelete r s i → r.posted = false → tableOpsInUse s.m < 16 → switching s.m = false →
    12 ≤ r.payload.length → leAt r.payload 0 1 = 2 →
    stage (asked r i s) [.delete 2 (leAt r.payload 4 8)] (entered opTableDelete r i s) = (w, .ok k) →
    exec (.tableDelete r) s = repliedOk opTableDelete r i s w
      (u8 k ++ zeros 3)) ∧
  (∀ x k r s i, Accepted opTableInsert r s i → r.posted = false → tableOpsInUse s.m < 16 → switching s.m = false →
    4 + entrySize (leAt r.payload 0 1) 0 ≤ r.payload.length → (leAt r.payload 0 1 = 4 ∨ leAt r.payload 0 1 = 5) →
    (let e0 := leAt r.payload 4 (entrySize (leAt r.payload 0 1) 0)
     let e := clearBits (reservedOf s.m.tab (leAt r.payload 0 1) 0 e0) e0
     let sp := if leAt r.payload 0 1 = 4 then L4.sp.get e else L6.sp.get e
     Sp.valid.on sp = true ∧ signpostOk sp = true ∧ lpmStatus (leAt r.payload 0 1) e = none ∧
       s.m.tab.insertLpm (leAt r.payload 0 1) e = some (x, k)) →
    exec (.tableInsert r) s = repliedOk opTableInsert r i s (modified (dmaWrite s.base (changedFrom s.m.tab x (leAt r.payload 0 1)).reverse ((entered opTableInsert r i s).tab fun _ => x)))
      (u32 k)) ∧
  (∀ k l r s i, Accepted opTableDelete r s i → r.posted = false → tableOpsInUse s.m < 16 → switching s.m = false →
    12 ≤ r.payload.length → leAt r.payload 0 1 = 7 →
    learnedByKey s.m.tab (macKey (leAt r.payload 10 2 % 4096) (beAt r.payload 4 6)) = some (k, l) →
    exec (.tableDelete r) s = repliedOk opTableDelete r i s (modified (dropLearned s.base l (entered opTableDelete r i s)))
      (u8 1 ++ zeros 3)) ∧
  (∀ r s i, Accepted opTableDelete r s i → r.posted = false → tableOpsInUse s.m < 16 → switching s.m = false →
    12 ≤ r.payload.length → leAt r.payload 0 1 = 7 →
    learnedByKey s.m.tab (macKey (leAt r.payload 10 2 % 4096) (beAt r.payload 4 6)) = none →
    exec (.tableDelete r) s = repliedOk opTableDelete r i s (modified (entered opTableDelete r i s))
      (u8 0 ++ zeros 3)) ∧
  (∀ r s i, Accepted opTableDelete r s i → r.posted = false → tableOpsInUse s.m < 16 → switching s.m = false →
    (leAt r.payload 0 1 = 4 ∨ leAt r.payload 0 1 = 5) →
    4 + (if leAt r.payload 0 1 = 4 then 8 else 24) ≤ r.payload.length →
    lpmStatus (leAt r.payload 0 1) (leAt r.payload 4 (if leAt r.payload 0 1 = 4 then 8 else 24)) = none →
    exec (.tableDelete r) s = repliedOk opTableDelete r i s (let x := s.m.tab.deleteLpm (leAt r.payload 0 1) (leAt r.payload 4 (if leAt r.payload 0 1 = 4 then 8 else 24))
        modified (dmaWrite s.base (changedFrom s.m.tab x.1 (leAt r.payload 0 1)) ((entered opTableDelete r i s).tab fun _ => x.1)))
      (u8 (b2n (s.m.tab.deleteLpm (leAt r.payload 0 1) (leAt r.payload 4 (if leAt r.payload 0 1 = 4 then 8 else 24))).2) ++ zeros 3)) ∧
  (∀ r s i, Accepted opTableCommit r s i → r.posted = false → tableOpsInUse s.m < 16 → switching s.m = false →
    8 ≤ r.payload.length → leAt r.payload 0 1 ≤ 1 →
    (leAt r.payload 0 1 = 1 → leAt r.payload 4 4 = s.m.tab.generation) →
    ownStaged (entered opTableCommit r i s).m (asked r i s) = [] →
    exec (.tableCommit r) s = repliedOk opTableCommit r i s (entered opTableCommit r i s)
      (commitReply s.m.tab.generation 0 0)) ∧
  (∀ x l r s i, Accepted opTableCommit r s i → r.posted = false → tableOpsInUse s.m < 16 → switching s.m = false →
    8 ≤ r.payload.length → leAt r.payload 0 1 ≤ 1 →
    (leAt r.payload 0 1 = 1 → leAt r.payload 4 4 = s.m.tab.generation) →
    ownStaged (entered opTableCommit r i s).m (asked r i s) = x :: l →
    exec (.tableCommit r) s = waiting opTableCommit r i s (entered opTableCommit r i s)
      (.commit (if leAt r.payload 0 1 = 1 then some (leAt r.payload 4 4) else none)) []) ∧
  (∀ r s i, Accepted opTableFlush r s i → r.posted = false → tableOpsInUse s.m < 16 → switching s.m = false →
    16 ≤ r.payload.length →
    exec (.tableFlush r) s = repliedOk opTableFlush r i s (let hit := s.m.tab.learned.filter (fun q =>
          bit (leAt r.payload 0 8) q.2.port && (leAt r.payload 8 2 == 0xFFFF || fld q.2.key 48 12 == leAt r.payload 8 2))
        modified ((entered opTableFlush r i s).each hit fun q w => dropLearned s.base q.2 w))
      (u32 (s.m.tab.learned.filter (fun q =>
        bit (leAt r.payload 0 8) q.2.port && (leAt r.payload 8 2 == 0xFFFF || fld q.2.key 48 12 == leAt r.payload 8 2))).length)) ∧
  (∀ o gen s, s.m.borul.ops.find? (fun o => isCommit o.kind) = some o → o.kind = .commit gen →
    gen.any (· != s.m.tab.generation) = false →
    exec .commitApply s = after s fun v w => applyCommit v o (commitSet s.m o) w)

/-- A FLOW request whose range lies in the table marks the records as read and acts on those that are valid and
readable: FLOW_READ answers those that are not frozen, FLOW_LEARN starts their learning, FLOW_WATCH ends the learning
of those in LEARN, FLOW_FREEZE freezes, FLOW_QUARANTINE_CLEAR clears quarantine of records not frozen, FLOW_KINDS_ACK
clears the named kinds; FLOW_LAYBY_LIST, READ and DISPOSE answer from the layby. -/
def Obligations.FlowFamilyAnswers : Prop :=
  (∀ r s i, Accepted opFlowRead r s i → 6 ≤ r.payload.length → 1 ≤ leAt r.payload 2 2 → leAt r.payload 2 2 ≤ 63 →
    leAt r.payload 0 2 + leAt r.payload 2 2 ≤ 8192 →
    exec (.flowRead r) s = repliedOk opFlowRead r i s (flowTouched opFlowRead r i s)
      (let l := (flowRecords opFlowRead r i s).filter (fun k => !isFrozen (wpGet (flowTouched opFlowRead r i s).m k))
       changed l.length ++ l.flatMap (recordBytes s.base (flowTouched opFlowRead r i s)))) ∧
  (∀ r s i, Accepted opFlowLearn r s i → 10 ≤ r.payload.length → 1 ≤ leAt r.payload 2 2 → leAt r.payload 2 2 ≤ 1024 →
    leAt r.payload 0 2 + leAt r.payload 2 2 ≤ 8192 → leAt r.payload 6 1 ≤ 1 →
    exec (.flowLearn r) s = repliedOk opFlowLearn r i s (let l := (flowRecords opFlowLearn r i s).filter (fun k => (fun x => leAt r.payload 6 1 == 1 || !isFrozen x) (wpGet (flowTouched opFlowLearn r i s).m k))
        (flowTouched opFlowLearn r i s).each l (fun k w => wpPut k (startLearning (wpGet w.m k) s.base.time.tb0.full) w))
      (changed ((flowRecords opFlowLearn r i s).filter (fun k => (fun x => leAt r.payload 6 1 == 1 || !isFrozen x) (wpGet (flowTouched opFlowLearn r i s).m k))).length)) ∧
  (∀ r s i, Accepted opFlowWatch r s i → 6 ≤ r.payload.length → 1 ≤ leAt r.payload 2 2 → leAt r.payload 2 2 ≤ 1024 →
    leAt r.payload 0 2 + leAt r.payload 2 2 ≤ 8192 →
    exec (.flowWatch r) s = repliedOk opFlowWatch r i s (let l := (flowRecords opFlowWatch r i s).filter (fun k => (fun x => Wp.state.get x == wpLearn) (wpGet (flowTouched opFlowWatch r i s).m k))
        (flowTouched opFlowWatch r i s).each l (finishLearning s.base))
      (changed ((flowRecords opFlowWatch r i s).filter (fun k => (fun x => Wp.state.get x == wpLearn) (wpGet (flowTouched opFlowWatch r i s).m k))).length)) ∧
  (∀ r s i, Accepted opFlowFreeze r s i → 26 ≤ r.payload.length → 1 ≤ leAt r.payload 2 2 → leAt r.payload 2 2 ≤ 1024 →
    leAt r.payload 0 2 + leAt r.payload 2 2 ≤ 8192 → leAt r.payload 6 1 ≤ 1 →
    (leAt r.payload 6 1 = 1 → leAt r.payload 7 1 ≤ 3) →
    exec (.flowFreeze r) s = repliedOk opFlowFreeze r i s (let l := (flowRecords opFlowFreeze r i s).filter (fun k => (fun x => !isFrozen x && (leAt r.payload 6 1 == 1 || Wp.state.get x == wpWatch)) (wpGet (flowTouched opFlowFreeze r i s).m k))
        (flowTouched opFlowFreeze r i s).each l (fun k w => wpPut k (if (leAt r.payload 6 1 == 1) = true then freezeWith (wpGet w.m k) (leAt r.payload 7 1) (leAt r.payload 10 4)
            (leAt r.payload 14 4) (leAt r.payload 18 4) (leAt r.payload 22 2) (leAt r.payload 24 2) else Wp.state.set (wpGet w.m k) wpFrozen) w))
      (changed ((flowRecords opFlowFreeze r i s).filter (fun k => (fun x => !isFrozen x && (leAt r.payload 6 1 == 1 || Wp.state.get x == wpWatch)) (wpGet (flowTouched opFlowFreeze r i s).m k))).length)) ∧
  (∀ r s i, Accepted opFlowQuarantineClear r s i → 6 ≤ r.payload.length → 1 ≤ leAt r.payload 2 2 →
    leAt r.payload 2 2 ≤ 1024 → leAt r.payload 0 2 + leAt r.payload 2 2 ≤ 8192 →
    exec (.flowQuarantineClear r) s = repliedOk opFlowQuarantineClear r i s (let l := (flowRecords opFlowQuarantineClear r i s).filter (fun k => (fun x => !isFrozen x && Wp.quarantined.on x) (wpGet (flowTouched opFlowQuarantineClear r i s).m k))
        (flowTouched opFlowQuarantineClear r i s).each l (fun k w => wpPut k (Wp.quarantined.set (wpGet w.m k) 0) w))
      (changed ((flowRecords opFlowQuarantineClear r i s).filter (fun k => (fun x => !isFrozen x && Wp.quarantined.on x) (wpGet (flowTouched opFlowQuarantineClear r i s).m k))).length)) ∧
  (∀ r s i, Accepted opFlowKindsAck r s i → 10 ≤ r.payload.length → 1 ≤ leAt r.payload 2 2 →
    leAt r.payload 2 2 ≤ 1024 → leAt r.payload 0 2 + leAt r.payload 2 2 ≤ 8192 →
    exec (.flowKindsAck r) s = repliedOk opFlowKindsAck r i s (let l := (flowRecords opFlowKindsAck r i s).filter (fun k => (fun x => decide (wpWatch ≤ Wp.state.get x) && Wp.kindsSeen.get x &&& (leAt r.payload 6 1 % 32) != 0) (wpGet (flowTouched opFlowKindsAck r i s).m k))
        (flowTouched opFlowKindsAck r i s).each l (fun k w => wpPut k (Wp.kindsSeen.set (wpGet w.m k)
          (Wp.kindsSeen.get (wpGet w.m k) - (Wp.kindsSeen.get (wpGet w.m k) &&& (leAt r.payload 6 1 % 32)))) w))
      (changed ((flowRecords opFlowKindsAck r i s).filter (fun k => (fun x => decide (wpWatch ≤ Wp.state.get x) && Wp.kindsSeen.get x &&& (leAt r.payload 6 1 % 32) != 0) (wpGet (flowTouched opFlowKindsAck r i s).m k))).length)) ∧
  (∀ r s i, Accepted opFlowLaybyList r s i → 8 ≤ r.payload.length → 1 ≤ leAt r.payload 4 2 →
    leAt r.payload 4 2 ≤ 126 →
    exec (.flowLaybyList r) s = repliedOk opFlowLaybyList r i s (entered opFlowLaybyList r i s)
      (let l := (s.m.flow.layby.filter (fun h => decide (leAt r.payload 0 4 ≤ h.id))).take (leAt r.payload 4 2)
       u16 l.length ++ u16 (laybyTiles s.m) ++ u16 s.m.flow.layby.length ++ zeros 2 ++ l.flatMap (heldBytes s.m s.base.now))) ∧
  (∀ x r s i, Accepted opFlowLaybyRead r s i → 8 ≤ r.payload.length → findHeld s.m (leAt r.payload 0 4) = some x →
    readFault s.m x.frame none = none →
    exec (.flowLaybyRead r) s = repliedOk opFlowLaybyRead r i s (corrected x.frame none (entered opFlowLaybyRead r i s))
      (u16 (slice (storedBytes x.frame) (leAt r.payload 4 2) (leAt r.payload 6 2)).length ++ zeros 2
        ++ slice (storedBytes x.frame) (leAt r.payload 4 2) (leAt r.payload 6 2))) ∧
  (∀ r s i, Accepted opFlowLaybyDispose r s i → 1 ≤ leAt r.payload 0 2 → leAt r.payload 0 2 ≤ 64 →
    r.payload.length = 4 + 16 * leAt r.payload 0 2 →
    ((List.range (leAt r.payload 0 2)).map (fun k => slice r.payload (4 + 16 * k) 16)).any (fun e => decide (3 < leAt e 4 1)) = false →
    exec (.flowLaybyDispose r) s = repliedOk opFlowLaybyDispose r i s (disposeAll s.base ((List.range (leAt r.payload 0 2)).map (fun k => slice r.payload (4 + 16 * k) 16)) (entered opFlowLaybyDispose r i s)).1
      (u16 (leAt r.payload 0 2) ++ zeros 2
        ++ pad4 (disposeAll s.base ((List.range (leAt r.payload 0 2)).map (fun k => slice r.payload (4 + 16 * k) 16)) (entered opFlowLaybyDispose r i s)).2))

/-- WAYPOINT_EVALUATE takes the oldest classified frame to its waypoint or past it; PROFILE_SWEEP ends every learning
whose window has closed; LAYBY_EXPIRY drops a held frame after the hold time; FRAME_ENQUEUE queues the oldest frame;
ENQUEUE_HOLD_EXPIRY skips copies that waited the hold time; BP_CEILING raises 0x0705 for a queue blocked that long;
DROP_OLDEST_REMOVE drops a queue's oldest copy; ALLOTMENT_MILESTONE begins a period; CLOSURE_WATCHDOG breaks a closure
open for 64 cycles and poisons what it locked; TILE_AUDIT is a data-plane fault when tiles are lost. -/
def Obligations.WaypointAndFabricEventsComplete : Prop :=
  (∀ x s, powered s.m = true → nextClassified s.m.flow.classified = some x →
    exec .waypointEvaluate s = after s fun v w =>
      let w := w.flow fun y => { y with classified := y.classified.erase x }
      if Sp.waypointEn.on x.sp then evaluateRecord v (Sp.waypoint.get x.sp) x w else routeJob v x 0 0xFFFF w) ∧
  (∀ s,
    exec .profileSweep s = after s fun v w => w.each (wpRecords s.m) fun k w =>
      if Wp.state.get (wpGet w.m k) == wpLearn && windowClosed w.m (wpGet w.m k) s.base.time.tb0.full
      then finishLearning v k w else w) ∧
  (∀ id x s, findHeld s.m id = some x → s.base.expired (x.since + prmNs s.m P.flows_layby_max_hold) = true →
    exec (.laybyExpiry id) s = after s fun v w => (dropRef v x.frame.seq (removeHeld id w)).count C.layby_expired) ∧
  (∀ t ringFull x s, powered s.m = true → s.m.flow.enq.find? (jobReady s.m) = some x →
    (t = none ∨ ∃ y, t = some y ∧ y.cause ≠ 3) →
    exec (.frameEnqueue ⟨t, ringFull⟩) s = after s fun v w =>
      settle v (enqueueJob v t ringFull x ((w.flow fun y => { y with enq := y.enq.erase x }).fab fun y => { y with
        ringFull := ringFull }))) ∧
  (∀ t ringFull x s, powered s.m = true → s.m.flow.enq.find? (jobReady s.m) = some x → t.cause = 3 →
    exec (.frameEnqueue ⟨some t, ringFull⟩) s = after s fun v w =>
      faultData v 0 t.tile ((w.flow fun y => { y with enq := y.enq.erase x }).fab fun y => { y with ringFull := ringFull })) ∧
  (∀ s,
    exec .enqueueHoldExpiry s = after s fun v w =>
      let late := fun (x : Waiting) => s.base.expired (x.since + prmNs s.m P.fabric_multicast_hold)
      settle v ((w.fab fun x => { x with waiting := x.waiting.filter (fun y => !late y) }).each (s.m.fab.waiting.filter late)
        fun x w => skipCopy v x.port x.copy w)) ∧
  (∀ port q since s, isQueue port q = true →
    (updateBlocking s.base ⟨s.m, []⟩).m.fab.blocked.get? (queueKey port q) = some since →
    since + prmNs (updateBlocking s.base ⟨s.m, []⟩).m P.fabric_bp_ceiling ≤ s.base.now →
    (updateBlocking s.base ⟨s.m, []⟩).m.fab.dropOldest.contains (queueKey port q) = false →
    exec (.bpCeiling port q) s = after s fun v w =>
      let k := queueKey port q
      let w := updateBlocking v w
      ((w.fab fun x => { x with dropOldest := k :: x.dropOldest }).count C.bp_ceiling_episode k).event v 0x0705 1
        (u8 port ++ u8 q ++ zeros 2 ++ u32 ((s.base.now - since) / 1000) ++ u64 (maskOf (pausedSources w.m port q)))) ∧
  (∀ port q c rest s, isEthPort port = true → q < 8 →
    (updateBlocking s.base ⟨s.m, []⟩).m.fab.dropOldest.contains (queueKey port q) = true →
    queueOf (updateBlocking s.base ⟨s.m, []⟩).m port q = c :: rest →
    exec (.dropOldestRemove port q) s = after s fun v w =>
      settle v ((dropRef v c.frame.seq (setQueue port q rest (updateBlocking v w))).count C.bp_ceiling_drop (queueKey port q))) ∧
  (∀ port q n o c s, isCanPort port = true → q < 4 →
    (updateBlocking s.base ⟨s.m, []⟩).m.fab.dropOldest.contains (queueKey port q) = true →
    firstLoaded (canAt (updateBlocking s.base ⟨s.m, []⟩).m (port - 14)) q = some n →
    (canAt (updateBlocking s.base ⟨s.m, []⟩).m (port - 14)).objs.get? n = some o → o.copy = some c →
    exec (.dropOldestRemove port q) s = after s fun v w =>
      settle v ((dropRef v c.frame.seq (emptyObj (port - 14) n (updateBlocking v w))).count C.bp_ceiling_drop (queueKey port q))) ∧
  (∀ d s, d.all (fun x => decide (x.index < 96 ∧ x.at_ < 400)) = true →
    exec (.allotmentMilestone d) s = after s fun v w =>
      let w := w.each (List.range 6) fun k w =>
        let x := arbiterOf w.m (v.cycle / 400 - 1) d k
        w.each (List.range 16) fun q w =>
          (if atD x.out q false then w.count C.allot_exhausted (16 * k + q) else w).count C.allot_borrowed (16 * k + q)
            (atD x.borrowed q 0)
      w.fab fun x => { x with
        periods := x.periods + 1
        allotInForce := (List.range 96).foldl (fun m k => m.put k (prm w.m P.fabric_allot 0 k)) [] }) ∧
  (∀ resource requester addrs c s, resource < 6 ∧ requester < 16 ∧ addrs.length ≤ 8 →
    (s.m.fab.closures.getD requester []).find? (fun c =>
      c.resource == resource && c.addrs == addrs && decide (c.start + 64 ≤ s.base.cycle)) = some c →
    exec (.closureWatchdog resource requester addrs) s = after s fun v w =>
      let w := (w.fab fun x => { x with closures := x.closures.put requester ((x.closures.getD requester []).erase c) }).count C.closure_broken c.resource
      closureEvent v c.resource requester 0 c.addrs (poisonClosure v c.resource 0 c.addrs w)) ∧
  (∀ lost s, lost ≠ 0 → powered s.m = true →
    exec (.tileAudit lost) s = after s fun v w => faultData v 1 lost w) ∧
  (∀ s,
    exec (.tileAudit 0) s = .next s)

/-- ETH_TX_START drops discardable heads and starts the highest eligible class, preempting what runs, or goes on with
a preempted frame; ETH_TX_COMPLETE ends the transmission: a good frame is sent and counted, a faulty one stomped;
GATE_ENTRY_CHANGE moves to the entry in force; GATE_LIST_ACTIVATED takes the pending list once TB0 reaches its start
and raises 0x0805. -/
def Obligations.EthernetEgressCompletes : Prop :=
  (∀ port t w s, port < 11 → powered s.m = true → takeOpportunity s.base port ⟨s.m, []⟩ = some w →
    portHeld w.m port = false →
    wireFree (settle s.base (w.each (List.range 8) fun q w =>
      discardHeads s.base port q ((queueOf w.m port q).length) w)).m port s.base.now = true →
    exec (.ethTxStart port t) s = after s fun v _ =>
      let w := settle v (w.each (List.range 8) fun q w =>
        discardHeads v port q ((queueOf w.m port q).length) w)
      let w := if holdInForce w.m port v.time.tb0.full then preemptNow v port w else w
      let b := w.base v
      let paused := (w.m.fab.preempted.get? port).isSome || (w.m.fab.tx.get? port).isSome
      noteStart v port (match (List.range 8).reverse.filter (fun q =>
          headEligible w.m v b port q && !(paused && preemptable w.m port q)) with
        | q :: _ => startHead v port q t (preemptNow v port w)
        | [] => if (w.m.fab.tx.get? port).isSome then w else resumeTx v port w)) ∧
  (∀ port t s, port < 11 → powered s.m = true → takeOpportunity s.base port ⟨s.m, []⟩ = none →
    exec (.ethTxStart port t) s = .next s) ∧
  (∀ port x s, port < 11 → s.m.fab.tx.get? port = some x → x.fastLane = false → powered s.m = true →
    x.copy.frame.unfinished = false → (chainOfFrame s.m x.copy.frame.seq).findSome? (badTile s.m.fab) = none →
    exec (.ethTxComplete port .good) s = after s fun v w =>
      let w := creditIdle v port x.tc (chargeTx v port x (w.fab fun y => { y with tx := y.tx.erase port }))
      settle v (dropRef v x.copy.frame.seq (((w.send (.eth port x.bytes)).count C.egress_frames (queueKey port x.tc)).count C.egress_bytes port (x.bytes.length + 4)))) ∧
  (∀ port x t s, port < 11 → s.m.fab.tx.get? port = some x → x.fastLane = false → powered s.m = true →
    (chainOfFrame s.m x.copy.frame.seq).findSome? (badTile s.m.fab) = some t →
    (chainOfFrame s.m x.copy.frame.seq).contains t.tile = true →
    exec (.ethTxComplete port .good) s = after s fun v w =>
      let w := creditIdle v port x.tc (chargeTx v port x (w.fab fun y => { y with tx := y.tx.erase port }))
      settle v (dropRef v x.copy.frame.seq (tileFail v 7 x.copy.frame t (stompTx v port x w)))) ∧
  (∀ port x t s, port < 11 → s.m.fab.tx.get? port = some x → x.fastLane = false → powered s.m = true →
    (chainOfFrame s.m x.copy.frame.seq).contains t.tile = true →
    exec (.ethTxComplete port (.tile t)) s = after s fun v w =>
      let w := creditIdle v port x.tc (chargeTx v port x (w.fab fun y => { y with tx := y.tx.erase port }))
      settle v (dropRef v x.copy.frame.seq (tileFail v 7 x.copy.frame t (stompTx v port x w)))) ∧
  (∀ port x s, port < 11 → s.m.fab.tx.get? port = some x → x.fastLane = false → powered s.m = true →
    x.copy.frame.unfinished = true →
    exec (.ethTxComplete port .underrun) s = after s fun v w =>
      let w := creditIdle v port x.tc (chargeTx v port x (w.fab fun y => { y with tx := y.tx.erase port }))
      settle v (dropRef v x.copy.frame.seq (underrun v port (stompTx v port x w)))) ∧
  (∀ port x s, port < 11 → s.m.fab.tx.get? port = some x → x.fastLane = true → powered s.m = true →
    laneWaits s.m port x.copy.frame.seq = false →
    exec (.ethTxComplete port .good) s = after s fun v w =>
      match macsecSend v port x.bytes (w.fab fun y => { y with tx := y.tx.erase port }) with
      | (w, some bs) => (w.send (.eth port bs)).count C.egress_bytes port (bs.length + 4)
      | (w, none) => w) ∧
  (∀ port s, port < 11 → ((gateOf s.m port).gating = true ∨ (gateOf s.m port).pending.isSome = true) →
    (∀ f u, (gateOf s.m port).frozen = some (f, u) → s.base.time.tb0.full < u) →
    exec (.gateEntryChange port) s = after s fun v w =>
      let t := s.base.time.tb0.full
      let w := w.gate port fun g => { g with entry := (statesAt s.m port t).2, hold := holdInForce s.m port t }
      if holdInForce s.m port t && !(gateOf s.m port).hold then preemptNow v port w else w) ∧
  (∀ port f u s, port < 11 → ((gateOf s.m port).gating = true ∨ (gateOf s.m port).pending.isSome = true) →
    (gateOf s.m port).frozen = some (f, u) → u ≤ s.base.time.tb0.full →
    exec (.gateEntryChange port) s = after s fun v w =>
      let t := s.base.time.tb0.full
      let w := (settleCredit v port w).gate port fun g => { g with frozen := none, since := u, hold0 := g.hold }
      let hold := holdInForce w.m port t
      let w := w.gate port fun g => { g with entry := (statesAt w.m port t).2, hold := hold }
      if hold && !(gateOf s.m port).hold then preemptNow v port w else w) ∧
  (∀ port at_ start s, port < 11 → (gateOf s.m port).pending = some (at_, start) → start ≤ s.base.time.tb0.full →
    exec (.gateListActivated port) s = after s fun v w =>
      let times := gateRow s.m port 512
      let flags := gateRow s.m port 513
      let t := s.base.time.tb0.full
      let w := (settleCredit v port w).gate port fun g => { g with
        gating := true, bank := Ge.bank.get flags, base := Ge.baseMs.get times * 2 ^ 32 + Ge.baseNs.get times
        cycle := Ge.cycle.get times, ext := Ge.ext.get times, length := Ge.length.get flags, pending := none
        changeTime := at_, frozen := none, since := start, hold0 := holdInForce s.m port start, entry := 0 }
      let w := w.tab fun x => x.put 0x0F (gateIndex port 513) (Ge.change.set flags 0)
      let n := (statesAt w.m port t).2
      let w := w.gate port fun g => { g with entry := n, hold := holdInForce w.m port t }
      let w := if (gateOf w.m port).hold && !(gateOf s.m port).hold then preemptNow v port w else w
      w.event v 0x0805 0
        (u8 port ++ u8 (Ge.bank.get flags) ++ u16 (Ge.length.get flags) ++ zeros 4 ++ gateTime at_))

/-- CAN_OBJECT_LOAD fills pool objects of a queue, or drains the backlog and starts pairs; CAN_TX_ATTEMPT_START begins
with the best object; CAN_TX_ATTEMPT_END ends the attempt; COLLISION_HOLD_EXPIRY cancels a held object;
BUS_OFF_RECOVERED resets the counters and raises 0x0A03; RATE_DETECT_TIMEOUT ends the detection; TRAILER_LINE records
a changed line state with 0x0A06. -/
def Obligations.CanTransmissionCompletes : Prop :=
  (∀ ch q t s, ch < 22 → q < 4 →
    exec (.canObjectLoad ch q t) s = after s fun v w => settle v (loadPool v ch q t ((queueOf s.m (canPort ch) q).length) w)) ∧
  (∀ ch t s, ch < 22 →
    exec (.canObjectLoad ch 4 t) s = after s fun v w =>
      (drainBacklog ch w).each (List.range 2) fun n w =>
        if (w.m.borul.pairQueue.find? (fun x => x.1 == n)).any (fun x => x.2.1.ch == ch) then startPair v n w else w) ∧
  (∀ ch n o s, ch < 22 → (canAt s.m ch).attempt = none → laneFirst s.m ch = false →
    startable s.m s.base.now ch = some (n, o) →
    exec (.canTxAttemptStart ch) s = after s fun v w =>
      let w := (dataPhase ch o.fmt o.brs w).can ch fun c => { c with attempt := some (.obj n), sof := txCapture v ch }
      noteSof ch n (txCapture v ch) (stampObj ch n (txCapture v ch).1 (w.obj ch n fun o => { o with st := 2 }))) ∧
  (∀ ch n e s, ch < 22 → (canAt s.m ch).attempt = some (.obj n) →
    exec (.canTxAttemptEnd ch e) s = after s fun v w =>
      settle v (endObj v ch n e (forgetSof ch (.obj n) e (endAttempt v ch (e != .lost) w)))) ∧
  (∀ ch q e s, ch < 22 → (canAt s.m ch).attempt = some (.fast q) → trailing s.m ch e = false →
    exec (.canTxAttemptEnd ch e) s = after s fun v w =>
      endFast v ch q e (endAttempt v ch (e != .lost) w)) ∧
  (∀ ch n s, ch < 22 → n < 96 → (objAt (canAt s.m ch) n).st = 3 →
    (objAt (canAt s.m ch) n).since + prmNs s.m P.can_collision_hold ch + 1200 ≤ s.base.now →
    exec (.collisionHoldExpiry ch n) s = after s fun v w =>
      if n < 64 then releasePool v ch n (w.count C.can_cancel ch) else dropFunction v ch n (w.count C.can_cancel ch)) ∧
  (∀ ch s, ch < 22 → (canAt s.m ch).conf = 2 → (canAt s.m ch).recovering = true →
    portHeldAt s.m s.base.now (canPort ch) = false →
    exec (.busOffRecovered ch) s = after s fun v w =>
      claimOwn v ch (checkSuspension v ch ((w.can ch fun c => { c with conf := 0, recovering := false, tec := 0, rec_ := 0 }).event
        v 0x0A03 0 (u8 (canPort ch) ++ zeros 3 ++ u32 ((s.base.now - (canAt s.m ch).busOffAt) / 1000000))))) ∧
  (∀ ch p n u s, ch < 22 → (canAt s.m ch).detect = some (p, n, u) →
    exec (.rateDetectTimeout ch) s = if u + 1200 ≤ s.base.now then after s fun v w => endDetect v ch 0 w else .next s) ∧
  (∀ ch lines s, 20 ≤ ch → ch < 22 → lines < 8 →
    setFld (canAt s.m ch).transceiver 8 3 lines ≠ (canAt s.m ch).transceiver → powered s.m = true →
    exec (.trailerLine ch lines) s = after s fun v w =>
      (w.can ch fun c => { c with transceiver := setFld (canAt s.m ch).transceiver 8 3 lines }).event v 0x0A06 1
        (u8 (canPort ch) ++ u8 0 ++ u16 (setFld (canAt s.m ch).transceiver 8 3 lines % 65536)))

/-- On a channel of the module: OBJECT_STATUS answers the controller state; OBJECT_CONFIG of an idle expert object
configures or empties it; OBJECT_READ answers its snapshot; OBJECT_ACK of the current sequence clears new data and
lost; OBJECT_SEND loads an idle transmit object; OBJECT_CANCEL cancels a loaded or suspended pool object; OBJECT_RETRY
retries a suspended one; OBJECT_RECOVER starts the recovery of a bus-off channel; OBJECT_RATE_DETECT starts a
detection; OBJECT_COLLISIONS answers the log; LIN schedule tables are written while not running or requested, selected
when there is such a table, and LIN buffers are read. -/
def Obligations.ObjectRequestsAnswer : Prop :=
  (∀ ch r s i, Accepted opObjectStatus r s i → (ch < 22 ∧ leAt r.payload 0 1 = canPort ch) → 4 ≤ r.payload.length →
    exec (.objectStatus r) s = repliedOk opObjectStatus r i s (transceiverStatus s.base ch (entered opObjectStatus r i s)).1
      (let c := canAt s.m ch
       let t := transceiverStatus s.base ch (entered opObjectStatus r i s)
       u32 (controllerState t.1.m ch) ++ u32 c.detectedRate ++ u32 t.2
         ++ u8 (c.objs.filter (fun p => decide (p.1 < 64) && p.2.copy.isSome)).length
         ++ u8 (c.objs.filter (fun p => decide (96 ≤ p.1) && p.2.kind != 0)).length ++ u8 c.ownAddr ++ u8 0
         ++ u16 (busLoad c.load s.base.now) ++ zeros 2)) ∧
  (∀ ch r s i, Accepted opObjectConfig r s i → (ch < 22 ∧ leAt r.payload 0 1 = canPort ch) → 12 ≤ r.payload.length →
    96 ≤ leAt r.payload 1 1 → leAt r.payload 1 1 < 128 → leAt r.payload 2 1 = 0 →
    (objAt (canAt s.m ch) (leAt r.payload 1 1)).st = 0 →
    exec (.objectConfig r) s = repliedOk opObjectConfig r i s (emptyObj ch (leAt r.payload 1 1) (entered opObjectConfig r i s))
      []) ∧
  (∀ ch r s i, Accepted opObjectConfig r s i → (ch < 22 ∧ leAt r.payload 0 1 = canPort ch) → 12 ≤ r.payload.length →
    96 ≤ leAt r.payload 1 1 → leAt r.payload 1 1 < 128 → leAt r.payload 2 1 = 1 ∨ leAt r.payload 2 1 = 2 →
    (objAt (canAt s.m ch) (leAt r.payload 1 1)).st = 0 →
    exec (.objectConfig r) s = repliedOk opObjectConfig r i s ((entered opObjectConfig r i s).obj ch (leAt r.payload 1 1) fun _ => withWord (leAt r.payload 4 4)
        { kind := leAt r.payload 2 1, singleShot := bit (leAt r.payload 3 1) 0, acceptRemote := bit (leAt r.payload 3 1) 1
          mask := fld (leAt r.payload 8 4) 0 30 })
      []) ∧
  (∀ ch r s i, Accepted opObjectRead r s i → (ch < 22 ∧ leAt r.payload 0 1 = canPort ch) → 4 ≤ r.payload.length →
    leAt r.payload 1 1 < 128 →
    exec (.objectRead r) s = repliedOk opObjectRead r i s (entered opObjectRead r i s)
      (objSnapshot s.m ch (leAt r.payload 1 1))) ∧
  (∀ ch r s i, Accepted opObjectAck r s i → (ch < 22 ∧ leAt r.payload 0 1 = canPort ch) → 4 ≤ r.payload.length →
    leAt r.payload 1 1 < 128 → (objAt (canAt s.m ch) (leAt r.payload 1 1)).rxSeq = leAt r.payload 2 2 →
    ((canAt s.m ch).objs.get? (leAt r.payload 1 1)).isSome = true →
    exec (.objectAck r) s = repliedOk opObjectAck r i s ((entered opObjectAck r i s).obj ch (leAt r.payload 1 1) fun o => { o with newData := false, msgLost := false })
      []) ∧
  (∀ ch r s i, Accepted opObjectSend r s i → (ch < 22 ∧ leAt r.payload 0 1 = canPort ch) →
    12 + leAt r.payload 8 1 ≤ r.payload.length → 96 ≤ leAt r.payload 1 1 → leAt r.payload 1 1 < 128 →
    leAt r.payload 8 1 ≤ 64 → canLength (withWord (leAt r.payload 4 4) {}).fdf (leAt r.payload 8 1) = true →
    formatSendable s.m ch (b2n (withWord (leAt r.payload 4 4) {}).ide + 2 * b2n (withWord (leAt r.payload 4 4) {}).fdf) = true →
    (objAt (canAt s.m ch) (leAt r.payload 1 1)).kind = 2 → (objAt (canAt s.m ch) (leAt r.payload 1 1)).st = 0 →
    exec (.objectSend r) s = repliedOk opObjectSend r i s ((entered opObjectSend r i s).can ch fun c =>
        let new := withWord (leAt r.payload 4 4) {}
        { c with
          objs := c.objs.put (leAt r.payload 1 1) { objAt (canAt s.m ch) (leAt r.payload 1 1) with
            id := new.id, ide := new.ide, fdf := new.fdf, brs := new.brs && new.fdf, st := 1, length := leAt r.payload 8 1
            data := slice r.payload 12 (leAt r.payload 8 1), order := c.loads }
          loads := c.loads + 1 })
      []) ∧
  (∀ ch r s i, Accepted opObjectCancel r s i → (ch < 22 ∧ leAt r.payload 0 1 = canPort ch) → 4 ≤ r.payload.length →
    leAt r.payload 1 1 < 64 →
    (objAt (canAt s.m ch) (leAt r.payload 1 1)).st = 1 ∨ (objAt (canAt s.m ch) (leAt r.payload 1 1)).st = 3 →
    exec (.objectCancel r) s = repliedOk opObjectCancel r i s (releasePool s.base ch (leAt r.payload 1 1) ((entered opObjectCancel r i s).count C.can_cancel ch))
      []) ∧
  (∀ ch r s i, Accepted opObjectCancel r s i → (ch < 22 ∧ leAt r.payload 0 1 = canPort ch) → 4 ≤ r.payload.length →
    96 ≤ leAt r.payload 1 1 → leAt r.payload 1 1 < 128 →
    (objAt (canAt s.m ch) (leAt r.payload 1 1)).st = 1 ∨ (objAt (canAt s.m ch) (leAt r.payload 1 1)).st = 3 →
    exec (.objectCancel r) s = repliedOk opObjectCancel r i s ((entered opObjectCancel r i s).obj ch (leAt r.payload 1 1) fun o => { o with st := 0 })
      []) ∧
  (∀ ch r s i, Accepted opObjectRetry r s i → (ch < 22 ∧ leAt r.payload 0 1 = canPort ch) → 4 ≤ r.payload.length →
    96 ≤ leAt r.payload 1 1 → leAt r.payload 1 1 < 128 → (objAt (canAt s.m ch) (leAt r.payload 1 1)).st = 3 →
    exec (.objectRetry r) s = repliedOk opObjectRetry r i s ((entered opObjectRetry r i s).obj ch (leAt r.payload 1 1) fun o => { o with st := 1, collisions := 0 })
      []) ∧
  (∀ ch r s i, Accepted opObjectRecover r s i → (ch < 22 ∧ leAt r.payload 0 1 = canPort ch) → 4 ≤ r.payload.length →
    (canAt s.m ch).conf = 2 → (canAt s.m ch).recovering = false →
    exec (.objectRecover r) s = repliedOk opObjectRecover r i s ((entered opObjectRecover r i s).can ch fun c => { c with recovering := true })
      []) ∧
  (∀ ch r s i, Accepted opObjectRateDetect r s i → (ch < 22 ∧ leAt r.payload 0 1 = canPort ch) →
    4 ≤ r.payload.length → portHeld s.m (canPort ch) = false → onFootRecords s.m = false →
    (canAt s.m ch).detect = none →
    exec (.objectRateDetect r) s = repliedOk opObjectRateDetect r i s ((entered opObjectRateDetect r i s).can ch fun c => { c with
        detect := some (0, 0, s.base.now + prmNs s.m P.can_rate_detect_timeout ch) })
      []) ∧
  (∀ ch r s i, Accepted opObjectCollisions r s i → (ch < 22 ∧ leAt r.payload 0 1 = canPort ch) →
    4 ≤ r.payload.length →
    exec (.objectCollisions r) s = repliedOk opObjectCollisions r i s (entered opObjectCollisions r i s)
      (u16 (canAt s.m ch).colls.length ++ zeros 2
        ++ ((canAt s.m ch).colls.map collBytes).flatten)) ∧
  (∀ n r s i, Accepted opObjectLinScheduleWrite r s i → (n < 8 ∧ leAt r.payload 0 1 = n + 36) → 4 ≤ r.payload.length →
    leAt r.payload 2 2 ≤ 512 → r.payload.length = 4 + 8 * leAt r.payload 2 2 → leAt r.payload 1 1 ≤ 31 →
    entriesUsed (linAt s.m n) - (linTable (linAt s.m n) (leAt r.payload 1 1)).length + leAt r.payload 2 2 ≤ 512 →
    ((List.range (leAt r.payload 2 2)).map (fun k => leMask (leAt r.payload (4 + 8 * k) 8))).all leForm = true →
    ((List.range (leAt r.payload 2 2)).map (fun k => leMask (leAt r.payload (4 + 8 * k) 8))).all leRanges = true →
    ((linAt s.m n).running && (linAt s.m n).active == leAt r.payload 1 1) = false →
    (linAt s.m n).pending ≠ some (leAt r.payload 1 1) →
    exec (.objectLinScheduleWrite r) s = repliedOk opObjectLinScheduleWrite r i s ((entered opObjectLinScheduleWrite r i s).lin n fun l => { l with
        tables := l.tables.set [] (leAt r.payload 1 1) ((List.range (leAt r.payload 2 2)).map (fun k => leMask (leAt r.payload (4 + 8 * k) 8)))
        generation := (l.generation + 1) % 2 ^ 32 })
      (let w := (entered opObjectLinScheduleWrite r i s).lin n fun l => { l with
         tables := l.tables.set [] (leAt r.payload 1 1) ((List.range (leAt r.payload 2 2)).map (fun k => leMask (leAt r.payload (4 + 8 * k) 8)))
         generation := (l.generation + 1) % 2 ^ 32 }
       u16 (entriesUsed (linAt w.m n)) ++ zeros 2)) ∧
  (∀ n r s i w, Accepted opObjectLinScheduleSelect r s i → (n < 8 ∧ leAt r.payload 0 1 = n + 36) →
    4 ≤ r.payload.length → leAt r.payload 1 1 ≤ 31 →
    requestTable n (leAt r.payload 1 1) (entered opObjectLinScheduleSelect r i s) = some w →
    exec (.objectLinScheduleSelect r) s = repliedOk opObjectLinScheduleSelect r i s w
      []) ∧
  (∀ n r s i, Accepted opObjectLinBufferRead r s i → (n < 8 ∧ leAt r.payload 0 1 = n + 36) → 4 ≤ r.payload.length →
    leAt r.payload 1 1 ≤ 63 →
    exec (.objectLinBufferRead r) s = repliedOk opObjectLinBufferRead r i s (entered opObjectLinBufferRead r i s)
      (let b := ((linAt s.m n).bufs.get? (leAt r.payload 1 1)).getD {}
       u8 (leAt r.payload 1 1) ++ u8 b.data.length ++ u8 (b2n (linUpdated s.m n (leAt r.payload 1 1) s.base.now)) ++ u8 0 ++ (b.data ++ zeros 8).take 8 ++ u32 b.ts))

/-- ADDRESS_CLAIM_CONFIRM makes the claim hold 250 ms after its frame; CANNOT_CLAIM_SEND at its time gives up the
address, sends the claim of 254 and raises 0x0A09; LIN_SLOT_START begins the next entry of the running schedule when
its slot is due; LIN_RESPONSE_RECEIVE of an awaited whole response is a good response, a wrong one an error;
LIN_RESPONSE_TIMEOUT counts a missing response and raises 0x0A07 at the limit. -/
def Obligations.ClaimAndLinEventsComplete : Prop :=
  (∀ ch t s, ch < 22 → (canAt s.m ch).claimSof = some t → (canAt s.m ch).ownAddr ≤ 253 →
    (canAt s.m ch).claimed = false → t + 250000000 + 1200 ≤ s.base.now →
    contestOnTheWay s.m s.base ch (t + 250000000) = false →
    exec (.addressClaimConfirm ch) s = after s fun _ w => w.can ch fun c => { c with claimed := true }) ∧
  (∀ ch lost u s, ch < 22 → (canAt s.m ch).cannot = some (lost, u) → u + 1200 ≤ s.base.now →
    ownClaimReady s.m ch = true →
    exec (.cannotClaimSend ch) s = after s fun v w =>
      let name := prm s.m P.can_own_name ch
      let w := w.can ch fun c => { c with ownAddr := 254, cannot := none }
      let w := match findName w.m ch name with
        | some k => w.name k fun e => { e with address := 254, claimed := false }
        | none => w
      (sendClaim ch 254 w).event v 0x0A09 1 (u8 (canPort ch) ++ u8 254 ++ u8 lost ++ u8 0 ++ u64 name)) ∧
  (∀ n e s, n < 8 → linRuns s.m n = true →
    ((linAt s.m n).running = true → (linAt s.m n).slotEnd ≤ s.base.now ∧ (linAt s.m n).await = none ∧ (linAt s.m n).busyUntil ≤ s.base.now) →
    (linTable (linAt (nextEntry s.base n ⟨s.m, []⟩).m n) (linAt (nextEntry s.base n ⟨s.m, []⟩).m n).active)[(linAt (nextEntry s.base n ⟨s.m, []⟩).m n).entry]? = some e →
    exec (.linSlotStart n) s = after s fun v w =>
      let late := if (linAt s.m n).running then s.base.now - (linAt s.m n).slotEnd else 0
      runEntry v n e ((nextEntry v n w).lin n fun l => { l with
        overrun := false, headerDelay := max l.headerDelay (late / 1000)
        slotEnd := s.base.now + Le.slotTime.get e * 100000 })) ∧
  (∀ n s, n < 8 → linRuns s.m n = true →
    ((linAt s.m n).running = true → (linAt s.m n).slotEnd ≤ s.base.now ∧ (linAt s.m n).await = none ∧ (linAt s.m n).busyUntil ≤ s.base.now) →
    (linTable (linAt (nextEntry s.base n ⟨s.m, []⟩).m n) (linAt (nextEntry s.base n ⟨s.m, []⟩).m n).active)[(linAt (nextEntry s.base n ⟨s.m, []⟩).m n).entry]? = none →
    exec (.linSlotStart n) s = after s fun v w => (nextEntry v n w).lin n fun l => { l with slotEnd := s.base.now }) ∧
  (∀ n s, n < 8 → linRuns s.m n = true → (linAt s.m n).running = true → (linAt s.m n).slotEnd ≤ s.base.now →
    ((linAt s.m n).await.isSome || decide (s.base.now < (linAt s.m n).busyUntil)) = true →
    (linAt s.m n).overrun = false →
    exec (.linSlotStart n) s = after s fun _ w => (w.lin n fun l => { l with overrun := true }).count C.lin_slot_overrun n) ∧
  (∀ n data id len event u s, n < 8 → (linAt s.m n).await = some (id, len, event, u) → s.base.now ≤ u →
    data.length = len →
    exec (.linResponseReceive n data .good) s = after s fun v w => linGood v n id data (w.lin n fun l =>
        { l with await := none, load := addLoad l.load l.breakTb2 v.now })) ∧
  (∀ n data e id len u s, n < 8 → (linAt s.m n).await = some (id, len, false, u) → s.base.now ≤ u → e ≠ .good →
    exec (.linResponseReceive n data e) s = after s fun v w => linError v n id e (w.lin n fun l =>
        { l with await := none, load := addLoad l.load l.breakTb2 v.now })) ∧
  (∀ n id len event u s, n < 8 → (linAt s.m n).await = some (id, len, event, u) → u < s.base.now →
    exec (.linResponseTimeout n) s = after s fun v w =>
      let k := (linAt s.m n).fails.getD id 0 + 1
      let w := (w.lin n fun l => { l with await := none, fails := l.fails.put id k, lastError := 1 + id * 256, load := (addLoad l.load l.breakTb2
        (l.breakTb2 + linHeaderTime w.m n)) }).count
        C.lin_no_response n
      if k == prm w.m P.lin_no_response_limit n then w.event v 0x0A07 1 (u8 (n + 36) ++ u8 id ++ zeros 2 ++ u32 k) else w)

/-- JUNCTION_PROCESS takes the oldest copy: it is counted as unmapped, or handled by its map, and released;
PDU_TIMEOUT fires once the deadline passes; TEMPLATE_GRID_SEND sends at its grid time and TEMPLATE_DEFERRED_SEND once
the gap is over; TUNNEL_FLUSH sends an open tunnel frame; POSTED_WRITE_FAIL drops a write that its target, a LIN
controller, a power die or the journal, has not answered in time and raises 0x0905. -/
def Obligations.JunctionEventsComplete : Prop :=
  (∀ t bad c rest s, s.m.fab.i1 = c :: rest → heldAllAt s.m s.base.now = false → powered s.m = true →
    junctionRuns s.m s.base.now = true → heldForDeadline s.m s.base c.frame = false →
    readFault (corrected c.frame t (W.fab ⟨s.m, []⟩ fun x => { x with i1 := rest })).m c.frame t = none →
    exec (.junctionProcess t bad) s = after s fun v w =>
      let w := touch v ((mapSlots (junctionKey s.m c.frame)).map (entryKey 0x0E))
        (corrected c.frame t (w.fab fun x => { x with i1 := rest }))
      settle v (dropRef v c.frame.seq (match findMap w.m (junctionKey s.m c.frame) with
        | none => w.count C.junction_no_map c.frame.port
        | some k => matchedCopy v k c.frame bad w))) ∧
  (∀ k d s, k < 4096 → (mapState s.m k).deadline = some d → (mapState s.m k).timedOut = false →
    mapValid s.m k = true → fullService s.m = true → d + 1200 ≤ s.base.now → earlierMatch s.m s.base k d = false →
    exec (.pduTimeout k) s = after s fun v w => fireTimeout v k d w) ∧
  (∀ t s, isTpl t = true → tplValid s.m t = true → (Tp.mode.get (tplGet s.m t) = 1 ∨ Tp.mode.get (tplGet s.m t) = 2) →
    Tp.period.get (tplGet s.m t) ≠ 0 →
    (tplState s.m t).start + Tp.phase.get (tplGet s.m t) * 1000000 + (tplState s.m t).grid * (Tp.period.get (tplGet s.m t) * 1000) ≤ s.base.now →
    junctionRuns s.m s.base.now = true →
    exec (.templateGridSend t) s = after s fun v w => sendTpl v t (w.tpl t fun x => { x with
      grid := (s.base.now - ((tplState s.m t).start + Tp.phase.get (tplGet s.m t) * 1000000))
        / (Tp.period.get (tplGet s.m t) * 1000) + 1
      pending := false })) ∧
  (∀ t s, isTpl t = true → (tplState s.m t).pending = true →
    (match gapEnd s.m t with | some g => decide (g ≤ s.base.now) | none => true) = true →
    junctionRuns s.m s.base.now = true → tplValid s.m t = true → powered s.m = true →
    exec (.templateDeferredSend t) s = after s fun v w => sendTpl v t (w.tpl t fun x => { x with pending := false })) ∧
  (∀ k s, k < 16 → (tunnelAt s.m k).open_ ≠ [] →
    (tunnelAt s.m k).first + prmNs s.m P.junction_tunnel_flush_time 0 k ≤ s.base.now →
    junctionRuns s.m s.base.now = true →
    exec (.tunnelFlush k) s = after s fun v w => sendTunnel v k w) ∧
  (∀ target inst id s, target < 3 →
    s.m.jn.posted.any (fun p => p.target == target && p.inst == inst && p.id == id && p.failed s.base.now) = true →
    exec (.postedWriteFail ⟨target, inst, id⟩) s = after s fun v w =>
      ((w.jn fun x => { x with posted := x.posted.filter (fun p =>
        !(p.target == target && p.inst == inst && p.id == id && p.failed s.base.now)) }).count C.junction_post_fail).event v
        0x0905 2 (u8 target ++ u8 inst ++ zeros 2 ++ u32 id))

/-- JUNCTION_STATUS, MAP_STATUS, TEMPLATE_READ, SIGNAL_READ and GROUP_READ answer from the engine state; SIGNAL_WRITE
of a valid route to a template stores the limited value, writes it into the template and reports the update;
TEMPLATE_SEND sends and TEMPLATE_RESTORE writes the initial image back. -/
def Obligations.JunctionRequestsAnswer : Prop :=
  (∀ r s i, Accepted opJunctionStatus r s i →
    exec (.junctionStatus r) s = repliedOk opJunctionStatus r i s (entered opJunctionStatus r i s)
      (u16 s.m.fab.i1.length ++ u16 (s.m.jn.maps.filter (fun p => p.2.timedOut)).length
        ++ u16 (s.m.jn.groups.filter (fun p => p.2.st == 1)).length ++ zeros 2
        ++ u32 (junctionOps s.base 0 (entered opJunctionStatus r i s)).m.jn.opsLast)) ∧
  (∀ r s i, Accepted opJunctionMapStatus r s i → 4 ≤ r.payload.length → 1 ≤ leAt r.payload 2 2 →
    leAt r.payload 2 2 ≤ 250 → leAt r.payload 0 2 + leAt r.payload 2 2 ≤ 4096 →
    exec (.junctionMapStatus r) s = repliedOk opJunctionMapStatus r i s (entered opJunctionMapStatus r i s)
      (u16 (leAt r.payload 2 2) ++ zeros 2
        ++ (List.range (leAt r.payload 2 2)).flatMap (fun k => mapBytes s.m (leAt r.payload 0 2 + k)))) ∧
  (∀ r s i, Accepted opJunctionGroupRead r s i → 4 ≤ r.payload.length → 1 ≤ leAt r.payload 2 2 →
    leAt r.payload 2 2 ≤ 500 → leAt r.payload 0 2 + leAt r.payload 2 2 ≤ 1024 →
    exec (.junctionGroupRead r) s = repliedOk opJunctionGroupRead r i s (entered opJunctionGroupRead r i s)
      (u16 (leAt r.payload 2 2) ++ zeros 2
        ++ (List.range (leAt r.payload 2 2)).flatMap (fun k => groupBytes s.m (leAt r.payload 0 2 + k)))) ∧
  (∀ r s i, Accepted opJunctionTemplateRead r s i → 4 ≤ r.payload.length → leAt r.payload 0 2 < 8192 →
    tplValid s.m (leAt r.payload 0 2) = true →
    exec (.junctionTemplateRead r) s = repliedOk opJunctionTemplateRead r i s (entered opJunctionTemplateRead r i s)
      (let x := tplState s.m (leAt r.payload 0 2)
       leBytes 80 (tplGet s.m (leAt r.payload 0 2)) ++ (x.initial ++ zeros 64).take 64 ++ u32 (x.lastSend.getD 0)
         ++ u16 (x.lastSend.getD 0 / 2 ^ 32) ++ u8 (b2n x.pending) ++ u8 0)) ∧
  (∀ r s i, Accepted opJunctionTemplateSend r s i → 4 ≤ r.payload.length → leAt r.payload 0 2 < 8192 →
    tplValid s.m (leAt r.payload 0 2) = true → junctionRuns s.m s.base.now = true →
    exec (.junctionTemplateSend r) s = repliedOk opJunctionTemplateSend r i s (sendTpl s.base (leAt r.payload 0 2) (entered opJunctionTemplateSend r i s))
      []) ∧
  (∀ r s i, Accepted opJunctionTemplateRestore r s i → 4 ≤ r.payload.length → leAt r.payload 0 2 < 8192 →
    tplValid s.m (leAt r.payload 0 2) = true →
    exec (.junctionTemplateRestore r) s = repliedOk opJunctionTemplateRestore r i s (setImage (leAt r.payload 0 2) (initialImage s.m (leAt r.payload 0 2)) (entered opJunctionTemplateRestore r i s))
      []) ∧
  (∀ r s i, Accepted opJunctionSignalRead r s i → 4 ≤ r.payload.length → baseRoute s.m (leAt r.payload 0 2) = true →
    exec (.junctionSignalRead r) s = repliedOk opJunctionSignalRead r i s (entered opJunctionSignalRead r i s)
      (let x := sigState s.m (leAt r.payload 0 2)
       let g := Sr.groupEn.on (routeGet s.m (leAt r.payload 0 2)) && (sigGroup s.m (Sr.group.get (routeGet s.m (leAt r.payload 0 2)))).st == 1
       s64 x.value ++ u8 (b2n x.valid + 2 * b2n x.saturated + 4 * b2n x.substituted + 8 * b2n g) ++ zeros 3 ++ u32 x.update)) ∧
  (∀ r s i, Accepted opJunctionSignalWrite r s i → 12 ≤ r.payload.length → baseRoute s.m (leAt r.payload 0 2) = true →
    Sr.destKind.get (routeGet s.m (leAt r.payload 0 2)) = 0 →
    exec (.junctionSignalWrite r) s = repliedOk opJunctionSignalWrite r i s (let x := routeGet s.m (leAt r.payload 0 2)
        let y := limitTo x (signed 64 (leAt r.payload 4 8))
        let t := writeTpl s.base x (twos (dstLength x) y.1) ((entered opJunctionSignalWrite r i s).sig (leAt r.payload 0 2) fun _ =>
          { value := y.1, valid := true, saturated := y.2, update := s.base.time.tb2.n.toNat })
        updated s.base (Sr.destIndex.get x) t.2 t.1)
      [])

/-- LINK_CHANGE brings a powered port up or down and checks its shapers; PLCA_BEACON_LOSS and its return are recorded
with 0x0B05; MKA_LIFE_TIMEOUT removes the peers; TC10_SLEEP_REQUEST is accepted when allowed and the port is empty,
else rejected; TC10_WAKE wakes a sleeping PHY and latches the source; PREEMPTION_VERIFICATION records the result with
0x0808; MKA_HELLO settles every port. -/
def Obligations.EthernetLinkEventsComplete : Prop :=
  (∀ port rate master sqi s, port < 11 → sqi < 8 → rateCode rate ≠ 0 → ethPowered s.m port = true →
    prm s.m P.eth_phy_mode port ≠ 0 → (ethAt s.m port).sleeping = false → powered s.m = true →
    (ethAt s.m port).up = false → portAsleep s.m port = false → trains s.m port rate master = true →
    exec (.linkChange port true rate master sqi) s = after s fun v w =>
      judgeStatic v ([port].filter (· < 10)) (checkShapers v port (linkTo v port true rate master sqi w))) ∧
  (∀ port rate master sqi s, port < 11 → sqi < 8 → rateCode rate ≠ 0 → ethPowered s.m port = true →
    prm s.m P.eth_phy_mode port ≠ 0 → (ethAt s.m port).sleeping = false → powered s.m = true →
    (ethAt s.m port).up = true → portAsleep s.m port = false → trains s.m port rate master = true →
    exec (.linkChange port true rate master sqi) s = after s fun _ w => w.eth port fun e => { e with sqi := sqi }) ∧
  (∀ port rate master sqi s, port < 11 → sqi < 8 → powered s.m = true → (ethAt s.m port).up = true →
    exec (.linkChange port false rate master sqi) s = after s fun v w => linkTo v port false rate master sqi w) ∧
  (∀ port s, (port = 8 ∨ port = 9) → prmB s.m P.eth_plca_enable port = true → prm s.m P.eth_plca_node_id port ≠ 0 →
    powered s.m = true → (ethAt s.m port).beaconLost = false →
    exec (.plcaBeaconLoss port false) s = after s fun v w =>
      ((w.eth port fun e => { e with beacons := false, beaconLost := true }).count C.plca_beacon_loss port).event v 0x0B05 1 (u8 port ++ u8 0 ++ zeros 2)) ∧
  (∀ port s, (port = 8 ∨ port = 9) → prmB s.m P.eth_plca_enable port = true → prm s.m P.eth_plca_node_id port ≠ 0 →
    powered s.m = true → (ethAt s.m port).beaconLost = true →
    exec (.plcaBeaconLoss port true) s = after s fun v w =>
      (w.eth port fun e => { e with beacons := true, beaconLost := false }).event v 0x0B05 0 (u8 port ++ u8 1 ++ zeros 2)) ∧
  (∀ port s, (port = 8 ∨ port = 9) → prmB s.m P.eth_plca_enable port = true → prm s.m P.eth_plca_node_id port ≠ 0 →
    powered s.m = true → (ethAt s.m port).beaconLost = false →
    exec (.plcaBeaconLoss port true) s = after s fun _ w => w.eth port fun e => { e with beacons := true }) ∧
  (∀ port s, port < 8 → prmB s.m P.eth_macsec_enable port = true → managed s.m = true →
    exec (.mkaLifeTimeout port) s = after s fun v w => macsecState v port 3 (w.eth port fun e => { e with peers := 0 })) ∧
  (∀ port s, port < 8 → tc10Port s.m port = true → (ethAt s.m port).up = true → (ethAt s.m port).sleeping = false →
    powered s.m = true → prmB s.m P.eth_tc10_sleep_accept port = true → egressEmpty s.m port = true →
    exec (.tc10SleepRequest port) s = after s fun v w => tc10State v port 1 (w.eth port fun e => { e with sleeping := true })) ∧
  (∀ port s, port < 8 → tc10Port s.m port = true → (ethAt s.m port).up = true → (ethAt s.m port).sleeping = false →
    powered s.m = true → (prmB s.m P.eth_tc10_sleep_accept port = false ∨ egressEmpty s.m port = false) →
    exec (.tc10SleepRequest port) s = after s fun v w => tc10State v port 3 w) ∧
  (∀ port ticks s, port < 8 → tc10Port s.m port = true → s.m.mod.state ≠ .sleep → (ethAt s.m port).sleeping = true →
    exec (.tc10Wake port ticks) s = after s fun v w =>
      let w := tc10State v port 2 (w.eth port fun e => { e with sleeping := false })
      latchSources v [{ code := 5, inst := port }] ticks (if (ethAt w.m port).up then linkTo v port false 0 false 0 w else w)) ∧
  (∀ port ticks s, port < 8 → tc10Port s.m port = true → s.m.mod.state = .sleep →
    exec (.tc10Wake port ticks) s = after s fun v w => latchSources v [{ code := 5, inst := port }] ticks w) ∧
  (∀ port status s, port < 8 → 1 ≤ status → status ≤ 4 → Ge.preEnable.on (gateRow s.m port 516) = true →
    Ge.verifyOff.on (gateRow s.m port 516) = false → (ethAt s.m port).up = true → (gateOf s.m port).verify ≠ status →
    exec (.preemptionVerification port status) s = after s fun v w =>
      (w.gate port fun g => { g with verify := status, active := status == 3 }).event v 0x0808 (if status == 4 then 1 else 0)
        (u8 port ++ u8 status ++ u8 (b2n (status == 3)) ++ u8 0)) ∧
  (∀ l s, l.all (fun x => decide (x.port < 8)) = true → managed s.m = true → fullService s.m = true →
    exec (.mkaHello l) s = after s fun v w => w.each (List.range 8) fun p w => mkaPort v l p w)

/-- DOIP_ACTIVATION_CHANGE records the debounced input, opens or drops the service and raises 0x0B06;
DOIP_DEACTIVATION closes after the delay; while DoIP is served, announcements, identification, entity status, power
mode and alive check requests are answered; ROUTING_ACTIVATION_REQUEST answers the code and registers the tester when
routed, or counts the refusal and raises 0x0B07; DIAGNOSTIC_MESSAGE that is not refused goes to its targets and is
acknowledged, and a refused one gets its negative acknowledgement; inactive and closed connections are closed. -/
def Obligations.DoipEventsComplete : Prop :=
  (∀ x s, debounced false (prm s.m P.io_doip_act_debounce) x = some true → bit s.m.io.din 12 = false →
    s.m.mod.state ≠ .off → (s.m.mod.state ≠ .sleep) → powered s.m = true →
    exec (.doipActivationChange x) s = after s fun v w =>
      let w := w.io fun x => { x with din := setFld x.din 12 1 1 }
      let w := openService v (if fullService w.m then startDoip v w else w.doip fun d => { d with deassertedAt := none })
      inputChanged v s.m (w.event v 0x0B06 0 (u8 1 ++ zeros 3 ++ u32 (doipAddress w.m)))) ∧
  (∀ x s, debounced false (prm s.m P.io_doip_act_debounce) x = some false → bit s.m.io.din 12 = true →
    s.m.mod.state ≠ .off → (s.m.mod.state ≠ .sleep) → powered s.m = true →
    exec (.doipActivationChange x) s = after s fun v w =>
      let w := w.io fun x => { x with din := setFld x.din 12 1 0 }
      let w := dropLinks v (w.doip fun d => { d with deassertedAt := if d.active then some v.now else none })
      inputChanged v s.m (w.event v 0x0B06 0 (u8 0 ++ zeros 3 ++ u32 (doipAddress w.m)))) ∧
  (∀ t s, s.m.doip.deassertedAt = some t → prm s.m P.eth_doip_activation_mode 10 ≠ 1 →
    t + prmNs s.m P.eth_doip_deactivation_delay 10 + 1200 ≤ s.base.now →
    exec .doipDeactivation s = after s fun v w =>
      dropLinks v ((closeDoip (fun _ => true) w).doip fun d => { d with active := false, deassertedAt := none })) ∧
  (∀ s, doipServed s.m = true → s.m.doip.announced < announceNum →
    exec .vehicleAnnouncement s = after s fun _ w =>
      (w.send (.doipUdp (doipMsg 0x0004 (announcement s.m)))).doip fun d => { d with announced := d.announced + 1 }) ∧
  (∀ type payload s, doipServed s.m = true →
    (type = 1 ∨ type = 2 ∧ payload = eidBytes s.m ∨ type = 3 ∧ payload = vinBytes s.m) →
    exec (.vehicleIdentificationRequest type payload) s = after s fun _ w => w.send (.doipUdp (doipMsg 0x0004 (announcement s.m)))) ∧
  (∀ s, doipServed s.m = true →
    exec .entityStatusRequest s = after s fun _ w => w.send (.doipUdp (doipMsg 0x4002 (u8 0 ++ u8 doipChannels
      ++ u8 (s.m.doip.conns.map DoipConn.conn).eraseDups.length ++ beBytes 4 (prm s.m P.eth_doip_max_message 10))))) ∧
  (∀ s, doipServed s.m = true →
    exec .powerModeRequest s = after s fun _ w => w.send (.doipUdp (doipMsg 0x4004 (u8 (b2n (s.m.mod.state == .run)))))) ∧
  (∀ conn s, doipServed s.m = true →
    exec (.aliveCheckRequest conn) s = after s fun v w => (touchConn v conn w).send
      (.doip conn (doipMsg 0x0008 (beBytes 2 (prm s.m P.eth_doip_logical_address 10))))) ∧
  (∀ conn sa type s, doipServed s.m = true → sa < 65536 → routingCode s.m conn sa type = 0x10 →
    exec (.routingActivationRequest conn sa type) s = after s fun v w =>
      ((touchConn v conn w).send (.doip conn (doipMsg 0x0006 (beBytes 2 sa
        ++ beBytes 2 (prm s.m P.eth_doip_logical_address 10) ++ u8 0x10 ++ zeros 4)))).doip fun d => { d with
          conns := if d.conns.any (fun c => c.conn == conn && c.tester == sa) then d.conns
            else d.conns ++ [⟨conn, sa, s.base.now⟩] }) ∧
  (∀ conn sa type s, doipServed s.m = true → sa < 65536 → routingCode s.m conn sa type ≠ 0x10 →
    exec (.routingActivationRequest conn sa type) s = after s fun v w =>
      let code := routingCode s.m conn sa type
      let w := ((touchConn v conn w).send (.doip conn (doipMsg 0x0006 (beBytes 2 sa
        ++ beBytes 2 (prm s.m P.eth_doip_logical_address 10) ++ u8 code ++ zeros 4)))).count C.doip_routing_refused 10
      w.event v 0x0B07 1 (u8 code ++ u8 0 ++ u16 sa ++ u8 w.m.doip.conns.length ++ zeros 3)) ∧
  (∀ conn sa ta data code s, doipServed s.m = true → sa < 65536 → ta < 65536 →
    diagRefused (touchConn s.base conn ⟨s.m, []⟩).m conn sa ta data.length = some code →
    exec (.diagnosticMessage conn sa ta data) s = after s fun v w => doipNack conn ta sa code (touchConn v conn w)) ∧
  (∀ conn sa ta data s, doipServed s.m = true → sa < 65536 → ta < 65536 →
    diagRefused (touchConn s.base conn ⟨s.m, []⟩).m conn sa ta data.length = none →
    exec (.diagnosticMessage conn sa ta data) s = after s fun v w =>
      let w := touchConn v conn w
      let l := (diagTargets w.m sa ta).filter (fun x => canSends w.m x.1)
      ((w.each l fun x w => startTp v (.diag conn) x.1 (diagFmt w.m x.1) x.2.1 x.2.2 data w).send
        (.doip conn (doipMsg 0x8002 (beBytes 2 ta ++ beBytes 2 sa ++ u8 0)))).count C.doip_messages 10) ∧
  (∀ s,
    exec .doipInactivityTimeout s = after s fun v w =>
      closeDoip (fun c => v.expired (c.last + prmNs s.m P.eth_doip_inactivity_timeout 10)) w) ∧
  (∀ conn s,
    exec (.doipConnectionClose conn) s = after s fun _ w => closeDoip (fun c => c.conn == conn) w)

/-- MILESTONE_WRAP lets all time bases advance by the edges up to the carry of one; SYNC_RECEIVE on a slave port feeds
the servo or domain B and is relayed; GPTP_SYNC_SEND sends in grandmaster mode; GPTP_PDELAY_EXCHANGE records the
delay; SYNC_RECEIPT_TIMEOUT enters holdover; HOLDOVER_LIMIT makes TB1 unsynchronized and lets TB0 fail over to TB1 or
the nominal rate as configured; TB3_CHECKPOINT stores; TIME_SLEW_END restores the rate; TIME_BASE_PARITY_ERROR is a
data-plane fault. -/
def Obligations.TimeEventsComplete : Prop :=
  (∀ tb s, tb < 4 → clockRuns s.m = true →
    exec (.milestoneWrap tb) s = after s fun _ w => w.eff (.edges (s.base.time.get tb).toWrap)) ∧
  (∀ g s, g.port < 10 → gptpRunning s.m = true → gptpRole s.m g.port = 2 → asCapable s.m g.port = true →
    g.domain = 0 → prm s.m P.time_tb0_mode ≠ 2 →
    exec (.syncReceive g) s = after s fun v w =>
      let l := moved v.now (rxAdjust s.m g.port)
      let master := g.master + (linkDelay s.m g.port).getD 0
      let w := (w.count C.gptp_sync_rx g.port).tc fun t => { t with
        ports := t.ports.put g.port { gptpPort s.m g.port with lastSync := l % 2 ^ 32 } }
      let w := noteGm v false 0 g.gm w
      let w := if prm w.m P.time_tb0_mode == 1
        then servoSample v 0 ((v.time.tb0.full : Int) + rxAdjust s.m g.port - master) master l w else w
      relaySync v 0 l master (g.rate + (gptpPort w.m g.port).ratioPpb) w) ∧
  (∀ g s, g.port < 10 → gptpRunning s.m = true → gptpRole s.m g.port = 2 → asCapable s.m g.port = true →
    g.domain = 0 → prm s.m P.time_tb0_mode = 2 →
    exec (.syncReceive g) s = after s fun v w => (w.count C.gptp_sync_rx g.port).tc fun t => { t with
      ports := t.ports.put g.port { gptpPort s.m g.port with lastSync := moved v.now (rxAdjust s.m g.port) % 2 ^ 32 } }) ∧
  (∀ g s, g.port < 10 → gptpRunning s.m = true → gptpRole s.m g.port = 2 → asCapable s.m g.port = true →
    g.domain ≠ 0 → g.domain = prm s.m P.time_gptp_domain_b →
    exec (.syncReceive g) s = after s fun v w =>
      let master := g.master + (linkDelay s.m g.port).getD 0
      let w := noteGm v true g.domain g.gm (w.count C.gptp_sync_rx g.port)
      relaySync v g.domain (moved v.now (rxAdjust s.m g.port)) master (g.rate + (gptpPort w.m g.port).ratioPpb) (w.tc fun t => { t with
        offsetB := satS 32 ((v.time.tb0.full : Int) + rxAdjust s.m g.port - master) })) ∧
  (∀ s, gptpRunning s.m = true → prm s.m P.time_tb0_mode = 2 →
    exec .gptpSyncSend s = after s fun v w => sendSync 0 (clockQuality s.m) (fun p w =>
      let c := gptpCapture v w p 0
      (w, c.1, c)) w) ∧
  (∀ port answer s, port < 10 → gptpRunning s.m = true → gptpRole s.m port ≠ 0 → (ethAt s.m port).up = true →
    prm s.m P.time_gptp_pdelay_mode ≠ 1 →
    exec (.gptpPdelayExchange port answer) s = after s fun v w =>
      let old := gptpPort s.m port
      let blocked := gptpBlocked s.m port
      let w := if blocked then w else (w.send (.gptp port 0 1 (gptpCapture v w port 0).1 (gptpCapture v w port 0))).count C.gptp_pdelay_tx port
      let cause : Option Nat := if blocked then some 1 else match answer with
        | none => some 2
        | some a => if prm s.m P.time_gptp_pdelay_thresh < a.1 then some 0 else none
      judgePort v port cause (match answer with | some a => a.1 | none => 0) (w.tc fun t => { t with
        ports := t.ports.put port { old with
          delay := if blocked then none else answer.map Prod.fst
          ratioPpb := match answer with
            | some a => if blocked then old.ratioPpb else satS 32 a.2
            | none => old.ratioPpb } })) ∧
  (∀ tb o l s, tb < 2 → managed s.m = true → fullService s.m = true → servoActive s.m tb = true →
    (servoOf s.m tb).st = 2 → (servoOf s.m tb).prev = some (o, l) →
    exec (.syncReceiptTimeout tb) s = if l + syncTimeoutNs s.m + 1200 ≤ s.base.now then after s fun v w => enterHoldover v tb w else .next s) ∧
  (∀ s, (servoOf s.m 1).st = 3 → managed s.m = true → fullService s.m = true →
    (servoOf s.m 1).heldAt + prmNs s.m P.time_holdover_limit + 1200 ≤ s.base.now →
    exec (.holdoverLimit 1) s = after s fun v w => setTbState v 1 0 (w.servo 1 fun x => { x with prev := none })) ∧
  (∀ s, (servoOf s.m 0).st = 3 → managed s.m = true → fullService s.m = true →
    (servoOf s.m 0).heldAt + prmNs s.m P.time_holdover_limit + 1200 ≤ s.base.now → prm s.m P.time_tb0_failover = 2 →
    exec (.holdoverLimit 0) s = after s fun v w => setIncr 0 nominalIncr (setTbState v 0 4 w)) ∧
  (∀ s, (servoOf s.m 0).st = 3 → managed s.m = true → fullService s.m = true →
    (servoOf s.m 0).heldAt + prmNs s.m P.time_holdover_limit + 1200 ≤ s.base.now → prm s.m P.time_tb0_failover ≠ 1 →
    prm s.m P.time_tb0_failover ≠ 2 →
    exec (.holdoverLimit 0) s = after s fun v w => setTbState v 0 4 w) ∧
  (∀ s, (servoOf s.m 0).st = 3 → managed s.m = true → fullService s.m = true →
    (servoOf s.m 0).heldAt + prmNs s.m P.time_holdover_limit + 1200 ≤ s.base.now → prm s.m P.time_tb0_failover = 1 →
    prm s.m P.time_tb1_mode = 2 → s.m.tc.s1.st = 2 →
    exec (.holdoverLimit 0) s = after s fun v w =>
      let w := setTbState v 0 4 w
      let b := w.base v
      let w := stepTb v 0 ((b.time.tb1.full : Int) + (servoOf s.m 0).heldOffset - b.time.tb0.full) 2 w
      (setIncr 0 b.time.tb1.incr.toNat w).servo 0 fun x => { x with follow := true }) ∧
  (∀ s, s.m.mod.state ≠ .off → s.m.mod.state ≠ .sleep →
    exec .tb3Checkpoint s = after s fun v w => takeCheckpoint v w) ∧
  (∀ tb rate u s, tb < 2 → (servoOf s.m tb).slew = some (rate, u) → u + 1200 ≤ s.base.now → managed s.m = true →
    exec (.timeSlewEnd tb) s = after s fun _ w => (setIncr tb rate w).servo tb fun x => { x with slew := none }) ∧
  (∀ tb s, tb < 4 →
    exec (.timeBaseParityError tb) s = after s fun v w => faultData v 2 tb w)

/-- CTS_SYNC_SEND on a master channel with its object free loads the next SYNC; CTS_FUP_SEND after the SYNC's capture
sends the follow-up with its CMAC; CTS_SYNC_CANCEL gives up a SYNC that was not sent in time; CTS_PAIR_RECEIVE of a
valid newer pair feeds the TB1 servo; CTS_FUP_TIMEOUT drops a SYNC with no follow-up. -/
def Obligations.CtsEventsComplete : Prop :=
  (∀ ch s, ch < 22 → ctsMaster s.m ch = true → (canAt s.m ch).objs.get? 71 = none →
    exec (.ctsSyncSend ch) s = after s fun v w =>
      let seq := (s.m.tc.ctsSeq.getD ch 15 + 1) % 16
      let sec := v.time.tb1.full / nanosPerS
      let bs := syncBytes s.m seq (sec % 2 ^ 32)
      let p : CtsPair := { seq := seq, seconds := sec, sync := bs, at_ := v.now }
      sendFrom ch 71 71 (funcObj (prmB s.m P.time_cts_ide) false false (prm s.m P.time_cts_sync_id) bs)
        (w.tc fun x => { x with ctsSeq := x.ctsSeq.put ch seq, ctsTx := x.ctsTx.put ch p })) ∧
  (∀ ch p t w1 c s, ch < 22 → s.m.tc.ctsTx.get? ch = some p → p.sof = some t →
    ((canAt s.m ch).attempt == some (.obj 71)) = false → ctsMaster s.m ch = true →
    fupCmac s.base p.sync (u8 (0x20 + p.seq) ++ beBytes 4 (t - p.seconds * nanosPerS)) (if prm s.m P.time_cts_fup_format == 1 then 8 else 3)
      (W.tc ⟨s.m, []⟩ fun x => { x with ctsTx := x.ctsTx.erase ch }) = (w1, some c) →
    exec (.ctsFupSend ch) s = .next (commit s
      (let long := prm s.m P.time_cts_fup_format == 1
       let bs := u8 (0x20 + p.seq) ++ beBytes 4 (t - p.seconds * nanosPerS) ++ (if long then zeros 3 else []) ++ c
       let w := (w1.tc fun x => { x with ctsLast := p.seq }).count C.cts_sync_tx ch
       sendFrom ch 72 72 (funcObj (prmB w.m P.time_cts_ide) long (long && sentBrs w.m ch) (prm w.m P.time_cts_fup_id) bs) w))) ∧
  (∀ ch p s, ch < 22 → s.m.tc.ctsTx.get? ch = some p → p.sof = none →
    p.at_ + prmNs s.m P.time_cts_fup_timeout + 1200 ≤ s.base.now →
    exec (.ctsSyncCancel ch) s = after s fun _ w =>
      let w := (w.tc fun x => { x with ctsTx := x.ctsTx.erase ch }).can ch fun c => { c with
        backlog := c.backlog.filter (fun x => x.1 != 71) }
      if ((canAt w.m ch).objs.get? 71).isSome then drainBacklog ch (emptyObj ch 71 w) else w) ∧
  (∀ p fup at_ w1 s, s.m.tc.ctsRx = some p → p.fup = some (fup, at_) → prm s.m P.time_cts_follower_channel < 22 →
    ctsFollows s.m (prm s.m P.time_cts_follower_channel) = true → at_ < p.tb2 + prmNs s.m P.time_cts_fup_timeout →
    leAt fup 0 1 % 16 = p.seq → beAt fup 1 4 ≤ 3999999999 → leAt p.sync 1 1 % 16 = prm s.m P.time_cts_domain →
    (match s.m.tc.ctsLastMaster with
      | some t => decide (t < p.seconds * nanosPerS + beAt fup 1 4) | none => true) = true →
    ctsVerify s.base p.sync fup (W.tc ⟨s.m, []⟩ fun x => { x with ctsRx := none }) = (w1, true) →
    exec .ctsPairReceive s = .next (commit s
      (let ch := prm s.m P.time_cts_follower_channel
       let master := p.seconds * nanosPerS + beAt fup 1 4
       let t : Int := master + prmI s.m P.time_can_rx_adjust 0 ch
       servoSample s.base 1 ((p.sof.getD 0 : Int) - t) t.toNat p.tb2 ((w1.tc fun x => { x with
         ctsFailing := false, ctsLast := p.seq, ctsLastMaster := some master }).count C.cts_sync_rx ch)))) ∧
  (∀ p s, s.m.tc.ctsRx = some p → p.fup = none → p.tb2 + prmNs s.m P.time_cts_fup_timeout + 1200 ≤ s.base.now →
    fupArriving s.m (p.tb2 + prmNs s.m P.time_cts_fup_timeout) = false →
    exec .ctsFupTimeout s = after s fun _ w =>
      (w.tc fun x => { x with ctsRx := none }).count C.cts_fup_timeout (prm s.m P.time_cts_follower_channel % 22))

/-- TIME_READ answers all four time bases; TIME_ADJUST steps the base by the offset at once, or slews it at a valid
increment; TIME_SET_RATE sets the increment; TIME_TB3_ADVANCE moves TB3 forward within its limit and raises 0x0C06;
TIME_PORT_STATUS answers the ten ports. -/
def Obligations.TimeRequestsAnswer : Prop :=
  (∀ r s i, Accepted opTimeRead r s i →
    exec (.timeRead r) s = repliedOk opTimeRead r i s (entered opTimeRead r i s)
      (timeEntry s.base.time.tb0 (tb0State s.m) s.m.tc.epoch (synced (tb0State s.m))
        ++ timeEntry s.base.time.tb1 (tb1State s.m) 0 (synced (tb1State s.m))
        ++ timeEntry s.base.time.tb2 0 0 false ++ timeEntry s.base.time.tb3 0 0 false)) ∧
  (∀ r s i, Accepted opTimeAdjust r s i → 12 ≤ r.payload.length → leAt r.payload 0 1 < 2 → leAt r.payload 1 1 = 0 →
    hostMayAdjust s.m (leAt r.payload 0 1) true = true →
    exec (.timeAdjust r) s = repliedOk opTimeAdjust r i s (stepTb s.base (leAt r.payload 0 1) (signed 64 (leAt r.payload 4 8)) 1 (entered opTimeAdjust r i s))
      (nowOf s.base (stepTb s.base (leAt r.payload 0 1) (signed 64 (leAt r.payload 4 8)) 1 (entered opTimeAdjust r i s)) (leAt r.payload 0 1))) ∧
  (∀ rate r s i, Accepted opTimeAdjust r s i → 12 ≤ r.payload.length → leAt r.payload 0 1 < 2 →
    leAt r.payload 1 1 = 1 →
    rate = (match (servoOf s.m (leAt r.payload 0 1)).slew with
        | some (x, _) => x
        | none => (s.base.time.get (leAt r.payload 0 1)).incr.toNat) →
    incrValid (slewIncr s.m rate (signed 64 (leAt r.payload 4 8))) = true →
    hostMayAdjust s.m (leAt r.payload 0 1) false = true →
    exec (.timeAdjust r) s = repliedOk opTimeAdjust r i s ((setIncr (leAt r.payload 0 1) (slewIncr s.m rate (signed 64 (leAt r.payload 4 8))).toNat (entered opTimeAdjust r i s)).servo (leAt r.payload 0 1) fun x => { x with
        slew := some (rate, s.base.now + prmNs s.m P.time_slew_window) })
      (nowOf s.base ((setIncr (leAt r.payload 0 1) (slewIncr s.m rate (signed 64 (leAt r.payload 4 8))).toNat (entered opTimeAdjust r i s)).servo
        (leAt r.payload 0 1) fun x => { x with slew := some (rate, s.base.now + prmNs s.m P.time_slew_window) }) (leAt r.payload 0 1))) ∧
  (∀ r s i, Accepted opTimeSetRate r s i → 12 ≤ r.payload.length → leAt r.payload 0 1 < 2 →
    incrValid (leAt r.payload 4 8) = true → hostMayAdjust s.m (leAt r.payload 0 1) false = true →
    exec (.timeSetRate r) s = repliedOk opTimeSetRate r i s ((setIncr (leAt r.payload 0 1) (leAt r.payload 4 8) (entered opTimeSetRate r i s)).servo (leAt r.payload 0 1) fun x => { x with slew := none })
      []) ∧
  (∀ r s i, Accepted opTimeTb3Advance r s i → 8 ≤ r.payload.length → 1 ≤ leAt r.payload 0 8 →
    leAt r.payload 0 8 ≤ prm s.m P.time_tb3_max_step →
    exec (.timeTb3Advance r) s = repliedOk opTimeTb3Advance r i s (let w := (entered opTimeTb3Advance r i s).eff (.tb3To (s.base.time.tb3.full + leAt r.payload 0 8))
        w.event s.base 0x0C06 1 (u64 (leAt r.payload 0 8) ++ u32 (w.base s.base).time.tb3.m.toNat
          ++ u32 (w.base s.base).time.tb3.n.toNat))
      (nowOf s.base ((entered opTimeTb3Advance r i s).eff (.tb3To (s.base.time.tb3.full + leAt r.payload 0 8))) 3)) ∧
  (∀ r s i, Accepted opTimePortStatus r s i →
    exec (.timePortStatus r) s = repliedOk opTimePortStatus r i s (entered opTimePortStatus r i s)
      ((List.range 10).map (timePortEntry s.m)).flatten)

/-- WAKE_SOURCE_LATCH latches its sources; NM_TIMEOUT drops an expired node; MIN_AWAKE_EXPIRY and KEEP_AWAKE_EXPIRY
let groups follow their remaining reasons; NM_SEND sends the own NM frame while awake; LIN_WAKE_START ends the wake
pause; SLEEP_PREP_ENTRY leaves RUN when every group is not awake and nothing holds; SLEEP_COMMIT closes the minute,
seals and sleeps; SAFE_SLEEP sleeps from SAFE; FALSE_WAKE records a wake nothing confirmed; LEDGER_ACCRUE charges the
reasons. -/
def Obligations.SleepEventsComplete : Prop :=
  (∀ l ticks s, l.all (fun x => decide (x.code < 10)) = true →
    exec (.wakeSourceLatch l ticks) s = after s fun v w => latchSources v l ticks w) ∧
  (∀ port node x s, port < 44 →
    s.m.slp.reasons.find? (fun r => r.kind == 0 && r.unit == port && r.node == node && s.base.expired r.until_) = some x →
    exec (.nmTimeout port node) s = after s fun v w =>
      followGroup v x.group (dropReasons (fun r => r.kind == 0 && r.unit == port && r.node == node && v.expired r.until_) w)) ∧
  (∀ g t s, g < 8 → atD s.m.slp.woke g none = some t → t + prmNs s.m P.sleep_min_awake_time + 1200 ≤ s.base.now →
    exec (.minAwakeExpiry g) s = after s fun v w => followGroup v g
      (dropReasons (fun r => r.kind == 3 && r.group == g) (w.slp fun x => { x with woke := upd x.woke g (fun _ => none) }))) ∧
  (∀ s,
    exec .keepAwakeExpiry s = after s fun v w => followGroups v (dropReasons (fun r => r.kind == 2 &&
      (v.expired r.until_ || !((slotAt s.m r.unit).st == .opened && (slotAt s.m r.unit).id == r.node))) w)) ∧
  (∀ g s, g < 8 → bit (prm s.m P.sleep_nm_control) 24 = true → nmEnabled s.m = true → s.m.mod.state = .run →
    s.m.mod.firmwareRunning = true → (inputHolds s.m || heldBy s.m g 2 || (atD s.m.slp.woke g none).isSome) = true →
    exec (.nmSend g) s = after s fun _ w =>
      let ctl := prm s.m P.sleep_nm_control
      let id := prm s.m P.sleep_nm_can_id
      let mask := prm s.m P.sleep_nm_can_mask
      let nid := (id % 2 ^ 29 &&& mask) ||| (fld ctl 16 8 &&& (2 ^ 29 - 1 - mask))
      let data := (List.range 8).map fun k => BitVec.ofNat 8
        (if k == fld ctl 0 3 then fld ctl 16 8 else if k == fld ctl 4 3 then 2 ^ fld ctl 8 3 else 0)
      w.each ((groupPorts s.m g).filter isCanPort) fun p w =>
        sendFrom (p - 14) 73 73 (funcObj (bit id 29) false false nid data) w) ∧
  (∀ n t s, n < 8 → s.m.slp.linWake.get? n = some t → t ≤ s.base.now →
    exec (.linWakeStart n) s = after s fun _ w =>
      (w.slp fun x => { x with linWake := x.linWake.erase n }).lin n fun l => { l with asleep := false }) ∧
  (∀ s, s.m.mod.state = .run → s.m.mod.firmwareRunning = true → prmB s.m P.sleep_sleep_enable = true →
    internalReason s.m = false → s.m.mod.holds = [] → s.m.slp.groups.all (fun g => g != 0) = true →
    exec .sleepPrepEntry s = after s fun v w =>
      let w := (w.mod fun x => { x with state := .sleepPrep }).slp fun x => { x with prepAt := v.now, latched := [], commitMarker := false }
      takeCheckpoint v (w.each (List.range 8) fun g w => sleepGroup v g w)) ∧
  (∀ s, s.m.mod.state = .sleepPrep → prepEnd s.m + 1200 ≤ s.base.now →
    exec .sleepCommit s = after s fun v w =>
      let w := enterSleep (closeAccounts v (sealSleep v ((judgeFalse v w).slp fun x => { x with commitMarker := true })))
      wakeModule v w.m.slp.latched 0 true w) ∧
  (∀ s, s.m.mod.state = .safe → inputHolds s.m = false →
    s.m.slp.quietSince + 2 * prmNs s.m P.sleep_nm_timeout + 1200 ≤ s.base.now →
    exec .safeSleep s = after s fun v w =>
      enterSleep ((takeCheckpoint v (sealSleep v (closeAccounts v (judgeFalse v w)))).mod fun x => { x with safeWake := true })) ∧
  (∀ t x rest s, s.m.slp.confirm = some t → s.m.slp.records = x :: rest → t + 1200 ≤ s.base.now →
    exec .falseWake s = after s fun v w =>
      let k := 256 * x.source + x.inst
      let n := s.m.slp.falseRuns.getD k 0 + 1
      let w := w.slp fun y => { y with
        confirm := none, falseRuns := y.falseRuns.put k n, records := { x with falseWake := true } :: rest }
      (w.count C.false_wake k).event v 0x0D03 (if prm w.m P.sleep_false_wake_limit ≤ n then 2 else 1)
        (u8 x.source ++ u8 x.inst ++ zeros 2 ++ u32 n)) ∧
  (∀ s, groupsRun s.m = true →
    exec .ledgerAccrue s = after s fun v w =>
      let only := fun (x : Reason) => s.m.slp.recent.all (fun k => k == reasonKey x)
      ((accrueInputs w).each (s.m.slp.reasons.filter (fun r => !(groupPorts s.m r.group).isEmpty)) fun x w => accrueReason v s.m.slp.accruedAt (only x) x w).slp fun x => { x with
        accruedAt := v.now, recent := x.reasons.map reasonKey })

/-- SLEEP_STATUS, WAKE_RECORDS, FILTER_READ and LEDGER_READ answer from the sleep state; KEEP_AWAKE of 0 drops the
session's reasons and otherwise holds the groups and wakes them; FILTER_WRITE stores a filter; LEDGER_CLEAR empties
the ledger and answers how many entries it had. -/
def Obligations.SleepRequestsAnswer : Prop :=
  (∀ r s i, Accepted opSleepStatus r s i →
    exec (.sleepStatus r) s = repliedOk opSleepStatus r i s (entered opSleepStatus r i s)
      (u32 (groupStateWord s.m) ++ u32 (reasonMask s.m)
        ++ u32 (if s.m.mod.state == .sleepPrep then (prepEnd s.m - s.base.now) / 1000 else 0) ++ u32 s.m.slp.wakeSeq)) ∧
  (∀ r s i, Accepted opSleepKeepAwake r s i → 8 ≤ r.payload.length → leAt r.payload 4 4 = 0 →
    exec (.sleepKeepAwake r) s = repliedOk opSleepKeepAwake r i s (followGroups s.base (dropReasons (fun x =>
        x.kind == 2 && x.unit == i && (bitsOf 8 (leAt r.payload 0 1)).contains x.group) (confirmWake s.base.now (entered opSleepKeepAwake r i s))))
      []) ∧
  (∀ r s i, Accepted opSleepKeepAwake r s i → 8 ≤ r.payload.length → leAt r.payload 4 4 ≠ 0 →
    exec (.sleepKeepAwake r) s = repliedOk opSleepKeepAwake r i s (let gs := bitsOf 8 (leAt r.payload 0 1)
        let w := (confirmWake s.base.now (entered opSleepKeepAwake r i s)).each gs fun g w => putReason s.base
          { kind := 2, unit := i, node := (slotAt s.m i).id, group := g, until_ := s.base.now + leAt r.payload 4 4 * 1000, since := s.base.now } w
        let w := if gs.isEmpty then w else reasonArisen s.base s.base.now w
        if w.m.mod.state == .sleepPrep then w else w.each gs fun g w => followGroup s.base g (wakeGroup s.base [] g w))
      []) ∧
  (∀ r s i, Accepted opSleepWakeRecords r s i → 4 ≤ r.payload.length → 1 ≤ leAt r.payload 0 1 →
    leAt r.payload 0 1 ≤ 16 →
    exec (.sleepWakeRecords r) s = repliedOk opSleepWakeRecords r i s (entered opSleepWakeRecords r i s)
      (u8 (s.m.slp.records.take (leAt r.payload 0 1)).length ++ zeros 3
        ++ ((s.m.slp.records.take (leAt r.payload 0 1)).map WakeRec.bytes).flatten)) ∧
  (∀ r s i, Accepted opSleepFilterWrite r s i → 28 ≤ r.payload.length → leAt r.payload 0 1 ≤ 7 →
    leAt r.payload 12 1 % 16 ≤ 8 →
    exec (.sleepFilterWrite r) s = repliedOk opSleepFilterWrite r i s ((entered opSleepFilterWrite r i s).slp fun x => { x with filters := upd x.filters (leAt r.payload 0 1) (fun _ => maskFilter (slice r.payload 4 24)) })
      []) ∧
  (∀ r s i, Accepted opSleepFilterRead r s i → 4 ≤ r.payload.length → leAt r.payload 0 1 ≤ 7 →
    exec (.sleepFilterRead r) s = repliedOk opSleepFilterRead r i s (entered opSleepFilterRead r i s)
      (atD s.m.slp.filters (leAt r.payload 0 1) (zeros 24))) ∧
  (∀ r s i, Accepted opSleepLedgerRead r s i → 4 ≤ r.payload.length → leAt r.payload 0 1 ≤ 63 →
    1 ≤ leAt r.payload 1 1 → leAt r.payload 1 1 ≤ 64 →
    exec (.sleepLedgerRead r) s = repliedOk opSleepLedgerRead r i s (entered opSleepLedgerRead r i s)
      (let l := (s.m.slp.ledger.drop (leAt r.payload 0 1)).take (leAt r.payload 1 1)
       u8 l.length ++ zeros 3 ++ (l.map Ledger.bytes).flatten)) ∧
  (∀ r s i, Accepted opSleepLedgerClear r s i →
    exec (.sleepLedgerClear r) s = repliedOk opSleepLedgerClear r i s ((entered opSleepLedgerClear r i s).slp fun x => { x with ledger := [] })
      (u8 s.m.slp.ledger.length ++ zeros 3))

/-- HEARTBEAT_FRAME sends the die its words and its channels take them; HEARTBEAT_ACK completes what waited for it;
HEARTBEAT_TIMEOUT after 20 ms without a frame is the die loss of R412, 0x0E04; the three trips act as trips of their
cause; retries and the end of the inrush window act when due; OPEN_LOAD and its clearing raise 0x0E03;
PWM_PERIOD_START takes a new word; SUPPLY_INHIBIT_RELEASE lets the die's channels go on. -/
def Obligations.ChannelEventsComplete : Prop :=
  (∀ d bad s, d < 5 → bad.all (fun k => k / 4 == d) = true → hbRuns s.m d s.base.now = true →
    exec (.heartbeatFrame d (some bad)) s = after s fun v w =>
      let w := ((w.send (.heartbeat d (hbBytes s.m d))).die d fun x => { x with seq := x.seq + 1 }).die d fun x => { x with last := v.now }
      let w := markOps (fun l => l.map (fun x => if x == d then d + 8 else x)) w
      let w := w.each (dieChans d) fun k w => takeParams k (chanTwins v k w)
      let w := if (dieChans d).any fun k => switchesOn w.m k && !bad.contains k
        then w.die d fun x => { x with lost := false } else w
      w.each (dieChans d) fun k w =>
        if bad.contains k then dieTwinFail v k w else if (dieAt w.m d).lost then w else dieTakes v k w) ∧
  (∀ d s, d < 5 → hbRuns s.m d s.base.now = true →
    exec (.heartbeatFrame d none) s = after s fun _ w =>
      (w.send (.heartbeat d (hbBytes s.m d))).die d fun x => { x with seq := x.seq + 1 }) ∧
  (∀ d s, d < 5 →
    exec (.heartbeatAck d) s = after s fun v w =>
      finishWaiting v allAcked ((markOps (fun l => l.filter (· != d + 8)) w).jn fun x => { x with
        posted := x.posted.filter (fun p => !(p.target == 1 && p.inst == d && decide (p.at_ ≤ (dieAt s.m d).last))) })) ∧
  (∀ d s, d < 5 → s.m.ident.variantG = false → (dieAt s.m d).lost = false →
    (dieAt s.m d).last + 20000000 + 1200 ≤ s.base.now →
    exec (.heartbeatTimeout d) s = after s fun v w => ((dieLoss v d w).count C.ch_heartbeat_loss d).event v 0x0E04 3 (u8 (2 ^ d) ++ u8 1 ++ zeros 2)) ∧
  (∀ ch t s, isChan ch = true → (chanAt s.m ch).inrushEnd = some t → t ≤ s.base.now →
    exec (.inrushWindowEnd ch) s = after s fun _ w => w.chan ch fun c => { c with inrushEnd := none }) ∧
  (∀ ch current temp s, isChan ch = true → (chanAt (chanTwins s.base ch ⟨s.m, []⟩).m ch).on = true →
    limitInForce s.base s.m ch ≤ current.mA → chanPrm s.m P.switch_fast_trip_time ch ≤ current.us →
    onFor s.base (chanAt s.m ch) current.us 0 = true →
    exec (.fastTrip ch current temp) s = after s fun v w =>
      let w := chanTwins v ch w
      let c := chanAt w.m ch
      let cause := 1
      let inrush := inWindow v c
      let count := if cause == 4 then c.trips else c.trips + 1
      let latched := cause != 4 && decide (chanPrm w.m P.switch_retry_count ch < count)
      let retry := if latched then none else some (if cause == 4 then 0 else v.now + chanPrmNs w.m P.switch_retry_delay ch)
      let w := (outOff v ch w).chan ch fun x => { x with
        trips := count, total := x.total + 1, cause := cause, retryAt := retry, latched := latched
        cleared := x.cleared || latched, hardTrip := if cause ≤ 2 then some v.now else x.hardTrip }
      let e := tripEntry v ch cause count latched inrush current.mA temp
      let w := ((logTrip e w).count (tripCounter cause) ch).event v 0x0E01 1 e
      if latched then (w.count C.ch_latched ch).event v 0x0E02 2 (u8 ch ++ u8 cause ++ zeros 2 ++ u32 (chanAt w.m ch).total)
      else w) ∧
  (∀ ch current temp s, isChan ch = true → (chanAt (chanTwins s.base ch ⟨s.m, []⟩).m ch).on = true →
    chanPrm s.m P.switch_overload_current ch < current.mA → chanPrm s.m P.switch_overload_time ch ≤ current.us →
    onFor s.base (chanAt s.m ch) current.us 0 = true →
    exec (.overloadTrip ch current temp) s = after s fun v w =>
      let w := chanTwins v ch w
      let c := chanAt w.m ch
      let cause := 2
      let inrush := inWindow v c
      let count := if cause == 4 then c.trips else c.trips + 1
      let latched := cause != 4 && decide (chanPrm w.m P.switch_retry_count ch < count)
      let retry := if latched then none else some (if cause == 4 then 0 else v.now + chanPrmNs w.m P.switch_retry_delay ch)
      let w := (outOff v ch w).chan ch fun x => { x with
        trips := count, total := x.total + 1, cause := cause, retryAt := retry, latched := latched
        cleared := x.cleared || latched, hardTrip := if cause ≤ 2 then some v.now else x.hardTrip }
      let e := tripEntry v ch cause count latched inrush current.mA temp
      let w := ((logTrip e w).count (tripCounter cause) ch).event v 0x0E01 1 e
      if latched then (w.count C.ch_latched ch).event v 0x0E02 2 (u8 ch ++ u8 cause ++ zeros 2 ++ u32 (chanAt w.m ch).total)
      else w) ∧
  (∀ ch current temp s, isChan ch = true → (chanAt (chanTwins s.base ch ⟨s.m, []⟩).m ch).on = true → 1750 < temp →
    exec (.thermalShutdown ch current temp) s = after s fun v w =>
      let w := chanTwins v ch w
      let c := chanAt w.m ch
      let cause := (if sympathetic w.m ch v.now then 4 else 3)
      let inrush := inWindow v c
      let count := if cause == 4 then c.trips else c.trips + 1
      let latched := cause != 4 && decide (chanPrm w.m P.switch_retry_count ch < count)
      let retry := if latched then none else some (if cause == 4 then 0 else v.now + chanPrmNs w.m P.switch_retry_delay ch)
      let w := (outOff v ch w).chan ch fun x => { x with
        trips := count, total := x.total + 1, cause := cause, retryAt := retry, latched := latched
        cleared := x.cleared || latched, hardTrip := if cause ≤ 2 then some v.now else x.hardTrip }
      let e := tripEntry v ch cause count latched inrush current temp
      let w := ((logTrip e w).count (tripCounter cause) ch).event v 0x0E01 1 e
      if latched then (w.count C.ch_latched ch).event v 0x0E02 2 (u8 ch ++ u8 cause ++ zeros 2 ++ u32 (chanAt w.m ch).total)
      else w) ∧
  (∀ ch s, isChan ch = true → (chanAt s.m ch).retryAt.isSome = true → (chanAt s.m ch).cause = 4 →
    exec (.sympatheticRetry ch) s = after s fun v w => retryChan v ch w) ∧
  (∀ ch t s, isChan ch = true → (chanAt s.m ch).retryAt = some t → (chanAt s.m ch).cause ≠ 4 → t ≤ s.base.now →
    exec (.channelRetry ch) s = after s fun v w => retryChan v ch w) ∧
  (∀ ch s, isChan ch = true → (chanAt s.m ch).on = true → (chanAt s.m ch).onSince + 1000000000 ≤ s.base.now →
    exec (.tripCountReset ch) s = after s fun _ w => w.chan ch fun c => { c with trips := 0 }) ∧
  (∀ ch current s, isChan ch = true → (chanAt s.m ch).on = true → (chanAt s.m ch).openLoad = false →
    inWindow s.base (chanAt s.m ch) = false → current.mA < chanPrm s.m P.switch_open_load_threshold ch →
    chanPrm s.m P.switch_open_load_time ch ≤ current.us →
    onFor s.base (chanAt s.m ch) current.us (max 200000 (chanPrmNs s.m P.switch_inrush_time ch)) = true →
    exec (.openLoad ch current) s = after s fun v w =>
      ((w.chan ch fun c => { c with openLoad := true }).count C.ch_open_load ch).event v 0x0E03 1
        (u8 ch ++ u8 1 ++ zeros 2 ++ u32 current.mA)) ∧
  (∀ ch current s, isChan ch = true → (chanAt s.m ch).on = true → (chanAt s.m ch).openLoad = true →
    chanPrm s.m P.switch_open_load_threshold ch < current →
    exec (.openLoadClear ch current) s = after s fun v w =>
      (w.chan ch fun c => { c with openLoad := false }).event v 0x0E03 0 (u8 ch ++ u8 0 ++ zeros 2 ++ u32 current)) ∧
  (∀ ch s, isChan ch = true → (chanAt s.m ch).out = 2 → cmdMode (chanAt s.m ch).word = 2 →
    phaseOk s.m ch s.base.now = true →
    exec (.pwmPeriodStart ch) s = after s fun v w => takeWord v ch (w.chan ch fun c => { c with periodAt := some v.now })) ∧
  (∀ d s, d < 5 → s.m.sw.inhibit = none → (dieAt s.m d).inhibited = true →
    s.m.sw.inhibitEnd + 2000000 * d ≤ s.base.now →
    exec (.supplyInhibitRelease d) s = after s fun v w =>
      (w.die d fun x => { x with inhibited := false }).each (dieChans d) fun k w =>
        if (dieAt w.m d).lost then w else takeIfFree v k w)

/-- CHANNEL_STATUS answers the entries of its range and CHANNEL_TRIP_LOG the newest entries; CHANNEL_SET with entries
that all pass accepts the commands and waits for the heartbeat of their dies; CHANNEL_CLEAR clears latched trips;
CHANNEL_ALL_OFF commands every channel off. -/
def Obligations.ChannelRequestsAnswer : Prop :=
  (∀ r s i, Accepted opChannelStatus r s i → 4 ≤ r.payload.length → 1 ≤ leAt r.payload 1 1 →
    leAt r.payload 0 1 + leAt r.payload 1 1 ≤ 20 → s.m.ident.variantG = false →
    exec (.channelStatus r) s = repliedOk opChannelStatus r i s (chanEntries s.base ((List.range (leAt r.payload 1 1)).map (· + leAt r.payload 0 1)) (entered opChannelStatus r i s)).1
      (u8 (leAt r.payload 1 1) ++ zeros 3
        ++ (chanEntries s.base ((List.range (leAt r.payload 1 1)).map (· + leAt r.payload 0 1)) (entered opChannelStatus r i s)).2)) ∧
  (∀ r s i, Accepted opChannelTripLog r s i → 4 ≤ r.payload.length → 1 ≤ leAt r.payload 0 1 →
    leAt r.payload 0 1 ≤ 32 → s.m.ident.variantG = false →
    exec (.channelTripLog r) s = repliedOk opChannelTripLog r i s (entered opChannelTripLog r i s)
      (u8 (s.m.sw.log.take (leAt r.payload 0 1)).length ++ zeros 3 ++ (s.m.sw.log.take (leAt r.payload 0 1)).flatten)) ∧
  (∀ r s i, Accepted opChannelSet r s i → 1 ≤ leAt r.payload 0 1 → leAt r.payload 0 1 ≤ 20 →
    r.payload.length = 4 + 12 * leAt r.payload 0 1 →
    firstFail setCheck [] (setEntries r.payload (leAt r.payload 0 1)) = none → s.m.ident.variantG = false →
    hostCommands s.m = true →
    firstFail (setState (entered opChannelSet r i s).m) [] (setEntries r.payload (leAt r.payload 0 1)) = none →
    exec (.channelSet r) s = waiting opChannelSet r i s ((entered opChannelSet r i s).each (setEntries r.payload (leAt r.payload 0 1)) fun e w => acceptCmd e.1 (e.2.1 % 2 ^ 22) false w)
      (.heartbeat (((setEntries r.payload (leAt r.payload 0 1)).map (fun e => e.1 / 4)).eraseDups)) (u8 (leAt r.payload 0 1) ++ zeros 3)) ∧
  (∀ r s i, Accepted opChannelClear r s i → 4 ≤ r.payload.length → leAt r.payload 0 4 < 2 ^ 20 →
    s.m.ident.variantG = false → hostCommands s.m = true →
    exec (.channelClear r) s = repliedOk opChannelClear r i s ((entered opChannelClear r i s).each (bitsOf 20 (leAt r.payload 0 4)) fun k w => w.chan k fun c => { c with
        latched := false, trips := 0, openLoad := false })
      (u32 (leAt r.payload 0 4))) ∧
  (∀ r s i, Accepted opChannelAllOff r s i → s.m.ident.variantG = false →
    (hostCommands s.m || s.m.mod.state == .safe) = true →
    exec (.channelAllOff r) s = repliedOk opChannelAllOff r i s ((entered opChannelAllOff r i s).each (List.range 20) fun k w => acceptCmd k 0 false w)
      [])

/-- KEY_STATUS, KEY_CERT_READ and KEY_ATTEST answer; KEY_UPDATE for this module with updates enabled and a usable
parent is checked and committed; ORPHAN_SWEEP erases orphans but keeps their counter and lineage; ZSP_VERIFY and
ZSP_SIGN handle the oldest frame of their kind; ZSP_COUNTER_FRAME takes a newer verified counter; ZSP_COUNTER_SEND
sends the counter of a signing flow. -/
def Obligations.KeyAndSecuredTrafficCompletes : Prop :=
  (∀ r s i, Accepted opKeyStatus r s i → keyOpsInUse s.m < 8 → 4 ≤ r.payload.length →
    leAt r.payload 0 1 + (if leAt r.payload 1 1 == 0 then 256 else leAt r.payload 1 1) ≤ 256 →
    exec (.keyStatus r) s = repliedOk opKeyStatus r i s (entered opKeyStatus r i s)
      (u16 (if leAt r.payload 1 1 == 0 then 256 else leAt r.payload 1 1) ++ zeros 2
        ++ keyEntries s.m (leAt r.payload 0 1) (if leAt r.payload 1 1 == 0 then 256 else leAt r.payload 1 1))) ∧
  (∀ r s i, Accepted opKeyCertRead r s i → keyOpsInUse s.m < 8 →
    exec (.keyCertRead r) s = repliedOk opKeyCertRead r i s (entered opKeyCertRead r i s)
      (u16 s.m.ident.certificate.length ++ zeros 2 ++ s.m.ident.certificate)) ∧
  (∀ r s i, Accepted opKeyAttest r s i → keyOpsInUse s.m < 8 → 32 ≤ r.payload.length →
    prm s.m P.security_attest_enable ≠ 0 →
    exec (.keyAttest r) s = repliedOk opKeyAttest r i s (entered opKeyAttest r i s)
      (let head := u64 s.m.ident.uniqueId ++ u32 s.m.keys.generation ++ u32 (firmwareVersion s.m) ++ sha (keyEntries s.m 0 256)
       head ++ sealSign s.m (head ++ r.payload.take 32))) ∧
  (∀ pk w p r s i, Accepted opKeyUpdate r s i → r.posted = false → 108 ≤ r.payload.length →
    leAt r.payload 0 8 = s.m.ident.uniqueId →
    (prm (useTwin s.base P.security_key_update_enable 0 0 (entered opKeyUpdate r i s)).m P.security_key_update_enable == 0) = false →
    keyUpdating (useTwin s.base P.security_key_update_enable 0 0 (entered opKeyUpdate r i s)).m (keyMsg r.payload).slot = false →
    keyOpsInUse (useTwin s.base P.security_key_update_enable 0 0 (entered opKeyUpdate r i s)).m < 8 →
    (keyMsg r.payload).op ≤ 2 →
    parentFits (useTwin s.base P.security_key_update_enable 0 0 (entered opKeyUpdate r i s)).m (keyMsg r.payload) = true →
    parentKey (if decide ((keyMsg r.payload).parent < 256) && (keyMsg r.payload).parent != (keyMsg r.payload).slot then readRecord s.base (keyMsg r.payload).parent (useTwin s.base P.security_key_update_enable 0 0 (entered opKeyUpdate r i s)) else (useTwin s.base P.security_key_update_enable 0 0 (entered opKeyUpdate r i s))).m (keyMsg r.payload) = some pk →
    checkKey s.base (asked r i s) (keyMsg r.payload) pk (if decide ((keyMsg r.payload).parent < 256) && (keyMsg r.payload).parent != (keyMsg r.payload).slot then readRecord s.base (keyMsg r.payload).parent (useTwin s.base P.security_key_update_enable 0 0 (entered opKeyUpdate r i s)) else (useTwin s.base P.security_key_update_enable 0 0 (entered opKeyUpdate r i s))) = (w, .ok p) →
    exec (.keyUpdate r) s = repliedOk opKeyUpdate r i s w
      p) ∧
  (∀ s, powered s.m = true →
    exec .orphanSweep s = after s fun _ w => w.each (orphans s.m) fun k w => writeRecord k (sweptSlot (keySlot w.m k)) w) ∧
  (∀ x rest s, s.m.flow.zsp = x :: rest →
    flowValid (touch s.base [entryKey 0x0D (Sp.securedFlow.get x.sp)] ⟨s.m, []⟩).m (Sp.securedFlow.get x.sp) = true →
    Sf.sign.on (flowGet (touch s.base [entryKey 0x0D (Sp.securedFlow.get x.sp)] ⟨s.m, []⟩).m (Sp.securedFlow.get x.sp)) = false →
    zspIgnored ((touch s.base [entryKey 0x0D (Sp.securedFlow.get x.sp)] ⟨s.m, []⟩).flow fun y => { y with zsp := rest }).m x = false →
    exec .zspVerify s = after s fun v w =>
      let k := Sp.securedFlow.get x.sp
      let w := corrected x.frame none (zspOps v ((touch v [entryKey 0x0D k] w).flow fun y => { y with zsp := rest }))
      match readFault w.m x.frame none with
      | some z => discardFrame x.frame (tileFail v 10 x.frame z w)
      | none => Sys2Proof.Machine.zspVerify v k x w) ∧
  (∀ x rest s, s.m.flow.zsp = x :: rest →
    flowValid (touch s.base [entryKey 0x0D (Sp.securedFlow.get x.sp)] ⟨s.m, []⟩).m (Sp.securedFlow.get x.sp) = true →
    Sf.sign.on (flowGet (touch s.base [entryKey 0x0D (Sp.securedFlow.get x.sp)] ⟨s.m, []⟩).m (Sp.securedFlow.get x.sp)) = true →
    zspIgnored ((touch s.base [entryKey 0x0D (Sp.securedFlow.get x.sp)] ⟨s.m, []⟩).flow fun y => { y with zsp := rest }).m x = false →
    exec .zspSign s = after s fun v w =>
      let k := Sp.securedFlow.get x.sp
      let w := corrected x.frame none (zspOps v ((touch v [entryKey 0x0D k] w).flow fun y => { y with zsp := rest }))
      match readFault w.m x.frame none with
      | some z => discardFrame x.frame (tileFail v 10 x.frame z w)
      | none => Sys2Proof.Machine.zspSign v k x w) ∧
  (∀ ch f s, ch < 22 → f.fmt < 4 → f.id < 2 ^ 29 → f.data.length = 12 → fullService s.m = true →
    zspPort s.m (canPort ch) 0 = true →
    exec (.zspCounterFrame ch f) s = after s fun v w => w.each (counterFlows s.m f.fmt f.id) fun k w =>
      let e := flowGet w.m k
      let F := beAt f.data 0 8
      if F ≤ Sf.freshness.get e then w
      else match useKey v (Sf.keySlot.get e) 0 Attr.decrypt w with
        | (w, none) => w
        | (w, some key) =>
          if counterMac e key F != f.data.drop 8 then w
          else ((flowPut k (Sf.freshness.set e F) w).keys fun y => { y with mram := y.mram.put k F }).count C.zsp_counter_rx k) ∧
  (∀ k w1 key s, k < 2048 → fullService s.m = true → flowValid s.m k = true → Sf.sign.on (flowGet s.m k) = true →
    countsOn (flowGet s.m k) = true → internalFits s.m 13 12 = true →
    useKey s.base (Sf.keySlot.get (flowGet s.m k)) 0 Attr.encrypt ⟨s.m, []⟩ = (w1, some key) →
    exec (.zspCounterSend k) s = .next (commit s
      (let e := flowGet s.m k
       let F := Sf.freshness.get e
       enterInternal s.base 13 (2 + b2n (Sf.counterIde.on e)) (Sf.counterId.get e) (beBytes 8 F ++ counterMac e key F) w1)))

/-- JOURNAL_SAMPLE closes an ended minute, notes the speeds, steps the watch and accumulates; MINUTE_RECORD closes the
minute once it is over; JOURNAL_STATUS and READ answer from the ring; GNSS stores a valid fix; ANNOTATE appends the
bytes as record 0x1005 and raises the event; SEAL_NOW writes a seal and answers its sequence. -/
def Obligations.JournalCompletes : Prop :=
  (∀ s, powered s.m = true →
    exec .journalSample s = after s fun v w =>
      let w := if s.m.jr.acc.minute < tb3Minute v then closeMinute v false (tb3Minute v) w else w
      let w := useTwin v P.journal_pulse_k 0 0 w
      let x := sampleOf w.m v.now
      let w := checkHoldSpeed v (watchStep v x.pulse x.canTenth x.gnss (w.jr (noteSample x)))
      w.jr (accumulate x w.m)) ∧
  (∀ s, s.m.jr.acc.minute < tb3Minute s.base → powered s.m = true →
    exec .minuteRecord s = after s fun v w => closeMinute v false (tb3Minute v) w) ∧
  (∀ r s i, Accepted opJournalStatus r s i →
    exec (.journalStatus r) s = repliedOk opJournalStatus r i s (entered opJournalStatus r i s)
      (u32 (oldestRecord s.m).1 ++ u32 s.m.jr.next ++ u32 s.m.jr.lastSeal ++ u32 (ringBytes s.m.jr.ring)
        ++ u32 (oldestRecord s.m).2 ++ chainOf s.m)) ∧
  (∀ l r s i, Accepted opJournalRead r s i → 8 ≤ r.payload.length → 64 ≤ leAt r.payload 4 4 →
    leAt r.payload 4 4 ≤ 64896 →
    l = (if leAt r.payload 0 4 = 0 then s.m.jr.ring else s.m.jr.ring.dropWhile (fun x => x.seq != leAt r.payload 0 4)) →
    (leAt r.payload 0 4 ≠ 0 → l ≠ []) →
    exec (.journalRead r) s = repliedOk opJournalRead r i s (entered opJournalRead r i s)
      (u16 (fitRecords (leAt r.payload 4 4) l).length ++ zeros 2 ++ (fitRecords (leAt r.payload 4 4) l).flatMap JRecord.bytes)) ∧
  (∀ r s i, Accepted opJournalGnss r s i → 4 ≤ r.payload.length → 1 ≤ leAt r.payload 2 1 → leAt r.payload 2 1 ≤ 2 →
    exec (.journalGnss r) s = repliedOk opJournalGnss r i s (((entered opJournalGnss r i s).jr fun x => { x with gnssSpeed := some (leAt r.payload 0 2, s.base.now) }).count C.journal_gnss_rx)
      []) ∧
  (∀ r s i, Accepted opJournalAnnotate r s i → 1 ≤ leAt r.payload 0 1 → leAt r.payload 0 1 ≤ 76 →
    r.payload.length = 4 + leAt r.payload 0 1 → prmB s.m P.journal_enable = true →
    exec (.journalAnnotate r) s = repliedOk opJournalAnnotate r i s ((journalEvent s.base 0x1005 0 (slice r.payload 4 (leAt r.payload 0 1)) (entered opJournalAnnotate r i s)).event s.base 0x1005 0
        (u32 s.m.jr.next ++ u8 (leAt r.payload 0 1) ++ zeros 3 ++ (slice r.payload 4 (leAt r.payload 0 1)).take 40))
      (u32 s.m.jr.next)) ∧
  (∀ r s i, Accepted opJournalSealNow r s i → prmB s.m P.journal_enable = true →
    exec (.journalSealNow r) s = repliedOk opJournalSealNow r i s (writeSeal s.base (if s.m.jr.deferred then 4 else 0) (entered opJournalSealNow r i s))
      (u32 s.m.jr.next))

/-- SUPPLY_VALID starts the module from OFF, or from SLEEP after a deep loss; SUPPLY_RANGE_CHANGE records the range
with 0x1101 and enters or leaves the low range; VBAT_WARNING follows its limits with hysteresis; BROWN_OUT and
GROUND_LOSS power the module down; THERMAL_SHED begins at 135 C and ends below 125 C; DIE_OVERTEMP at 150 C is a
data-plane fault; BASE_PLATE_WARNING follows its limit; CHANNEL_POWER_LIMIT counts an excess and raises 0x1107. -/
def Obligations.SupplyEventsComplete : Prop :=
  (∀ deep mv ticks s, 6500 < mv → s.m.mod.state = .off →
    exec (.supplyValid deep mv ticks) s = after s fun v w => supplyReset v (if deep then 0 else 1) mv false w) ∧
  (∀ mv ticks s, 6500 < mv → s.m.mod.state = .sleep →
    exec (.supplyValid true mv ticks) s = after s fun v w => supplyReset v 0 mv true w) ∧
  (∀ mv ticks s, 6500 < mv → s.m.mod.state = .sleep → s.m.supply.sleepDip = true →
    exec (.supplyValid false mv ticks) s = after s fun v w =>
      latchSources v [{ code := 9 }] ticks ((noteVbat mv w).supply fun x => { x with range := rangeAt mv })) ∧
  (∀ range x s, range < 4 → rangeChanges s.m s.m.supply.range range x = true → s.m.mod.state ≠ .off →
    s.m.mod.state ≠ .sleep →
    exec (.supplyRangeChange range x) s = after s fun v w =>
      let w := (noteSamples x (chargeLow v w)).supply fun y => { y with range := range }
      let w := followInhibit v (w.event v 0x1101 (if range == 0 then 0 else 1)
        (u8 s.m.supply.range ++ u8 range ++ zeros 2 ++ u32 x.mean))
      let w := if range == 3 then w.count C.supply_ov_entries else w
      leaveFootpath v (if range == 1 then enterLow v w else w)) ∧
  (∀ mv s, s.m.mod.state ≠ .off → s.m.mod.state ≠ .sleep →
    exec (.vbatWarning mv) s = after s fun v w =>
      let w := useTwin v P.supply_vbat_warn_high 0 0 (useTwin v P.supply_vbat_warn_low 0 0 (noteVbat mv w))
      let lo := prm w.m P.supply_vbat_warn_low
      let hi := prm w.m P.supply_vbat_warn_high
      let hyst := prm w.m P.supply_vbat_warn_hysteresis
      let x := w.m.supply
      let low := if x.warnLow then decide (mv < lo + hyst) else decide (mv < lo)
      let high := if x.warnHigh then decide (hi < mv + hyst) else decide (hi < mv)
      let w := w.supply fun y => { y with warnLow := low, warnHigh := high }
      let w := if low == x.warnLow then w else vbatWarn v 0 mv low w
      if high == x.warnHigh then w else vbatWarn v 1 mv high w) ∧
  (∀ s, s.m.mod.state ≠ .off → s.m.mod.state ≠ .sleep →
    exec .brownOut s = after s fun v w => powerDown v false w) ∧
  (∀ s, s.m.mod.state = .sleep →
    exec .brownOut s = after s fun _ w => w.supply fun x => { x with sleepDip := true }) ∧
  (∀ offset s, s.m.mod.state ≠ .off → s.m.mod.state ≠ .sleep →
    ((prm s.m P.supply_ground_loss_threshold : Nat) : Int) < offset →
    exec (.groundLoss offset) s = after s fun v w => powerDown v true (w.supply fun x => { x with groundOffset := offset })) ∧
  (∀ temp s, powered s.m = true →
    (useTwin s.base P.supply_thermal_shed_enable 0 0 (W.supply ⟨s.m, []⟩ fun x => { x with dieTemp := temp })).m.supply.shed = false →
    135000 ≤ temp →
    prmB (useTwin s.base P.supply_thermal_shed_enable 0 0 (W.supply ⟨s.m, []⟩ fun x => { x with dieTemp := temp })).m P.supply_thermal_shed_enable = true →
    exec (.thermalShed temp) s = after s fun v w =>
      let w := useTwin v P.supply_thermal_shed_enable 0 0 (w.supply fun x => { x with dieTemp := temp })
      (dropLinks v ((w.supply fun x => { x with shed := true }).count C.thermal_shed)).event v 0x1105 2
        (u8 1 ++ zeros 3 ++ s32 temp)) ∧
  (∀ temp s, powered s.m = true →
    (useTwin s.base P.supply_thermal_shed_enable 0 0 (W.supply ⟨s.m, []⟩ fun x => { x with dieTemp := temp })).m.supply.shed = true →
    temp < 125000 →
    exec (.thermalShed temp) s = after s fun v w =>
      ((useTwin v P.supply_thermal_shed_enable 0 0 (w.supply fun x => { x with dieTemp := temp })).supply fun x => { x with
        shed := false }).event v 0x1105 0 (u8 0 ++ zeros 3 ++ s32 temp)) ∧
  (∀ temp s, s.m.mod.heldHot = false → 150000 ≤ temp → s.m.mod.state ≠ .off → s.m.mod.state ≠ .sleep →
    exec (.dieOvertemp temp) s = after s fun v w =>
      faultData v 4 0 ((w.supply fun x => { x with dieTemp := temp }).mod fun x => { x with heldHot := true })) ∧
  (∀ temp s, powered s.m = true →
    (useTwin s.base P.supply_base_plate_warning 0 0 (W.supply ⟨s.m, []⟩ fun x => { x with basePlate := temp })).m.supply.basePlateWarn = false →
    prmI (useTwin s.base P.supply_base_plate_warning 0 0 (W.supply ⟨s.m, []⟩ fun x => { x with basePlate := temp })).m P.supply_base_plate_warning < temp →
    exec (.basePlateWarning temp) s = after s fun v w =>
      ((useTwin v P.supply_base_plate_warning 0 0 (w.supply fun x => { x with basePlate := temp })).supply fun x => { x with
        basePlateWarn := true }).event v 0x1106 1 (u8 1 ++ zeros 3 ++ s32 temp)) ∧
  (∀ mw s, powered s.m = true → s.m.ident.variantG = false → powerLimit s.m < mw → s.m.supply.powerOver = false →
    exec (.channelPowerLimit mw) s = after s fun v w =>
      ((w.supply fun x => { x with channelPower := mw, powerOver := true }).count C.channel_power_exceeded).event v 0x1107 1
        (u32 mw ++ u32 (powerLimit s.m))) ∧
  (∀ mw s, powered s.m = true → s.m.ident.variantG = false → mw ≤ powerLimit s.m →
    exec (.channelPowerLimit mw) s = after s fun _ w => w.supply fun x => { x with channelPower := mw, powerOver := false })

/-- BRING_UP runs steps 1 to 5 and then goes to SAFE on an unreadable MRAM or fuse array, or starts the first image of
the boot order; the deadline rejects an image with 0x1308 and tries the next; the sequencer watchdog is a data-plane
fault; watchdog, lockstep, memory error and unmanaged limit restart the management processor; FIRMWARE_RUNNING ends
the restart; MRAM_TIMEOUT goes to SAFE. -/
def Obligations.RestartEventsComplete : Prop :=
  (∀ b s, (b.badKeys ++ b.wornKeys).all (fun i => decide (i < 256)) = true → s.m.mod.state = .waking →
    s.m.mod.heldHot = false → b.mramOk = true → b.fuses % 8 = 7 →
    (bringUpFoot s.base b ⟨s.m, []⟩).m.mod.safeWake = false →
    exec (.bringUp b) s = after s fun v w =>
      let w := bringUpFoot v b w
      let w := if w.m.upd.st == 3 && w.m.upd.trialOver then endTrial 3 (atD ((bootOrder w.m).drop 1) 0 2) late w else w
      startImage v b.starts (nextImages w.m) w) ∧
  (∀ b s, (b.badKeys ++ b.wornKeys).all (fun i => decide (i < 256)) = true → s.m.mod.state = .waking →
    s.m.mod.heldHot = false → b.mramOk = false →
    exec (.bringUp b) s = after s fun v w => enterSafe v 2 0 (bringUpFoot v b w)) ∧
  (∀ b s, (b.badKeys ++ b.wornKeys).all (fun i => decide (i < 256)) = true → s.m.mod.state = .waking →
    s.m.mod.heldHot = false → b.mramOk = true → b.fuses % 8 ≠ 7 →
    exec (.bringUp b) s = after s fun v w => enterSafe v 2 1 (bringUpFoot v b w)) ∧
  (∀ starts k s, s.m.mod.booting = some k → s.m.mod.mgmtStart + 500000000 ≤ s.base.now →
    exec (.bringUpDeadline starts) s = after s fun v w =>
      let w := w.mod fun x => { x with booting := none, bootTried := x.bootTried ++ [k], mgmtStart := v.now }
      startImage v starts (nextImages w.m) (late 0x1308 2 (u8 k ++ u8 3 ++ zeros 2) w)) ∧
  (∀ s,
    exec .sequencerWatchdog s = after s fun v w => faultData v 3 0 w) ∧
  (∀ s, s.m.mod.firmwareRunning = true →
    s.base.expired (s.m.mod.mgmtStart + prmNs s.m P.module_mgmt_watchdog_timeout) = true →
    exec .mgmtWatchdogExpiry s = after s fun v w => faultRestart v 1 w) ∧
  (∀ s,
    exec .lockstepFault s = after s fun v w => faultRestart v 4 w) ∧
  (∀ addr s, mgmtUp s.m = true →
    exec (.mgmtMemoryError true addr) s = after s fun _ w => w.count C.mgmt_ecc_corrected) ∧
  (∀ addr s, mgmtUp s.m = true →
    exec (.mgmtMemoryError false addr) s = after s fun v w => faultRestart v 4 (w.event v 0x1404 2 (u32 addr))) ∧
  (∀ s, s.m.mod.firmwareRunning = false → s.m.mod.unmanagedSince.isSome = true →
    s.base.expired (s.m.mod.restartAt + 120000000) = true →
    exec .unmanagedLimit s = after s fun v w => faultRestart v 1 w) ∧
  (∀ t s, s.m.mod.firmwareRunning = false → s.m.mod.state = .unmanaged → s.m.mod.unmanagedSince = some t →
    lowRange s.m = false →
    exec .firmwareRunning s = after s fun v w =>
      let w := (w.count C.unmanaged_time 0 ((v.now - t) / 1000)).mod fun x => { x with
        firmwareRunning := true, mgmtStart := v.now }
      activateWanted v (restartDone v (enterRun v w))) ∧
  (∀ k s, s.m.mod.firmwareRunning = false → s.m.mod.state = .footpath → s.m.mod.booting = some k →
    exec .firmwareRunning s = after s fun v w => firmwareUp v (w.mod fun x => { x with runAt := 0 })) ∧
  (∀ s, s.m.mod.firmwareRunning = false → s.m.mod.state = .safe →
    exec .firmwareRunning s = after s fun v w => openService v (restartDone v (w.mod fun x => { x with
      firmwareRunning := true, mgmtStart := v.now }))) ∧
  (∀ s, powered s.m = true → s.m.mod.state ≠ .safe →
    exec .mramTimeout s = after s fun v w => enterSafe v 2 0 w)

/-- STATUS gives both slots; WRITE at offset 0 or at the end of an unprotected slot stores the bytes and answers the
new length; VERIFY checks the slot and answers whether it is usable and why not; ACTIVATE of a usable slot switches at
once, or waits while a parse context holds a frame; HEADER_READ answers the first 128 bytes, bytes never written being
free. -/
def Obligations.RoutebookRequestsAnswer : Prop :=
  (∀ r s i, Accepted opRoutebookStatus r s i →
    exec (.routebookStatus r) s = repliedOk opRoutebookStatus r i s (entered opRoutebookStatus r i s)
      (slotStatus s.m 0 ++ slotStatus s.m 1)) ∧
  (∀ r s i, Accepted opRoutebookWrite r s i → r.posted = false → 8 ≤ r.payload.length → leAt r.payload 0 1 ≤ 1 →
    leAt r.payload 4 4 + (r.payload.drop 8).length ≤ slotSize →
    (leAt r.payload 4 4 = 0 ∨ leAt r.payload 4 4 = (bookSlot s.m (leAt r.payload 0 1)).bytes.length) →
    s.m.upd.committed ≠ some (leAt r.payload 0 1) → protected_ s.m (leAt r.payload 0 1) = false →
    switching s.m = false →
    exec (.routebookWrite r) s = repliedOk opRoutebookWrite r i s (let all := if leAt r.payload 4 4 = 0 then r.payload.drop 8
         else (bookSlot s.m (leAt r.payload 0 1)).bytes ++ r.payload.drop 8
       (entered opRoutebookWrite r i s).bookSlot (leAt r.payload 0 1) fun _ => { st := if all.isEmpty then 2 else 3, bytes := all })
      (u32 (if leAt r.payload 4 4 = 0 then r.payload.drop 8
        else (bookSlot s.m (leAt r.payload 0 1)).bytes ++ r.payload.drop 8).length)) ∧
  (∀ w c r s i, Accepted opRoutebookVerify r s i → r.posted = false → 4 ≤ r.payload.length → leAt r.payload 0 1 ≤ 1 →
    bookUsable s.base (leAt r.payload 0 1) (entered opRoutebookVerify r i s) = (w, c) →
    exec (.routebookVerify r) s = repliedOk opRoutebookVerify r i s (w.bookSlot (leAt r.payload 0 1) fun b => { b with st := if c = 0 then 1 else if b.st = 0 then 0 else 2 })
      (u8 (b2n (c == 0)) ++ u8 c ++ zeros 2)) ∧
  (∀ w r s i, Accepted opRoutebookActivate r s i → r.posted = false → 4 ≤ r.payload.length → leAt r.payload 0 1 ≤ 1 →
    switching s.m = false → bookUsable s.base (leAt r.payload 0 1) (entered opRoutebookActivate r i s) = (w, 0) →
    busyContexts w.m = false →
    exec (.routebookActivate r) s = repliedOk opRoutebookActivate r i s (switchBook s.base (leAt r.payload 0 1) w).1
      (switchBook s.base (leAt r.payload 0 1) w).2) ∧
  (∀ w r s i, Accepted opRoutebookActivate r s i → r.posted = false → 4 ≤ r.payload.length → leAt r.payload 0 1 ≤ 1 →
    switching s.m = false → bookUsable s.base (leAt r.payload 0 1) (entered opRoutebookActivate r i s) = (w, 0) →
    busyContexts w.m = true →
    exec (.routebookActivate r) s = waiting opRoutebookActivate r i s (w.ing fun x => { x with ctxs := x.ctxs.map (fun c => { c with draining := c.draining || c.frame.isSome }) })
      (.book (leAt r.payload 0 1)) []) ∧
  (∀ r s i, Accepted opRoutebookHeaderRead r s i → 4 ≤ r.payload.length → leAt r.payload 0 1 ≤ 1 →
    128 ≤ (bookSlot s.m (leAt r.payload 0 1)).bytes.length →
    exec (.routebookHeaderRead r) s = repliedOk opRoutebookHeaderRead r i s (entered opRoutebookHeaderRead r i s)
      ((bookSlot s.m (leAt r.payload 0 1)).bytes.take 128))

/-- STATUS gives the update; BEGIN erases the target bank and keeps the header; CHUNK appends what its records
produce; FINISH checks size, header and hash and stages the image; ACTIVATE starts the trial and restarts into it;
CONFIRM of a self-confirmed trial makes its bank the confirmed one and may advance the fuse; ABORT ends it;
SELF_CONFIRM and TRIAL_WINDOW_EXPIRY act at their times. -/
def Obligations.UpdateCommandsComplete : Prop :=
  (∀ r s i, Accepted opUpdateStatus r s i →
    exec (.updateStatus r) s = repliedOk opUpdateStatus r i s (entered opUpdateStatus r i s)
      (u8 s.m.upd.st ++ u8 s.m.upd.target ++ zeros 2 ++ u32 s.m.upd.chunks ++ u32 (bytesWritten s.m)
        ++ u32 (trialTime s.base (entered opUpdateStatus r i s) / 1000000000) ++ u8 s.m.upd.trialRestarts ++ u8 (b2n s.m.upd.selfConfirmed) ++ zeros 2)) ∧
  (∀ r s i, Accepted opUpdateBegin r s i → 128 ≤ r.payload.length → s.m.upd.st = 0 →
    exec (.updateBegin r) s = repliedOk opUpdateBegin r i s (((entered opUpdateBegin r i s).bank (updateTarget s.m) fun _ => {}).update fun u => { u with
        st := 1, target := updateTarget s.m, header := r.payload.take 128, chunks := 0, lastChunk := [] })
      (u8 (updateTarget s.m) ++ zeros 3)) ∧
  (∀ recs bs r s i, Accepted opUpdateChunk r s i → r.posted = false → 40 ≤ r.payload.length →
    deltaRecords r.payload.length (r.payload.drop 40) = .ok recs → s.m.upd.st = 1 →
    (slice r.payload 8 32 = targetHash (runningBank s.m).header ∨ slice r.payload 8 32 = zeros 32 ∧ recs.all (fun r => !r.isCopy) = true) →
    (s.m.upd.chunks = 0 ∨ r.payload ≠ s.m.upd.lastChunk) → leAt r.payload 0 4 = s.m.upd.chunks →
    leAt r.payload 4 4 = (bankAt s.m s.m.upd.target).image.length →
    applyDelta (runningBank s.m).image recs = some bs →
    (bankAt s.m s.m.upd.target).image.length + bs.length ≤ min (headerSize s.m.upd.header) 25165696 →
    exec (.updateChunk r) s = repliedOk opUpdateChunk r i s ((((entered opUpdateChunk r i s).bank s.m.upd.target fun b => { b with image := b.image ++ bs }).update fun u => { u with
        chunks := u.chunks + 1, lastChunk := r.payload }).count C.update_chunks)
      (u32 ((bankAt s.m s.m.upd.target).image.length + bs.length))) ∧
  (∀ r s i, Accepted opUpdateFinish r s i → r.posted = false → s.m.upd.st = 1 →
    (bankAt s.m s.m.upd.target).image.length = headerSize s.m.upd.header → headerOk s.m s.m.upd.header = true →
    sha (bankAt s.m s.m.upd.target).image = targetHash s.m.upd.header →
    s.m.ident.fuseVersion ≤ headerSecurity s.m.upd.header →
    exec (.updateFinish r) s = repliedOk opUpdateFinish r i s ((((entered opUpdateFinish r i s).bank s.m.upd.target fun b => { b with st := 1, header := s.m.upd.header }).update fun u => { u with
        st := 2 }).event s.base 0x1301 0 (u32 (headerVersion s.m.upd.header) ++ u16 (headerSecurity s.m.upd.header)
          ++ u16 (headerCompat s.m.upd.header)))
      []) ∧
  (∀ w r s i, Accepted opUpdateActivate r s i → r.posted = false → 4 ≤ r.payload.length → leAt r.payload 0 1 ≤ 1 →
    s.m.upd.st = 2 →
    w = (useTwin s.base P.update_allow_dp_reset 0 0 (useTwin s.base P.update_update_enable 0 0 (entered opUpdateActivate r i s))) →
    activeFits w.m s.m.upd.header = true → prmB w.m P.update_update_enable = true →
    headerCompat s.m.upd.header = s.m.upd.dpCompat →
    exec (.updateActivate r) s = repliedThen opUpdateActivate r i s (afterReply 3 (beginTrial s.base false none w))
      []) ∧
  (∀ r s i, Accepted opUpdateConfirm r s i → s.m.upd.st = 3 → s.m.upd.selfConfirmed = true →
    exec (.updateConfirm r) s = repliedOk opUpdateConfirm r i s (confirmTrial s.base (useTwin s.base P.update_fuse_advance 0 0 (entered opUpdateConfirm r i s)))
      (u16 (confirmedFuse (useTwin s.base P.update_fuse_advance 0 0 (entered opUpdateConfirm r i s))) ++ zeros 2)) ∧
  (∀ v w, (confirmTrial v w).m.upd.confirmed = w.m.upd.target ∧ (confirmTrial v w).m.upd.st = 0 ∧
    (confirmTrial v w).m.ident.fuseVersion = confirmedFuse w) ∧
  (∀ r s i, Accepted opUpdateAbort r s i → (s.m.upd.st = 1 ∨ s.m.upd.st = 2) →
    exec (.updateAbort r) s = repliedOk opUpdateAbort r i s (((entered opUpdateAbort r i s).bank s.m.upd.target fun b => { b with st := 2 }).update fun u => { u with st := 0, result := 5 })
      []) ∧
  (∀ t s, s.m.upd.runSince = some t → s.m.upd.st = 3 → s.m.mod.bootBank = s.m.upd.target → s.m.mod.state = .run →
    s.m.mod.firmwareRunning = true → s.base.expired (t + prmNs s.m P.update_self_confirm_time) = true →
    exec .selfConfirm s = after s fun _ w => w.update fun u => { u with selfConfirmed := true }) ∧
  (∀ w s, w = accrueTrial s.base ⟨s.m, []⟩ → w.m.upd.st = 3 → powered w.m = true → w.m.mod.state ≠ .safe →
    prmNs w.m P.update_trial_window ≤ w.m.upd.trialNs →
    exec .trialWindowExpiry s = .next (commit s (fallback s.base 2 w)))

/-- COUNTER_READ answers a time stamp and one entry for each ID; CLEAR of IDs the role may clear zeroes them, raises
0x1405 and answers the values before; DESCRIBE gives the directory row; TEST_STATUS gives pending injections; RESTART,
FULL_RESET and SAFE_EXIT are answered and then restart or reset; INJECT arms the fault, counts it and raises 0x1406.
-/
def Obligations.CounterAndTestRequestsAnswer : Prop :=
  (∀ r s i, Accepted opCounterRead r s i → 4 ≤ r.payload.length → counterLengthOk r.payload = true →
    exec (.counterRead r) s = repliedOk opCounterRead r i s (snapFragments ((entered opCounterRead r i s).base s.base) (counterIds r.payload) (bridgeRead (entered opCounterRead r i s)))
      (counterHead ((entered opCounterRead r i s).base s.base) (counterIds r.payload).length ++ (counterIds r.payload).flatMap (counterEntry ((entered opCounterRead r i s).base s.base)))) ∧
  (∀ w b r s i, Accepted opCounterClear r s i → 4 ≤ r.payload.length → counterLengthOk r.payload = true →
    firstIndex (fun id => (clearStatus id).isSome) (counterIds r.payload) = none →
    clearAll s.base (counterIds r.payload) (entered opCounterClear r i s) = (w, b) →
    exec (.counterClear r) s = repliedOk opCounterClear r i s (w.event s.base 0x1405 0 (u32 (asked r i s).sid ++ u16 (counterIds r.payload).length ++ zeros 2
        ++ u32 (atD (counterIds r.payload) 0 0)))
      (counterHead ((entered opCounterClear r i s).base s.base) (counterIds r.payload).length ++ b)) ∧
  (∀ c r s i, Accepted opCounterDescribe r s i → 4 ≤ r.payload.length →
    counterRef (leAt r.payload 0 4 / 16777216) (leAt r.payload 0 4 / 65536 % 256) = some c →
    exec (.counterDescribe r) s = repliedOk opCounterDescribe r i s (entered opCounterDescribe r i s)
      (u32 (c.id 0) ++ u8 c.scope ++ u8 (b2n c.mram) ++ u16 c.count ++ ascii 32 c.name)) ∧
  (∀ r s i, Accepted opTestStatus r s i →
    exec (.testStatus r) s = repliedOk opTestStatus r i s (entered opTestStatus r i s)
      (u32 (pendingKinds s.m s.base.now) ++ u8 (b2n (prmB s.m P.module_full_reset_enable))
        ++ u8 (prm s.m P.module_safe_exit_mode) ++ zeros 2 ++ u32 s.m.mod.injected)) ∧
  (∀ r s i, Accepted opTestRestart r s i →
    exec (.testRestart r) s = repliedThen opTestRestart r i s (afterReply 1 (entered opTestRestart r i s))
      []) ∧
  (∀ r s i, Accepted opTestFullReset r s i → 8 ≤ r.payload.length → leAt r.payload 0 8 = s.m.ident.uniqueId →
    prmB s.m P.module_full_reset_enable = true →
    exec (.testFullReset r) s = repliedThen opTestFullReset r i s (afterReply 2 (entered opTestFullReset r i s))
      []) ∧
  (∀ r s i, Accepted opTestSafeExit r s i → s.m.mod.state = .safe → prm s.m P.module_safe_exit_mode ≠ 0 →
    exec (.testSafeExit r) s = repliedThen opTestSafeExit r i s (afterReply 2 (entered opTestSafeExit r i s))
      []) ∧
  (∀ r s i, Accepted opTestInject r s i → 8 ≤ r.payload.length →
    injectStatus s.m (leAt r.payload 0 1) (leAt r.payload 4 4) = none → s.m.mod.state = .run →
    speedAllows s.m = true → bit (pendingKinds s.m s.base.now) (leAt r.payload 0 1) = false →
    exec (.testInject r) s = .next (commit s (useFaultOut s.base (afterAction s.base (replied s.base opTestInject r i (slotAt s.m i).id St.ok []
      ((((inject s.base (leAt r.payload 0 1) (leAt r.payload 4 4) (entered opTestInject r i s)).mod fun x => { x with injected := x.injected + 1 }).count
        C.test_injections (leAt r.payload 0 1)).event s.base 0x1406 1
          (u8 (leAt r.payload 0 1) ++ zeros 3 ++ u32 (leAt r.payload 4 4) ++ u32 (asked r i s).sid)))))))

/-- DISCRETE_INPUT_CHANGE stores the new state of an input and its consequences; FREQ_EDGE counts an accepted edge;
ANALOGUE_INPUT_SAMPLE keeps the last ten samples; SENSOR_SUPPLY_TRIP and RETRY switch the limited sensor supply off
and on. -/
def Obligations.InputEventsComplete : Prop :=
  (∀ n x asserted s, n < 12 → dinState s.m n x = some asserted → inputSampled s.m n = true →
    bit s.m.io.din n ≠ asserted →
    exec (.discreteInputChange n x) s = after s fun v w =>
      let w := w.io fun y => { y with din := setFld y.din n 1 (b2n asserted) }
      if powered w.m then inputChanged v s.m w else w) ∧
  (∀ p s, p.input < 2 → powered s.m = true → edgeAccepted s.m p = true →
    exec (.freqEdge p) s = after s fun v w => w.io fun x => { x with freq := upd x.freq p.input (addEdge v.now) }) ∧
  (∀ n mv s, n < 4 → powered s.m = true →
    exec (.analogueInputSample n mv) s = after s fun _ w => w.io fun x => { x with ain := upd x.ain n (fun l => (mv :: l).take 10) }) ∧
  (∀ battery mv s, mv < 65536 → sensorOn s.m = true →
    exec (.sensorSupplyTrip battery mv) s = after s fun _ w => w.io fun x => { x with
      sensorLimited := true, sensorOffAt := s.base.now, sensorShort := battery, sensorMv := mv }) ∧
  (∀ battery mv s, mv < 65536 → s.m.io.sensorLimited = true → sensorWanted s.m = true →
    s.m.io.sensorOffAt + 1000000000 ≤ s.base.now →
    exec (.sensorSupplyRetry battery mv) s = after s fun _ w => w.io fun x => { x with
      sensorLimited := false, sensorShort := battery, sensorMv := mv })

/-- For every command c, every state and every rest of the queue, a step of the state whose queue is c and then the
rest is exec of c on the state with the rest as its queue. -/
def Obligations.StepRunsFrontCommand : Prop :=
  ∀ (c : Instr) (rest : List Instr) (s : State),
    step { s with pending := c :: rest } = exec c { s with pending := rest }

/-- With an empty queue a step advances all four time bases by one edge of R363 and changes nothing else; while the
module is OFF or in SLEEP the clock is stopped (R362) and the step changes nothing. That an idle step is one edge is
the model's choice (log entry 4). -/
def Obligations.IdleStepIsOneClockEdge : Prop :=
  (∀ s : State, s.pending = [] → clockRuns s.m = true →
    step s = .next { s with base := { s.base with time := {
      tb0 := s.base.time.tb0.edges 1, tb1 := s.base.time.tb1.edges 1
      tb2 := s.base.time.tb2.edges 1, tb3 := s.base.time.tb3.edges 1 } } }) ∧
  (∀ s : State, s.pending = [] → (s.m.mod.state = .off ∨ s.m.mod.state = .sleep) → step s = .next s)

/-- Whatever command runs, in every state: when it ends in a next state, the queue of that state is the queue the
command found. -/
def Obligations.CommandsLeaveTheQueue : Prop :=
  ∀ (c : Instr) (s t : State), exec c s = .next t → t.pending = s.pending

/-- A command whose operands are in range answers a next state in every state; any command ends in a next state or,
when it names a unit the module does not have, in the fault noSuchUnit: no command is refused. -/
def Obligations.WellFormedCommandsComplete : Prop :=
  (∀ (c : Instr) (s : State), c.wf = true → ∃ t, exec c s = .next t) ∧
  (∀ (c : Instr) (s : State), (∃ t, exec c s = .next t) ∨ exec c s = .fault .noSuchUnit)

/-- At State.reset the event queue is within its 1,024 entries, every entry's counts fit their fields, and the
counters are canonical and within 64 bits. -/
def Obligations.ResetMeetsInvariant : Prop :=
  State.reset.base.Inv

/-- From every state whose event queue has at most 1,024 entries with repeat counts of at most 255 and 32-bit
sequences, and whose counters are at most 2^64 - 1 in the canonical form, every step that answers a next state gives a
state that meets the same, whatever command it runs and whether or not the queue is empty. -/
def Obligations.StepKeepsInvariant : Prop :=
  ∀ s t : State, s.base.Inv → step s = .next t → t.base.Inv

/-- After the power-on reset the module is WAKING with last_reset_cause 0; every time base stands at 0 with the
nominal increment; the event queue is empty and its next sequence is 1; every counter reads 0; the four session slots
are FREE; both generations are 0; every parameter holds its default with its complement; no route book is active; no
command waits. Zero time bases are the model's choice (log entry 3). -/
def Obligations.ResetState : Prop :=
  State.reset.m.mod.state = .waking ∧ State.reset.m.mod.resetCause = 0 ∧ State.reset.pending = [] ∧
  (∀ k, (State.reset.base.time.get k).full = 0 ∧ (State.reset.base.time.get k).incr.toNat = 0x0400000000) ∧
  State.reset.base.ev.entries = [] ∧ State.reset.base.ev.next = 1 ∧
  (∀ id, State.reset.base.cnt.getD id 0 = 0) ∧
  (∀ i, (slotAt State.reset.m i).st = .free) ∧
  State.reset.m.mod.generation = 0 ∧ State.reset.m.tab.generation = 0 ∧
  (∀ (r : PRef) i e, storedPair State.reset.m r i e = r.pair (r.raw (r.default i e))) ∧
  State.reset.m.mod.configSource = 2

/-- A data-plane reset of any cause leaves the module WAKING with that cause: sessions, DoIP, queues, learned state,
tables, parameters and both generations start afresh; key slots, journal, persisted freshness, wake records,
keep-awake ledger, firmware banks and route book slots, footpath copies and identity stay. The event queue keeps its
critical entries, with their sequences, and no other; a counter held in MRAM keeps its value and every other one reads
0; TB2 starts from 0. -/
def Obligations.DataPlaneReset : Prop :=
  (∀ (m : Module) (cause : Nat), let t := resetModule m cause
    t.mod.state = .waking ∧ t.mod.resetCause = cause ∧ t.borul = {} ∧ t.doip = {} ∧ t.fab = {} ∧ t.flow = {} ∧ t.tab = {} ∧
    t.jn = {} ∧ t.mod.params = [] ∧ t.mod.generation = 0 ∧ t.mod.firmwareRunning = false ∧
    t.keys.slots = m.keys.slots ∧ t.keys.generation = m.keys.generation ∧ t.keys.mram = m.keys.mram ∧
    t.jr.ring = m.jr.ring ∧ t.jr.next = m.jr.next ∧ t.jr.chain = m.jr.chain ∧ t.jr.lastSeal = m.jr.lastSeal ∧
    t.jr.lastMinute = m.jr.lastMinute ∧ t.jr.odometerUm = m.jr.odometerUm ∧ t.slp.records = m.slp.records ∧
    t.slp.ledger = m.slp.ledger ∧ t.upd.banks = m.upd.banks ∧ t.upd.slots = m.upd.slots ∧ t.upd.committed = m.upd.committed ∧
    t.mod.footCopies = m.mod.footCopies ∧ t.ident = m.ident) ∧
  (∀ b : Base, b.cnt.wf 0 = true → let t := applyEff b .resetLogs
    t.ev.entries = b.ev.entries.filter (fun e => e.severity == 3) ∧
    t.ev.next = (match (b.ev.entries.filter (fun e => e.severity == 3)).getLast? with
      | some e => (e.seq + 1) % 2 ^ 32
      | none => 1) ∧
    ∀ id, t.cnt.getD id 0 = if isMramCounter id then b.cnt.getD id 0 else 0) ∧
  (∀ (b : Base) t0 t1 t3, (applyEff b (.restart t0 t1 t3)).time.tb2.full = 0)

/-- An occurrence that takes a new entry finds its place at the end under the next event_sequence; when 1,024 entries
are queued and one of them is not critical, the oldest non-critical entry leaves and event_dropped counts it. Whatever
occurs, every critical entry is still there afterwards, unchanged but for a repeat_count that may have risen. -/
def Obligations.FullQueueDropsTheOldestNonCritical : Prop :=
  (∀ (b : Base) (e : Event), b.ev.entries.length < queueBound →
    (b.enqueueEvent e).ev.entries = b.ev.entries ++ [{ e with seq := b.ev.next }] ∧ (b.enqueueEvent e).cnt = b.cnt) ∧
  (∀ (b : Base) (e x : Event) (before rest : List Event), b.Inv → b.ev.entries.length = queueBound →
    b.ev.entries = before ++ x :: rest → (∀ y ∈ before, y.severity = 3) → x.severity ≠ 3 →
    (b.enqueueEvent e).ev.entries = before ++ rest ++ [{ e with seq := b.ev.next }] ∧
    (b.enqueueEvent e).cnt.getD (C.event_dropped.id 0) 0 = min (b.cnt.getD (C.event_dropped.id 0) 0 + 1) counterMax) ∧
  (∀ (b : Base) (code sev tb : Nat) (d : List Byte) (e : Event), b.Inv → e ∈ b.ev.entries → e.severity = 3 →
    ∃ e' ∈ (b.event code sev tb d).ev.entries, { e' with rep := e.rep } = e ∧ e.rep ≤ e'.rep)

/-- While an unacknowledged critical entry with the same code and the same detail body exists, a critical occurrence
takes no new entry and raises a repeat_count, which saturates at 255; with 512 critical entries queued and one of its
code, it raises the repeat_count of the newest of them, its own detail is not kept, and event_critical_merged counts
it; otherwise it takes a new entry. A non-critical occurrence always takes an entry of its own. -/
def Obligations.CriticalEventsMerge : Prop :=
  (∀ (b : Base) (code tb : Nat) (d : List Byte),
    let same := fun (e : Event) => e.severity == 3 && e.code == code && e.detail == d
    b.ev.entries.any same = true →
    ∃ before e rest, b.ev.entries = before ++ e :: rest ∧ same e = true ∧ rest.any same = false ∧
      (b.event code 3 tb d).ev.entries = before ++ { e with rep := min (e.rep + 1) 255 } :: rest ∧
      (b.event code 3 tb d).cnt = b.cnt) ∧
  (∀ (b : Base) (code tb : Nat) (d : List Byte), b.Inv →
    let same := fun (e : Event) => e.severity == 3 && e.code == code && e.detail == d
    let sameCode := fun (e : Event) => e.severity == 3 && e.code == code
    b.ev.entries.any same = false → criticalBound ≤ (b.ev.entries.filter (fun e => e.severity == 3)).length →
    b.ev.entries.any sameCode = true →
    ∃ before e rest, b.ev.entries = before ++ e :: rest ∧ sameCode e = true ∧ rest.any sameCode = false ∧
      (b.event code 3 tb d).ev.entries = before ++ { e with rep := min (e.rep + 1) 255 } :: rest ∧
      (b.event code 3 tb d).cnt.getD (C.event_critical_merged.id 0) 0
        = min (b.cnt.getD (C.event_critical_merged.id 0) 0 + 1) counterMax) ∧
  (∀ (b : Base) (code tb : Nat) (d : List Byte),
    b.ev.entries.any (fun e => e.severity == 3 && e.code == code && e.detail == d) = false →
    ((b.ev.entries.filter (fun e => e.severity == 3)).length < criticalBound ∨
      b.ev.entries.any (fun e => e.severity == 3 && e.code == code) = false) →
    b.event code 3 tb d = b.enqueueEvent (mkEvent b code 3 tb d)) ∧
  (∀ (b : Base) (code sev tb : Nat) (d : List Byte), sev ≠ 3 →
    b.event code sev tb d = b.enqueueEvent (mkEvent b code sev tb d)) ∧
  (∀ (b : Base) (e x : Event) (before rest : List Event), b.ev.entries.length = queueBound →
    b.ev.entries = before ++ x :: rest → (∀ y ∈ before, y.severity = 3) → x.severity ≠ 3 →
    ∀ y ∈ b.ev.entries, y.severity = 3 → y ∈ (b.enqueueEvent e).ev.entries)

/-- Counting n adds n to that counter up to 0xFFFF_FFFF_FFFF_FFFF and leaves every other counter alone; every effect
other than COUNTER_CLEAR and the start of a data-plane reset leaves each counter at least where it was; a clear sets
the counters it names to 0 and leaves the others alone. -/
def Obligations.CountersRiseAndSaturate : Prop :=
  (∀ (b : Base) (id n j : Nat), b.Inv →
    (applyEff b (.count id n)).cnt.getD j 0 = if j = id then min (b.cnt.getD id 0 + n) counterMax else b.cnt.getD j 0) ∧
  (∀ (b : Base) (e : Eff) (j : Nat), b.Inv → (∀ ids, e ≠ .clear ids) → e ≠ .resetLogs →
    b.cnt.getD j 0 ≤ (applyEff b e).cnt.getD j 0) ∧
  (∀ (b : Base) (ids : List Nat) (j : Nat), b.Inv →
    (applyEff b (.clear ids)).cnt.getD j 0 = if ids.contains j then 0 else b.cnt.getD j 0)

/-- On an edge the 40-bit increment is added to the 64-bit concatenation of n and the fraction; a carry out of n
raises m by 1 modulo 2^32; the increment is unchanged; the full time is m x 2^32 + n nanoseconds. Several edges are as
many single ones. -/
def Obligations.TimeBaseEdge : Prop :=
  (∀ t : TimeBase,
    (t.edges 1).n ++ (t.edges 1).frac = (t.n ++ t.frac) + t.incr.setWidth 64 ∧
    (t.edges 1).m = (if 2 ^ 64 ≤ (t.n ++ t.frac).toNat + t.incr.toNat then t.m + 1 else t.m) ∧
    (t.edges 1).incr = t.incr ∧ t.full = t.m.toNat * 2 ^ 32 + t.n.toNat) ∧
  (∀ (t : TimeBase) (k : Nat), t.edges (k + 1) = (t.edges k).edges 1)

/-- No effect of any command takes TB3 back: a step, a slew, a data-plane reset and an advance leave its full time
where it was or move it forward, and clock edges move it forward by what R363 adds as long as the 64-bit full time has
not reached its end. -/
def Obligations.Tb3NeverDecreases : Prop :=
  (∀ (b : Base) (e : Eff), (∀ k, e ≠ .edges k) → b.time.tb3.full ≤ (applyEff b e).time.tb3.full) ∧
  (∀ (t : TimeBase) (k : Nat), t.full * 2 ^ 32 + t.frac.toNat + k * t.incr.toNat < 2 ^ 96 →
    t.full ≤ (t.edges k).full ∧
    (t.edges k).full * 2 ^ 32 + (t.edges k).frac.toNat = t.full * 2 ^ 32 + t.frac.toNat + k * t.incr.toNat)

/-- The n bytes of a little-endian field read back as the value modulo 256^n, with the least significant byte first;
the n bytes of a big-endian field are the same bytes in the opposite order and read back as the same value; a signed
value within its width comes back from its two's complement encoding. -/
def Obligations.FieldsRoundTrip : Prop :=
  (∀ n v, leVal (leBytes n v) = v % 256 ^ n ∧ (leBytes n v).length = n) ∧
  (∀ n v, beVal (beBytes n v) = v % 256 ^ n ∧ beBytes n v = (leBytes n v).reverse) ∧
  (∀ n v, (leBytes (n + 1) v).head? = some (BitVec.ofNat 8 v)) ∧
  (∀ (n : Nat) (i : Int), 0 < n → -(2 ^ (n - 1) : Nat) ≤ i → i < (2 ^ (n - 1) : Nat) → signed n (twos n i) = i)

/-- For every operation and every packet: while Borul is not served the packet has no effect but, in UNMANAGED, its
count at I0; a packet that reaches no Borul endpoint has none; step 1: bad framing, an unknown session or an endpoint
that is not the session's is discarded and counted, a wrong trailer is counted as an authentication failure; step 2:
an opcode the session's state does not allow is answered NOT_AUTHENTICATED, and so is any but SESSION_HELLO and INFO
outside a session; step 3: another version VERSION_UNSUPPORTED; steps 5 and 6: a request with a fresh sequence number
enters the duplicate cache and is then answered BAD_OPCODE, NOT_PERMITTED or, by the detour image, WRONG_STATE; an
opcode that no table gives is one of no version; step 7: a tag in use is answered BUSY. None of these replies depends
on what the operation would do. Every reply with a status of 0x0100 or higher begins with the sequence number of its
request. -/
def Obligations.RequestsAreCheckedInOrder : Prop :=
  (∀ op r body (s : State), managed s.m = false →
    run true (request op r body) s =
      after s fun _ w => if s.m.mod.state = .unmanaged then w.count C.i0_rx_drop else w) ∧
  (∀ op r body (s : State), managed s.m = true →
    admitted s.m ((if r.sessionId == 0 then none else findSlot s.m r.sessionId).map (slotAt s.m)) r.src = .no →
    run true (request op r body) s = after s fun _ w => w) ∧
  (∀ op r body (s : State), managed s.m = true →
    admitted s.m ((if r.sessionId == 0 then none else findSlot s.m r.sessionId).map (slotAt s.m)) r.src = .discard →
    run true (request op r body) s = after s fun _ w => w.count C.borul_rx_discarded) ∧
  (∀ op r body (s : State) t, managed s.m = true →
    admitted s.m ((if r.sessionId == 0 then none else findSlot s.m r.sessionId).map (slotAt s.m)) r.src = .yes t →
    framingOk r = false → run true (request op r body) s = after s fun _ w => w.count C.borul_rx_discarded) ∧
  (∀ op r body (s : State) t, managed s.m = true → r.sessionId ≠ 0 → findSlot s.m r.sessionId = none →
    admitted s.m none r.src = .yes t → framingOk r = true →
    run true (request op r body) s = after s fun _ w => w.count C.borul_rx_discarded) ∧
  (∀ op r body (s : State) t, managed s.m = true → r.sessionId = 0 →
    admitted s.m none r.src = .yes t → framingOk r = true →
    r.trailer ≠ trailerOf none (requestBytes (named op r).code r) →
    run true (request op r body) s = after s fun _ w => w.count C.borul_auth_fail) ∧
  (∀ op r body (s : State) i t, managed s.m = true → r.sessionId ≠ 0 → findSlot s.m r.sessionId = some i →
    admitted s.m (some (slotAt s.m i)) r.src = .yes t → framingOk r = true →
    (sameEndpoint (slotAt s.m i).src r.src = false ∨ s.base.late (slotAt s.m i).deadline = true) →
    run true (request op r body) s = after s fun _ w => w.count C.borul_rx_discarded) ∧
  (∀ op r body (s : State) i t, managed s.m = true → r.sessionId ≠ 0 → findSlot s.m r.sessionId = some i →
    admitted s.m (some (slotAt s.m i)) r.src = .yes t → framingOk r = true →
    sameEndpoint (slotAt s.m i).src r.src = true → s.base.late (slotAt s.m i).deadline = false →
    r.trailer ≠ trailerOf (some (slotAt s.m i).key) (requestBytes (named op r).code r) →
    ((slotAt s.m i).st ≠ .pending ∨ (named op r).code ≠ 0x0102) →
    run true (request op r body) s = after s fun _ w => w.count C.borul_auth_fail) ∧
  (∀ op r body (s : State) t, r.other = none → managed s.m = true → r.sessionId = 0 →
    admitted s.m none r.src = .yes t → framingOk r = true → r.trailer = trailerOf none (requestBytes op.code r) →
    op.code ≠ 0x0101 → op.code / 256 ≠ 0x02 →
    run true (request op r body) s = after s fun v w =>
      respond v op r none St.notAuthenticated false [] (w.count C.borul_rx_packets)) ∧
  (∀ op r body (s : State) i, Verified op r s i →
    (if (slotAt s.m i).st = .pending then op.code ≠ 0x0102 else op.code = 0x0101 ∨ op.code = 0x0102) →
    run true (request op r body) s = after s fun v w =>
      turnAway v op r i St.notAuthenticated (w.count C.borul_rx_packets)) ∧
  (∀ op r body (s : State) i, Verified op r s i → allowedIn (slotAt s.m i) op = true →
    (r.major, r.minor) ≠ ((slotAt s.m i).major, (slotAt s.m i).minor) →
    run true (request op r body) s = after s fun v w =>
      turnAway v op r i St.versionUnsupported (heard v r i w)) ∧
  (∀ op r body (s : State) i st d, Reaches op r s i → findDup op r (slotAt s.m i) = none →
    (slotAt s.m i).rxHigh < r.sequence →
    gate s.m op ((slotAt s.m i).major, (slotAt s.m i).minor) ((slotAt s.m i).role + 1)
      (wholePayload s.base r (slotAt s.m i)) = some (st, d) →
    run true (request op r body) s = after s fun v _ => respond v op r (some i) st false d (entered op r i s)) ∧
  (∀ op r body (s : State) i, Reaches op r s i → findDup op r (slotAt s.m i) = none →
    (slotAt s.m i).rxHigh < r.sequence →
    gate s.m op ((slotAt s.m i).major, (slotAt s.m i).minor) ((slotAt s.m i).role + 1)
      (wholePayload s.base r (slotAt s.m i)) = none →
    trainOf (slotAt s.m i) r.tag = none → (slotAt s.m i).tags.contains r.tag = true →
    run true (request op r body) s = after s fun v _ => respond v op r (some i) St.busy false [] (entered op r i s)) ∧
  (∀ m op ver role p, gate m op ver role p =
    if familyRev (op.code / 256) ver < op.rev then some (St.badOpcode, [])
    else if role < op.role ∨ op.code = 0x0403 ∧ role < 3 ∧ p ≠ [] ∧ leAt p 0 1 = 0x0D then some (St.notPermitted, [])
    else match (if op.code = 0x0602 ∧ role < 3 then firstIndex isMramCounter (counterIds p) else none) with
      | some k => some (St.notPermitted, u16 k ++ zeros 2)
      | none => if (m.mod.state = .safe ∨ m.mod.bootBank = 2) ∧ detourServes m op = false then some (St.wrongState, [])
        else none) ∧
  (∀ op r c, r.other = some c → named op r = { code := c, role := 0, rev := 256 }) ∧
  (∀ fam ver, familyRev fam ver < 256) ∧
  (∀ v op r i st posted p w, 0x0100 ≤ st → respond v op r (some i) st posted p w =
    replyTo v i r.src op.code r.sequence r.tag st posted (u32 r.sequence ++ p) w) ∧
  (∀ v op r st posted p w, 0x0100 ≤ st → st ≠ St.busy → respond v op r none st posted p w =
    sendBare r op.code st (u32 r.sequence ++ p) w) ∧
  (∀ v op r i st w, 0x0100 ≤ st → turnAway v op r i st w =
    sendOn v i r.src { major := 0, minor := 0, opcode := op.code, tag := r.tag, reply := true, status := st
                       payload := u32 r.sequence } w)

/-- A request that matches one of the last 32 accepted requests of its session in sequence number, tag, opcode and
CMAC trailer is a duplicate: when its reply is complete, that reply goes out again with its status and payload under a
new module sequence number, and when the original is still executing the duplicate is discarded; any other request
whose sequence number is not greater than the highest accepted one is answered COUNTER_STALE; none of them runs the
operation. A sequence number that is greater by any amount is accepted and becomes the highest. -/
def Obligations.DuplicatesAreNotRunAgain : Prop :=
  (∀ op r body (s : State) i d, Reaches op r s i → findDup op r (slotAt s.m i) = some d → d.reply = none →
    run true (request op r body) s = after s fun v w => (heard v r i w).count C.borul_duplicate) ∧
  (∀ op r body (s : State) i d st posted p, Reaches op r s i → findDup op r (slotAt s.m i) = some d →
    d.reply = some (st, posted, p) →
    run true (request op r body) s = after s fun v w =>
      sendOn v i r.src { major := 0, minor := 0, opcode := op.code, tag := r.tag, reply := true, posted := posted
                         status := st, payload := p } ((heard v r i w).count C.borul_duplicate)) ∧
  (∀ op r body (s : State) i, Reaches op r s i → findDup op r (slotAt s.m i) = none →
    r.sequence ≤ (slotAt s.m i).rxHigh →
    run true (request op r body) s = after s fun v w =>
      sendOn v i r.src { major := 0, minor := 0, opcode := op.code, tag := r.tag, reply := true
                         status := St.counterStale, payload := u32 r.sequence } ((heard v r i w).count C.borul_stale)) ∧
  (∀ op r (x : Session) d, findDup op r x = some d →
    d ∈ x.dup ∧ d.seq = r.sequence ∧ d.tag = r.tag ∧ d.opcode = op.code ∧ d.cmac = r.trailer) ∧
  (∀ op r (x : Session), findDup op r x = none → ∀ d ∈ x.dup,
    ¬ (d.seq = r.sequence ∧ d.tag = r.tag ∧ d.opcode = op.code ∧ d.cmac = r.trailer)) ∧
  (∀ op r (s : State) i, Reaches op r s i → (slotAt s.m i).rxHigh < r.sequence →
    (slotAt (entered op r i s).m i).rxHigh = r.sequence ∧
    ∃ older, (slotAt s.m i).dup ++ [{ seq := r.sequence, tag := r.tag, opcode := op.code, cmac := r.trailer }]
      = older ++ (slotAt (entered op r i s).m i).dup ∧
      (slotAt (entered op r i s).m i).dup.length = min 32 ((slotAt s.m i).dup.length + 1))

/-- Whatever event is raised, rate-limited or not, all registers, tables, queues, sessions and controllers stay as
they were: only the journal and the start of self-confirmation time may change, and the effects grow at their end by
the event and what the journal counts. -/
def Obligations.EventsTouchOnlyQueueAndJournal : Prop :=
  (∀ (w : W) v code sev d, SameButJournal w.m (w.event v code sev d).m) ∧
  (∀ (w : W) v code sev src interval d, SameButJournal w.m (w.limited v code sev src interval d).m) ∧
  (∀ (w : W) v flags, SameButJournal w.m (writeSeal v flags w).m)

/-- For each of the listed read operations, in every state and for every packet, accepted or not, duplicate, stale,
fragmented or turned away: the command completes, and the module after it differs from the module before in its
sessions, its journal and the start of self-confirmation time only; COUNTER_READ also in the snapshots it takes of the
fragment counters. -/
def Obligations.ReadsChangeNothingElse : Prop :=
  ∀ (r : Request) (s : State),
    OnlyReads s (exec (.sessionPing r) s) ∧ OnlyReads s (exec (.sessionList r) s) ∧ OnlyReads s (exec (.eventStatus r) s) ∧
    OnlyReads s (exec (.eventRead r) s) ∧ OnlyReads s (exec (.infoIdentity r) s) ∧ OnlyReads s (exec (.infoVersions r) s) ∧
    OnlyReads s (exec (.infoState r) s) ∧ OnlyReads s (exec (.infoBlocks r) s) ∧ OnlyReads s (exec (.paramDescribe r) s) ∧
    OnlyReads s (exec (.paramChanged r) s) ∧ OnlyReads s (exec (.timeRead r) s) ∧ OnlyReads s (exec (.timePortStatus r) s) ∧
    OnlyReads s (exec (.keyStatus r) s) ∧ OnlyReads s (exec (.keyCertRead r) s) ∧ OnlyReads s (exec (.journalStatus r) s) ∧
    OnlyReads s (exec (.journalRead r) s) ∧ OnlyReads s (exec (.routebookStatus r) s) ∧ OnlyReads s (exec (.updateStatus r) s) ∧
    OnlyReadsAcross s (exec (.counterRead r) s) ∧ OnlyReads s (exec (.counterDescribe r) s) ∧ OnlyReads s (exec (.testStatus r) s) ∧
    OnlyReads s (exec (.objectStatus r) s) ∧ OnlyReads s (exec (.objectRead r) s) ∧ OnlyReads s (exec (.objectCollisions r) s) ∧
    OnlyReads s (exec (.objectLinBufferRead r) s) ∧ OnlyReads s (exec (.sleepStatus r) s) ∧ OnlyReads s (exec (.sleepWakeRecords r) s) ∧
    OnlyReads s (exec (.sleepFilterRead r) s) ∧ OnlyReads s (exec (.sleepLedgerRead r) s) ∧ OnlyReads s (exec (.junctionStatus r) s) ∧
    OnlyReads s (exec (.junctionMapStatus r) s) ∧ OnlyReads s (exec (.junctionTemplateRead r) s) ∧ OnlyReads s (exec (.junctionSignalRead r) s) ∧
    OnlyReads s (exec (.junctionGroupRead r) s)

/-- A PARAM_WRITE of a valid length that states an expected generation other than the current one is answered
COUNTER_STALE before any entry is checked; after the request's sequence number the reply carries entry index 0, 2
reserved bytes and the current generation, and the state is that of a request turned away: no parameter and no
generation changes. -/
def Obligations.StaleGenerationWritesNothing : Prop :=
  ∀ (r : Request) (s : State) (i n : Nat), Accepted opParamWrite r s i → n = leAt r.payload 0 2 → 1 ≤ n → n ≤ 202 →
    r.payload.length = 8 + 20 * n → bit (leAt r.payload 2 1) 0 = true → leAt r.payload 4 4 ≠ s.m.mod.generation →
    exec (.paramWrite r) s = repliedWith opParamWrite r i s (entered opParamWrite r i s) St.counterStale
      (u16 0 ++ zeros 2 ++ u32 s.m.mod.generation) ∧
    (entered opParamWrite r i s).m.mod = s.m.mod
end

