-- ==== Sys2Proof/Laws/Base.lean ====
section
/-! SUPPORT. What an effect does to counters, event queue and time bases, and that every command reaches them by
effects only. -/

namespace Sys2Proof.Machine

/-! ### Every command -/

theorem run_next {ok : Bool} {f : View → W → W} {s t : State} (h : run ok f s = .next t) :
    t = commit s (f s.base ⟨s.m, []⟩) := by
  unfold run at h
  split at h
  · exact (Host.Outcome.next.inj h).symm
  · cases h

theorem run_pending {ok : Bool} {f : View → W → W} {s t : State} (h : run ok f s = .next t) : t.pending = s.pending := by
  rw [run_next h]; rfl

theorem run_effects {ok : Bool} {f : View → W → W} {s t : State} (h : run ok f s = .next t) :
    ∃ es : List Eff, t.base = es.foldl applyEff s.base := by
  rw [run_next h]; exact ⟨_, rfl⟩

theorem run_ends (ok : Bool) (f : View → W → W) (s : State) :
    (∃ t, run ok f s = .next t) ∨ run ok f s = .fault .noSuchUnit := by
  unfold run; split
  · exact .inl ⟨_, rfl⟩
  · exact .inr rfl

theorem run_completes {ok : Bool} (h : ok = true) (f : View → W → W) (s : State) : ∃ t, run ok f s = .next t := by
  subst h; exact ⟨_, rfl⟩

/-- The same three facts for a command whose operands are always in range. -/
theorem next_pending {s t : State} {w : W}
    (h : (Host.Outcome.next (commit s w) : Host.Outcome State Fault Refusal) = .next t) : t.pending = s.pending := by
  cases h; rfl

theorem next_effects {s t : State} {w : W}
    (h : (Host.Outcome.next (commit s w) : Host.Outcome State Fault Refusal) = .next t) :
    ∃ es : List Eff, t.base = es.foldl applyEff s.base := by
  cases h; exact ⟨_, rfl⟩

theorem next_completes (s : State) (w : W) :
    ∃ t, (Host.Outcome.next (commit s w) : Host.Outcome State Fault Refusal) = .next t := ⟨_, rfl⟩

end Sys2Proof.Machine

namespace Sys2Proof.SMap
variable {α : Type}

/-- Every key of the map lies above `b`. -/
def Above (b : Nat) (m : SMap α) : Prop := ∀ p ∈ m, b < p.1

/-- The canonical form, in the shape inductions use. -/
theorem wf_cons [DecidableEq α] (d : α) (k : Nat) (v : α) (r : SMap α) :
    wf d ((k, v) :: r) = true ↔ v ≠ d ∧ Above k r ∧ wf d r = true := by
  induction r generalizing k v with
  | nil => simp [wf, Above]
  | cons p r ih =>
    obtain ⟨k', v'⟩ := p
    rw [show wf d ((k, v) :: (k', v') :: r) = (decide (v ≠ d) && decide (k < k') && wf d ((k', v') :: r)) from rfl]
    rw [Bool.and_eq_true, Bool.and_eq_true, decide_eq_true_iff, decide_eq_true_iff]
    constructor
    · rintro ⟨⟨h1, h2⟩, h3⟩
      refine ⟨h1, ?_, h3⟩
      have h4 := ((ih k' v').mp h3).2.1
      intro p hp
      rcases List.mem_cons.mp hp with rfl | hp
      · exact h2
      · exact Nat.lt_trans h2 (h4 p hp)
    · rintro ⟨h1, h2, h3⟩
      exact ⟨⟨h1, h2 _ (List.mem_cons_self ..)⟩, h3⟩

theorem mem_put (m : SMap α) (i : Nat) (x : α) (p : Nat × α) (h : p ∈ m.put i x) : p = (i, x) ∨ p ∈ m := by
  induction m with
  | nil => simpa [put] using h
  | cons q r ih =>
    obtain ⟨k, v⟩ := q
    simp only [put] at h
    split at h
    · rcases List.mem_cons.mp h with h | h
      · exact .inl h
      · exact .inr h
    · split at h
      · rcases List.mem_cons.mp h with h | h
        · exact .inl h
        · exact .inr (List.mem_cons_of_mem _ h)
      · rcases List.mem_cons.mp h with h | h
        · exact .inr (h ▸ List.mem_cons_self ..)
        · rcases ih h with h | h
          · exact .inl h
          · exact .inr (List.mem_cons_of_mem _ h)

theorem mem_erase (m : SMap α) (i : Nat) (p : Nat × α) (h : p ∈ m.erase i) : p ∈ m := by
  induction m with
  | nil => simp [erase] at h
  | cons q r ih =>
    obtain ⟨k, v⟩ := q
    simp only [erase] at h
    split at h
    · exact List.mem_cons_of_mem _ h
    · split at h
      · exact h
      · rcases List.mem_cons.mp h with h | h
        · exact h ▸ List.mem_cons_self ..
        · exact List.mem_cons_of_mem _ (ih h)

variable [DecidableEq α]

/-- Storing a value other than the default keeps the canonical form. -/
theorem wf_put (m : SMap α) (d : α) (i : Nat) (x : α) (hx : x ≠ d) (h : m.wf d = true) : (m.put i x).wf d = true := by
  induction m with
  | nil => simp [put, wf, hx]
  | cons q r ih =>
    obtain ⟨k, v⟩ := q
    obtain ⟨h1, h2, h3⟩ := (wf_cons d k v r).mp h
    simp only [put]
    split
    · rename_i hlt
      refine (wf_cons ..).mpr ⟨hx, ?_, h⟩
      intro p hp
      rcases List.mem_cons.mp hp with rfl | hp
      · exact hlt
      · exact Nat.lt_trans hlt (h2 p hp)
    · split
      · rename_i he
        exact (wf_cons ..).mpr ⟨hx, he ▸ h2, h3⟩
      · rename_i h4 h5
        refine (wf_cons ..).mpr ⟨h1, ?_, ih h3⟩
        intro p hp
        rcases mem_put r i x p hp with rfl | hp
        · show k < i; omega
        · exact h2 p hp

/-- Removing an entry keeps the canonical form. -/
theorem wf_erase (m : SMap α) (d : α) (i : Nat) (h : m.wf d = true) : (m.erase i).wf d = true := by
  induction m with
  | nil => simp [erase, wf]
  | cons q r ih =>
    obtain ⟨k, v⟩ := q
    obtain ⟨h1, h2, h3⟩ := (wf_cons d k v r).mp h
    simp only [erase]
    split
    · exact h3
    · split
      · exact h
      · exact (wf_cons ..).mpr ⟨h1, fun p hp => h2 p (mem_erase r i p hp), ih h3⟩

/-- A store keeps the canonical form: the default is never listed. -/
theorem wf_set (m : SMap α) (d : α) (i : Nat) (x : α) (h : m.wf d = true) : (m.set d i x).wf d = true := by
  unfold set
  split
  · exact wf_erase m d i h
  · exact wf_put m d i x ‹_› h

/-- A filter keeps the canonical form. -/
theorem wf_filter (m : SMap α) (d : α) (q : Nat × α → Bool) (h : m.wf d = true) : wf d (List.filter q m) = true := by
  induction m with
  | nil => simp [wf]
  | cons p r ih =>
    obtain ⟨k, v⟩ := p
    obtain ⟨h1, h2, h3⟩ := (wf_cons d k v r).mp h
    rw [List.filter_cons]
    split
    · exact (wf_cons ..).mpr ⟨h1, fun p hp => h2 p (List.mem_filter.mp hp).1, ih h3⟩
    · exact ih h3

omit [DecidableEq α] in
theorem get?_put (m : SMap α) (i j : Nat) (x : α) : (m.put i x).get? j = if j = i then some x else m.get? j := by
  induction m with
  | nil =>
    simp only [put, get?]
    by_cases h : j = i
    · simp [h]
    · simp [h, Ne.symm h]
  | cons q r ih =>
    obtain ⟨k, v⟩ := q
    simp only [put]
    split <;> (try split) <;> simp only [get?, ih] <;> (repeat' split) <;> first | rfl | omega

omit [DecidableEq α] in
theorem get?_above (m : SMap α) (b j : Nat) (h : Above b m) (hj : j ≤ b) : m.get? j = none := by
  cases m with
  | nil => rfl
  | cons q r =>
    obtain ⟨k, v⟩ := q
    have := h (k, v) (List.mem_cons_self ..)
    simp only [get?]
    split
    · simp at this; omega
    · split
      · rfl
      · simp at this; omega

theorem get?_erase (m : SMap α) (d : α) (i j : Nat) (h : m.wf d = true) :
    (m.erase i).get? j = if j = i then none else m.get? j := by
  induction m with
  | nil => simp [erase, get?]
  | cons q r ih =>
    obtain ⟨k, v⟩ := q
    obtain ⟨h1, h2, h3⟩ := (wf_cons d k v r).mp h
    simp only [erase]
    split
    · rename_i he
      subst he
      simp only [get?]
      by_cases hj : j = i
      · simp only [hj, if_true]; exact get?_above r i i h2 (Nat.le_refl _)
      · simp only [hj, if_false, Ne.symm hj]
        split
        · exact get?_above r i j h2 (Nat.le_of_lt ‹_›)
        · rfl
    · split
      · simp only [get?]
        (repeat' split) <;> first | rfl | omega
      · simp only [get?, ih h3]
        (repeat' split) <;> first | rfl | omega

/-- A store is read back, and every other key reads as before. -/
theorem getD_set (m : SMap α) (d : α) (i j : Nat) (x : α) (h : m.wf d = true) :
    (m.set d i x).getD j d = if j = i then x else m.getD j d := by
  unfold set getD
  split
  · rename_i hx
    rw [get?_erase m d i j h]
    split
    · simp [hx]
    · rfl
  · rw [get?_put]
    split <;> rfl

end Sys2Proof.SMap

namespace Sys2Proof.Machine

/-! ### Counters (R530) -/

theorem mem_set {α : Type} [DecidableEq α] (m : SMap α) (d : α) (i : Nat) (x : α) (p : Nat × α) (h : p ∈ m.set d i x) :
    p = (i, x) ∨ p ∈ m := by
  unfold SMap.set at h
  split at h
  · exact .inr (SMap.mem_erase m i p h)
  · exact SMap.mem_put m i x p h

/-- Counting keeps the counters canonical and bounded. -/
theorem count_inv (b : Base) (id n : Nat) (h : b.Inv) : (b.count id n).Inv := by
  unfold Base.count
  split
  · exact h
  · refine ⟨h.bounded, h.entries, h.next, SMap.wf_set _ _ _ _ h.counters, ?_, h.damaged⟩
    intro p hp
    rcases mem_set _ _ _ _ p hp with rfl | hp
    · exact Nat.min_le_right ..
    · exact h.saturated p hp

/-- A counter after a count: the sum, saturated; every other counter as before. -/
theorem count_getD (b : Base) (id n j : Nat) (h : b.cnt.wf 0 = true) (hs : ∀ p ∈ b.cnt, p.2 ≤ counterMax) :
    (b.count id n).cnt.getD j 0 = if j = id then min (b.cnt.getD id 0 + n) counterMax else b.cnt.getD j 0 := by
  unfold Base.count
  split
  · rename_i hn
    subst hn
    split
    · rename_i hj
      subst hj
      have : b.cnt.getD j 0 ≤ counterMax := by
        unfold SMap.getD
        cases hg : b.cnt.get? j with
        | none => simp
        | some v =>
          have hm : (j, v) ∈ b.cnt := by
            clear h hs
            generalize b.cnt = m at hg
            induction m with
            | nil => simp [SMap.get?] at hg
            | cons q r ih =>
              obtain ⟨k, w⟩ := q
              simp only [SMap.get?] at hg
              split at hg
              · rename_i hk
                simp only [Option.some.injEq] at hg
                subst hk; subst hg; exact List.mem_cons_self ..
              · split at hg
                · simp at hg
                · exact List.mem_cons_of_mem _ (ih hg)
          exact hs _ hm
      omega
    · rfl
  · exact SMap.getD_set _ _ _ _ _ h

/-! ### The event queue (R48, R49) -/

theorem bumpLast_length (p : Event → Bool) (l : List Event) : (bumpLast p l).length = l.length := by
  induction l with
  | nil => rfl
  | cons e r ih => unfold bumpLast; split <;> simp [ih]

theorem bumpLast_ok (p : Event → Bool) (l : List Event) (h : ∀ e ∈ l, e.ok = true) : ∀ e ∈ bumpLast p l, e.ok = true := by
  induction l with
  | nil => exact h
  | cons a r ih =>
    unfold bumpLast
    intro e he
    split at he
    · rcases List.mem_cons.mp he with rfl | he
      · have := h a (List.mem_cons_self ..)
        have h2 : a.rep ≤ 255 ∧ a.seq < 2 ^ 32 := of_decide_eq_true this
        show decide (min (a.rep + 1) 255 ≤ 255 ∧ a.seq < 2 ^ 32) = true
        exact decide_eq_true ⟨Nat.min_le_right .., h2.2⟩
      · exact h e (List.mem_cons_of_mem _ he)
    · rcases List.mem_cons.mp he with rfl | he
      · exact h _ (List.mem_cons_self ..)
      · exact ih (fun e he => h e (List.mem_cons_of_mem _ he)) e he

/-- What a repeat count that rises leaves of an entry: all but the count, which does not fall. -/
theorem bumpLast_keeps (p : Event → Bool) (l : List Event) (e : Event) (h : e ∈ l) :
    ∃ e' ∈ bumpLast p l, { e' with rep := e.rep } = e ∧ (e.rep ≤ 255 → e.rep ≤ e'.rep) := by
  induction l with
  | nil => cases h
  | cons a r ih =>
    unfold bumpLast
    split
    · rcases List.mem_cons.mp h with rfl | h
      · refine ⟨bumpRep e, List.mem_cons_self .., rfl, ?_⟩
        intro hr; simp only [bumpRep]; omega
      · exact ⟨e, List.mem_cons_of_mem _ h, rfl, fun _ => Nat.le_refl _⟩
    · rcases List.mem_cons.mp h with rfl | h
      · exact ⟨e, List.mem_cons_self .., rfl, fun _ => Nat.le_refl _⟩
      · obtain ⟨e', h1, h2⟩ := ih h
        exact ⟨e', List.mem_cons_of_mem _ h1, h2⟩

theorem dropOldest_mem (l : List Event) (e : Event) (h : e ∈ dropOldest l) : e ∈ l := by
  induction l with
  | nil => cases h
  | cons a r ih =>
    unfold dropOldest at h
    split at h
    · rcases List.mem_cons.mp h with rfl | h
      · exact List.mem_cons_self ..
      · exact List.mem_cons_of_mem _ (ih h)
    · exact List.mem_cons_of_mem _ h

/-- Only a non-critical entry is dropped. -/
theorem dropOldest_critical (l : List Event) (e : Event) (h : e ∈ l) (hc : e.severity = 3) : e ∈ dropOldest l := by
  induction l with
  | nil => cases h
  | cons a r ih =>
    unfold dropOldest
    rcases List.mem_cons.mp h with rfl | h
    · simp [hc]
    · split
      · exact List.mem_cons_of_mem _ (ih h)
      · exact h

theorem dropOldest_length (l : List Event) : (dropOldest l).length ≤ l.length := by
  induction l with
  | nil => exact Nat.le_refl _
  | cons a r ih => unfold dropOldest; split <;> simp [ih]

/-- A new entry keeps what an invariant base holds. -/
theorem enqueueEvent_inv (b : Base) (e : Event) (he : e.rep ≤ 255) (h : b.Inv) : (b.enqueueEvent e).Inv := by
  have key : ∀ (b1 : Base) (kept : List Event), b1.Inv → (∀ x ∈ kept, x.ok = true) →
      Base.Inv (if queueBound ≤ kept.length then b
        else { b1 with ev := { b1.ev with entries := kept ++ [{ e with seq := b.ev.next }]
                                          next := (b.ev.next + 1) % 2 ^ 32
                                          last := b.ev.next } }) := by
    intro b1 kept hc hm
    split
    · exact h
    · rename_i hk
      refine ⟨?_, ?_, Nat.mod_lt _ (Nat.two_pow_pos 32), hc.counters, hc.saturated, hc.damaged⟩
      · have := Nat.lt_of_not_le hk
        simp only [List.length_append, List.length_cons, List.length_nil]; omega
      · intro x hx
        rcases List.mem_append.mp hx with hx | hx
        · exact hm x hx
        · simp only [List.mem_singleton] at hx
          subst hx
          simp only [Event.ok, decide_eq_true_eq]
          exact ⟨he, h.next⟩
  unfold Base.enqueueEvent
  refine key _ _ ?_ ?_
  · split
    · exact count_inv _ _ _ h
    · exact h
  · intro x hx
    split at hx
    · exact h.entries x (dropOldest_mem _ _ hx)
    · exact h.entries x hx

/-- An occurrence of an event keeps the bounds of the queue and the counters. -/
theorem event_inv (b : Base) (code sev tb : Nat) (d : List Byte) (h : b.Inv) : (b.event code sev tb d).Inv := by
  unfold Base.event
  dsimp only
  have hb : ∀ p, Base.Inv { b with ev := { b.ev with entries := bumpLast p b.ev.entries } } := fun p =>
    ⟨Nat.le_trans (Nat.le_of_eq (bumpLast_length p _)) h.bounded, bumpLast_ok p _ h.entries, h.next, h.counters, h.saturated,
      h.damaged⟩
  split
  · exact hb _
  · split
    · exact count_inv _ _ _ (hb _)
    · exact enqueueEvent_inv b _ (by simp [mkEvent]) h

theorem clear_inv (b : Base) (ids : List Nat) (h : b.Inv) : (applyEff b (.clear ids)).Inv := by
  have hf : ∀ (l : List Nat) (m : SMap Nat), m.wf 0 = true → (∀ p ∈ m, p.2 ≤ counterMax) →
      SMap.wf 0 (l.foldl (fun c i => c.erase i) m) = true ∧ ∀ p ∈ l.foldl (fun c i => c.erase i) m, p.2 ≤ counterMax := by
    intro l
    induction l with
    | nil => exact fun m h1 h2 => ⟨h1, h2⟩
    | cons a r ih =>
      exact fun m h1 h2 => ih _ (SMap.wf_erase m 0 a h1) (fun p hp => h2 p (SMap.mem_erase m a p hp))
  obtain ⟨h1, h2⟩ := hf ids b.cnt h.counters h.saturated
  exact ⟨h.bounded, h.entries, h.next, h1, h2, fun i hi => h.damaged i (List.mem_filter.mp hi).1⟩

theorem damaged_inv (b : Base) (ids : List Nat) (h : b.Inv) : (applyEff b (.damaged ids)).Inv := by
  refine ⟨h.bounded, h.entries, h.next, h.counters, h.saturated, ?_⟩
  intro i hi
  rcases List.mem_append.mp hi with hi | hi
  · exact h.damaged i hi
  · have := (List.mem_filter.mp hi).2
    simp only [Bool.and_eq_true] at this
    exact this.1

theorem ack_inv (b : Base) (q : Nat) (h : b.Inv) : (applyEff b (.ack q)).Inv :=
  ⟨Nat.le_trans (List.length_filter_le ..) h.bounded, fun e he => h.entries e (List.mem_filter.mp he).1, h.next,
    h.counters, h.saturated, h.damaged⟩

theorem resetLogs_inv (b : Base) (h : b.Inv) : (applyEff b .resetLogs).Inv := by
  refine ⟨Nat.le_trans (List.length_filter_le ..) h.bounded, fun e he => h.entries e (List.mem_filter.mp he).1, ?_,
    SMap.wf_filter _ _ _ h.counters, fun p hp => h.saturated p (List.mem_filter.mp hp).1, h.damaged⟩
  have key : ∀ o : Option Event, (match o with
      | some e => (e.seq + 1) % 2 ^ 32
      | none => 1) < 2 ^ 32 := by
    intro o
    cases o
    · exact Nat.one_lt_two_pow (by decide)
    · exact Nat.mod_lt _ (Nat.two_pow_pos 32)
  exact key _

/-- Effects on time, the outside, the free values, the bridge and the rate limits leave the queue and the counters alone. -/
theorem other_inv (b : Base) (t : TimeUnit) (q : EventQ) (o : List Output) (f : Nat) (br : SMap (List Nat)) (h : b.Inv)
    (h1 : q.entries = b.ev.entries) (h2 : q.next = b.ev.next) :
    Base.Inv { b with time := t, ev := q, out := o, fresh := f, bridge := br } :=
  ⟨h1 ▸ h.bounded, h1 ▸ h.entries, h2 ▸ h.next, h.counters, h.saturated, h.damaged⟩

/-- The counters stand apart from time, events, outputs, free values and the bridge. -/
theorem with_others (b : Base) (t : TimeUnit) (q : EventQ) (o : List Output) (f : Nat) (br : SMap (List Nat)) :
    ({ b with time := t, ev := q, out := o, fresh := f, bridge := br } : Base).cnt = b.cnt := rfl

/-- Effects that touch neither counters nor marks of damage. -/
theorem applyEff_cnt (b : Base) (e : Eff) (h : match e with
    | .count .. | .clear _ | .event .. | .resetLogs => False
    | _ => True) : (applyEff b e).cnt = b.cnt := by
  cases e with
  | reported k t => exact with_others b _ _ _ _ _
  | held k => exact with_others b _ _ _ _ _
  | ack q => exact with_others b _ _ _ _ _
  | send o => exact with_others b _ _ _ _ _
  | posted q => exact with_others b _ _ _ _ _
  | nonPosted q c => exact with_others b _ _ _ _ _
  | draw => exact with_others b _ _ _ _ _
  | edges k => exact with_others b _ _ _ _ _
  | step tb off => exact with_others b _ _ _ _ _
  | setIncr tb i => exact with_others b _ _ _ _ _
  | tb3To v => exact with_others b _ _ _ _ _
  | restart t0 t1 t3 => exact with_others b _ _ _ _ _
  | damaged ids => rfl
  | count id n => exact h.elim
  | clear ids => exact h.elim
  | event code sev tb d => exact h.elim
  | resetLogs => exact h.elim

/-- Every effect keeps what an invariant base holds. -/
theorem applyEff_inv (b : Base) (e : Eff) (h : b.Inv) : (applyEff b e).Inv := by
  cases e with
  | count id n => exact count_inv b id n h
  | clear ids => exact clear_inv b ids h
  | damaged ids => exact damaged_inv b ids h
  | event code sev tb d => exact other_inv (b.event code sev tb d) _ _ _ _ _ (event_inv b code sev tb d h) rfl rfl
  | ack q => exact ack_inv b q h
  | resetLogs => exact resetLogs_inv b h
  | reported k t => exact other_inv b _ _ _ _ _ h rfl rfl
  | held k => exact other_inv b _ _ _ _ _ h rfl rfl
  | send o => exact other_inv b _ _ _ _ _ h rfl rfl
  | posted q => exact other_inv b _ _ _ _ _ h rfl rfl
  | nonPosted q c => exact other_inv b _ _ _ _ _ h rfl rfl
  | draw => exact other_inv b _ _ _ _ _ h rfl rfl
  | edges k => exact other_inv b _ _ _ _ _ h rfl rfl
  | step tb off => exact other_inv b _ _ _ _ _ h rfl rfl
  | setIncr tb i => exact other_inv b _ _ _ _ _ h rfl rfl
  | tb3To v => exact other_inv b _ _ _ _ _ h rfl rfl
  | restart t0 t1 t3 => exact other_inv b _ _ _ _ _ h rfl rfl

/-- Any effects, in order. -/
theorem effects_inv (es : List Eff) (b : Base) (h : b.Inv) : (es.foldl applyEff b).Inv := by
  induction es generalizing b with
  | nil => exact h
  | cons e r ih => exact ih _ (applyEff_inv b e h)

end Sys2Proof.Machine
end

