-- ==== Sys2Proof/Laws/Borul.lean ====
section
/-! SUPPORT. What an accepted request does: one lemma for every request command. -/

namespace Sys2Proof.Machine

theorem atD_upd_same {α : Type} (l : List α) (i : Nat) (f : α → α) (d : α) (h : i < l.length) :
    atD (upd l i f) i d = f (atD l i d) := by
  simp [atD, upd, h]

theorem slotAt_slot (w : W) (i : Nat) (f : Session → Session) (h : i < w.m.borul.slots.length) :
    slotAt (w.slot i f).m i = f (slotAt w.m i) := atD_upd_same _ _ _ _ h

/-- A session that is not FREE lies in the list of slots. -/
theorem slot_lt_of_used (m : Module) (i : Nat) (h : (slotAt m i).st ≠ .free) : i < m.borul.slots.length := by
  apply Decidable.byContradiction
  intro hc
  simp [slotAt, atD, List.getElem?_eq_none (Nat.le_of_not_lt hc)] at h

/-- The slot of a request that reaches step 4 lies in the list of slots. -/
theorem Reaches.slot_lt {op : OpInfo} {r : Request} {s : State} {i : Nat} (h : Reaches op r s i) :
    i < s.m.borul.slots.length := by
  apply slot_lt_of_used
  rw [h.standing]; split <;> simp

theorem Accepted.slot_lt {op : OpInfo} {r : Request} {s : State} {i : Nat} (h : Accepted op r s i) :
    i < s.m.borul.slots.length := h.toReaches.slot_lt

@[simp] theorem slot_length (w : W) (i : Nat) (f : Session → Session) :
    (w.slot i f).m.borul.slots.length = w.m.borul.slots.length := by
  simp [W.slot, W.borul, upd]

theorem heard_slot (v : View) (r : Request) (i : Nat) (w : W) (h : i < w.m.borul.slots.length) :
    slotAt (heard v r i w).m i = { slotAt w.m i with
      src := r.src
      deadline := if (slotAt w.m i).st == .opened then v.now + prmNs w.m P.session_session_idle_timeout
        else (slotAt w.m i).deadline } := by
  unfold heard; rw [slotAt_slot]; · rfl
  · exact h

/-- The session record while the body of an accepted request runs. -/
theorem entered_slot (op : OpInfo) (r : Request) (i : Nat) (s : State) (hi : i < s.m.borul.slots.length) :
    slotAt (entered op r i s).m i = { slotAt s.m i with
      src := r.src
      deadline := if (slotAt s.m i).st == .opened then s.base.now + prmNs s.m P.session_session_idle_timeout
        else (slotAt s.m i).deadline
      rxHigh := r.sequence
      dup := ((slotAt s.m i).dup ++
        [({ seq := r.sequence, tag := r.tag, opcode := op.code, cmac := r.trailer } : DupEntry)]).drop
        ((slotAt s.m i).dup.length + 1 - 32) } := by
  have hl : i < (heard s.base r i ⟨s.m, []⟩).m.borul.slots.length := by
    show i < ((W.count ⟨s.m, []⟩ C.borul_rx_packets).slot i _).m.borul.slots.length
    rw [slot_length]; exact hi
  unfold entered noted
  rw [slotAt_slot _ _ _ hl, heard_slot _ _ _ _ hi]

theorem named_own {r : Request} (op : OpInfo) (h : r.other = none) : named op r = op := by simp [named, h]

/-- A packet that passes step 1 is a request of its session. -/
theorem verified_request {op : OpInfo} {r : Request} {s : State} {i : Nat} (h : Verified op r s i) (body : Body) :
    request op r body s.base ⟨s.m, []⟩ = sessionRequest s.base op r i body ⟨s.m, []⟩ := by
  obtain ⟨t, ht⟩ := h.isBorul
  simp [request, named_own op h.own, h.managed, h.named, h.found, ht, h.framed, h.endpoint, h.inTime, ← h.trailer]

/-- Steps 4 to 11 of Table 02-2 for a request that passed the first three. -/
theorem reaches_request {op : OpInfo} {r : Request} {s : State} {i : Nat} (h : Reaches op r s i) (body : Body) :
    request op r body s.base ⟨s.m, []⟩ =
      match findDup op r (slotAt s.m i) with
      | some d => repeated s.base op r i d (heard s.base r i ⟨s.m, []⟩)
      | none =>
        if r.sequence ≤ (slotAt s.m i).rxHigh then
          turnAway s.base op r i St.counterStale ((heard s.base r i ⟨s.m, []⟩).count C.borul_stale)
        else
          match gate (entered op r i s).m op ((slotAt s.m i).major, (slotAt s.m i).minor) ((slotAt s.m i).role + 1)
            (wholePayload s.base r (slotAt s.m i)) with
          | some (st, d) => respond s.base op r (some i) st false d (entered op r i s)
          | none => carryOut s.base op r i (sessionCtx r i (slotAt s.m i)) body (entered op r i s) := by
  rw [verified_request h.toVerified]
  have hst := h.standing
  have hop := h.opcode
  have e1 : allowedIn (slotAt s.m i) op = true := by
    unfold allowedIn
    by_cases h2 : op.code = 0x0102
    · simp only [h2, if_true] at hst; simp [hst, h2]
    · simp only [h2, if_false] at hst; simp [hst, h2, hop]
  have e2 : ((r.major, r.minor) != ((slotAt s.m i).major, (slotAt s.m i).minor)) = false := by simp [h.version]
  unfold sessionRequest
  simp only [e1, e2, Bool.not_true, Bool.false_eq_true, if_false]
  rfl

/-- A request with a fresh sequence number has consumed it when it comes to the gate of steps 5 and 6. -/
theorem reaches_fresh {op : OpInfo} {r : Request} {s : State} {i : Nat} (h : Reaches op r s i)
    (hd : findDup op r (slotAt s.m i) = none) (hf : (slotAt s.m i).rxHigh < r.sequence) (body : Body) :
    request op r body s.base ⟨s.m, []⟩ =
      match gate (entered op r i s).m op ((slotAt s.m i).major, (slotAt s.m i).minor) ((slotAt s.m i).role + 1)
        (wholePayload s.base r (slotAt s.m i)) with
      | some (st, d) => respond s.base op r (some i) st false d (entered op r i s)
      | none => carryOut s.base op r i (sessionCtx r i (slotAt s.m i)) body (entered op r i s) := by
  rw [reaches_request h, hd]
  simp only [Nat.not_le.mpr hf, if_false]

/-- What `request` does with an accepted request: the body runs, and its answer leaves the module. -/
theorem request_accepted {op : OpInfo} {r : Request} {s : State} {i : Nat} (h : Accepted op r s i) (body : Body) :
    request op r body s.base ⟨s.m, []⟩ =
      conclude s.base op r i r.payload (entered op r i s) (body (asked r i s) r.payload s.base (entered op r i s)) := by
  have hslot := entered_slot op r i s h.slot_lt
  have hwhole : wholePayload s.base r (slotAt s.m i) = r.payload := by simp [wholePayload, h.whole, h.noTrain]
  have hgate : gate (entered op r i s).m op ((slotAt s.m i).major, (slotAt s.m i).minor) ((slotAt s.m i).role + 1)
      r.payload = none := h.gate
  have htrain : trainOf (slotAt (entered op r i s).m i) r.tag = none := by rw [hslot]; exact h.noTrain
  have htag : (slotAt (entered op r i s).m i).tags.contains r.tag = false := by rw [hslot]; exact h.tagFree
  rw [reaches_fresh h.toReaches h.new h.fresh, hwhole, hgate]
  simp only [carryOut, htrain, carryFresh, htag, h.whole, Bool.false_eq_true, if_false, asked]

/-- A request whose own posting does not apply is answered at once with its payload: the working pair. -/
theorem request_ok {op : OpInfo} {r : Request} {s : State} {i : Nat} (h : Accepted op r s i) {body : Body}
    {w : W} {p : List Byte} (hp : (r.posted && op.post) = false)
    (hb : body (asked r i s) r.payload s.base (entered op r i s) = (w, .ok p)) :
    request op r body s.base ⟨s.m, []⟩ = replied s.base op r i (slotAt s.m i).id St.ok p w := by
  have hs := congrArg Session.id (entered_slot op r i s h.slot_lt)
  simp only [request_accepted h, hb, conclude, newOp, hp]
  rw [hs]; rfl

/-- A request whose own posting does not apply is answered at once with its payload. -/
theorem accepted_ok {op : OpInfo} {r : Request} {s : State} {i : Nat} (h : Accepted op r s i) {body : Body}
    {w : W} {p : List Byte} (hp : (r.posted && op.post) = false)
    (hb : body (asked r i s) r.payload s.base (entered op r i s) = (w, .ok p)) :
    run true (request op r body) s = repliedOk op r i s w p := by
  simp only [run, if_true, request_ok h hp hb, repliedOk]

/-- A request whose own posting does not apply is answered at once, and the reset or restart it asks for follows. -/
theorem accepted_then {op : OpInfo} {r : Request} {s : State} {i : Nat} (h : Accepted op r s i) {body : Body}
    {w : W} {p : List Byte} (hp : (r.posted && op.post) = false)
    (hb : body (asked r i s) r.payload s.base (entered op r i s) = (w, .ok p)) :
    run true (requestThen op r body) s = repliedThen op r i s w p := by
  simp only [run, if_true, requestThen, request_ok h hp hb, repliedThen]

/-- A request that ends its own session is answered first. -/
theorem accepted_okEnd {op : OpInfo} {r : Request} {s : State} {i : Nat} (h : Accepted op r s i) {body : Body}
    {w : W} {p : List Byte} {reason : Nat} (hp : (r.posted && op.post) = false)
    (hb : body (asked r i s) r.payload s.base (entered op r i s) = (w, .okEnd p reason)) :
    run true (request op r body) s =
      .next (commit s (endSession s.base i reason (respond s.base op r (some i) St.ok false p w))) := by
  simp only [run, if_true, request_accepted h, hb, conclude, newOp, hp]; rfl

/-- A request whose body sends its reply itself. -/
theorem accepted_done {op : OpInfo} {r : Request} {s : State} {i : Nat} (h : Accepted op r s i) {body : Body} {w : W}
    (hb : body (asked r i s) r.payload s.base (entered op r i s) = (w, .done)) :
    run true (request op r body) s = .next (commit s w) := by
  simp only [run, if_true, request_accepted h, hb, conclude]

/-- A request turned away by its body is answered with that status, and nothing else of it happens. -/
theorem accepted_fail {op : OpInfo} {r : Request} {s : State} {i : Nat} (h : Accepted op r s i) {body : Body}
    {w : W} {st : Nat} {d : List Byte} (hp : (r.posted && op.post) = false) (hst : (st == St.authFail) = false)
    (hb : body (asked r i s) r.payload s.base (entered op r i s) = (w, .fail st d)) :
    run true (request op r body) s = repliedWith op r i s w st d := by
  have hi := h.slot_lt
  have hs := congrArg Session.id (entered_slot op r i s hi)
  simp only [run, if_true, request_accepted h, hb, conclude, newOp, hp, hst, repliedWith]
  rw [hs]; rfl

/-- A request that waits holds its tag until its condition comes. -/
theorem accepted_wait {op : OpInfo} {r : Request} {s : State} {i : Nat} (h : Accepted op r s i) {body : Body}
    {w : W} {k : OpKind} {p : List Byte} (hp : (r.posted && op.post) = false)
    (hb : body (asked r i s) r.payload s.base (entered op r i s) = (w, .wait k p)) :
    run true (request op r body) s = waiting op r i s w k p := by
  have hi := h.slot_lt
  have hs := entered_slot op r i s hi
  have h1 := congrArg Session.id hs
  have h2 := congrArg Session.role hs
  simp only [run, if_true, request_accepted h, hb, conclude, newOp, hp, waiting]
  rw [h1, h2]; rfl

/-- A request outside any session that passes its checks is answered by its body. -/
theorem request_bare {op : OpInfo} {r : Request} {s : State} (h : AcceptedBare op r s) (body : Body) :
    request op r body s.base ⟨s.m, []⟩ =
      match body (askedBare r) r.payload s.base (enteredBare s) with
      | (w, .fail st d) => respond s.base op r none st false d w
      | (w, .ok p) => respond s.base op r none St.ok false p w
      | (w, .okEnd p _) => respond s.base op r none St.ok false p w
      | (w, .wait _ _) => w
      | (w, .done) => w := by
  obtain ⟨t, ht⟩ := h.isBorul
  rcases h.served with hc | ⟨hc, hv, hr⟩
  · have tr := h.trailer
    rw [hc] at tr
    simp [request, named_own op h.own, h.managed, h.unnamed, ht, h.framed, ← tr, bareRequest, hc, h.whole, askedBare,
      enteredBare] <;> rfl
  · simp [request, named_own op h.own, h.managed, h.unnamed, ht, h.framed, ← h.trailer, bareRequest, hc, h.whole, askedBare,
      enteredBare, hv, Nat.not_lt.mpr hr] <;> rfl

end Sys2Proof.Machine
end

