-- ==== Sys2Proof/Laws/Events.lean ====
section
/-! SUPPORT. What raising an event and writing the journal leave as they were, and what they append to the effects. -/

namespace Sys2Proof.Machine

theorem SameButJournal.refl (m : Module) : SameButJournal m m := Eq.refl _

theorem SameButJournal.trans {a b c : Module} (h : SameButJournal a b) (h' : SameButJournal b c) : SameButJournal a c :=
  Eq.trans h' h

theorem SameButJournal.upd {a b : Module} (h : SameButJournal a b) :
    b.upd = { a.upd with runSince := b.upd.runSince } := by
  have e : { b.upd with runSince := none } = { a.upd with runSince := none } := congrArg Module.upd h
  have e2 := congrArg (fun u : Update => { u with runSince := b.upd.runSince }) e
  exact e2

theorem eff_same (w : W) (e : Eff) : SameButJournal w.m (w.eff e).m := Eq.refl _
theorem jr_same (w : W) (f : Journal → Journal) : SameButJournal w.m (w.jr f).m := Eq.refl _

theorem appendRecord_same (k f d mi ms : Nat) (bs : List Byte) (w : W) :
    SameButJournal w.m (appendRecord k f d mi ms bs w).m := by
  unfold appendRecord
  dsimp only
  generalize makeRoom _ _ _ = p
  obtain ⟨ring, freed⟩ := p
  dsimp only
  refine .trans ?_ (jr_same _ _)
  split <;> exact .refl _

theorem journalEvent_same (v : View) (c s : Nat) (d : List Byte) (w : W) : SameButJournal w.m (journalEvent v c s d w).m :=
  (appendRecord_same ..).trans (eff_same _ _)

theorem update_same (w : W) (f : Update → Update) (h : { f w.m.upd with runSince := none } = { w.m.upd with runSince := none }) :
    SameButJournal w.m (w.update f).m := by
  show ({ w.m with jr := {}, upd := { f w.m.upd with runSince := none } } : Module) = _
  rw [h]; rfl

theorem raise_same (v : View) (c s : Nat) (d : List Byte) (w : W) : SameButJournal w.m (w.raise v c s d).m := by
  have h : SameButJournal w.m (if s == 3 then (w.eff (.event c s (recordBase w.m) d)).update
      (fun u => { u with runSince := u.runSince.map (fun _ => v.now) }) else w.eff (.event c s (recordBase w.m) d)).m := by
    split
    · exact (eff_same _ _).trans (update_same _ _ rfl)
    · exact eff_same _ _
  have g : ∀ x : W, SameButJournal w.m x.m →
      SameButJournal w.m (if journalTakes x.m c s then journalEvent v c s d x else x).m := by
    intro x hx
    split
    · exact hx.trans (journalEvent_same v c s d x)
    · exact hx
  exact g _ h

theorem writeSeal_same (v : View) (f : Nat) (w : W) : SameButJournal w.m (writeSeal v f w).m := by
  unfold writeSeal
  dsimp only
  refine .trans ?_ (raise_same ..)
  refine .trans ?_ (eff_same _ _)
  refine .trans ?_ (jr_same _ _)
  exact appendRecord_same ..

theorem sealIfDue_same (v : View) (w : W) : SameButJournal w.m (sealIfDue v w).m := by
  unfold sealIfDue
  split
  · exact .refl _
  · split
    · exact writeSeal_same ..
    · split
      · exact .refl _
      · exact (jr_same _ _).trans (eff_same _ _)

/-- An event changes the journal and the start of self-confirmation time, and no other part of the module. -/
theorem event_same (w : W) (v : View) (c s : Nat) (d : List Byte) : SameButJournal w.m (w.event v c s d).m :=
  (raise_same ..).trans (sealIfDue_same ..)

theorem limited_same (w : W) (v : View) (c s src iv : Nat) (d : Nat → List Byte) :
    SameButJournal w.m (w.limited v c s src iv d).m := by
  unfold W.limited
  dsimp only
  generalize (w.base v).ev.lastAt.get? (c * 65536 + src) = o
  cases o <;> dsimp only
  · exact (event_same ..).trans (eff_same _ _)
  · split
    · exact (event_same ..).trans (eff_same _ _)
    · exact eff_same _ _

/-- Steps that each leave the module alone leave it alone together. -/
theorem each_m {α : Type} (l : List α) (f : α → W → W) (hf : ∀ a w, (f a w).m = w.m) (w : W) : (w.each l f).m = w.m := by
  induction l generalizing w with
  | nil => rfl
  | cons a l ih => exact (ih (f a w)).trans (hf a w)

/-- A single-bit error is corrected and counted; nothing else changes. -/
@[simp] theorem corrected_m (f : Frame) (t : Option TileFault) (w : W) : (corrected f t w).m = w.m :=
  each_m _ (fun _ w => w.count C.tile_ecc_corrected) (fun _ _ => rfl) w

end Sys2Proof.Machine
end

