-- ==== Sys2Proof/Laws/Parse.lean ====
section
/-! SUPPORT. What issuing a parse instruction does: one lemma per way an instruction ends. -/

namespace Sys2Proof.Machine

/-- The context as an instruction finds it: counted against the budget, with its own address noted. -/
def issuedCtx (s : State) (i : Nat) : ParseCtx :=
  { ctxAt s.m i with issued := (ctxAt s.m i).issued + 1, from_ := (ctxAt s.m i).pc }

/-- A fetch that finds no new memory error changes nothing. -/
theorem fetch_sound {v : View} {pc : Nat} {w : W} (h : w.m.tab.faulty.contains (entryKey 8 (pc / 4)) = false) :
    fetch v pc w = w := by
  simp only [fetch, touch, List.filter_cons, h, Bool.false_eq_true, if_false, List.filter_nil] <;> rfl

/-- A fetch leaves the ingress unit, its contexts among it, as it is. -/
theorem fetched_ing (s : State) (i : Nat) (v : View) (w : W) : (fetched s i v w).m.ing = w.m.ing := by
  simp only [fetched, fetch, touch]
  generalize List.filter _ [entryKey 8 ((ctxAt s.m i).pc / 4)] = l
  induction l generalizing w with
  | nil => rfl
  | cons k l ih =>
    refine (ih _).trans ?_
    let x := w.tab fun x => x.poisonEntry (k / 2 ^ 20) (k % 2 ^ 20)
    have e := congrArg Module.ing (event_same x v 0x0501 2 (u8 (k / 2 ^ 20) ++ u8 2 ++ zeros 2 ++ u32 (k % 2 ^ 20)))
    exact e

/-- So the context reads the same after the fetch. -/
@[simp] theorem ctxAt_fetched (s : State) (i k : Nat) (v : View) (w : W) : ctxAt (fetched s i v w).m k = ctxAt w.m k := by
  simp only [ctxAt, fetched_ing]

/-- An instruction that issues ends as its effect says. -/
theorem issue_other {op i : Nat} {s : State} (h : Issues op i s) {f : ParseCtx → Nat → Issue} {side : View → W → W} :
    run (ctxOk i) (issue i op f side) s = after s fun v w =>
      match f (issuedCtx s i) (wordAt s i) with
      | .go pc c' => checkFetch v i (side v ((fetched s i v w).ctx i fun _ => { c' with pc := pc }))
      | .done => parseDoneAt i (fetched s i v w)
      | .drop => parseDropAt i (fetched s i v w)
      | .fault cause => parseFault v i cause (ctxAt s.m i).pc (fetched s i v w)
      | .waits c' => (fetched s i v w).ctx i fun _ => c'
      | .stall => fetched s i v w := by
  have h0 : ctxOk i = true := by simp [ctxOk, h.number]
  have h1 : (ctxAt s.m i).frame.isNone = false := by
    have := h.busy
    cases hf : (ctxAt s.m i).frame <;> simp_all
  have h2 : (opOf (parseWord (fetch s.base (ctxAt s.m i).pc { m := s.m }).m (ctxAt s.m i).pc) != op) = false := by
    have := h.opcode
    simp only [wordAt, fetched] at this
    simp [this]
  simp only [run, h0, if_true, issue, h.powered, h.programs, Bool.not_true, h1, h.awake, Nat.not_le.mpr h.budget,
    Nat.not_lt.mpr h.address, h2, decide_false, Option.isSome_none, Bool.or_self, Bool.false_eq_true, if_false, after, issuedCtx, wordAt, fetched] <;>
    rfl

/-- An instruction that goes on, with what it does beyond the context. -/
theorem issue_side {op i : Nat} {s : State} (h : Issues op i s) {f : ParseCtx → Nat → Issue} {side : View → W → W}
    {pc : Nat} {c : ParseCtx} (hf : f (issuedCtx s i) (wordAt s i) = .go pc c) :
    run (ctxOk i) (issue i op f side) s =
      after s fun v w => checkFetch v i (side v ((fetched s i v w).ctx i fun _ => { c with pc := pc })) := by
  rw [issue_other h, hf]

/-- An instruction that goes on and does nothing beyond the context. -/
theorem issue_go {op i : Nat} {s : State} (h : Issues op i s) {f : ParseCtx → Nat → Issue}
    {pc : Nat} {c : ParseCtx} (hf : f (issuedCtx s i) (wordAt s i) = .go pc c) :
    run (ctxOk i) (issue i op f noSide) s = after s fun v w =>
      checkFetch v i ((fetched s i v w).ctx i fun _ => { c with pc := pc }) :=
  issue_side h hf

end Sys2Proof.Machine
end

