-- ==== Sys2Proof/Laws/Reads.lean ====
section
/-! SUPPORT. What the protocol around a request leaves alone: everything but sessions and journal, unless the body of
the operation changes more. -/

namespace Sys2Proof.Machine

theorem SameButJournal.outside {k : Bool} {a b : Module} (h : SameButJournal a b) : SameOutside k a b :=
  congrArg (fun m : Module => ({ m with
    borul := {}, slp := { m.slp with reasons := [] }
    fab := if k then { m.fab with rxSnap := [] } else m.fab } : Module))
    (show withoutJournal b = withoutJournal a from h)

theorem SameOutside.trans {k : Bool} {a b c : Module} (h : SameOutside k a b) (h' : SameOutside k b c) :
    SameOutside k a c := Eq.trans h' h

variable {k : Bool} {m : Module}

theorem eff_out {w : W} (h : SameOutside k m w.m) (e : Eff) : SameOutside k m (w.eff e).m := h
theorem count_out {w : W} (h : SameOutside k m w.m) (c : CRef) (i n : Nat) : SameOutside k m (w.count c i n).m := h
theorem borul_out {w : W} (h : SameOutside k m w.m) (f : Borul → Borul) : SameOutside k m (w.borul f).m := h
theorem slot_out {w : W} (h : SameOutside k m w.m) (i : Nat) (f : Session → Session) : SameOutside k m (w.slot i f).m := h
theorem reasons_out {w : W} (h : SameOutside k m w.m) (f : List Reason → List Reason) :
    SameOutside k m (w.slp fun x => { x with reasons := f x.reasons }).m := h
theorem event_out {w : W} (h : SameOutside k m w.m) (v : View) (c s : Nat) (d : List Byte) :
    SameOutside k m (w.event v c s d).m := h.trans (event_same ..).outside

theorem each_out {α : Type} (l : List α) (f : α → W → W) (hf : ∀ a w, SameOutside k m w.m → SameOutside k m (f a w).m) {w : W}
    (h : SameOutside k m w.m) : SameOutside k m (w.each l f).m := by
  unfold W.each
  induction l generalizing w with
  | nil => exact h
  | cons a r ih => exact ih (hf a w h)

theorem endSession_out {w : W} (h : SameOutside k m w.m) (v : View) (i reason : Nat) :
    SameOutside k m (endSession v i reason w).m := by
  have g := reasons_out (slot_out h i (fun _ => {})) fun l => l.filter (fun r =>
    !(r.kind == 2 && r.unit == i && r.node == (slotAt w.m i).id))
  unfold endSession
  dsimp only
  cases (slotAt w.m i).st == .opened
  · exact g
  · exact event_out g ..

theorem emit_out {w : W} (h : SameOutside k m w.m) (d : Source) (q : Pair) (p : Packet) : SameOutside k m (emit d q p w).m := by
  cases d
  · exact h
  · exact h

theorem sendOne_out {w : W} (h : SameOutside k m w.m) (v : View) (i : Nat) (d : Source) (p : Packet) :
    SameOutside k m (sendOne v i d p w).m := by
  unfold sendOne
  dsimp only
  split
  · exact h
  · split
    · exact endSession_out (slot_out (emit_out h _ _ _) _ _) ..
    · exact slot_out (emit_out h _ _ _) _ _

theorem sendOn_out {w : W} (h : SameOutside k m w.m) (v : View) (i : Nat) (d : Source) (p : Packet) :
    SameOutside k m (sendOn v i d p w).m :=
  each_out _ _ (fun _ _ hw => sendOne_out hw ..) h

theorem replyTo_out {w : W} (h : SameOutside k m w.m) (v : View) (i : Nat) (d : Source) (c q t st : Nat) (po : Bool)
    (p : List Byte) : SameOutside k m (replyTo v i d c q t st po p w).m := by
  unfold replyTo
  dsimp only
  refine sendOn_out (slot_out ?_ _ _) ..
  split
  · exact count_out h ..
  · exact h

theorem respond_out {w : W} (h : SameOutside k m w.m) (v : View) (op : OpInfo) (r : Request) (o : Option Nat) (st : Nat)
    (po : Bool) (p : List Byte) : SameOutside k m (respond v op r o st po p w).m := by
  cases o with
  | some i => exact replyTo_out h ..
  | none =>
    refine emit_out ?_ _ _ _
    split
    · exact count_out h ..
    · exact h

theorem turnAway_out {w : W} (h : SameOutside k m w.m) (v : View) (op : OpInfo) (r : Request) (i st : Nat) :
    SameOutside k m (turnAway v op r i st w).m := sendOn_out h ..

theorem repeated_out {w : W} (h : SameOutside k m w.m) (v : View) (op : OpInfo) (r : Request) (i : Nat) (d : DupEntry) :
    SameOutside k m (repeated v op r i d w).m := by
  unfold repeated
  dsimp only
  split
  · exact count_out h ..
  · exact sendOn_out (count_out h ..) ..

theorem noteAuthFail_out {w : W} (h : SameOutside k m w.m) (v : View) (role : Nat) : SameOutside k m (noteAuthFail v role w).m := by
  unfold noteAuthFail
  dsimp only
  split
  · exact h
  · exact event_out (borul_out (count_out h ..) _) ..

theorem authFailure_out {w : W} (h : SameOutside k m w.m) (v : View) (op : OpInfo) (r : Request) (i : Nat) :
    SameOutside k m (authFailure v op r i w).m :=
  emit_out (noteAuthFail_out (endSession_out h ..) ..) _ _ _

theorem closeLast_out {w : W} (h : SameOutside k m w.m) (v : View) (r : Request) (i sid : Nat) :
    SameOutside k m (closeLast v r i sid w).m := by
  unfold closeLast
  split
  · exact endSession_out h ..
  · exact h

theorem replied_out {w : W} (h : SameOutside k m w.m) (v : View) (op : OpInfo) (r : Request) (i sid st : Nat)
    (p : List Byte) : SameOutside k m (replied v op r i sid st p w).m := by
  unfold replied
  dsimp only
  split
  · exact respond_out h ..
  · exact closeLast_out (respond_out h ..) ..

theorem conclude_out {w : W} (h : SameOutside k m w.m) (v : View) (op : OpInfo) (r : Request) (i : Nat) (p : List Byte)
    (res : W × Ans) (hr : SameOutside k m res.1.m) : SameOutside k m (conclude v op r i p w res).m := by
  obtain ⟨w', a⟩ := res
  have ha : ∀ (o : Op) {x : W}, SameOutside k m x.m → SameOutside k m (accepted v op r i o x).m := fun o x hx =>
    respond_out (borul_out (slot_out hx _ _) _) ..
  unfold conclude
  dsimp only
  cases a with
  | fail st d =>
    dsimp only
    split
    · exact authFailure_out hr ..
    · split
      · exact ha _ h
      · exact replied_out hr ..
  | ok q =>
    dsimp only
    split
    · exact ha _ h
    · exact replied_out hr ..
  | okEnd q reason =>
    dsimp only
    split
    · exact ha _ h
    · exact endSession_out (respond_out hr ..) ..
  | wait k q =>
    dsimp only
    split
    · exact ha _ hr
    · exact borul_out (slot_out hr _ _) _
  | done => exact hr

theorem dropTrain_out {w : W} (h : SameOutside k m w.m) (v : View) (i : Nat) (t : Train) :
    SameOutside k m (dropTrain v i t w).m := event_out (count_out (slot_out h _ _) ..) ..

theorem keepFragment_out {w : W} (h : SameOutside k m w.m) (v : View) (op : OpInfo) (r : Request) (i n : Nat) (d : List Byte) :
    SameOutside k m (keepFragment v op r i n d w).m := respond_out (slot_out h _ _) ..

/-- The body of an operation that only reads. -/
def Pure (k : Bool) (body : Body) : Prop := ∀ c p v w, SameOutside k w.m (body c p v w).1.m

theorem carryFresh_out {w : W} (h : SameOutside k m w.m) {body : Body} (hb : Pure k body) (v : View) (op : OpInfo) (r : Request)
    (i : Nat) (c : Ctx) : SameOutside k m (carryFresh v op r i c body w).m := by
  unfold carryFresh
  dsimp only
  split
  · exact respond_out h ..
  · split
    · split
      · exact respond_out h ..
      · exact keepFragment_out h ..
    · exact conclude_out h _ _ _ _ _ _ (h.trans (hb ..))

theorem carryOut_out {w : W} (h : SameOutside k m w.m) {body : Body} (hb : Pure k body) (v : View) (op : OpInfo) (r : Request)
    (i : Nat) (c : Ctx) : SameOutside k m (carryOut v op r i c body w).m := by
  unfold carryOut
  split
  · exact carryFresh_out h hb ..
  · split
    · exact carryFresh_out (dropTrain_out h ..) hb ..
    · unfold carryTrain
      split
      · exact respond_out (dropTrain_out h ..) ..
      · split
        · exact respond_out (dropTrain_out h ..) ..
        · split
          · exact keepFragment_out h ..
          · exact conclude_out (slot_out h _ _) _ _ _ _ _ _ ((slot_out h _ _).trans (hb ..))

theorem sessionRequest_out {w : W} (h : SameOutside k m w.m) {body : Body} (hb : Pure k body) (v : View) (op : OpInfo)
    (r : Request) (i : Nat) : SameOutside k m (sessionRequest v op r i body w).m := by
  have hh : SameOutside k m (heard v r i w).m := slot_out (count_out h ..) _ _
  unfold sessionRequest
  dsimp only
  split
  · exact turnAway_out (count_out h ..) ..
  · split
    · exact turnAway_out hh ..
    · split
      · exact repeated_out hh ..
      · split
        · exact turnAway_out (count_out hh ..) ..
        · split
          · exact respond_out (slot_out hh _ _) ..
          · exact carryOut_out (slot_out hh _ _) hb ..

theorem bareRequest_out {w : W} (h : SameOutside k m w.m) {body : Body} (hb : Pure k body) (v : View) (op : OpInfo)
    (r : Request) : SameOutside k m (bareRequest v op r body w).m := by
  have hh : SameOutside k m (w.count C.borul_rx_packets).m := count_out h ..
  unfold bareRequest
  dsimp only
  split
  · exact respond_out hh ..
  · split
    · exact respond_out hh ..
    · split
      · exact respond_out hh ..
      · split
        · exact respond_out hh ..
        · have hp := hb ⟨none, 0, 0, (r.major, r.minor), r.sequence, r.tag⟩ r.payload v (w.count C.borul_rx_packets)
          generalize body ⟨none, 0, 0, (r.major, r.minor), r.sequence, r.tag⟩ r.payload v (w.count C.borul_rx_packets) = x at hp
          obtain ⟨w', a⟩ := x
          have hw : SameOutside k m w'.m := hh.trans hp
          cases a <;> first | exact respond_out hw .. | exact hw

/-- A request whose body changes nothing changes nothing but sessions and journal. -/
theorem request_out {w : W} (h : SameOutside k m w.m) {body : Body} (hb : Pure k body) (v : View) (op : OpInfo) (r : Request) :
    SameOutside k m (request op r body v w).m := by
  unfold request
  split
  · split
    · exact count_out h ..
    · exact h
  · dsimp only
    split
    · exact h
    · exact count_out h ..
    · split
      · exact count_out h ..
      · split
        · split
          · exact count_out h ..
          · split
            · exact count_out h ..
            · exact bareRequest_out h hb ..
        · split
          · exact count_out h ..
          · split
            · exact count_out h ..
            · split
              · split
                · exact authFailure_out h ..
                · exact count_out h ..
              · exact sessionRequest_out h hb ..

/-- The command of a request whose body changes nothing of the module only reads. -/
theorem request_reads (op : OpInfo) (r : Request) (body : Body) (hb : ∀ c p v w, (body c p v w).1.m = w.m) (s : State) :
    OnlyReads s (run true (request op r body) s) :=
  ⟨_, rfl, request_out (Eq.refl _) (fun c p v w => congrArg (withoutSessions false) (hb c p v w)) s.base op r⟩

/-- The same for a read across the bridge. -/
theorem request_reads_across (op : OpInfo) (r : Request) (body : Body) (hb : Pure true body) (s : State) :
    OnlyReadsAcross s (run true (request op r body) s) :=
  ⟨_, rfl, request_out (Eq.refl _) hb s.base op r⟩

end Sys2Proof.Machine
end

