-- ==== Sys2Proof/Laws/State.lean ====
section
/-! SUPPORT. What each update of the module leaves in each of its parts: one lemma per part per update. -/

namespace Sys2Proof.Laws

open Sys2Proof Sys2Proof.Machine

variable (w : W)

@[simp] theorem eff_m (e : Eff) : (w.eff e).m = w.m := rfl
@[simp] theorem count_m (c : CRef) (i n : Nat) : (w.count c i n).m = w.m := rfl
@[simp] theorem send_m (o : Output) : (w.send o).m = w.m := rfl
@[simp] theorem eff_effs (e : Eff) : (w.eff e).effs = w.effs ++ [e] := rfl
@[simp] theorem count_effs (c : CRef) (i n : Nat) : (w.count c i n).effs = w.effs ++ [.count (c.id i) n] := rfl
@[simp] theorem send_effs (o : Output) : (w.send o).effs = w.effs ++ [.send o] := rfl

@[simp] theorem mod_effs (f : Mod → Mod) : (w.mod f).effs = w.effs := rfl
@[simp] theorem mod_ident (f : Mod → Mod) : (w.mod f).m.ident = w.m.ident := rfl
@[simp] theorem mod_mod (f : Mod → Mod) : (w.mod f).m.mod = f w.m.mod := rfl
@[simp] theorem mod_supply (f : Mod → Mod) : (w.mod f).m.supply = w.m.supply := rfl
@[simp] theorem mod_borul (f : Mod → Mod) : (w.mod f).m.borul = w.m.borul := rfl
@[simp] theorem mod_ing (f : Mod → Mod) : (w.mod f).m.ing = w.m.ing := rfl
@[simp] theorem mod_jr (f : Mod → Mod) : (w.mod f).m.jr = w.m.jr := rfl
@[simp] theorem mod_io (f : Mod → Mod) : (w.mod f).m.io = w.m.io := rfl
@[simp] theorem mod_keys (f : Mod → Mod) : (w.mod f).m.keys = w.m.keys := rfl
@[simp] theorem mod_tab (f : Mod → Mod) : (w.mod f).m.tab = w.m.tab := rfl
@[simp] theorem mod_flow (f : Mod → Mod) : (w.mod f).m.flow = w.m.flow := rfl
@[simp] theorem mod_fab (f : Mod → Mod) : (w.mod f).m.fab = w.m.fab := rfl
@[simp] theorem mod_jn (f : Mod → Mod) : (w.mod f).m.jn = w.m.jn := rfl
@[simp] theorem mod_can (f : Mod → Mod) : (w.mod f).m.can = w.m.can := rfl
@[simp] theorem mod_lin (f : Mod → Mod) : (w.mod f).m.lin = w.m.lin := rfl
@[simp] theorem mod_eth (f : Mod → Mod) : (w.mod f).m.eth = w.m.eth := rfl
@[simp] theorem mod_doip (f : Mod → Mod) : (w.mod f).m.doip = w.m.doip := rfl
@[simp] theorem mod_tc (f : Mod → Mod) : (w.mod f).m.tc = w.m.tc := rfl
@[simp] theorem mod_sw (f : Mod → Mod) : (w.mod f).m.sw = w.m.sw := rfl
@[simp] theorem mod_slp (f : Mod → Mod) : (w.mod f).m.slp = w.m.slp := rfl
@[simp] theorem mod_upd (f : Mod → Mod) : (w.mod f).m.upd = w.m.upd := rfl

@[simp] theorem supply_effs (f : Supply → Supply) : (w.supply f).effs = w.effs := rfl
@[simp] theorem supply_ident (f : Supply → Supply) : (w.supply f).m.ident = w.m.ident := rfl
@[simp] theorem supply_mod (f : Supply → Supply) : (w.supply f).m.mod = w.m.mod := rfl
@[simp] theorem supply_supply (f : Supply → Supply) : (w.supply f).m.supply = f w.m.supply := rfl
@[simp] theorem supply_borul (f : Supply → Supply) : (w.supply f).m.borul = w.m.borul := rfl
@[simp] theorem supply_ing (f : Supply → Supply) : (w.supply f).m.ing = w.m.ing := rfl
@[simp] theorem supply_jr (f : Supply → Supply) : (w.supply f).m.jr = w.m.jr := rfl
@[simp] theorem supply_io (f : Supply → Supply) : (w.supply f).m.io = w.m.io := rfl
@[simp] theorem supply_keys (f : Supply → Supply) : (w.supply f).m.keys = w.m.keys := rfl
@[simp] theorem supply_tab (f : Supply → Supply) : (w.supply f).m.tab = w.m.tab := rfl
@[simp] theorem supply_flow (f : Supply → Supply) : (w.supply f).m.flow = w.m.flow := rfl
@[simp] theorem supply_fab (f : Supply → Supply) : (w.supply f).m.fab = w.m.fab := rfl
@[simp] theorem supply_jn (f : Supply → Supply) : (w.supply f).m.jn = w.m.jn := rfl
@[simp] theorem supply_can (f : Supply → Supply) : (w.supply f).m.can = w.m.can := rfl
@[simp] theorem supply_lin (f : Supply → Supply) : (w.supply f).m.lin = w.m.lin := rfl
@[simp] theorem supply_eth (f : Supply → Supply) : (w.supply f).m.eth = w.m.eth := rfl
@[simp] theorem supply_doip (f : Supply → Supply) : (w.supply f).m.doip = w.m.doip := rfl
@[simp] theorem supply_tc (f : Supply → Supply) : (w.supply f).m.tc = w.m.tc := rfl
@[simp] theorem supply_sw (f : Supply → Supply) : (w.supply f).m.sw = w.m.sw := rfl
@[simp] theorem supply_slp (f : Supply → Supply) : (w.supply f).m.slp = w.m.slp := rfl
@[simp] theorem supply_upd (f : Supply → Supply) : (w.supply f).m.upd = w.m.upd := rfl

@[simp] theorem borul_effs (f : Borul → Borul) : (w.borul f).effs = w.effs := rfl
@[simp] theorem borul_ident (f : Borul → Borul) : (w.borul f).m.ident = w.m.ident := rfl
@[simp] theorem borul_mod (f : Borul → Borul) : (w.borul f).m.mod = w.m.mod := rfl
@[simp] theorem borul_supply (f : Borul → Borul) : (w.borul f).m.supply = w.m.supply := rfl
@[simp] theorem borul_borul (f : Borul → Borul) : (w.borul f).m.borul = f w.m.borul := rfl
@[simp] theorem borul_ing (f : Borul → Borul) : (w.borul f).m.ing = w.m.ing := rfl
@[simp] theorem borul_jr (f : Borul → Borul) : (w.borul f).m.jr = w.m.jr := rfl
@[simp] theorem borul_io (f : Borul → Borul) : (w.borul f).m.io = w.m.io := rfl
@[simp] theorem borul_keys (f : Borul → Borul) : (w.borul f).m.keys = w.m.keys := rfl
@[simp] theorem borul_tab (f : Borul → Borul) : (w.borul f).m.tab = w.m.tab := rfl
@[simp] theorem borul_flow (f : Borul → Borul) : (w.borul f).m.flow = w.m.flow := rfl
@[simp] theorem borul_fab (f : Borul → Borul) : (w.borul f).m.fab = w.m.fab := rfl
@[simp] theorem borul_jn (f : Borul → Borul) : (w.borul f).m.jn = w.m.jn := rfl
@[simp] theorem borul_can (f : Borul → Borul) : (w.borul f).m.can = w.m.can := rfl
@[simp] theorem borul_lin (f : Borul → Borul) : (w.borul f).m.lin = w.m.lin := rfl
@[simp] theorem borul_eth (f : Borul → Borul) : (w.borul f).m.eth = w.m.eth := rfl
@[simp] theorem borul_doip (f : Borul → Borul) : (w.borul f).m.doip = w.m.doip := rfl
@[simp] theorem borul_tc (f : Borul → Borul) : (w.borul f).m.tc = w.m.tc := rfl
@[simp] theorem borul_sw (f : Borul → Borul) : (w.borul f).m.sw = w.m.sw := rfl
@[simp] theorem borul_slp (f : Borul → Borul) : (w.borul f).m.slp = w.m.slp := rfl
@[simp] theorem borul_upd (f : Borul → Borul) : (w.borul f).m.upd = w.m.upd := rfl

@[simp] theorem ing_effs (f : Ingress → Ingress) : (w.ing f).effs = w.effs := rfl
@[simp] theorem ing_ident (f : Ingress → Ingress) : (w.ing f).m.ident = w.m.ident := rfl
@[simp] theorem ing_mod (f : Ingress → Ingress) : (w.ing f).m.mod = w.m.mod := rfl
@[simp] theorem ing_supply (f : Ingress → Ingress) : (w.ing f).m.supply = w.m.supply := rfl
@[simp] theorem ing_borul (f : Ingress → Ingress) : (w.ing f).m.borul = w.m.borul := rfl
@[simp] theorem ing_ing (f : Ingress → Ingress) : (w.ing f).m.ing = f w.m.ing := rfl
@[simp] theorem ing_jr (f : Ingress → Ingress) : (w.ing f).m.jr = w.m.jr := rfl
@[simp] theorem ing_io (f : Ingress → Ingress) : (w.ing f).m.io = w.m.io := rfl
@[simp] theorem ing_keys (f : Ingress → Ingress) : (w.ing f).m.keys = w.m.keys := rfl
@[simp] theorem ing_tab (f : Ingress → Ingress) : (w.ing f).m.tab = w.m.tab := rfl
@[simp] theorem ing_flow (f : Ingress → Ingress) : (w.ing f).m.flow = w.m.flow := rfl
@[simp] theorem ing_fab (f : Ingress → Ingress) : (w.ing f).m.fab = w.m.fab := rfl
@[simp] theorem ing_jn (f : Ingress → Ingress) : (w.ing f).m.jn = w.m.jn := rfl
@[simp] theorem ing_can (f : Ingress → Ingress) : (w.ing f).m.can = w.m.can := rfl
@[simp] theorem ing_lin (f : Ingress → Ingress) : (w.ing f).m.lin = w.m.lin := rfl
@[simp] theorem ing_eth (f : Ingress → Ingress) : (w.ing f).m.eth = w.m.eth := rfl
@[simp] theorem ing_doip (f : Ingress → Ingress) : (w.ing f).m.doip = w.m.doip := rfl
@[simp] theorem ing_tc (f : Ingress → Ingress) : (w.ing f).m.tc = w.m.tc := rfl
@[simp] theorem ing_sw (f : Ingress → Ingress) : (w.ing f).m.sw = w.m.sw := rfl
@[simp] theorem ing_slp (f : Ingress → Ingress) : (w.ing f).m.slp = w.m.slp := rfl
@[simp] theorem ing_upd (f : Ingress → Ingress) : (w.ing f).m.upd = w.m.upd := rfl

@[simp] theorem jr_effs (f : Journal → Journal) : (w.jr f).effs = w.effs := rfl
@[simp] theorem jr_ident (f : Journal → Journal) : (w.jr f).m.ident = w.m.ident := rfl
@[simp] theorem jr_mod (f : Journal → Journal) : (w.jr f).m.mod = w.m.mod := rfl
@[simp] theorem jr_supply (f : Journal → Journal) : (w.jr f).m.supply = w.m.supply := rfl
@[simp] theorem jr_borul (f : Journal → Journal) : (w.jr f).m.borul = w.m.borul := rfl
@[simp] theorem jr_ing (f : Journal → Journal) : (w.jr f).m.ing = w.m.ing := rfl
@[simp] theorem jr_jr (f : Journal → Journal) : (w.jr f).m.jr = f w.m.jr := rfl
@[simp] theorem jr_io (f : Journal → Journal) : (w.jr f).m.io = w.m.io := rfl
@[simp] theorem jr_keys (f : Journal → Journal) : (w.jr f).m.keys = w.m.keys := rfl
@[simp] theorem jr_tab (f : Journal → Journal) : (w.jr f).m.tab = w.m.tab := rfl
@[simp] theorem jr_flow (f : Journal → Journal) : (w.jr f).m.flow = w.m.flow := rfl
@[simp] theorem jr_fab (f : Journal → Journal) : (w.jr f).m.fab = w.m.fab := rfl
@[simp] theorem jr_jn (f : Journal → Journal) : (w.jr f).m.jn = w.m.jn := rfl
@[simp] theorem jr_can (f : Journal → Journal) : (w.jr f).m.can = w.m.can := rfl
@[simp] theorem jr_lin (f : Journal → Journal) : (w.jr f).m.lin = w.m.lin := rfl
@[simp] theorem jr_eth (f : Journal → Journal) : (w.jr f).m.eth = w.m.eth := rfl
@[simp] theorem jr_doip (f : Journal → Journal) : (w.jr f).m.doip = w.m.doip := rfl
@[simp] theorem jr_tc (f : Journal → Journal) : (w.jr f).m.tc = w.m.tc := rfl
@[simp] theorem jr_sw (f : Journal → Journal) : (w.jr f).m.sw = w.m.sw := rfl
@[simp] theorem jr_slp (f : Journal → Journal) : (w.jr f).m.slp = w.m.slp := rfl
@[simp] theorem jr_upd (f : Journal → Journal) : (w.jr f).m.upd = w.m.upd := rfl

@[simp] theorem io_effs (f : Io → Io) : (w.io f).effs = w.effs := rfl
@[simp] theorem io_ident (f : Io → Io) : (w.io f).m.ident = w.m.ident := rfl
@[simp] theorem io_mod (f : Io → Io) : (w.io f).m.mod = w.m.mod := rfl
@[simp] theorem io_supply (f : Io → Io) : (w.io f).m.supply = w.m.supply := rfl
@[simp] theorem io_borul (f : Io → Io) : (w.io f).m.borul = w.m.borul := rfl
@[simp] theorem io_ing (f : Io → Io) : (w.io f).m.ing = w.m.ing := rfl
@[simp] theorem io_jr (f : Io → Io) : (w.io f).m.jr = w.m.jr := rfl
@[simp] theorem io_io (f : Io → Io) : (w.io f).m.io = f w.m.io := rfl
@[simp] theorem io_keys (f : Io → Io) : (w.io f).m.keys = w.m.keys := rfl
@[simp] theorem io_tab (f : Io → Io) : (w.io f).m.tab = w.m.tab := rfl
@[simp] theorem io_flow (f : Io → Io) : (w.io f).m.flow = w.m.flow := rfl
@[simp] theorem io_fab (f : Io → Io) : (w.io f).m.fab = w.m.fab := rfl
@[simp] theorem io_jn (f : Io → Io) : (w.io f).m.jn = w.m.jn := rfl
@[simp] theorem io_can (f : Io → Io) : (w.io f).m.can = w.m.can := rfl
@[simp] theorem io_lin (f : Io → Io) : (w.io f).m.lin = w.m.lin := rfl
@[simp] theorem io_eth (f : Io → Io) : (w.io f).m.eth = w.m.eth := rfl
@[simp] theorem io_doip (f : Io → Io) : (w.io f).m.doip = w.m.doip := rfl
@[simp] theorem io_tc (f : Io → Io) : (w.io f).m.tc = w.m.tc := rfl
@[simp] theorem io_sw (f : Io → Io) : (w.io f).m.sw = w.m.sw := rfl
@[simp] theorem io_slp (f : Io → Io) : (w.io f).m.slp = w.m.slp := rfl
@[simp] theorem io_upd (f : Io → Io) : (w.io f).m.upd = w.m.upd := rfl

@[simp] theorem keys_effs (f : KeyStore → KeyStore) : (w.keys f).effs = w.effs := rfl
@[simp] theorem keys_ident (f : KeyStore → KeyStore) : (w.keys f).m.ident = w.m.ident := rfl
@[simp] theorem keys_mod (f : KeyStore → KeyStore) : (w.keys f).m.mod = w.m.mod := rfl
@[simp] theorem keys_supply (f : KeyStore → KeyStore) : (w.keys f).m.supply = w.m.supply := rfl
@[simp] theorem keys_borul (f : KeyStore → KeyStore) : (w.keys f).m.borul = w.m.borul := rfl
@[simp] theorem keys_ing (f : KeyStore → KeyStore) : (w.keys f).m.ing = w.m.ing := rfl
@[simp] theorem keys_jr (f : KeyStore → KeyStore) : (w.keys f).m.jr = w.m.jr := rfl
@[simp] theorem keys_io (f : KeyStore → KeyStore) : (w.keys f).m.io = w.m.io := rfl
@[simp] theorem keys_keys (f : KeyStore → KeyStore) : (w.keys f).m.keys = f w.m.keys := rfl
@[simp] theorem keys_tab (f : KeyStore → KeyStore) : (w.keys f).m.tab = w.m.tab := rfl
@[simp] theorem keys_flow (f : KeyStore → KeyStore) : (w.keys f).m.flow = w.m.flow := rfl
@[simp] theorem keys_fab (f : KeyStore → KeyStore) : (w.keys f).m.fab = w.m.fab := rfl
@[simp] theorem keys_jn (f : KeyStore → KeyStore) : (w.keys f).m.jn = w.m.jn := rfl
@[simp] theorem keys_can (f : KeyStore → KeyStore) : (w.keys f).m.can = w.m.can := rfl
@[simp] theorem keys_lin (f : KeyStore → KeyStore) : (w.keys f).m.lin = w.m.lin := rfl
@[simp] theorem keys_eth (f : KeyStore → KeyStore) : (w.keys f).m.eth = w.m.eth := rfl
@[simp] theorem keys_doip (f : KeyStore → KeyStore) : (w.keys f).m.doip = w.m.doip := rfl
@[simp] theorem keys_tc (f : KeyStore → KeyStore) : (w.keys f).m.tc = w.m.tc := rfl
@[simp] theorem keys_sw (f : KeyStore → KeyStore) : (w.keys f).m.sw = w.m.sw := rfl
@[simp] theorem keys_slp (f : KeyStore → KeyStore) : (w.keys f).m.slp = w.m.slp := rfl
@[simp] theorem keys_upd (f : KeyStore → KeyStore) : (w.keys f).m.upd = w.m.upd := rfl

@[simp] theorem tab_effs (f : Tables → Tables) : (w.tab f).effs = w.effs := rfl
@[simp] theorem tab_ident (f : Tables → Tables) : (w.tab f).m.ident = w.m.ident := rfl
@[simp] theorem tab_mod (f : Tables → Tables) : (w.tab f).m.mod = w.m.mod := rfl
@[simp] theorem tab_supply (f : Tables → Tables) : (w.tab f).m.supply = w.m.supply := rfl
@[simp] theorem tab_borul (f : Tables → Tables) : (w.tab f).m.borul = w.m.borul := rfl
@[simp] theorem tab_ing (f : Tables → Tables) : (w.tab f).m.ing = w.m.ing := rfl
@[simp] theorem tab_jr (f : Tables → Tables) : (w.tab f).m.jr = w.m.jr := rfl
@[simp] theorem tab_io (f : Tables → Tables) : (w.tab f).m.io = w.m.io := rfl
@[simp] theorem tab_keys (f : Tables → Tables) : (w.tab f).m.keys = w.m.keys := rfl
@[simp] theorem tab_tab (f : Tables → Tables) : (w.tab f).m.tab = f w.m.tab := rfl
@[simp] theorem tab_flow (f : Tables → Tables) : (w.tab f).m.flow = w.m.flow := rfl
@[simp] theorem tab_fab (f : Tables → Tables) : (w.tab f).m.fab = w.m.fab := rfl
@[simp] theorem tab_jn (f : Tables → Tables) : (w.tab f).m.jn = w.m.jn := rfl
@[simp] theorem tab_can (f : Tables → Tables) : (w.tab f).m.can = w.m.can := rfl
@[simp] theorem tab_lin (f : Tables → Tables) : (w.tab f).m.lin = w.m.lin := rfl
@[simp] theorem tab_eth (f : Tables → Tables) : (w.tab f).m.eth = w.m.eth := rfl
@[simp] theorem tab_doip (f : Tables → Tables) : (w.tab f).m.doip = w.m.doip := rfl
@[simp] theorem tab_tc (f : Tables → Tables) : (w.tab f).m.tc = w.m.tc := rfl
@[simp] theorem tab_sw (f : Tables → Tables) : (w.tab f).m.sw = w.m.sw := rfl
@[simp] theorem tab_slp (f : Tables → Tables) : (w.tab f).m.slp = w.m.slp := rfl
@[simp] theorem tab_upd (f : Tables → Tables) : (w.tab f).m.upd = w.m.upd := rfl

@[simp] theorem flow_effs (f : Flow → Flow) : (w.flow f).effs = w.effs := rfl
@[simp] theorem flow_ident (f : Flow → Flow) : (w.flow f).m.ident = w.m.ident := rfl
@[simp] theorem flow_mod (f : Flow → Flow) : (w.flow f).m.mod = w.m.mod := rfl
@[simp] theorem flow_supply (f : Flow → Flow) : (w.flow f).m.supply = w.m.supply := rfl
@[simp] theorem flow_borul (f : Flow → Flow) : (w.flow f).m.borul = w.m.borul := rfl
@[simp] theorem flow_ing (f : Flow → Flow) : (w.flow f).m.ing = w.m.ing := rfl
@[simp] theorem flow_jr (f : Flow → Flow) : (w.flow f).m.jr = w.m.jr := rfl
@[simp] theorem flow_io (f : Flow → Flow) : (w.flow f).m.io = w.m.io := rfl
@[simp] theorem flow_keys (f : Flow → Flow) : (w.flow f).m.keys = w.m.keys := rfl
@[simp] theorem flow_tab (f : Flow → Flow) : (w.flow f).m.tab = w.m.tab := rfl
@[simp] theorem flow_flow (f : Flow → Flow) : (w.flow f).m.flow = f w.m.flow := rfl
@[simp] theorem flow_fab (f : Flow → Flow) : (w.flow f).m.fab = w.m.fab := rfl
@[simp] theorem flow_jn (f : Flow → Flow) : (w.flow f).m.jn = w.m.jn := rfl
@[simp] theorem flow_can (f : Flow → Flow) : (w.flow f).m.can = w.m.can := rfl
@[simp] theorem flow_lin (f : Flow → Flow) : (w.flow f).m.lin = w.m.lin := rfl
@[simp] theorem flow_eth (f : Flow → Flow) : (w.flow f).m.eth = w.m.eth := rfl
@[simp] theorem flow_doip (f : Flow → Flow) : (w.flow f).m.doip = w.m.doip := rfl
@[simp] theorem flow_tc (f : Flow → Flow) : (w.flow f).m.tc = w.m.tc := rfl
@[simp] theorem flow_sw (f : Flow → Flow) : (w.flow f).m.sw = w.m.sw := rfl
@[simp] theorem flow_slp (f : Flow → Flow) : (w.flow f).m.slp = w.m.slp := rfl
@[simp] theorem flow_upd (f : Flow → Flow) : (w.flow f).m.upd = w.m.upd := rfl

@[simp] theorem fab_effs (f : Fabric → Fabric) : (w.fab f).effs = w.effs := rfl
@[simp] theorem fab_ident (f : Fabric → Fabric) : (w.fab f).m.ident = w.m.ident := rfl
@[simp] theorem fab_mod (f : Fabric → Fabric) : (w.fab f).m.mod = w.m.mod := rfl
@[simp] theorem fab_supply (f : Fabric → Fabric) : (w.fab f).m.supply = w.m.supply := rfl
@[simp] theorem fab_borul (f : Fabric → Fabric) : (w.fab f).m.borul = w.m.borul := rfl
@[simp] theorem fab_ing (f : Fabric → Fabric) : (w.fab f).m.ing = w.m.ing := rfl
@[simp] theorem fab_jr (f : Fabric → Fabric) : (w.fab f).m.jr = w.m.jr := rfl
@[simp] theorem fab_io (f : Fabric → Fabric) : (w.fab f).m.io = w.m.io := rfl
@[simp] theorem fab_keys (f : Fabric → Fabric) : (w.fab f).m.keys = w.m.keys := rfl
@[simp] theorem fab_tab (f : Fabric → Fabric) : (w.fab f).m.tab = w.m.tab := rfl
@[simp] theorem fab_flow (f : Fabric → Fabric) : (w.fab f).m.flow = w.m.flow := rfl
@[simp] theorem fab_fab (f : Fabric → Fabric) : (w.fab f).m.fab = f w.m.fab := rfl
@[simp] theorem fab_jn (f : Fabric → Fabric) : (w.fab f).m.jn = w.m.jn := rfl
@[simp] theorem fab_can (f : Fabric → Fabric) : (w.fab f).m.can = w.m.can := rfl
@[simp] theorem fab_lin (f : Fabric → Fabric) : (w.fab f).m.lin = w.m.lin := rfl
@[simp] theorem fab_eth (f : Fabric → Fabric) : (w.fab f).m.eth = w.m.eth := rfl
@[simp] theorem fab_doip (f : Fabric → Fabric) : (w.fab f).m.doip = w.m.doip := rfl
@[simp] theorem fab_tc (f : Fabric → Fabric) : (w.fab f).m.tc = w.m.tc := rfl
@[simp] theorem fab_sw (f : Fabric → Fabric) : (w.fab f).m.sw = w.m.sw := rfl
@[simp] theorem fab_slp (f : Fabric → Fabric) : (w.fab f).m.slp = w.m.slp := rfl
@[simp] theorem fab_upd (f : Fabric → Fabric) : (w.fab f).m.upd = w.m.upd := rfl

@[simp] theorem jn_effs (f : Junction → Junction) : (w.jn f).effs = w.effs := rfl
@[simp] theorem jn_ident (f : Junction → Junction) : (w.jn f).m.ident = w.m.ident := rfl
@[simp] theorem jn_mod (f : Junction → Junction) : (w.jn f).m.mod = w.m.mod := rfl
@[simp] theorem jn_supply (f : Junction → Junction) : (w.jn f).m.supply = w.m.supply := rfl
@[simp] theorem jn_borul (f : Junction → Junction) : (w.jn f).m.borul = w.m.borul := rfl
@[simp] theorem jn_ing (f : Junction → Junction) : (w.jn f).m.ing = w.m.ing := rfl
@[simp] theorem jn_jr (f : Junction → Junction) : (w.jn f).m.jr = w.m.jr := rfl
@[simp] theorem jn_io (f : Junction → Junction) : (w.jn f).m.io = w.m.io := rfl
@[simp] theorem jn_keys (f : Junction → Junction) : (w.jn f).m.keys = w.m.keys := rfl
@[simp] theorem jn_tab (f : Junction → Junction) : (w.jn f).m.tab = w.m.tab := rfl
@[simp] theorem jn_flow (f : Junction → Junction) : (w.jn f).m.flow = w.m.flow := rfl
@[simp] theorem jn_fab (f : Junction → Junction) : (w.jn f).m.fab = w.m.fab := rfl
@[simp] theorem jn_jn (f : Junction → Junction) : (w.jn f).m.jn = f w.m.jn := rfl
@[simp] theorem jn_can (f : Junction → Junction) : (w.jn f).m.can = w.m.can := rfl
@[simp] theorem jn_lin (f : Junction → Junction) : (w.jn f).m.lin = w.m.lin := rfl
@[simp] theorem jn_eth (f : Junction → Junction) : (w.jn f).m.eth = w.m.eth := rfl
@[simp] theorem jn_doip (f : Junction → Junction) : (w.jn f).m.doip = w.m.doip := rfl
@[simp] theorem jn_tc (f : Junction → Junction) : (w.jn f).m.tc = w.m.tc := rfl
@[simp] theorem jn_sw (f : Junction → Junction) : (w.jn f).m.sw = w.m.sw := rfl
@[simp] theorem jn_slp (f : Junction → Junction) : (w.jn f).m.slp = w.m.slp := rfl
@[simp] theorem jn_upd (f : Junction → Junction) : (w.jn f).m.upd = w.m.upd := rfl

@[simp] theorem doip_effs (f : Doip → Doip) : (w.doip f).effs = w.effs := rfl
@[simp] theorem doip_ident (f : Doip → Doip) : (w.doip f).m.ident = w.m.ident := rfl
@[simp] theorem doip_mod (f : Doip → Doip) : (w.doip f).m.mod = w.m.mod := rfl
@[simp] theorem doip_supply (f : Doip → Doip) : (w.doip f).m.supply = w.m.supply := rfl
@[simp] theorem doip_borul (f : Doip → Doip) : (w.doip f).m.borul = w.m.borul := rfl
@[simp] theorem doip_ing (f : Doip → Doip) : (w.doip f).m.ing = w.m.ing := rfl
@[simp] theorem doip_jr (f : Doip → Doip) : (w.doip f).m.jr = w.m.jr := rfl
@[simp] theorem doip_io (f : Doip → Doip) : (w.doip f).m.io = w.m.io := rfl
@[simp] theorem doip_keys (f : Doip → Doip) : (w.doip f).m.keys = w.m.keys := rfl
@[simp] theorem doip_tab (f : Doip → Doip) : (w.doip f).m.tab = w.m.tab := rfl
@[simp] theorem doip_flow (f : Doip → Doip) : (w.doip f).m.flow = w.m.flow := rfl
@[simp] theorem doip_fab (f : Doip → Doip) : (w.doip f).m.fab = w.m.fab := rfl
@[simp] theorem doip_jn (f : Doip → Doip) : (w.doip f).m.jn = w.m.jn := rfl
@[simp] theorem doip_can (f : Doip → Doip) : (w.doip f).m.can = w.m.can := rfl
@[simp] theorem doip_lin (f : Doip → Doip) : (w.doip f).m.lin = w.m.lin := rfl
@[simp] theorem doip_eth (f : Doip → Doip) : (w.doip f).m.eth = w.m.eth := rfl
@[simp] theorem doip_doip (f : Doip → Doip) : (w.doip f).m.doip = f w.m.doip := rfl
@[simp] theorem doip_tc (f : Doip → Doip) : (w.doip f).m.tc = w.m.tc := rfl
@[simp] theorem doip_sw (f : Doip → Doip) : (w.doip f).m.sw = w.m.sw := rfl
@[simp] theorem doip_slp (f : Doip → Doip) : (w.doip f).m.slp = w.m.slp := rfl
@[simp] theorem doip_upd (f : Doip → Doip) : (w.doip f).m.upd = w.m.upd := rfl

@[simp] theorem tc_effs (f : TimeCtl → TimeCtl) : (w.tc f).effs = w.effs := rfl
@[simp] theorem tc_ident (f : TimeCtl → TimeCtl) : (w.tc f).m.ident = w.m.ident := rfl
@[simp] theorem tc_mod (f : TimeCtl → TimeCtl) : (w.tc f).m.mod = w.m.mod := rfl
@[simp] theorem tc_supply (f : TimeCtl → TimeCtl) : (w.tc f).m.supply = w.m.supply := rfl
@[simp] theorem tc_borul (f : TimeCtl → TimeCtl) : (w.tc f).m.borul = w.m.borul := rfl
@[simp] theorem tc_ing (f : TimeCtl → TimeCtl) : (w.tc f).m.ing = w.m.ing := rfl
@[simp] theorem tc_jr (f : TimeCtl → TimeCtl) : (w.tc f).m.jr = w.m.jr := rfl
@[simp] theorem tc_io (f : TimeCtl → TimeCtl) : (w.tc f).m.io = w.m.io := rfl
@[simp] theorem tc_keys (f : TimeCtl → TimeCtl) : (w.tc f).m.keys = w.m.keys := rfl
@[simp] theorem tc_tab (f : TimeCtl → TimeCtl) : (w.tc f).m.tab = w.m.tab := rfl
@[simp] theorem tc_flow (f : TimeCtl → TimeCtl) : (w.tc f).m.flow = w.m.flow := rfl
@[simp] theorem tc_fab (f : TimeCtl → TimeCtl) : (w.tc f).m.fab = w.m.fab := rfl
@[simp] theorem tc_jn (f : TimeCtl → TimeCtl) : (w.tc f).m.jn = w.m.jn := rfl
@[simp] theorem tc_can (f : TimeCtl → TimeCtl) : (w.tc f).m.can = w.m.can := rfl
@[simp] theorem tc_lin (f : TimeCtl → TimeCtl) : (w.tc f).m.lin = w.m.lin := rfl
@[simp] theorem tc_eth (f : TimeCtl → TimeCtl) : (w.tc f).m.eth = w.m.eth := rfl
@[simp] theorem tc_doip (f : TimeCtl → TimeCtl) : (w.tc f).m.doip = w.m.doip := rfl
@[simp] theorem tc_tc (f : TimeCtl → TimeCtl) : (w.tc f).m.tc = f w.m.tc := rfl
@[simp] theorem tc_sw (f : TimeCtl → TimeCtl) : (w.tc f).m.sw = w.m.sw := rfl
@[simp] theorem tc_slp (f : TimeCtl → TimeCtl) : (w.tc f).m.slp = w.m.slp := rfl
@[simp] theorem tc_upd (f : TimeCtl → TimeCtl) : (w.tc f).m.upd = w.m.upd := rfl

@[simp] theorem slp_effs (f : Sleep → Sleep) : (w.slp f).effs = w.effs := rfl
@[simp] theorem slp_ident (f : Sleep → Sleep) : (w.slp f).m.ident = w.m.ident := rfl
@[simp] theorem slp_mod (f : Sleep → Sleep) : (w.slp f).m.mod = w.m.mod := rfl
@[simp] theorem slp_supply (f : Sleep → Sleep) : (w.slp f).m.supply = w.m.supply := rfl
@[simp] theorem slp_borul (f : Sleep → Sleep) : (w.slp f).m.borul = w.m.borul := rfl
@[simp] theorem slp_ing (f : Sleep → Sleep) : (w.slp f).m.ing = w.m.ing := rfl
@[simp] theorem slp_jr (f : Sleep → Sleep) : (w.slp f).m.jr = w.m.jr := rfl
@[simp] theorem slp_io (f : Sleep → Sleep) : (w.slp f).m.io = w.m.io := rfl
@[simp] theorem slp_keys (f : Sleep → Sleep) : (w.slp f).m.keys = w.m.keys := rfl
@[simp] theorem slp_tab (f : Sleep → Sleep) : (w.slp f).m.tab = w.m.tab := rfl
@[simp] theorem slp_flow (f : Sleep → Sleep) : (w.slp f).m.flow = w.m.flow := rfl
@[simp] theorem slp_fab (f : Sleep → Sleep) : (w.slp f).m.fab = w.m.fab := rfl
@[simp] theorem slp_jn (f : Sleep → Sleep) : (w.slp f).m.jn = w.m.jn := rfl
@[simp] theorem slp_can (f : Sleep → Sleep) : (w.slp f).m.can = w.m.can := rfl
@[simp] theorem slp_lin (f : Sleep → Sleep) : (w.slp f).m.lin = w.m.lin := rfl
@[simp] theorem slp_eth (f : Sleep → Sleep) : (w.slp f).m.eth = w.m.eth := rfl
@[simp] theorem slp_doip (f : Sleep → Sleep) : (w.slp f).m.doip = w.m.doip := rfl
@[simp] theorem slp_tc (f : Sleep → Sleep) : (w.slp f).m.tc = w.m.tc := rfl
@[simp] theorem slp_sw (f : Sleep → Sleep) : (w.slp f).m.sw = w.m.sw := rfl
@[simp] theorem slp_slp (f : Sleep → Sleep) : (w.slp f).m.slp = f w.m.slp := rfl
@[simp] theorem slp_upd (f : Sleep → Sleep) : (w.slp f).m.upd = w.m.upd := rfl

@[simp] theorem sw_effs (f : Switch → Switch) : (w.sw f).effs = w.effs := rfl
@[simp] theorem sw_ident (f : Switch → Switch) : (w.sw f).m.ident = w.m.ident := rfl
@[simp] theorem sw_mod (f : Switch → Switch) : (w.sw f).m.mod = w.m.mod := rfl
@[simp] theorem sw_supply (f : Switch → Switch) : (w.sw f).m.supply = w.m.supply := rfl
@[simp] theorem sw_borul (f : Switch → Switch) : (w.sw f).m.borul = w.m.borul := rfl
@[simp] theorem sw_ing (f : Switch → Switch) : (w.sw f).m.ing = w.m.ing := rfl
@[simp] theorem sw_jr (f : Switch → Switch) : (w.sw f).m.jr = w.m.jr := rfl
@[simp] theorem sw_io (f : Switch → Switch) : (w.sw f).m.io = w.m.io := rfl
@[simp] theorem sw_keys (f : Switch → Switch) : (w.sw f).m.keys = w.m.keys := rfl
@[simp] theorem sw_tab (f : Switch → Switch) : (w.sw f).m.tab = w.m.tab := rfl
@[simp] theorem sw_flow (f : Switch → Switch) : (w.sw f).m.flow = w.m.flow := rfl
@[simp] theorem sw_fab (f : Switch → Switch) : (w.sw f).m.fab = w.m.fab := rfl
@[simp] theorem sw_jn (f : Switch → Switch) : (w.sw f).m.jn = w.m.jn := rfl
@[simp] theorem sw_can (f : Switch → Switch) : (w.sw f).m.can = w.m.can := rfl
@[simp] theorem sw_lin (f : Switch → Switch) : (w.sw f).m.lin = w.m.lin := rfl
@[simp] theorem sw_eth (f : Switch → Switch) : (w.sw f).m.eth = w.m.eth := rfl
@[simp] theorem sw_doip (f : Switch → Switch) : (w.sw f).m.doip = w.m.doip := rfl
@[simp] theorem sw_tc (f : Switch → Switch) : (w.sw f).m.tc = w.m.tc := rfl
@[simp] theorem sw_sw (f : Switch → Switch) : (w.sw f).m.sw = f w.m.sw := rfl
@[simp] theorem sw_slp (f : Switch → Switch) : (w.sw f).m.slp = w.m.slp := rfl
@[simp] theorem sw_upd (f : Switch → Switch) : (w.sw f).m.upd = w.m.upd := rfl

@[simp] theorem update_effs (f : Update → Update) : (w.update f).effs = w.effs := rfl
@[simp] theorem update_ident (f : Update → Update) : (w.update f).m.ident = w.m.ident := rfl
@[simp] theorem update_mod (f : Update → Update) : (w.update f).m.mod = w.m.mod := rfl
@[simp] theorem update_supply (f : Update → Update) : (w.update f).m.supply = w.m.supply := rfl
@[simp] theorem update_borul (f : Update → Update) : (w.update f).m.borul = w.m.borul := rfl
@[simp] theorem update_ing (f : Update → Update) : (w.update f).m.ing = w.m.ing := rfl
@[simp] theorem update_jr (f : Update → Update) : (w.update f).m.jr = w.m.jr := rfl
@[simp] theorem update_io (f : Update → Update) : (w.update f).m.io = w.m.io := rfl
@[simp] theorem update_keys (f : Update → Update) : (w.update f).m.keys = w.m.keys := rfl
@[simp] theorem update_tab (f : Update → Update) : (w.update f).m.tab = w.m.tab := rfl
@[simp] theorem update_flow (f : Update → Update) : (w.update f).m.flow = w.m.flow := rfl
@[simp] theorem update_fab (f : Update → Update) : (w.update f).m.fab = w.m.fab := rfl
@[simp] theorem update_jn (f : Update → Update) : (w.update f).m.jn = w.m.jn := rfl
@[simp] theorem update_can (f : Update → Update) : (w.update f).m.can = w.m.can := rfl
@[simp] theorem update_lin (f : Update → Update) : (w.update f).m.lin = w.m.lin := rfl
@[simp] theorem update_eth (f : Update → Update) : (w.update f).m.eth = w.m.eth := rfl
@[simp] theorem update_doip (f : Update → Update) : (w.update f).m.doip = w.m.doip := rfl
@[simp] theorem update_tc (f : Update → Update) : (w.update f).m.tc = w.m.tc := rfl
@[simp] theorem update_sw (f : Update → Update) : (w.update f).m.sw = w.m.sw := rfl
@[simp] theorem update_slp (f : Update → Update) : (w.update f).m.slp = w.m.slp := rfl
@[simp] theorem update_upd (f : Update → Update) : (w.update f).m.upd = f w.m.upd := rfl

@[simp] theorem can_effs (i : Nat) (f : CanCh → CanCh) : (w.can i f).effs = w.effs := rfl
@[simp] theorem can_ident (i : Nat) (f : CanCh → CanCh) : (w.can i f).m.ident = w.m.ident := rfl
@[simp] theorem can_mod (i : Nat) (f : CanCh → CanCh) : (w.can i f).m.mod = w.m.mod := rfl
@[simp] theorem can_supply (i : Nat) (f : CanCh → CanCh) : (w.can i f).m.supply = w.m.supply := rfl
@[simp] theorem can_borul (i : Nat) (f : CanCh → CanCh) : (w.can i f).m.borul = w.m.borul := rfl
@[simp] theorem can_ing (i : Nat) (f : CanCh → CanCh) : (w.can i f).m.ing = w.m.ing := rfl
@[simp] theorem can_jr (i : Nat) (f : CanCh → CanCh) : (w.can i f).m.jr = w.m.jr := rfl
@[simp] theorem can_io (i : Nat) (f : CanCh → CanCh) : (w.can i f).m.io = w.m.io := rfl
@[simp] theorem can_keys (i : Nat) (f : CanCh → CanCh) : (w.can i f).m.keys = w.m.keys := rfl
@[simp] theorem can_tab (i : Nat) (f : CanCh → CanCh) : (w.can i f).m.tab = w.m.tab := rfl
@[simp] theorem can_flow (i : Nat) (f : CanCh → CanCh) : (w.can i f).m.flow = w.m.flow := rfl
@[simp] theorem can_fab (i : Nat) (f : CanCh → CanCh) : (w.can i f).m.fab = w.m.fab := rfl
@[simp] theorem can_jn (i : Nat) (f : CanCh → CanCh) : (w.can i f).m.jn = w.m.jn := rfl
@[simp] theorem can_can (i : Nat) (f : CanCh → CanCh) : (w.can i f).m.can = Sys2Proof.upd w.m.can i f := rfl
@[simp] theorem can_lin (i : Nat) (f : CanCh → CanCh) : (w.can i f).m.lin = w.m.lin := rfl
@[simp] theorem can_eth (i : Nat) (f : CanCh → CanCh) : (w.can i f).m.eth = w.m.eth := rfl
@[simp] theorem can_doip (i : Nat) (f : CanCh → CanCh) : (w.can i f).m.doip = w.m.doip := rfl
@[simp] theorem can_tc (i : Nat) (f : CanCh → CanCh) : (w.can i f).m.tc = w.m.tc := rfl
@[simp] theorem can_sw (i : Nat) (f : CanCh → CanCh) : (w.can i f).m.sw = w.m.sw := rfl
@[simp] theorem can_slp (i : Nat) (f : CanCh → CanCh) : (w.can i f).m.slp = w.m.slp := rfl
@[simp] theorem can_upd (i : Nat) (f : CanCh → CanCh) : (w.can i f).m.upd = w.m.upd := rfl

@[simp] theorem lin_effs (i : Nat) (f : LinCh → LinCh) : (w.lin i f).effs = w.effs := rfl
@[simp] theorem lin_ident (i : Nat) (f : LinCh → LinCh) : (w.lin i f).m.ident = w.m.ident := rfl
@[simp] theorem lin_mod (i : Nat) (f : LinCh → LinCh) : (w.lin i f).m.mod = w.m.mod := rfl
@[simp] theorem lin_supply (i : Nat) (f : LinCh → LinCh) : (w.lin i f).m.supply = w.m.supply := rfl
@[simp] theorem lin_borul (i : Nat) (f : LinCh → LinCh) : (w.lin i f).m.borul = w.m.borul := rfl
@[simp] theorem lin_ing (i : Nat) (f : LinCh → LinCh) : (w.lin i f).m.ing = w.m.ing := rfl
@[simp] theorem lin_jr (i : Nat) (f : LinCh → LinCh) : (w.lin i f).m.jr = w.m.jr := rfl
@[simp] theorem lin_io (i : Nat) (f : LinCh → LinCh) : (w.lin i f).m.io = w.m.io := rfl
@[simp] theorem lin_keys (i : Nat) (f : LinCh → LinCh) : (w.lin i f).m.keys = w.m.keys := rfl
@[simp] theorem lin_tab (i : Nat) (f : LinCh → LinCh) : (w.lin i f).m.tab = w.m.tab := rfl
@[simp] theorem lin_flow (i : Nat) (f : LinCh → LinCh) : (w.lin i f).m.flow = w.m.flow := rfl
@[simp] theorem lin_fab (i : Nat) (f : LinCh → LinCh) : (w.lin i f).m.fab = w.m.fab := rfl
@[simp] theorem lin_jn (i : Nat) (f : LinCh → LinCh) : (w.lin i f).m.jn = w.m.jn := rfl
@[simp] theorem lin_can (i : Nat) (f : LinCh → LinCh) : (w.lin i f).m.can = w.m.can := rfl
@[simp] theorem lin_lin (i : Nat) (f : LinCh → LinCh) : (w.lin i f).m.lin = Sys2Proof.upd w.m.lin i f := rfl
@[simp] theorem lin_eth (i : Nat) (f : LinCh → LinCh) : (w.lin i f).m.eth = w.m.eth := rfl
@[simp] theorem lin_doip (i : Nat) (f : LinCh → LinCh) : (w.lin i f).m.doip = w.m.doip := rfl
@[simp] theorem lin_tc (i : Nat) (f : LinCh → LinCh) : (w.lin i f).m.tc = w.m.tc := rfl
@[simp] theorem lin_sw (i : Nat) (f : LinCh → LinCh) : (w.lin i f).m.sw = w.m.sw := rfl
@[simp] theorem lin_slp (i : Nat) (f : LinCh → LinCh) : (w.lin i f).m.slp = w.m.slp := rfl
@[simp] theorem lin_upd (i : Nat) (f : LinCh → LinCh) : (w.lin i f).m.upd = w.m.upd := rfl

@[simp] theorem eth_effs (i : Nat) (f : EthPort → EthPort) : (w.eth i f).effs = w.effs := rfl
@[simp] theorem eth_ident (i : Nat) (f : EthPort → EthPort) : (w.eth i f).m.ident = w.m.ident := rfl
@[simp] theorem eth_mod (i : Nat) (f : EthPort → EthPort) : (w.eth i f).m.mod = w.m.mod := rfl
@[simp] theorem eth_supply (i : Nat) (f : EthPort → EthPort) : (w.eth i f).m.supply = w.m.supply := rfl
@[simp] theorem eth_borul (i : Nat) (f : EthPort → EthPort) : (w.eth i f).m.borul = w.m.borul := rfl
@[simp] theorem eth_ing (i : Nat) (f : EthPort → EthPort) : (w.eth i f).m.ing = w.m.ing := rfl
@[simp] theorem eth_jr (i : Nat) (f : EthPort → EthPort) : (w.eth i f).m.jr = w.m.jr := rfl
@[simp] theorem eth_io (i : Nat) (f : EthPort → EthPort) : (w.eth i f).m.io = w.m.io := rfl
@[simp] theorem eth_keys (i : Nat) (f : EthPort → EthPort) : (w.eth i f).m.keys = w.m.keys := rfl
@[simp] theorem eth_tab (i : Nat) (f : EthPort → EthPort) : (w.eth i f).m.tab = w.m.tab := rfl
@[simp] theorem eth_flow (i : Nat) (f : EthPort → EthPort) : (w.eth i f).m.flow = w.m.flow := rfl
@[simp] theorem eth_fab (i : Nat) (f : EthPort → EthPort) : (w.eth i f).m.fab = w.m.fab := rfl
@[simp] theorem eth_jn (i : Nat) (f : EthPort → EthPort) : (w.eth i f).m.jn = w.m.jn := rfl
@[simp] theorem eth_can (i : Nat) (f : EthPort → EthPort) : (w.eth i f).m.can = w.m.can := rfl
@[simp] theorem eth_lin (i : Nat) (f : EthPort → EthPort) : (w.eth i f).m.lin = w.m.lin := rfl
@[simp] theorem eth_eth (i : Nat) (f : EthPort → EthPort) : (w.eth i f).m.eth = Sys2Proof.upd w.m.eth i f := rfl
@[simp] theorem eth_doip (i : Nat) (f : EthPort → EthPort) : (w.eth i f).m.doip = w.m.doip := rfl
@[simp] theorem eth_tc (i : Nat) (f : EthPort → EthPort) : (w.eth i f).m.tc = w.m.tc := rfl
@[simp] theorem eth_sw (i : Nat) (f : EthPort → EthPort) : (w.eth i f).m.sw = w.m.sw := rfl
@[simp] theorem eth_slp (i : Nat) (f : EthPort → EthPort) : (w.eth i f).m.slp = w.m.slp := rfl
@[simp] theorem eth_upd (i : Nat) (f : EthPort → EthPort) : (w.eth i f).m.upd = w.m.upd := rfl

end Sys2Proof.Laws
end

