-- ==== Sys2Proof/Tests/Slice0.lean ====
section
/-! SUPPORT. Tests on small states: well-formedness and the terms it refuses, single commands checked against spec/,
and, for every statement with hypotheses, states and operands that meet them. -/

namespace Sys2Proof.Tests

open Sys2Proof Sys2Proof.Machine

set_option Elab.async false

/-! ### Small states -/

/-- TB2 some 4,295 s after its reset, and the other time bases with it. -/
def noon : TimeUnit := { tb0 := { m := 1000 }, tb1 := { m := 1000 }, tb2 := { m := 1000 }, tb3 := { m := 1000 } }

/-- A module in RUN on a usable route book. -/
def runM : Module := { mod := { state := .run, firmwareRunning := true, configSource := 0 } }

def at_ (m : Module) : State := { base := { time := noon }, m := m }

/-- A maintainer's session, open over the first ISO 15765-2 pair. -/
def sess : Session := { st := .opened, id := 7, role := 2, major := 2, minor := 2, deadline := 2 ^ 60 }

/-- `m` with the first ISO 15765-2 pair enabled and the session `x` in slot 0. -/
def hostedBy (x : Session) (m : Module) : Module :=
  setPrm { m with borul := { m.borul with slots := [x, {}, {}, {}] } } P.session_isotp_channel 0 0 0

def hosted (m : Module) : Module := hostedBy sess m

def hostS : State := at_ (hosted runM)

/-- A packet of the session `sess` over the first pair, before its trailer. -/
def bare (sid : Nat) (p : List Byte) : Request :=
  { src := .isotp 0, magic := 0x5A42, major := 2, minor := 2, tagByte := 0, flags := 0, payloadLength := p.length
    status := 0, sessionId := sid, sequence := 1, payload := p, trailer := [] }

def signedAs (key : Option (List Byte)) (code : Nat) (r : Request) : Request :=
  { r with trailer := trailerOf key (requestBytes code r) }

/-- A request of the session `sess`. -/
def ask (op : OpInfo) (p : List Byte) : Request := signedAs (some []) op.code (bare 7 p)

/-- A request outside any session. -/
def askOut (op : OpInfo) (p : List Byte) : Request := signedAs none op.code (bare 0 p)

theorem leBytes_length (n v : Nat) : (leBytes n v).length = n := by
  induction n generalizing v with
  | zero => rfl
  | succ n ih => simp [leBytes, ih]

theorem signed_length (k : List Byte) (bs : List Byte) : (trailerOf (some k) bs).length = 16 := by
  simp [trailerOf, cmacBytes, beBytes, leBytes_length]

/-- What a request needs of the state to pass step 1 of Table 02-2. -/
def verifiable (p : List Byte) (s : State) : Bool :=
  Machine.managed s.m && pairEnabled s.m 0 && findSlot s.m 7 == some 0 && (slotAt s.m 0).src == .isotp 0
    && (slotAt s.m 0).key == [] && !s.base.late (slotAt s.m 0).deadline && decide (p.length ≤ 4056)

theorem ask_verified {op : OpInfo} {p : List Byte} {s : State} (h : verifiable p s = true) :
    Verified op (ask op p) s 0 := by
  simp only [verifiable, Bool.and_eq_true, beq_iff_eq, Bool.not_eq_true', decide_eq_true_eq] at h
  obtain ⟨⟨⟨⟨⟨⟨hm, hp⟩, hf⟩, hs⟩, hk⟩, hl⟩, hlen⟩ := h
  refine { own := rfl, managed := hm, named := by simp [ask, signedAs, bare], found := hf, isBorul := ?_, framed := ?_
           endpoint := ?_, inTime := hl, trailer := ?_ } <;>
    simp [ask, signedAs, bare, admitted, hp, framingOk, signed_length, hlen, hs, hk, sameEndpoint, Request.replyFlag,
      Request.eventFlag, bit, requestBytes]

/-- What it needs to pass steps 2 and 3 as well. -/
def reachable (op : OpInfo) (p : List Byte) (s : State) : Bool :=
  verifiable p s && (slotAt s.m 0).st == (if op.code = 0x0102 then .pending else .opened) && op.code != 0x0101
    && ((slotAt s.m 0).major, (slotAt s.m 0).minor) == (2, 2)

theorem ask_reaches {op : OpInfo} {p : List Byte} {s : State} (h : reachable op p s = true) :
    Reaches op (ask op p) s 0 := by
  simp only [reachable, Bool.and_eq_true, beq_iff_eq, bne_iff_ne, ne_eq] at h
  obtain ⟨⟨⟨hv, hs⟩, h1⟩, hver⟩ := h
  exact { ask_verified hv with standing := hs, opcode := h1, version := by rw [hver]; rfl }

/-- What it needs to be accepted. -/
def askable (op : OpInfo) (p : List Byte) (s : State) : Bool :=
  reachable op p s && (slotAt s.m 0).dup == [] && (slotAt s.m 0).rxHigh == 0
    && gate s.m op (2, 2) ((slotAt s.m 0).role + 1) p == none
    && (slotAt s.m 0).trains == [] && (slotAt s.m 0).tags == []

theorem ask_accepted {op : OpInfo} {p : List Byte} {s : State} (h : askable op p s = true) :
    Accepted op (ask op p) s 0 := by
  simp only [askable, Bool.and_eq_true, beq_iff_eq] at h
  obtain ⟨⟨⟨⟨⟨hr, hd⟩, hx⟩, hg⟩, ht⟩, htag⟩ := h
  have hv : ((slotAt s.m 0).major, (slotAt s.m 0).minor) = (2, 2) := (ask_reaches hr).version.symm
  exact { ask_reaches hr with
    new := by simp [findDup, hd], fresh := by rw [hx]; exact Nat.one_pos, gate := by rw [hv]; exact hg
    noTrain := by simp [trainOf, ht], tagFree := by simp [htag]
    whole := by simp [ask, signedAs, bare, Request.more, bit] }

theorem crc_length (bs : List Byte) : (trailerOf none bs).length = 4 := by simp [trailerOf, u32, leBytes_length]

/-- What a request outside any session needs of the state. -/
def askableOut (op : OpInfo) (p : List Byte) (s : State) : Bool :=
  Machine.managed s.m && pairEnabled s.m 0 && decide (p.length ≤ 4056)
    && (op.code == 0x0101 || op.code / 256 == 0x02 && decide (op.rev ≤ familyRev 0x02 (2, 2)))

theorem askOut_accepted {op : OpInfo} {p : List Byte} {s : State} (h : askableOut op p s = true) :
    AcceptedBare op (askOut op p) s := by
  simp only [askableOut, Bool.and_eq_true, Bool.or_eq_true, beq_iff_eq, decide_eq_true_eq] at h
  obtain ⟨⟨⟨hm, hp⟩, hlen⟩, ho⟩ := h
  refine { own := rfl, managed := hm, unnamed := rfl, isBorul := ?_, framed := ?_, trailer := ?_
           served := ho.imp id fun x => ⟨x.1, by simp [askOut, signedAs, bare, isVersion, versions], x.2⟩, whole := ?_ } <;>
    simp [askOut, signedAs, bare, admitted, hp, framingOk, crc_length, hlen, Request.replyFlag,
      Request.eventFlag, Request.more, bit, requestBytes]

/-- A state whose parse context 63 holds a frame of port 43 at word `pc`, which is `word`. -/
def fetching (word : Nat) (c : ParseCtx) (m : Module := runM) (pc : Nat := 8191) : State :=
  at_ { m with
    tab := m.tab.put 8 (pc / 4) (word * 2 ^ (32 * (pc % 4)))
    ing := { m.ing with ctxs := List.replicate 63 {} ++ [{ c with
      pc := pc, frame := some (c.frame.getD { port := 43, fmt := 0 }) }] } }

def issuable (op i : Nat) (s : State) : Bool :=
  decide (i < 64) && powered s.m && !footService s.m && (ctxAt s.m i).frame.isSome && (ctxAt s.m i).waiting == none
    && decide ((ctxAt s.m i).issued < prm s.m P.ingress_parse_budget) && decide ((ctxAt s.m i).pc ≤ 8191)
    && opOf (wordAt s i) == op

theorem issues_of {op i : Nat} {s : State} (h : issuable op i s = true) : Issues op i s := by
  simp only [issuable, Bool.and_eq_true, beq_iff_eq, decide_eq_true_eq] at h
  obtain ⟨⟨⟨⟨⟨⟨⟨h1, hp⟩, hf⟩, h2⟩, h3⟩, h4⟩, h5⟩, h6⟩ := h
  exact ⟨h1, hp, by simpa using hf, h2, h3, h4, h5, h6⟩

/-- A NAME at word 8,191 while an earlier claim frame of the port is in parse. -/
def claimM (waiting : Option (Nat × Nat) := none) (word : Nat := 0xE4000000) (marked : Bool := false)
    (pc : Nat := 8191) : Module :=
  { runM with
    tab := runM.tab.put 8 (pc / 4) (word * 2 ^ (32 * (pc % 4)))
    ing := { ctxs := { frame := some { port := 43, fmt := 0, marked := true } } :: List.replicate 62 {}
      ++ [{ pc := pc, frame := some { port := 43, fmt := 0, seq := 1, marked := marked }, waiting := waiting }] } }

/-- `m` with the link of an Ethernet port up at this rate. -/
def linked (port rate : Nat) (m : Module := runM) : Module :=
  setPrm { m with doip := { active := true }, eth := upd m.eth port fun x => { x with up := true, rate := rate } } P.eth_phy_mode port 0 1

/-- An Ethernet port whose fast-lane candidates are the frames of PCP 7. -/
def laneM (port : Nat) : Module := setPrm (linked port 100) P.ingress_port_mode 0 port 4

/-- `m` with CAN channel `ch` on its bus. -/
def onBus (ch : Nat) (c : CanCh := {}) (m : Module := runM) : Module :=
  setPrm { m with can := upd m.can ch fun _ => c } P.can_mode ch 0 1

/-- A fast-lane frame with number 5 from `port`, open for `out_`. -/
def laneFrame (port out_ : Nat) : FlFrame := { entry := 0, frame := { port := port, fmt := 8, seq := 5 }, open_ := [out_] }

def withLane (f : FlFrame) (m : Module := runM) : Module := { m with fab := { fl := [(5, f)] } }

/-- A J1939 transfer whose T1 ran out 1.2 µs ago. -/
def tpS : TpSession :=
  { port := 14, ch := 0, sa := 1, da := 255, bam := true, responder := false, size := 9, packets := 2, maxCts := 255
    prio := 7, pgn := 0xFECA, window := 2, next := 1, data := [], timer := 1, deadline := 1000 * 2 ^ 32 - 1200 }

/-- An ISO 15765-2 reception whose timer ran out 1.2 µs ago. -/
def isoS : IsoTp :=
  { owner := .pair 1, sending := false, ch := 0, fmt := 0, txId := 0, rxId := 0, data := [], total := 9, done := 6
    nextSn := 1, block := 0, stmin := 0, waitFc := false, deadline := 1000 * 2 ^ 32 - 1200 }

/-- A MAC address learned on E10. -/
def learnedM : Module :=
  { hosted runM with tab := { learned := [(0, { key := macKey 4095 1, port := 10, index := 0 })] } }

/-- The same address learned before, with another request for it waiting. -/
def relearnM : Module :=
  let q : LearnReq := { port := 10, key := macKey 4095 1 }
  match exec .learnInsert (at_ { runM with tab := { learnQ := [q, q] } }) with | .next t => t.m | _ => runM

def commitO : Op :=
  { sid := 7, tag := 0, opcode := 0x0404, seq := 1, posted := false, payload := []
    kind := .commit (some 0) }

/-- A frame held in the layby since TB2 0. -/
def heldX : Held :=
  { id := 1, frame := { port := 43, fmt := 0 }, reason := 0, kinds := 0, sp := 0, waypoint := 0, tiles := 1
    flSent := false, since := 0 }

def jobX : Job := { frame := { port := 43, fmt := 0 }, sp := Sp.forward 10 7 }

/-- A full queue of E10 that stalls port 43 since TB2 0. -/
def blockedM : Module :=
  { runM with
    ing := { xoff := [43] }
    fab := { store := [(0, { account := 43, tiles := 1, refs := 1 })], blocked := [(queueKey 10 7, 0)]
             queues := [(queueKey 10 7, [{ frame := jobX.frame }])]
             waiting := [{ port := 10, queue := 7, copy := { frame := jobX.frame }, since := 0 }] } }

/-- `m` with this fabric and no low mark. -/
def fullM (fab : Fabric) (m : Module := runM) : Module := setPrm { m with fab := fab } P.fabric_bp_low_mark 0 0 0

/-- LIN channel `n` enabled. -/
def linOn (n : Nat) (l : LinCh) : Module := setPrm { runM with lin := upd runM.lin n fun _ => l } P.lin_enable n 0 1

def par (r : PRef) (i v : Nat) (m : Module := runM) : Module := setPrm m r i 0 v

/-- A template that is valid, cyclic (mode 1) with a period of 1 µs. -/
def tplW : Nat := 2 ^ 6 + 2 ^ 8 + 2 ^ 64

/-- A gPTP port: E9 follows its master over a known link delay. -/
def gptpS (m : Module := linked 9 1000) : Module :=
  par P.time_gptp_slave_port 0 9 (par P.time_gptp_enable 0 1 { m with tc := { m.tc with
    ports := [(9, { delay := some 100 })] } })

/-- E10 in service for DoIP. -/
def doipM (conns : List DoipConn := []) : Module :=
  par P.eth_doip_enable 10 1 { linked 10 100 with doip := { active := true, conns := conns } }

/-- E7 verifying frame preemption. -/
def verifyM : Module := linked 7 1000 { runM with tab := runM.tab.put 0x0F (gateIndex 7 516) 1 }

/-- A tester with a diagnostic channel, and channel 21 open for diagnostics. -/
def diagM : Module :=
  par P.eth_doip_channel_mask 10 (2 ^ 21) (onBus 21 {} (doipM [{ conn := 4, tester := 0x0EFF, last := 0 }]))

/-- A CTS follow-up of sequence 15 whose fraction is 3,999,999,999 ns. -/
def ctsFup : List Byte := [47] ++ beBytes 4 3999999999 ++ zeros 11

/-- A KEY_UPDATE message that erases slot 5 of unit 0, and the message with its CMAC. -/
def keyHead : List Byte := u64 0 ++ [5, 1] ++ u16 0xFFFF ++ u32 1 ++ zeros 76

def keyPayload : List Byte :=
  keyHead ++ cmacBytes (kdf (transportKey hostS.m) (ascii 11 "ZGM KEY MAC") (slice keyHead 0 16) 256) keyHead

theorem keyPayload_length : 108 ≤ (ask opKeyUpdate keyPayload).payload.length := by
  simp [ask, signedAs, bare, keyPayload, keyHead, cmacBytes, beBytes, leBytes_length, u64, u32, u16, zeros]

theorem key_checked : ∃ w p, checkKey hostS.base (asked (ask opKeyUpdate keyPayload) 0 hostS)
    (keyMsg (ask opKeyUpdate keyPayload).payload) (transportKey hostS.m)
    (useTwin hostS.base P.security_key_update_enable 0 0 (entered opKeyUpdate (ask opKeyUpdate keyPayload) 0 hostS))
      = (w, .ok p) := by
  have hk : cmacBytes (kdf (transportKey hostS.m) (ascii 11 "ZGM KEY MAC")
      (keyMsg (ask opKeyUpdate keyPayload).payload).context (8 * (transportKey hostS.m).length))
      ((keyMsg (ask opKeyUpdate keyPayload).payload).bytes.take 92)
      = slice (keyMsg (ask opKeyUpdate keyPayload).payload).bytes 92 16 := by rfl
  unfold checkKey
  simp only [hk, bne_self_eq_false]
  exact ⟨_, _, rfl⟩

/-- The PING of `sess` with every trailer byte changed. -/
def forged : Request := { ask opSessionPing [] with trailer := (ask opSessionPing []).trailer.map (· + 1) }

theorem byte_succ : ∀ x : Byte, x + 1 ≠ x := by decide +kernel

theorem forged_differs :
    forged.trailer ≠ trailerOf (some (slotAt hostS.m 0).key) (requestBytes opSessionPing.code forged) := by
  show (trailerOf (some []) (requestBytes opSessionPing.code (bare 7 []))).map (· + 1)
    ≠ trailerOf (some []) (requestBytes opSessionPing.code (bare 7 []))
  intro h
  have hl := signed_length [] (requestBytes opSessionPing.code (bare 7 []))
  cases e : trailerOf (some []) (requestBytes opSessionPing.code (bare 7 [])) with
  | nil => simp [e] at hl
  | cons x l =>
    rw [e] at h
    simp only [List.map_cons, List.cons.injEq] at h
    exact byte_succ x h.1

/-- The same outside any session. -/
def forgedOut : Request := { askOut opSessionPing [] with trailer := (askOut opSessionPing []).trailer.map (· + 1) }

theorem forgedOut_differs :
    forgedOut.trailer ≠ trailerOf none (requestBytes (named opSessionPing forgedOut).code forgedOut) := by
  show (trailerOf none (requestBytes opSessionPing.code (bare 0 []))).map (· + 1)
    ≠ trailerOf none (requestBytes opSessionPing.code (bare 0 []))
  decide +kernel

/-- A session over UDP, opened when Borul's port was 13401, and a packet that names it but comes to the present port. -/
def udpM : Module :=
  let x : Session := { sess with src := .udp 3 0 false 1 49152 5 13401, via := { portMask := 8, v4 := 5, udpPort := 13401 } }
  setPrm (setPrm (setPrm (linked 3 100 { runM with borul := { slots := [x, {}, {}, {}] } }) P.session_borul_port_mask 0 0 8)
    P.session_borul_ipv4_addr 0 0 5) P.session_borul_udp_port 0 0 13400

def fromUdp : Request := { ask opSessionPing [] with src := .udp 3 0 false 1 49152 5 13400 }

/-- The duplicate cache entry of the PING of `sess`, and the session that holds it. -/
def dupOf (rep : Option (Nat × Bool × List Byte)) : DupEntry :=
  { seq := 1, tag := 0, opcode := opSessionPing.code, cmac := (ask opSessionPing []).trailer, reply := rep }

def dupSess (rep : Option (Nat × Bool × List Byte)) : Session := { sess with rxHigh := 1, dup := [dupOf rep] }

theorem dup_found (rep : Option (Nat × Bool × List Byte)) :
    findDup opSessionPing (ask opSessionPing []) (dupSess rep) = some (dupOf rep) := by
  have e : (ask opSessionPing []).sequence = 1 := rfl
  have t : (ask opSessionPing []).tag = 0 := rfl
  simp [findDup, dupSess, dupOf, e, t]

theorem frozen_none {o : Option (Nat × Nat)} {n : Nat} (h : o = none) : ∀ f u, o = some (f, u) → n < u := by
  intro f u k; rw [h] at k; cases k

theorem frozen_some {o : Option (Nat × Nat)} {n a b : Nat} (h : o = some (a, b)) (l : n < b) :
    ∀ f u, o = some (f, u) → n < u := by
  intro f u k; rw [h] at k; cases k; exact l

/-! ### Well-formedness -/

def packet : Request := bare 0 []

def acceptedAll (l : List Instr) : Bool := l.all Instr.wf
def refusedAll (l : List Instr) : Bool := l.all fun c => !c.wf

def datagram (port vlan : Nat) (v6 : Bool) (src sport dst dport : Nat) : Instr :=
  .infoState { packet with src := .udp port vlan v6 src sport dst dport }

/-- Every field of a request at the greatest value its width admits. -/
theorem test_wf_requests_accepted :
    acceptedAll
     [.infoState packet, datagram 10 4095 true (2 ^ 128 - 1) 65535 (2 ^ 128 - 1) 65535,
      datagram 0 0 false (2 ^ 32 - 1) 0 (2 ^ 32 - 1) 0, .infoState { packet with other := some 0x01FF },
      .infoState { packet with
        src := .isotp 1, magic := 65535, major := 255, minor := 255, payloadLength := 65535, status := 65535
        sessionId := 2 ^ 32 - 1, sequence := 2 ^ 32 - 1 }] = true := by decide +kernel

/-- One beyond, field by field. -/
theorem test_wf_requests_refused :
    refusedAll
     [datagram 11 0 false 0 0 0 0, datagram 0 4096 false 0 0 0 0, datagram 0 0 false 0 0 0 65536,
      datagram 0 0 false 0 65536 0 0, datagram 0 0 false (2 ^ 32) 0 0 0, datagram 0 0 false 0 0 (2 ^ 32) 0,
      datagram 0 0 true (2 ^ 128) 0 0 0, datagram 0 0 true 0 0 (2 ^ 128) 0, .infoState { packet with src := .isotp 2 },
      .infoState { packet with other := some 0x0102 }, .infoState { packet with other := some 65536 },
      .infoState { packet with magic := 65536 }, .infoState { packet with major := 256 },
      .infoState { packet with minor := 256 }, .infoState { packet with payloadLength := 65536 },
      .infoState { packet with status := 65536 }, .infoState { packet with sessionId := 2 ^ 32 },
      .infoState { packet with sequence := 2 ^ 32 }] = true := by decide +kernel

/-- Units of the sessions, ports, parse contexts and tables that the module does not have. -/
theorem test_wf_pipeline_refused :
    refusedAll
     [.authLockoutEnd 3, .authWindowExpiry 4, .sessionIdleTimeout 4, .fragmentTimeout 4 0, .fragmentTimeout 0 32,
      .eventDelivery 4, .parseEntryDrainComplete 44, .ethFrameReceive 11 { data := [] },
      .canFrameReceive 22 { fmt := 0, id := 0, data := [] }, .canFrameReceive 0 { fmt := 8, id := 0, data := [] },
      .preclassify 36 { fmt := 0, id := 0, len := 0 }, .fastlaneCanSof 22, .fastlaneEthStart 11, .nop 64, .call 64,
      .ldm 64, .hash 64, .classify { entries := [2 ^ 40] }, .bpCeiling 44 0, .dropOldestRemove 0 8,
      .allotmentMilestone [{ index := 96, slots := 0 }], .closureWatchdog 0 16 []] = true := by decide +kernel

/-- Units of the egress, CAN, LIN and Ethernet side that the module does not have. -/
theorem test_wf_bus_refused :
    refusedAll
     [.ethTxStart 11 none, .gateEntryChange 11, .gateListActivated 11, .pauseQuantaExpiry 11, .pauseResend 11,
      .ethTxComplete 11 .good, .canObjectLoad 22 0 none, .canObjectLoad 0 5 none, .canTxAttemptStart 22,
      .canTxAttemptEnd 22 .sent, .collisionHoldExpiry 22 0, .collisionHoldExpiry 0 96, .busOffRecovered 22,
      .rateDetectTimeout 22, .trailerLine 19 0, .trailerLine 22 0, .trailerLine 20 8, .addressClaimConfirm 22,
      .cannotClaimSend 22, .linSlotStart 8, .linResponseReceive 8 [] .good, .linResponseTimeout 8, .pduTimeout 4096,
      .templateGridSend 8192, .templateDeferredSend 8192, .tunnelFlush 16, .postedWriteFail ⟨3, 0, 0⟩,
      .linkChange 11 false 0 false 0, .linkChange 0 false 0 false 8, .linkChange 0 true 7 false 0,
      .plcaBeaconLoss 7 false, .mkaLifeTimeout 8, .tc10SleepRequest 8, .tc10Wake 8 0,
      .routingActivationRequest 0 65536 0, .diagnosticMessage 0 65536 0 [], .diagnosticMessage 0 0 65536 [],
      .preemptionVerification 8 1, .preemptionVerification 0 0, .preemptionVerification 0 5,
      .mkaHello [{ port := 8, peers := 0 }]] = true := by decide +kernel

/-- Units of the time bases, sleep, switch, keys and supply that the module does not have. -/
theorem test_wf_system_refused :
    refusedAll
     [.milestoneWrap 4, .syncReceive { port := 10, domain := 0, gm := 0, master := 0 }, .gptpPdelayExchange 10 none,
      .syncReceiptTimeout 2, .holdoverLimit 2, .ctsSyncSend 22, .ctsFupSend 22, .ctsSyncCancel 22, .timeSlewEnd 2,
      .timeBaseParityError 4, .wakeSourceLatch [{ code := 10 }] 0, .nmTimeout 44 0, .minAwakeExpiry 8, .nmSend 8,
      .linWakeStart 8, .heartbeatFrame 5 (some []), .heartbeatFrame 0 (some [4]), .heartbeatAck 5, .heartbeatTimeout 5,
      .inrushWindowEnd 20, .fastTrip 20 ⟨0, 0⟩ 0, .overloadTrip 20 ⟨0, 0⟩ 0, .thermalShutdown 20 0 0, .sympatheticRetry 20,
      .channelRetry 20, .tripCountReset 20, .openLoad 20 ⟨0, 0⟩, .openLoadClear 20 0, .pwmPeriodStart 20,
      .supplyInhibitRelease 5, .zspCounterFrame 22 { fmt := 0, id := 0, data := [] },
      .zspCounterFrame 0 { fmt := 4, id := 0, data := [] }, .zspCounterFrame 0 { fmt := 1, id := 2 ^ 29, data := [] },
      .zspCounterSend 2048, .freqEdge { input := 2 }, .supplyRangeChange 4 ⟨0, 0, 0⟩, .bringUp { posA := [], posB := [], badKeys := [256] },
      .discreteInputChange 12 ⟨0, 0⟩, .sensorSupplyTrip false 65536, .sensorSupplyRetry false 65536,
      .analogueInputSample 4 0] = true := by decide +kernel

/-- The same commands on the last unit there is. -/
theorem test_wf_last_units_accepted :
    acceptedAll
     [.authLockoutEnd 2, .fragmentTimeout 3 31, .parseEntryDrainComplete 43, .ethFrameReceive 10 { data := [] },
      .canFrameReceive 21 { fmt := 0, id := 0, data := [] }, .nop 63, .dropOldestRemove 0 7,
      .allotmentMilestone [{ index := 95, slots := 0 }], .closureWatchdog 5 15 [], .canObjectLoad 21 4 none,
      .collisionHoldExpiry 21 95, .trailerLine 20 7, .linSlotStart 7, .pduTimeout 4095, .templateGridSend 8191,
      .tunnelFlush 15, .postedWriteFail ⟨2, 0, 0⟩, .linkChange 0 true 100 false 7, .plcaBeaconLoss 9 true,
      .milestoneWrap 3, .syncReceiptTimeout 1, .wakeSourceLatch [{ code := 9 }] 0, .heartbeatFrame 4 (some [16, 19]),
      .zspCounterFrame 21 { fmt := 3, id := 2 ^ 29 - 1, data := [] }, .zspCounterSend 2047,
      .bringUp { posA := [], posB := [], badKeys := [255] }, .discreteInputChange 11 ⟨0, 0⟩,
      .analogueInputSample 3 (-1)] = true := by decide +kernel

/-- A command that names no unit of the module faults by name. -/
theorem test_no_such_unit_faults : exec (.nop 64) (at_ runM) = .fault .noSuchUnit := by rfl

/-! ### Worked examples of spec/ -/

/-- The check value of CRC-32C that every description of it gives. -/
theorem test_crc32c : crc32c (ascii 9 "123456789") = 0xE3069283 := by decide +kernel

/-- spec/02, the header of SESSION_HELLO on the reference tractor. -/
theorem test_hello_header :
    (requestBytes 0x0101 { bare 0 (zeros 24) with sequence := 0 }).take 20
      = [0x42, 0x5A, 2, 2, 1, 1, 0, 0, 0x18, 0, 0, 0, 0, 0, 0, 0, 0, 0, 0, 0] := by decide +kernel

/-- spec/02: 17 families at 2.2, twelve at 1.1 with SESSION at revision 1. -/
theorem test_families :
    (familyList (2, 2)).length = 17 ∧ (familyList (1, 1)).length = 12 ∧ (1, 1) ∈ familyList (1, 1) := by decide +kernel

/-- spec/03: module.fault_out_min_severity 1 with its complement over 16 bits is OK; another complement is
TWIN_MISMATCH (0x0105). -/
def severityWrite (c : Nat) : List Byte := [1, 0, 0, 0] ++ u32 0 ++ u32 0x0100002F ++ u64 1 ++ u64 c

/-- A body run for the maintainer on `m`. -/
def bodyOn (b : Body) (p : List Byte) (m : Module) : W × Ans :=
  b { slot := some 0, sid := 7, role := 2, ver := (2, 2), seq := 1, tag := 0 } p (at_ m).base { m := m }

theorem test_severity_written :
    prm (bodyOn paramWriteBody (severityWrite 0xFFFE) runM).1.m P.module_fault_out_min_severity = 1 := by decide +kernel

theorem test_severity_twin_mismatch :
    (bodyOn paramWriteBody (severityWrite 0xFFFFFFFFFFFFFFFE) runM).2 = .fail 0x0105 (zeros 8) := by decide +kernel

/-- spec/04: the wheel-speed program's words as the decoder's fields read them. -/
theorem test_parse_word_fields :
    (opOf 0xB5000007, gdOf 0xB5000007, gsOf 0xB5000007, lenOf 0xB5000007) = (0x2D, 2, 0, 8) ∧
      targetOf 0x0C000140 = 0x140 ∧ immOf 0xBF00EE00 = 0xEE00 := by decide +kernel

/-- spec/04, Table 04-12, word 0x109: g6 takes EDP, DP, PF and PS of 0x18FF_3121. -/
def wheelSpeed (word : Nat) : State :=
  at_ { runM with
    tab := runM.tab.put 8 66 (word * 2 ^ 32)
    ing := { ctxs := { pc := 265, frame := some { port := 15, fmt := 1 }, g := [0x18FF3121, 0, 0, 0, 0, 0, 0, 0] }
      :: List.replicate 63 {} } }

theorem test_ext_pgn :
    (match exec (.ext 0) (wheelSpeed 0xB7000111) with | .next t => (ctxAt t.m 0).reg 6 | _ => 0) = 0x0FF31 := by
  decide +kernel

/-- Word 0x106: g2 takes the source address. -/
theorem test_ext_sa :
    (match exec (.ext 0) (wheelSpeed 0xB5000007) with | .next t => (ctxAt t.m 0).reg 2 | _ => 0) = 0x21 := by
  decide +kernel

/-- spec/05: the signpost of fast-lane route 3. -/
theorem test_signpost_fields :
    Sp.tc.get 0x8001C08100010000 = 7 ∧ Sp.waypoint.get 0x8001C08100010000 = 64 ∧
      Sp.action.get 0x8001C08100010000 = 0 ∧ Sp.waypoint.get 0x8027020580000000 = 258 ∧
      Sp.dest.get 0x8027020580000000 = 19 := by decide +kernel

/-- spec/05, Table 05-16, with byte 32 given. -/
def routeWrite (b : Byte) : List Byte :=
  [1, 0, 1, 0, 3, 0xB0, 0, 0, 0x0B, 0x2A, 0xFF, 0x2C, 0, 0, 0, 0x8F, 0, 0, 0, 0, 0, 0, 0, 0,
    0, 0, 1, 0, 0x81, 0xC0, 1, 0x80, b, 0xFF, 0xFE, 0xFF, 0x7E, 0x3F, 0xFE, 0x7F,
    0, 0x40, 0, 0, 4, 0, 0, 0, 0xFF, 0xBF, 0xFF, 0xFF, 0xFB, 0xFF, 0xFF, 0xFF]

theorem test_table_write :
    (bodyOn tableWriteBody (routeWrite 0xFF) runM).2 = .ok [1, 0, 0, 0] ∧
      fld ((bodyOn tableWriteBody (routeWrite 0xFF) runM).1.m.tab.get 1 45059) 128 64 = 0x8001C08100010000 := by
  decide +kernel

theorem test_table_write_mismatch :
    (bodyOn tableWriteBody (routeWrite 0xFE) runM).2 = .fail 0x0105 [] ∧
      (bodyOn tableWriteBody (routeWrite 0xFE) runM).1.m.tab.get 1 45059 = runM.tab.get 1 45059 := by decide +kernel

/-- spec/06: the record of the brake frame after its 64 gaps. -/
def brake : Nat :=
  endProfile runM (setAll 0 [(Wp.valid, 1), (Wp.learnGaps, 64), (Wp.period, 20131000), (Wp.minGap, 19872000),
    (Wp.gapSum, 1280012800)])

theorem test_learned_profile : Wp.period.get brake = 20000200 ∧ Wp.jitter.get brake = 130800 ∧ Wp.kind.get brake = 1 := by
  decide +kernel

/-- spec/06: the GAP threshold is 17,388,000 ns and the LATE threshold 25,131,050 ns. -/
theorem test_gap_thresholds :
    [17387999, 17388000, 25131050, 25131051].map (gapKinds runM brake) = [2, 0, 0, 4] := by decide +kernel

/-- spec/06: the first word of its configuration. -/
theorem test_waypoint_layout :
    setAll 0 [(Wp.valid, 1), (Wp.state, 2), (Wp.owner, 15), (Wp.ownerFixed, 1), (Wp.kind, 1), (Wp.gate, 64),
      (Wp.gateEn, 1), (Wp.act 0, 3), (Wp.act 1, 2), (Wp.act 2, 0), (Wp.act 3, 4), (Wp.act 4, 4)]
      = 0xC3E840B424000000 := by decide +kernel

/-- spec/07: raising the Ethernet reader to 3,100 starves ranks 8, 10 and 13 of tile-buffer read. -/
theorem test_starvation : starvationMask (setPrm runM P.fabric_allot 0 23 3100) 1 = 0x2500 := by decide +kernel

/-- spec/08: 1,000 bytes at 100 Mbit/s take 81.92 µs. -/
theorem test_transmission_time : txTime (linked 3 100) 3 1000 = 81920 := by decide +kernel

/-- spec/09: route 4,000 and its extension. -/
def route4000 : Nat := leVal [8, 0, 0xCF, 0x4D, 0xB5, 0xA0, 0xB0, 4, 0, 0, 0, 0, 0, 0, 6, 0]
def route4001 : Nat := leVal [0, 0, 0, 0, 0xFF, 0xFA, 0, 0, 0x19, 0, 0, 0, 0, 0, 0, 0]

theorem test_signal_transform :
    readField (leVal [0xC0, 0x85, 0x50, 0xFF, 0xFF, 0xFF, 0xFF, 0xFF]) 8 16 false = 20613 ∧
      transformed route4000 (some route4001) 20613 = 8052 ∧ rangeOk route4000 (some route4001) 64255 = true ∧
      rangeOk route4000 (some route4001) 64256 = false := by decide +kernel

/-- Table 09-9, and the not-available pattern of the same field. -/
theorem test_signal_packing :
    writeField 0 181 14 true 8052 = 0x1F * 2 ^ 176 + 0x74 * 2 ^ 184 ∧
      writeField 0 181 14 true (naPattern route4000) = 0x3F * 2 ^ 176 + 0xFF * 2 ^ 184 ∧
      Sr.destIndex.get route4000 = 1200 ∧ dstLength route4000 = 14 ∧ netStart 181 = 178 := by decide +kernel

/-- spec/09: the key of the wheel-speed frame. -/
theorem test_junction_key : junctionKey runM { port := 15, fmt := 1, id := 0x18FF3121 } = 0x3C71FE6242000000 := by
  decide +kernel

/-- Table 10-2. -/
theorem test_bit_timing :
    [deriveSegments 0 500000 800, deriveSegments 1 2000000 750, deriveSegments 0 1000000 800,
      deriveSegments 2 10000000 700, deriveSegments 0 125000 800]
      = [some (1, 127, 32), some (1, 29, 10), some (1, 63, 16), some (1, 5, 2), some (2, 255, 64)] := by decide +kernel

/-- spec/12: the SYNC of sequence 7 at 22 s, and the two extensions of the example. -/
theorem test_cts_sync : syncBytes (par P.time_tb1_mode 0 1 { runM with tc := { s0 := { st := 2 } } }) 7 22
      = [0x17, 0x10, 0, 0, 0, 0, 0, 0x16] := by decide +kernel

theorem test_extension :
    extend32 { n := 1600000000, m := 5 } 1524963520 = 5 * 2 ^ 32 + 1524963520 ∧
      extend32 { n := 10000000, m := 6 } 3000000000 = 5 * 2 ^ 32 + 3000000000 := by decide +kernel

/-- Table 15-6. -/
theorem test_freshness :
    [freshOf 0x127FE 1, freshOf 0x12801 1, freshOf 0x12801 0x20, freshOf 0x12820 0x26]
      = [0x12801, 0x12901, 0x12820, 0x12826] := by decide +kernel

/-- spec/18: the footpath entry of the brake frame. -/
theorem test_footpath_entry :
    footRouteOf [0x0B, 0x2A, 0xFF, 0x2C, 0x0F, 7, 0, 0, 0, 0x40, 0, 0, 4, 0, 0, 0]
      = { id := 0x0CFF2A0B, ide := true, port := 15, valid := true, queue := 3, xl := false
          portMask := 0x0000000400004000 } := by decide +kernel

/-- spec/21: ratios of 281 ‰ and 429 ‰ are position 19; samples in two bands are none. -/
theorem test_position_code :
    positionCode [281, 281, 281, 281] [429, 429, 429, 429] = 19 ∧
      positionCode [281, 281, 355, 281] [429, 429, 429, 429] = 255 := by decide +kernel

/-! ### Single commands -/

/-- Headlamp channels of power die 1: H05 on in steady state, H06 in its inrush window (Table 14-10). -/
def lamps : Module :=
  { runM with sw := { chans := List.replicate 5 {} ++ [{ word := 1, out := 1 },
      { word := 1, out := 1, inrushEnd := some (1001 * 2 ^ 32) }] ++ List.replicate 13 {} } }

/-- The fast trip of H05 is its first and is retried after 100 ms. -/
theorem test_fast_trip :
    (match exec (.fastTrip 5 ⟨1000000, 1000⟩ 250) (at_ lamps) with
      | .next t => let c := chanAt t.m 5; (c.on, c.trips, c.cause, c.retryAt, c.latched)
      | _ => (true, 0, 0, none, false)) = (false, 1, 1, some (1000 * 2 ^ 32 + 100000000), false) := by decide +kernel

/-- H06 beside a channel that tripped 1.1 ms before: cause 4, its count unchanged. -/
def afterShort : Module :=
  { runM with sw := { chans := List.replicate 5 {} ++ [{ word := 1, trips := 1, hardTrip := some (1000 * 2 ^ 32 - 1100000) },
      { word := 1, out := 1, inrushEnd := some (1001 * 2 ^ 32) }] ++ List.replicate 13 {} } }

theorem test_sympathetic_trip :
    (match exec (.thermalShutdown 6 20000 1760) (at_ afterShort) with
      | .next t => let c := chanAt t.m 6; (c.on, c.trips, c.cause, c.latched)
      | _ => (true, 0, 0, true)) = (false, 0, 4, false) := by decide +kernel

/-- A command leaves the commands that wait behind it. -/
theorem test_queue_kept :
    (match step { at_ runM with pending := [.milestoneWrap 2, .nop 0] } with | .next t => t.pending | _ => [])
      = [.nop 0] := by decide +kernel

/-- On an empty queue one 250 MHz clock edge passes: TB2 gains 4 ns. -/
theorem test_idle_edge :
    (match step (at_ runM) with | .next t => t.base.time.tb2.n.toNat | _ => 0) = 4 := by decide +kernel

/-- Reset: nothing waits, no counter and no event is held. -/
theorem test_reset : State.reset.pending = [] ∧ State.reset.base.cnt = [] ∧ State.reset.base.ev.entries = [] := by
  decide +kernel

/-! ### Witnesses: what every statement assumes can be met -/

theorem witness_SessionRequestsAnswer :
    (∃ (r : Request) (s : State) (k : Nat) (ver : Nat × Nat) (w : W) (key : List Byte), AcceptedBare opSessionHello r
      s ∧ (freeSlot s.m = some k) ∧ (24 ≤ r.payload.length) ∧ ((leAt r.payload 2 1, leAt r.payload 3 1) = (r.major,
      r.minor)) ∧ (leAt r.payload 4 1 ≤ 2) ∧ (chooseVersion (leAt r.payload 0 1, leAt r.payload 1 1) (r.major,
      r.minor) = some ver) ∧ (roleLocked s.m (leAt r.payload 4 1) s.base.now = false) ∧ (accessKey s.base (leAt
      r.payload 4 1) (enteredBare s) = (w, some key))) ∧
    (∃ (r : Request) (s : State) (i : Nat), Accepted opSessionAuth r s i ∧ (16 ≤ r.payload.length) ∧ (r.payload.take
      16 = (slotAt s.m i).nonce)) ∧
    (∃ (r : Request) (s : State) (i : Nat), Accepted opSessionPing r s i) ∧
    (∃ (r : Request) (s : State) (i : Nat), Accepted opSessionClose r s i) ∧
    (∃ (r : Request) (s : State) (i : Nat), Accepted opSessionList r s i) ∧
    (∃ (r : Request) (s : State) (i : Nat) (j : Nat), Accepted opSessionEvict r s i ∧ (4 ≤ r.payload.length) ∧
      (findSlot (entered opSessionEvict r i s).m (leAt r.payload 0 4) = some j) ∧ (j ≠ i)) ∧
    (∃ (r : Request) (s : State) (i : Nat), Accepted opSessionEvict r s i ∧ (4 ≤ r.payload.length) ∧ (findSlot
      (entered opSessionEvict r i s).m (leAt r.payload 0 4) = some i)) ∧
    (∃ (r : Request) (s : State) (i : Nat) (w : W) (key : List Byte), Accepted opSessionRekey r s i ∧ (16 ≤
      r.payload.length) ∧ (accessKey s.base (slotAt s.m i).role (entered opSessionRekey r i s) = (w, some key))) :=
  ⟨by refine ⟨askOut opSessionHello ([1, 0, 2, 2, 2] ++ zeros 19), hostS, 1, (2, 2), _, _,
      askOut_accepted (by decide +kernel), ?_, ?_, ?_, ?_, ?_, ?_, rfl⟩ <;> decide +kernel,
    ⟨ask opSessionAuth (zeros 16), at_ (hostedBy { sess with st := .pending, nonce := zeros 16 } runM), 0,
      ask_accepted (by decide +kernel), by decide +kernel⟩,
    ⟨ask opSessionPing [], hostS, 0, ask_accepted (by decide +kernel)⟩,
    ⟨ask opSessionClose [], hostS, 0, ask_accepted (by decide +kernel)⟩,
    ⟨ask opSessionList [], hostS, 0, ask_accepted (by decide +kernel)⟩,
    ⟨ask opSessionEvict (u32 9),
      at_ { hosted runM with borul := { slots := [sess, {}, {}, { sess with id := 9 }] } }, 0, 3,
      ask_accepted (by decide +kernel), by decide +kernel⟩,
    ⟨ask opSessionEvict (u32 7),
      at_ { hosted runM with borul := { slots := [sess, {}, {}, { sess with id := 9 }] } }, 0,
      ask_accepted (by decide +kernel), by decide +kernel⟩,
    ⟨ask opSessionRekey (zeros 16), hostS, 0, _, _, ask_accepted (by decide +kernel), by decide +kernel, rfl⟩⟩

theorem witness_SessionTimersEnd :
    (∃ (role : Nat) (s : State) (t : Nat), (role < 3) ∧ (atD s.m.borul.lockUntil role none = some t)) ∧
    (∃ (role : Nat) (s : State) (t : Nat), (role < 3) ∧ (atD s.m.borul.lockUntil role none = some t)) ∧
    (∃ (k : Nat) (s : State), (k < 4) ∧ ((slotAt s.m k).st = .pending)) ∧
    (∃ (k : Nat) (s : State), (k < 4) ∧ ((slotAt s.m k).st = .opened)) ∧
    (∃ (k : Nat) (s : State) (p : IpPartial), (s.m.borul.partials[k]? = some p)) ∧
    (∃ (k : Nat) (tag : Nat) (s : State) (t : Train), (k < 4) ∧ (tag < 32) ∧ (trainOf (slotAt s.m k) tag = some t)) :=
  ⟨⟨2, at_ { runM with borul := { lockUntil := [none, none, some (1000 * 2 ^ 32 - 1200)] } }, 1000 * 2 ^ 32 - 1200,
      by decide +kernel⟩,
    ⟨2, at_ { runM with borul := { lockUntil := [none, none, some (1000 * 2 ^ 32 - 1199)] } }, 1000 * 2 ^ 32 - 1199,
      by decide +kernel⟩,
    ⟨3, at_ { runM with borul := { slots := [{}, {}, {}, { sess with st := .pending }] } }, by decide +kernel⟩,
    ⟨3, at_ { runM with borul := { slots := [{}, {}, {}, sess] } }, by decide +kernel⟩,
    ⟨0,
      at_ { runM with borul := { partials := [{ port := 0, key := 0, first := 0, pieces := [], total := none }] } },
      { port := 0, key := 0, first := 0, pieces := [], total := none }, by decide +kernel⟩,
    ⟨3, 31,
      at_ { runM with borul := { slots := [{}, {}, {}, { sess with trains := [{ tag := 31, opcode := 0x0302, count := 1, data := [], deadline := 0 }] }] } },
      { tag := 31, opcode := 0x0302, count := 1, data := [], deadline := 0 }, by decide +kernel⟩⟩

theorem witness_EventFamilyAnswers :
    (∃ (r : Request) (s : State) (i : Nat), Accepted opEventSubscribe r s i ∧ (8 ≤ r.payload.length) ∧ (leAt
      r.payload 0 1 ≤ 3) ∧ (leAt r.payload 1 1 = 1)) ∧
    (∃ (r : Request) (s : State) (i : Nat), Accepted opEventSubscribe r s i ∧ (8 ≤ r.payload.length) ∧ (leAt
      r.payload 0 1 ≤ 3) ∧ (leAt r.payload 1 1 = 0)) ∧
    (∃ (r : Request) (s : State) (i : Nat), Accepted opEventAck r s i ∧ (4 ≤ r.payload.length)) ∧
    (∃ (r : Request) (s : State) (i : Nat), Accepted opEventStatus r s i) ∧
    (∃ (r : Request) (s : State) (i : Nat), Accepted opEventRead r s i ∧ (5 ≤ r.payload.length)) ∧
    (∃ (k : Nat) (s : State) (o : Subscription), (k < 4) ∧ ((slotAt s.m k).st = .opened) ∧ ((slotAt s.m k).sub = some
      o) ∧ (managed s.m = true)) ∧
    (∃ (s : State), (managed s.m = true) ∧ (s.m.borul.lastResend + prmNs s.m P.session_critical_resend_interval +
      1200 ≤ s.base.now)) :=
  ⟨⟨ask opEventSubscribe ([3, 1] ++ zeros 6), hostS, 0, ask_accepted (by decide +kernel), by decide +kernel⟩,
    ⟨ask opEventSubscribe ([3, 0] ++ zeros 6), hostS, 0, ask_accepted (by decide +kernel), by decide +kernel⟩,
    ⟨ask opEventAck (u32 5), hostS, 0, ask_accepted (by decide +kernel), by decide +kernel⟩,
    ⟨ask opEventStatus [], hostS, 0, ask_accepted (by decide +kernel)⟩,
    ⟨ask opEventRead (zeros 5), hostS, 0, ask_accepted (by decide +kernel), by decide +kernel⟩,
    ⟨3,
      at_ { runM with borul := { slots := [{}, {}, {}, { sess with sub := some { minSeverity := 0, chapterMask := 0, next := 1 } }] } },
      { minSeverity := 0, chapterMask := 0, next := 1 }, by decide +kernel⟩,
    ⟨hostS, by decide +kernel⟩⟩

theorem witness_InfoFamilyAnswers :
    (∃ (r : Request) (s : State) (i : Nat), Accepted opInfoIdentity r s i) ∧
    (∃ (r : Request) (s : State) (i : Nat), Accepted opInfoVersions r s i) ∧
    (∃ (r : Request) (s : State) (i : Nat), Accepted opInfoState r s i) ∧
    (∃ (r : Request) (s : State) (i : Nat), Accepted opInfoBlocks r s i) ∧
    (∃ (r : Request) (s : State), AcceptedBare opInfoIdentity r s) ∧
    (∃ (r : Request) (s : State), AcceptedBare opInfoVersions r s) ∧
    (∃ (r : Request) (s : State), AcceptedBare opInfoBlocks r s) ∧
    (∃ (r : Request) (s : State), AcceptedBare opInfoState r s) :=
  ⟨⟨ask opInfoIdentity [], hostS, 0, ask_accepted (by decide +kernel)⟩,
    ⟨ask opInfoVersions [], hostS, 0, ask_accepted (by decide +kernel)⟩,
    ⟨ask opInfoState [], hostS, 0, ask_accepted (by decide +kernel)⟩,
    ⟨ask opInfoBlocks [], hostS, 0, ask_accepted (by decide +kernel)⟩,
    ⟨askOut opInfoIdentity [], hostS, askOut_accepted (by decide +kernel)⟩,
    ⟨askOut opInfoVersions [], hostS, askOut_accepted (by decide +kernel)⟩,
    ⟨askOut opInfoBlocks [], hostS, askOut_accepted (by decide +kernel)⟩,
    ⟨askOut opInfoState [], hostS, askOut_accepted (by decide +kernel)⟩⟩

theorem witness_ParamFamilyAnswers :
    (∃ (r : Request) (s : State) (i : Nat), Accepted opParamRead r s i ∧ (4 ≤ r.payload.length) ∧ (1 ≤ leAt r.payload
      0 2) ∧ (leAt r.payload 0 2 ≤ 168) ∧ (r.payload.length = 4 + 4 * leAt r.payload 0 2)) ∧
    (∃ (r : Request) (s : State) (i : Nat), Accepted opParamRead r s i ∧ (4 ≤ r.payload.length) ∧ (1 ≤ leAt r.payload
      0 2) ∧ (leAt r.payload 0 2 ≤ 168) ∧ (r.payload.length = 4 + 4 * leAt r.payload 0 2)) ∧
    (∃ (r : Request) (s : State) (i : Nat), Accepted opParamWrite r s i ∧ (1 ≤ leAt r.payload 0 2) ∧ (leAt r.payload
      0 2 ≤ 202) ∧ (r.payload.length = 8 + 20 * leAt r.payload 0 2) ∧ ((bit (leAt r.payload 2 1) 0 = false ∨ leAt
      r.payload 4 4 = s.m.mod.generation)) ∧ ((let es := writeEntries r.payload (leAt r.payload 0 2); firstRefused
      (fun _ x => roleCheck (slotAt s.m i).role x) [] es = none ∧ firstRefused (fieldCheck (wantedValues es) (entered
      opParamWrite r i s).m (storeAll (wantedValues es) (entered opParamWrite r i s).m)) [] es = none ∧ firstRefused
      (fun _ x => stateCheck (entered opParamWrite r i s).m s.base.now x) [] es = none ∧ unplaced (wantedValues es)
      (entered opParamWrite r i s).m = 0)) ∧ (switching s.m = false)) ∧
    (∃ (r : Request) (s : State) (i : Nat) (row : PRef) (j : Nat) (e : Nat), Accepted opParamDescribe r s i ∧ (4 ≤
      r.payload.length) ∧ (findParam (leAt r.payload 0 4) = .found row j e)) ∧
    (∃ (r : Request) (s : State) (i : Nat), Accepted opParamChanged r s i ∧ (4 ≤ r.payload.length)) ∧
    (∃ (id : Nat) (s : State) (row : PRef) (j : Nat) (e : Nat), (s.m.mod.firmwareRunning = true) ∧ (id ∈
      s.m.mod.twinFailed) ∧ (findParam id = .found row j e)) :=
  ⟨⟨ask opParamRead (u16 1 ++ zeros 2 ++ u32 0x01000000), hostS, 0, ask_accepted (by decide +kernel),
      by decide +kernel⟩,
    ⟨ask opParamRead (u16 168 ++ zeros 2 ++ zeros 672), hostS, 0, ask_accepted (by decide +kernel),
      by decide +kernel⟩,
    ⟨ask opParamWrite (u16 1 ++ [1, 0] ++ u32 0 ++ u32 0x02000019 ++ u64 10000000 ++ u64 (2 ^ 64 - 1 - 10000000)),
      hostS, 0, ask_accepted (by decide +kernel), by decide +kernel⟩,
    ⟨ask opParamDescribe (u32 0x02000001), hostS, 0, P.session_borul_vlan, 0, 0, ask_accepted (by decide +kernel),
      by decide +kernel⟩,
    ⟨ask opParamChanged (u32 0), hostS, 0, ask_accepted (by decide +kernel), by decide +kernel⟩,
    ⟨0x02000001, at_ { runM with mod := { runM.mod with twinFailed := [0x02000001] } }, P.session_borul_vlan, 0, 0,
      by decide +kernel⟩⟩

theorem witness_HoldsOpenDrainAndEnd :
    (∃ (r : Request) (s : State) (i : Nat) (top : Nat), Accepted opParamHold r s i ∧ (r.posted = false) ∧ (8 ≤
      r.payload.length) ∧ (holdScope (leAt r.payload 0 1) = some top) ∧ (leAt r.payload 1 1 ≤ top) ∧ (leAt r.payload
      4 4 ≤ prm s.m P.module_hold_max_duration) ∧ ((∀ x, findHold s.m (leAt r.payload 0 1) (leAt r.payload 1 1) =
      some x → x.until_ ≤ s.base.now)) ∧ ((leAt r.payload 0 1 ≠ 0 ∨ speedAllows s.m = true))) ∧
    (∃ (r : Request) (s : State) (i : Nat) (top : Nat), Accepted opParamHold r s i ∧ (r.posted = false) ∧ (8 ≤
      r.payload.length) ∧ (holdScope (leAt r.payload 0 1) = some top) ∧ (leAt r.payload 1 1 ≤ top) ∧ (leAt r.payload
      4 4 ≤ prm s.m P.module_hold_max_duration) ∧ ((∀ x, findHold s.m (leAt r.payload 0 1) (leAt r.payload 1 1) =
      some x → x.until_ ≤ s.base.now)) ∧ ((leAt r.payload 0 1 ≠ 0 ∨ speedAllows s.m = true))) ∧
    (∃ (r : Request) (s : State) (i : Nat) (top : Nat) (h : Hold), Accepted opParamRelease r s i ∧ (4 ≤
      r.payload.length) ∧ (holdScope (leAt r.payload 0 1) = some top) ∧ (leAt r.payload 1 1 ≤ top) ∧ (findHold s.m
      (leAt r.payload 0 1) (leAt r.payload 1 1) = some h) ∧ (s.base.now < h.until_)) ∧
    (∃ (block : Nat) (inst : Nat) (s : State) (h : Hold), (findHold s.m block inst = some h) ∧ (h.drained = false) ∧
      (scopeBusy s.m s.base.now block inst = false)) ∧
    (∃ (block : Nat) (inst : Nat) (s : State) (h : Hold), (findHold s.m block inst = some h)) ∧
    (∃ (port : Nat) (s : State), (port < 44) ∧ ((∀ c ∈ s.m.ing.ctxs, c.draining = false))) ∧
    (∃ (sid : Nat) (tag : Nat) (s : State) (o : Op), (managed s.m = true) ∧ ((waitingOps s.m isPosted).find? (fun o
      => o.sid == sid && o.tag == tag) = some o)) :=
  ⟨⟨ask opParamHold ([0x0A, 21] ++ zeros 6), hostS, 0, 21, ask_accepted (by decide +kernel), by decide +kernel⟩,
    ⟨ask opParamHold ([0, 0] ++ zeros 2 ++ u32 60000), at_ { hosted runM with jr := { watchSpeed := some 0 } }, 0, 0,
      ask_accepted (by decide +kernel), by decide +kernel⟩,
    ⟨ask opParamRelease ([0x0A, 21] ++ zeros 2),
      at_ { hosted runM with mod := { (hosted runM).mod with holds := [{ block := 0x0A, inst := 21, since := 0, until_ := 2 ^ 60 }] } },
      0, 21, { block := 0x0A, inst := 21, since := 0, until_ := 2 ^ 60 }, ask_accepted (by decide +kernel),
      by decide +kernel⟩,
    ⟨0x0A, 21,
      at_ { hosted runM with mod := { (hosted runM).mod with holds := [{ block := 0x0A, inst := 21, since := 0, until_ := 0 }] } },
      { block := 0x0A, inst := 21, since := 0, until_ := 0 }, by decide +kernel⟩,
    ⟨0x0A, 21,
      at_ { hosted runM with mod := { (hosted runM).mod with holds := [{ block := 0x0A, inst := 21, since := 0, until_ := 0 }] } },
      { block := 0x0A, inst := 21, since := 0, until_ := 0 }, by decide +kernel⟩,
    ⟨43, hostS, by decide +kernel⟩,
    ⟨7, 0,
      at_ { runM with borul := { ops := [{ sid := 7, tag := 0, opcode := 0x0304, seq := 1, posted := true, payload := [], kind := .posted }] } },
      { sid := 7, tag := 0, opcode := 0x0304, seq := 1, posted := true, payload := [], kind := .posted },
      by decide +kernel⟩⟩

theorem witness_AluInstructionsWriteGdAndFlags :
    (∃ (i : Nat) (s : State), Issues 0x20 i s) ∧
    (∃ (i : Nat) (s : State), Issues 0x21 i s) ∧
    (∃ (i : Nat) (s : State), Issues 0x22 i s) ∧
    (∃ (i : Nat) (s : State), Issues 0x23 i s) ∧
    (∃ (i : Nat) (s : State), Issues 0x24 i s) ∧
    (∃ (i : Nat) (s : State), Issues 0x25 i s) ∧
    (∃ (i : Nat) (s : State), Issues 0x26 i s) ∧
    (∃ (i : Nat) (s : State), Issues 0x27 i s) ∧
    (∃ (i : Nat) (s : State), Issues 0x28 i s) ∧
    (∃ (i : Nat) (s : State), Issues 0x29 i s) ∧
    (∃ (i : Nat) (s : State), Issues 0x2A i s) ∧
    (∃ (i : Nat) (s : State), Issues 0x2B i s) ∧
    (∃ (i : Nat) (s : State), Issues 0x2C i s) ∧
    (∃ (i : Nat) (s : State), Issues 0x2D i s) ∧
    (∃ (i : Nat) (s : State), Issues 0x2E i s) ∧
    (∃ (i : Nat) (s : State), Issues 0x2F i s) :=
  ⟨⟨63, fetching 0x83ffffff {}, issues_of (by decide +kernel)⟩,
    ⟨63, fetching 0x87ffffff {}, issues_of (by decide +kernel)⟩,
    ⟨63, fetching 0x8bffffff {}, issues_of (by decide +kernel)⟩,
    ⟨63, fetching 0x8fffffff {}, issues_of (by decide +kernel)⟩,
    ⟨63, fetching 0x93ffffff {}, issues_of (by decide +kernel)⟩,
    ⟨63, fetching 0x97ffffff {}, issues_of (by decide +kernel)⟩,
    ⟨63, fetching 0x9bffffff {}, issues_of (by decide +kernel)⟩,
    ⟨63, fetching 0x9fffffff {}, issues_of (by decide +kernel)⟩,
    ⟨63, fetching 0xa3ffffff {}, issues_of (by decide +kernel)⟩,
    ⟨63, fetching 0xa7ffffff {}, issues_of (by decide +kernel)⟩,
    ⟨63, fetching 0xabffffff {}, issues_of (by decide +kernel)⟩,
    ⟨63, fetching 0xafffffff {}, issues_of (by decide +kernel)⟩,
    ⟨63, fetching 0xb3ffffff {}, issues_of (by decide +kernel)⟩,
    ⟨63, fetching 0xb7ffffff {}, issues_of (by decide +kernel)⟩,
    ⟨63, fetching 0xbbffffff {}, issues_of (by decide +kernel)⟩,
    ⟨63, fetching 0xbfffffff {}, issues_of (by decide +kernel)⟩⟩

theorem witness_LoadAndCursorInstructions :
    (∃ (i : Nat) (s : State), Issues 0x10 i s ∧ (notArrived (ctxAt s.m i) (fld (wordAt s i) 0 8) 1 = false)) ∧
    (∃ (i : Nat) (s : State), Issues 0x11 i s ∧ (notArrived (ctxAt s.m i) (fld (wordAt s i) 0 8) 2 = false)) ∧
    (∃ (i : Nat) (s : State), Issues 0x12 i s ∧ (notArrived (ctxAt s.m i) (fld (wordAt s i) 0 8) 4 = false)) ∧
    (∃ (i : Nat) (s : State), Issues 0x13 i s ∧ (notArrived (ctxAt s.m i) (fld (wordAt s i) 0 8) 2 = false)) ∧
    (∃ (i : Nat) (s : State), Issues 0x14 i s ∧ (notArrived (ctxAt s.m i) (fld (wordAt s i) 0 8) 4 = false)) ∧
    (∃ (i : Nat) (s : State), Issues 0x10 i s ∧ (notArrived (ctxAt s.m i) (fld (wordAt s i) 0 8) 1 = true)) ∧
    (∃ (i : Nat) (s : State), Issues 0x11 i s ∧ (notArrived (ctxAt s.m i) (fld (wordAt s i) 0 8) 2 = true)) ∧
    (∃ (i : Nat) (s : State), Issues 0x12 i s ∧ (notArrived (ctxAt s.m i) (fld (wordAt s i) 0 8) 4 = true)) ∧
    (∃ (i : Nat) (s : State), Issues 0x13 i s ∧ (notArrived (ctxAt s.m i) (fld (wordAt s i) 0 8) 2 = true)) ∧
    (∃ (i : Nat) (s : State), Issues 0x14 i s ∧ (notArrived (ctxAt s.m i) (fld (wordAt s i) 0 8) 4 = true)) ∧
    (∃ (i : Nat) (s : State) (f : Frame), Issues 0x15 i s ∧ ((ctxAt s.m i).frame = some f) ∧ (f.unfinished = true) ∧
      (f.fmt = 8) ∧ ((fld (wordAt s i) 0 8 = 0 ∨ fld (wordAt s i) 0 8 = 4))) ∧
    (∃ (i : Nat) (s : State) (f : Frame), Issues 0x15 i s ∧ ((ctxAt s.m i).frame = some f) ∧ (f.unfinished = true) ∧
      (f.fmt = 8) ∧ ((fld (wordAt s i) 0 8 = 0 ∨ fld (wordAt s i) 0 8 = 4))) ∧
    (∃ (i : Nat) (s : State) (f : Frame), Issues 0x15 i s ∧ ((ctxAt s.m i).frame = some f) ∧ ((f.unfinished = true →
      f.fmt = 8 → fld (wordAt s i) 0 8 ≠ 0 ∧ fld (wordAt s i) 0 8 ≠ 4))) ∧
    (∃ (i : Nat) (s : State) (f : Frame), Issues 0x15 i s ∧ ((ctxAt s.m i).frame = some f) ∧ ((f.unfinished = true →
      f.fmt = 8 → fld (wordAt s i) 0 8 ≠ 0 ∧ fld (wordAt s i) 0 8 ≠ 4))) ∧
    (∃ (i : Nat) (s : State) (f : Frame), Issues 0x15 i s ∧ ((ctxAt s.m i).frame = some f) ∧ ((f.unfinished = true →
      f.fmt = 8 → fld (wordAt s i) 0 8 ≠ 0 ∧ fld (wordAt s i) 0 8 ≠ 4))) ∧
    (∃ (i : Nat) (s : State), Issues 0x18 i s) ∧
    (∃ (i : Nat) (s : State), Issues 0x19 i s) ∧
    (∃ (i : Nat) (s : State), Issues 0x1A i s) ∧
    (∃ (i : Nat) (s : State), Issues 0x1B i s) :=
  ⟨⟨63, fetching 0x43ffffff {}, issues_of (by decide +kernel), by decide +kernel⟩,
    ⟨63, fetching 0x47ffffff {}, issues_of (by decide +kernel), by decide +kernel⟩,
    ⟨63, fetching 0x4bffffff {}, issues_of (by decide +kernel), by decide +kernel⟩,
    ⟨63, fetching 0x4fffffff {}, issues_of (by decide +kernel), by decide +kernel⟩,
    ⟨63, fetching 0x53ffffff {}, issues_of (by decide +kernel), by decide +kernel⟩,
    ⟨63, fetching 0x40000000 { frame := some { port := 43, fmt := 0, unfinished := true } },
      issues_of (by decide +kernel), by decide +kernel⟩,
    ⟨63, fetching 0x44000000 { frame := some { port := 43, fmt := 0, unfinished := true } },
      issues_of (by decide +kernel), by decide +kernel⟩,
    ⟨63, fetching 0x48000000 { frame := some { port := 43, fmt := 0, unfinished := true } },
      issues_of (by decide +kernel), by decide +kernel⟩,
    ⟨63, fetching 0x4c000000 { frame := some { port := 43, fmt := 0, unfinished := true } },
      issues_of (by decide +kernel), by decide +kernel⟩,
    ⟨63, fetching 0x50000000 { frame := some { port := 43, fmt := 0, unfinished := true } },
      issues_of (by decide +kernel), by decide +kernel⟩,
    ⟨63, fetching 0x54000000 { frame := some { port := 43, fmt := 8, unfinished := true } },
      { port := 43, fmt := 8, unfinished := true }, issues_of (by decide +kernel), by decide +kernel⟩,
    ⟨63, fetching 0x54000004 { frame := some { port := 43, fmt := 8, unfinished := true } },
      { port := 43, fmt := 8, unfinished := true }, issues_of (by decide +kernel), by decide +kernel⟩,
    ⟨63, fetching 0x54000000 {}, { port := 43, fmt := 0 }, issues_of (by decide +kernel), by decide +kernel,
      by intro h; cases h⟩,
    ⟨63, fetching 0x54000003 { frame := some { port := 43, fmt := 8, unfinished := true } },
      { port := 43, fmt := 8, unfinished := true }, issues_of (by decide +kernel), by decide +kernel,
      fun _ _ => by decide +kernel⟩,
    ⟨63, fetching 0x54000000 { frame := some { port := 43, fmt := 0, unfinished := true } },
      { port := 43, fmt := 0, unfinished := true }, issues_of (by decide +kernel), by decide +kernel,
      by intro _ h; cases h⟩,
    ⟨63, fetching 0x63ffffff {}, issues_of (by decide +kernel)⟩,
    ⟨63, fetching 0x67ffffff {}, issues_of (by decide +kernel)⟩,
    ⟨63, fetching 0x6bffffff {}, issues_of (by decide +kernel)⟩,
    ⟨63, fetching 0x6fffffff {}, issues_of (by decide +kernel)⟩⟩

theorem witness_ControlInstructions :
    (∃ (i : Nat) (s : State), Issues 0x00 i s) ∧
    (∃ (i : Nat) (s : State), Issues 0x01 i s) ∧
    (∃ (i : Nat) (s : State), Issues 0x02 i s) ∧
    (∃ (i : Nat) (s : State), Issues 0x03 i s) ∧
    (∃ (i : Nat) (s : State), Issues 0x04 i s) ∧
    (∃ (i : Nat) (s : State), Issues 0x05 i s) ∧
    (∃ (i : Nat) (s : State), Issues 0x06 i s) ∧
    (∃ (i : Nat) (s : State), Issues 0x07 i s) ∧
    (∃ (i : Nat) (s : State) (a : Nat), Issues 0x08 i s ∧ ((ctxAt s.m i).ret = some a)) ∧
    (∃ (i : Nat) (s : State), Issues 0x08 i s ∧ ((ctxAt s.m i).ret = none)) ∧
    (∃ (i : Nat) (s : State) (f : Frame), Issues 0x09 i s ∧ ((ctxAt s.m i).frame = some f)) ∧
    (∃ (i : Nat) (s : State) (f : Frame), Issues 0x0A i s ∧ ((ctxAt s.m i).frame = some f)) ∧
    (∃ (i : Nat) (s : State), Issues 0x0C i s) :=
  ⟨⟨63, fetching 0x3ffffff {}, issues_of (by decide +kernel)⟩,
    ⟨63, fetching 0x7ffffff {}, issues_of (by decide +kernel)⟩,
    ⟨63, fetching 0xbffffff {}, issues_of (by decide +kernel)⟩,
    ⟨63, fetching 0xfffffff {}, issues_of (by decide +kernel)⟩,
    ⟨63, fetching 0x13ffffff {}, issues_of (by decide +kernel)⟩,
    ⟨63, fetching 0x17ffffff {}, issues_of (by decide +kernel)⟩,
    ⟨63, fetching 0x1bffffff {}, issues_of (by decide +kernel)⟩,
    ⟨63, fetching 0x1fffffff {}, issues_of (by decide +kernel)⟩,
    ⟨63, fetching 0x20000000 { ret := some 8191 }, 8191, issues_of (by decide +kernel), by decide +kernel⟩,
    ⟨63, fetching 0x23ffffff {}, issues_of (by decide +kernel), by decide +kernel⟩,
    ⟨63, fetching 0x27ffffff {}, { port := 43, fmt := 0 }, issues_of (by decide +kernel), by decide +kernel⟩,
    ⟨63, fetching 0x2bffffff {}, { port := 43, fmt := 0 }, issues_of (by decide +kernel), by decide +kernel⟩,
    ⟨63, fetching 0x33ffffff {}, issues_of (by decide +kernel)⟩⟩

theorem witness_KeyNameAndSubmitInstructions :
    (∃ (i : Nat) (s : State), Issues 0x30 i s ∧ (fld (wordAt s i) 5 8 + (fld (wordAt s i) 0 5 + 1) - 1 < 154)) ∧
    (∃ (i : Nat) (s : State), Issues 0x30 i s ∧ (154 ≤ fld (wordAt s i) 5 8 + (fld (wordAt s i) 0 5 + 1) - 1)) ∧
    (∃ (i : Nat) (s : State), Issues 0x31 i s ∧ (fld (wordAt s i) 0 5 + 1 ≤ 12) ∧ (fld (wordAt s i) 5 8 + (fld
      (wordAt s i) 0 5 + 1) - 1 < 154)) ∧
    (∃ (i : Nat) (s : State), Issues 0x31 i s ∧ (12 < fld (wordAt s i) 0 5 + 1)) ∧
    (∃ (i : Nat) (s : State), Issues 0x31 i s ∧ (fld (wordAt s i) 0 5 + 1 ≤ 12) ∧ (154 ≤ fld (wordAt s i) 5 8 + (fld
      (wordAt s i) 0 5 + 1) - 1)) ∧
    (∃ (i : Nat) (s : State), Issues 0x38 i s) ∧
    (∃ (i : Nat) (s : State), Issues 0x3C i s) ∧
    (∃ (i : Nat) (s : State) (f : Frame), Issues 0x39 i s ∧ ((ctxAt s.m i).frame = some f) ∧ (claimAhead s.m f =
      false)) ∧
    (∃ (i : Nat) (s : State) (f : Frame), Issues 0x39 i s ∧ ((ctxAt s.m i).frame = some f) ∧ (claimAhead s.m f =
      true)) ∧
    (∃ (i : Nat) (s : State) (f : Frame) (gd : Nat) (sa : Nat), (i < 64) ∧ ((ctxAt s.m i).frame = some f) ∧ ((ctxAt
      s.m i).waiting = some (gd, sa)) ∧ (claimAhead s.m f = false)) ∧
    (∃ (i : Nat) (s : State) (f : Frame) (gd : Nat) (sa : Nat), (i < 64) ∧ ((ctxAt s.m i).frame = some f) ∧ ((ctxAt
      s.m i).waiting = some (gd, sa)) ∧ (claimAhead s.m f = true)) ∧
    (∃ (i : Nat) (s : State) (f : Frame), Issues 0x3A i s ∧ ((ctxAt s.m i).frame = some f) ∧ (f.unfinished = true)) ∧
    (∃ (i : Nat) (s : State) (f : Frame), Issues 0x3A i s ∧ ((ctxAt s.m i).frame = some f) ∧ (f.unfinished = false)) ∧
    (∃ (i : Nat) (s : State) (f : Frame), Issues 0x3B i s ∧ ((ctxAt s.m i).frame = some f) ∧ ((f.unfinished = true ∨
      f.marked = true ∧ claimAhead s.m f = true))) ∧
    (∃ (i : Nat) (s : State) (f : Frame), Issues 0x3B i s ∧ ((ctxAt s.m i).frame = some f) ∧ ((f.unfinished = true ∨
      f.marked = true ∧ claimAhead s.m f = true))) ∧
    (∃ (i : Nat) (s : State) (f : Frame), Issues 0x3B i s ∧ ((ctxAt s.m i).frame = some f) ∧ (f.unfinished = false) ∧
      ((f.marked = false ∨ claimAhead s.m f = false))) ∧
    (∃ (i : Nat) (s : State) (f : Frame), Issues 0x3B i s ∧ ((ctxAt s.m i).frame = some f) ∧ (f.unfinished = false) ∧
      ((f.marked = false ∨ claimAhead s.m f = false))) ∧
    (∃ (i : Nat) (s : State) (f : Frame), (i < 64) ∧ ((ctxAt s.m i).frame = some f) ∧ ((ctxAt s.m i).waiting = none)
      ∧ (powered s.m = true) ∧ (footService s.m = false) ∧ (prm s.m P.ingress_parse_budget ≤ (ctxAt s.m i).issued)) ∧
    (∃ (i : Nat) (s : State) (f : Frame), (i < 64) ∧ ((ctxAt s.m i).frame = some f) ∧ ((ctxAt s.m i).waiting = none)
      ∧ (powered s.m = true) ∧ (footService s.m = false) ∧ ((ctxAt s.m i).issued < prm s.m P.ingress_parse_budget) ∧
      ((ctxAt s.m i).pc ≤ 8191) ∧ (reservedOp (opOf (wordAt s i)) = true)) ∧
    (∃ (i : Nat) (s : State) (f : Frame), (i < 64) ∧ ((ctxAt s.m i).frame = some f) ∧ ((ctxAt s.m i).waiting = none)
      ∧ (powered s.m = true) ∧ (footService s.m = false) ∧ ((ctxAt s.m i).issued < prm s.m P.ingress_parse_budget) ∧
      (8191 < (ctxAt s.m i).pc)) ∧
    (∃ (i : Nat) (s : State) (f : Frame), (i < 64) ∧ ((ctxAt s.m i).frame = some f) ∧ ((ctxAt s.m i).waiting = none)
      ∧ (powered s.m = true) ∧ (footService s.m = true)) ∧
    (∃ (i : Nat) (s : State), (i < 64) ∧ (((ctxAt s.m i).frame = none ∨ (ctxAt s.m i).waiting.isSome = true ∨ powered
      s.m = false ∨ footService s.m = false ∧ (ctxAt s.m i).issued < prm s.m P.ingress_parse_budget ∧ (ctxAt s.m
      i).pc ≤ 8191 ∧ reservedOp (opOf (wordAt s i)) = false))) ∧
    (∃ (i : Nat) (s : State), (i < 64) ∧ (((ctxAt s.m i).frame = none ∨ (ctxAt s.m i).waiting.isSome = true ∨ powered
      s.m = false ∨ footService s.m = false ∧ (ctxAt s.m i).issued < prm s.m P.ingress_parse_budget ∧ (ctxAt s.m
      i).pc ≤ 8191 ∧ reservedOp (opOf (wordAt s i)) = false))) ∧
    (∃ (i : Nat) (s : State), (i < 64) ∧ (((ctxAt s.m i).frame = none ∨ (ctxAt s.m i).waiting.isSome = true ∨ powered
      s.m = false ∨ footService s.m = false ∧ (ctxAt s.m i).issued < prm s.m P.ingress_parse_budget ∧ (ctxAt s.m
      i).pc ≤ 8191 ∧ reservedOp (opOf (wordAt s i)) = false))) ∧
    (∃ (i : Nat) (s : State), (i < 64) ∧ (((ctxAt s.m i).frame = none ∨ (ctxAt s.m i).waiting.isSome = true ∨ powered
      s.m = false ∨ footService s.m = false ∧ (ctxAt s.m i).issued < prm s.m P.ingress_parse_budget ∧ (ctxAt s.m
      i).pc ≤ 8191 ∧ reservedOp (opOf (wordAt s i)) = false))) :=
  ⟨⟨63, fetching 0xc0001320 {}, issues_of (by decide +kernel), by decide +kernel⟩,
    ⟨63, fetching 0xc0001340 {}, issues_of (by decide +kernel), by decide +kernel⟩,
    ⟨63, fetching 0xc40011cb {}, issues_of (by decide +kernel), by decide +kernel⟩,
    ⟨63, fetching 0xc400000c {}, issues_of (by decide +kernel), by decide +kernel⟩,
    ⟨63, fetching 0xc40011eb {}, issues_of (by decide +kernel), by decide +kernel⟩,
    ⟨63, fetching 0xe3ffffff {}, issues_of (by decide +kernel)⟩,
    ⟨63, fetching 0xf3ffffff {}, issues_of (by decide +kernel)⟩,
    ⟨63, fetching 0xe4000000 {}, { port := 43, fmt := 0 }, issues_of (by decide +kernel), by decide +kernel⟩,
    ⟨63, at_ (claimM), { port := 43, fmt := 0, seq := 1 }, issues_of (by decide +kernel), by decide +kernel⟩,
    ⟨63, fetching 0xE4000000 { waiting := some (7, 255) }, { port := 43, fmt := 0 }, 7, 255, by decide +kernel⟩,
    ⟨63, at_ (claimM (some (7, 255))), { port := 43, fmt := 0, seq := 1 }, 7, 255, by decide +kernel⟩,
    ⟨63, fetching 0xe8000000 { frame := some { port := 43, fmt := 0, unfinished := true } },
      { port := 43, fmt := 0, unfinished := true }, issues_of (by decide +kernel), by decide +kernel⟩,
    ⟨63, fetching 0xebffffff {}, { port := 43, fmt := 0 }, issues_of (by decide +kernel), by decide +kernel⟩,
    ⟨63, at_ (claimM none 0xEC000000 true), { port := 43, fmt := 0, seq := 1, marked := true },
      issues_of (by decide +kernel), by decide +kernel⟩,
    ⟨63, fetching 0xec000000 { frame := some { port := 43, fmt := 0, unfinished := true } },
      { port := 43, fmt := 0, unfinished := true }, issues_of (by decide +kernel), by decide +kernel⟩,
    ⟨63, fetching 0xefffffff {}, { port := 43, fmt := 0 }, issues_of (by decide +kernel), by decide +kernel⟩,
    ⟨63, fetching 0xec000000 { frame := some { port := 43, fmt := 0, marked := true } },
      { port := 43, fmt := 0, marked := true }, issues_of (by decide +kernel), by decide +kernel⟩,
    ⟨63, fetching 0x0 { issued := 64 }, { port := 43, fmt := 0 }, by decide +kernel⟩,
    ⟨63, fetching 0xfc000000 {}, { port := 43, fmt := 0 }, by decide +kernel⟩,
    ⟨63, fetching 0 {} runM 8192, { port := 43, fmt := 0 }, by decide +kernel⟩,
    ⟨63, fetching 0 {} { mod := { state := .footpath } }, { port := 43, fmt := 0 }, by decide +kernel⟩,
    ⟨63, at_ runM, by decide +kernel⟩,
    ⟨63, fetching 0 { waiting := some (0, 0) }, by decide +kernel⟩,
    ⟨63, fetching 0 {} { mod := { state := .off } }, by decide +kernel⟩,
    ⟨63, fetching 0 {}, by decide +kernel⟩⟩

theorem witness_ParseStepFrame :
    (∃ (s : State) (i : Nat) (pc : Nat) (c : ParseCtx), (i < s.m.ing.ctxs.length) ∧ (s.m.tab.faulty.contains
      (entryKey 8 ((ctxAt s.m i).pc / 4)) = false) ∧ ((pc ≤ 8191 ∨ c.frame = none ∨ prm s.m P.ingress_parse_budget ≤
      (ctxAt s.m i).issued + 1))) ∧
    (∃ (s : State) (i : Nat) (pc : Nat) (c : ParseCtx), (i < s.m.ing.ctxs.length) ∧ (s.m.tab.faulty.contains
      (entryKey 8 ((ctxAt s.m i).pc / 4)) = false) ∧ ((pc ≤ 8191 ∨ c.frame = none ∨ prm s.m P.ingress_parse_budget ≤
      (ctxAt s.m i).issued + 1))) ∧
    (∃ (s : State) (i : Nat) (pc : Nat) (c : ParseCtx), (i < s.m.ing.ctxs.length) ∧ (8191 < pc) ∧
      (s.m.tab.faulty.contains (entryKey 8 ((ctxAt s.m i).pc / 4)) = false) ∧ (c.frame.isSome = true) ∧ ((ctxAt s.m
      i).issued + 1 < prm s.m P.ingress_parse_budget)) ∧
    (∃ (s : State) (i : Nat), (i < 64) ∧ (powered s.m = true) ∧ (footService s.m = true)) ∧
    (∃ (s : State) (i : Nat) (op : Nat), (i < 64) ∧ ((powered s.m = false ∨ footService s.m = false ∧ ((ctxAt s.m
      i).frame = none ∨ (ctxAt s.m i).waiting.isSome = true ∨ prm s.m P.ingress_parse_budget ≤ (ctxAt s.m i).issued ∨
      8191 < (ctxAt s.m i).pc ∨ opOf (wordAt s i) ≠ op)))) ∧
    (∃ (s : State) (i : Nat) (op : Nat), (i < 64) ∧ ((powered s.m = false ∨ footService s.m = false ∧ ((ctxAt s.m
      i).frame = none ∨ (ctxAt s.m i).waiting.isSome = true ∨ prm s.m P.ingress_parse_budget ≤ (ctxAt s.m i).issued ∨
      8191 < (ctxAt s.m i).pc ∨ opOf (wordAt s i) ≠ op)))) ∧
    (∃ (s : State) (i : Nat) (op : Nat), (i < 64) ∧ ((powered s.m = false ∨ footService s.m = false ∧ ((ctxAt s.m
      i).frame = none ∨ (ctxAt s.m i).waiting.isSome = true ∨ prm s.m P.ingress_parse_budget ≤ (ctxAt s.m i).issued ∨
      8191 < (ctxAt s.m i).pc ∨ opOf (wordAt s i) ≠ op)))) ∧
    (∃ (s : State) (i : Nat) (op : Nat), (i < 64) ∧ ((powered s.m = false ∨ footService s.m = false ∧ ((ctxAt s.m
      i).frame = none ∨ (ctxAt s.m i).waiting.isSome = true ∨ prm s.m P.ingress_parse_budget ≤ (ctxAt s.m i).issued ∨
      8191 < (ctxAt s.m i).pc ∨ opOf (wordAt s i) ≠ op)))) ∧
    (∃ (s : State) (i : Nat) (op : Nat), (i < 64) ∧ ((powered s.m = false ∨ footService s.m = false ∧ ((ctxAt s.m
      i).frame = none ∨ (ctxAt s.m i).waiting.isSome = true ∨ prm s.m P.ingress_parse_budget ≤ (ctxAt s.m i).issued ∨
      8191 < (ctxAt s.m i).pc ∨ opOf (wordAt s i) ≠ op)))) :=
  ⟨⟨fetching 0 {}, 63, 8191, {}, by decide +kernel⟩,
    ⟨fetching 0 { issued := 63 }, 63, 8192, { frame := some { port := 43, fmt := 0 } }, by decide +kernel⟩,
    ⟨fetching 0 {}, 63, 8192, { frame := some { port := 43, fmt := 0 } }, by decide +kernel⟩,
    ⟨fetching 0 {} { mod := { state := .footpath } }, 63, by decide +kernel⟩,
    ⟨fetching 0 {} { mod := { state := .off } }, 63, 0, by decide +kernel⟩,
    ⟨at_ runM, 63, 0, by decide +kernel⟩,
    ⟨fetching 0 { waiting := some (0, 0) }, 63, 0, by decide +kernel⟩,
    ⟨fetching 0 { issued := 64 }, 63, 0, by decide +kernel⟩,
    ⟨fetching 0 {}, 63, 1, by decide +kernel⟩⟩

theorem witness_KeyNameAndSubmitFormsComplete :
    (∃ (i : Nat) (s : State), Issues 0x30 i s ∧ (i < s.m.ing.ctxs.length) ∧ ((ctxAt s.m i).pc < 8191) ∧ (fld (wordAt
      s i) 5 8 + fld (wordAt s i) 0 5 < 154)) ∧
    (∃ (i : Nat) (s : State), Issues 0x31 i s ∧ (i < s.m.ing.ctxs.length) ∧ ((ctxAt s.m i).pc < 8191) ∧ (fld (wordAt
      s i) 0 5 < 12) ∧ (fld (wordAt s i) 5 8 + fld (wordAt s i) 0 5 < 154)) ∧
    (∃ (i : Nat) (s : State), Issues 0x38 i s ∧ (i < s.m.ing.ctxs.length) ∧ ((ctxAt s.m i).pc < 8191)) ∧
    (∃ (i : Nat) (s : State), Issues 0x3C i s ∧ (i < s.m.ing.ctxs.length) ∧ ((ctxAt s.m i).pc < 8191)) ∧
    (∃ (i : Nat) (s : State) (f : Frame), Issues 0x39 i s ∧ (i < s.m.ing.ctxs.length) ∧ ((ctxAt s.m i).pc < 8191) ∧
      ((ctxAt s.m i).frame = some f)) ∧
    (∃ (i : Nat) (s : State) (f : Frame), Issues 0x39 i s ∧ (i < s.m.ing.ctxs.length) ∧ ((ctxAt s.m i).pc < 8191) ∧
      ((ctxAt s.m i).frame = some f)) ∧
    (∃ (i : Nat) (s : State) (f : Frame) (gd : Nat) (sa : Nat), (i < 64) ∧ (i < s.m.ing.ctxs.length) ∧ ((ctxAt s.m
      i).pc < 8191) ∧ ((ctxAt s.m i).frame = some f) ∧ ((ctxAt s.m i).waiting = some (gd, sa)) ∧ (claimAhead s.m f =
      false)) ∧
    (∃ (i : Nat) (s : State) (f : Frame), Issues 0x3A i s ∧ (i < s.m.ing.ctxs.length) ∧ ((ctxAt s.m i).frame = some
      f) ∧ (f.unfinished = false)) ∧
    (∃ (i : Nat) (s : State) (f : Frame), Issues 0x3B i s ∧ (i < s.m.ing.ctxs.length) ∧ ((ctxAt s.m i).frame = some
      f) ∧ (f.unfinished = false) ∧ ((f.marked = false ∨ claimAhead s.m f = false))) ∧
    (∃ (i : Nat) (s : State) (f : Frame), Issues 0x3B i s ∧ (i < s.m.ing.ctxs.length) ∧ ((ctxAt s.m i).frame = some
      f) ∧ (f.unfinished = false) ∧ ((f.marked = false ∨ claimAhead s.m f = false))) ∧
    (∃ (i : Nat) (s : State) (f : Frame), (i < 64) ∧ ((ctxAt s.m i).frame = some f) ∧ ((ctxAt s.m i).waiting = none)
      ∧ (powered s.m = true) ∧ (footService s.m = false) ∧ (prm s.m P.ingress_parse_budget ≤ (ctxAt s.m i).issued)) :=
  ⟨⟨63, fetching 0xc0000f5f {} runM 8190, issues_of (by decide +kernel), by decide +kernel⟩,
    ⟨63, fetching 0xc40011cb {} runM 8190, issues_of (by decide +kernel), by decide +kernel⟩,
    ⟨63, fetching 0xe3ffffff {} runM 8190, issues_of (by decide +kernel), by decide +kernel⟩,
    ⟨63, fetching 0xf3ffffff {} runM 8190, issues_of (by decide +kernel), by decide +kernel⟩,
    ⟨63, fetching 0xe7ffffff {} runM 8190, { port := 43, fmt := 0 }, issues_of (by decide +kernel),
      by decide +kernel⟩,
    ⟨63, at_ (claimM none 0xe4000000 false 8190), { port := 43, fmt := 0, seq := 1 }, issues_of (by decide +kernel),
      by decide +kernel⟩,
    ⟨63, fetching 0xE4000000 { waiting := some (7, 255) } runM 8190, { port := 43, fmt := 0 }, 7, 255,
      by decide +kernel⟩,
    ⟨63, fetching 0xebffffff {} runM 8190, { port := 43, fmt := 0 }, issues_of (by decide +kernel),
      by decide +kernel⟩,
    ⟨63, fetching 0xefffffff {} runM 8190, { port := 43, fmt := 0 }, issues_of (by decide +kernel),
      by decide +kernel⟩,
    ⟨63, fetching 0xec000000 { frame := some { port := 43, fmt := 0, marked := true } } runM 8190,
      { port := 43, fmt := 0, marked := true }, issues_of (by decide +kernel), by decide +kernel⟩,
    ⟨63, fetching 0x0 { issued := 64 }, { port := 43, fmt := 0 }, by decide +kernel⟩⟩

theorem witness_FrameReceptionCompletes :
    (∃ (port : Nat) (f : EthRx) (s : State), (port < 11) ∧ (portReceives s.m s.base.now port = true) ∧ (60 ≤
      f.data.length) ∧ ((f.fcsOk = false ∨ f.stomped = true))) ∧
    (∃ (port : Nat) (f : EthRx) (s : State), (port < 11) ∧ (portReceives s.m s.base.now port = true) ∧ (60 ≤
      f.data.length) ∧ ((f.fcsOk = false ∨ f.stomped = true))) ∧
    (∃ (port : Nat) (f : EthRx) (s : State), (port < 11) ∧ (portReceives s.m s.base.now port = true) ∧ (f.data.length
      < 60)) ∧
    (∃ (port : Nat) (f : EthRx) (s : State), (port < 11) ∧ (portReceives s.m s.base.now port = true) ∧ (60 ≤
      f.data.length) ∧ (f.fcsOk = true) ∧ (f.stomped = false) ∧ (isPause s.m port f.data = true)) ∧
    (∃ (port : Nat) (f : EthRx) (s : State), (port < 11) ∧ (portReceives s.m s.base.now port = true) ∧ (60 ≤
      f.data.length) ∧ (f.fcsOk = true) ∧ (f.stomped = false) ∧ (isPause s.m port f.data = true)) ∧
    (∃ (port : Nat) (f : EthRx) (s : State), (port < 11) ∧ (portReceives s.m s.base.now port = true) ∧ (60 ≤
      f.data.length) ∧ (f.fcsOk = true) ∧ (f.stomped = false) ∧ (isPause s.m port f.data = false)) ∧
    (∃ (port : Nat) (f : EthRx) (s : State), (port < 11) ∧ (portReceives s.m s.base.now port = true) ∧ (60 ≤
      f.data.length) ∧ (f.fcsOk = true) ∧ (f.stomped = false) ∧ (isPause s.m port f.data = false)) ∧
    (∃ (port : Nat) (s : State), (port < 11) ∧ (portReceives s.m s.base.now port = false)) ∧
    (∃ (ch : Nat) (f : CanRx) (s : State), (ch < 22) ∧ (isCanFormat f.fmt = true) ∧ (canMode s.m ch ≠ 3) ∧
      (portReceives s.m s.base.now (canPort ch) = true) ∧ (formatSendable s.m ch f.fmt = true) ∧ (f.ending = .good)) ∧
    (∃ (ch : Nat) (f : CanRx) (s : State), (ch < 22) ∧ (isCanFormat f.fmt = true) ∧ (canMode s.m ch ≠ 3) ∧
      (portReceives s.m s.base.now (canPort ch) = true) ∧ (formatSendable s.m ch f.fmt = true) ∧ (f.ending = .good)) ∧
    (∃ (ch : Nat) (f : CanRx) (e : CanError) (early : Bool) (dominant : Bool) (bitPos : Nat) (s : State), (ch < 22) ∧
      (isCanFormat f.fmt = true) ∧ (canMode s.m ch ≠ 3) ∧ (portReceives s.m s.base.now (canPort ch) = true) ∧
      (formatSendable s.m ch f.fmt = true) ∧ (f.ending = .bad e early dominant bitPos)) ∧
    (∃ (ch : Nat) (f : CanRx) (s : State), (ch < 22) ∧ (isCanFormat f.fmt = true) ∧ (canMode s.m ch ≠ 3) ∧
      (portReceives s.m s.base.now (canPort ch) = true) ∧ (formatSendable s.m ch f.fmt = false)) ∧
    (∃ (ch : Nat) (f : CanRx) (s : State), (ch < 22) ∧ (isCanFormat f.fmt = true) ∧ (canMode s.m ch = 3) ∧
      (portHeldAt s.m s.base.now (canPort ch) = false)) ∧
    (∃ (ch : Nat) (f : CanRx) (s : State), (ch < 22) ∧ (isCanFormat f.fmt = true) ∧ (portReceives s.m s.base.now
      (canPort ch) = false) ∧ ((canMode s.m ch = 3 → portHeldAt s.m s.base.now (canPort ch) = true))) ∧
    (∃ (port : Nat) (s : State), ((isEthPort port || isCanPort port) = true) ∧ (portReceives s.m s.base.now port =
      true) ∧ (macsecHolds s.m port = true)) ∧
    (∃ (port : Nat) (s : State), ((isEthPort port || isCanPort port) = true) ∧ (portReceives s.m s.base.now port =
      true) ∧ (macsecHolds s.m port = false) ∧ (laneRuns s.m s.base.now = false)) ∧
    (∃ (port : Nat) (h : FrameHead) (s : State), ((isEthPort port || isCanPort port) = true) ∧ (portReceives s.m
      s.base.now port = true) ∧ (macsecHolds s.m port = false) ∧ (laneRuns s.m s.base.now = true) ∧ (isCandidate
      (touchLane s.base port ⟨s.m, []⟩).m s.base.now port h = false)) ∧
    (∃ (port : Nat) (h : FrameHead) (s : State), ((isEthPort port || isCanPort port) = true) ∧ (portReceives s.m
      s.base.now port = true) ∧ (macsecHolds s.m port = false) ∧ (laneRuns s.m s.base.now = true) ∧ (isCandidate
      (touchLane s.base port ⟨s.m, []⟩).m s.base.now port h = true)) ∧
    (∃ (port : Nat) (s : State), ((isEthPort port || isCanPort port) = true) ∧ (portReceives s.m s.base.now port =
      false)) ∧
    (∃ (port : Nat) (s : State), (port < 11) ∧ (powered s.m = true) ∧ (s.m.ing.xoff.contains port = true)) ∧
    (∃ (port : Nat), (port < 11)) :=
  ⟨⟨10, { data := zeros 60, fcsOk := false }, at_ (linked 10 100), by decide +kernel⟩,
    ⟨7, { data := zeros 60, stomped := true }, at_ (linked 7 100), by decide +kernel⟩,
    ⟨10, { data := zeros 59 }, at_ (linked 10 100), by decide +kernel⟩,
    ⟨10, { data := beBytes 6 0x0180C2000001 ++ zeros 6 ++ [0x88, 8, 0, 1] ++ zeros 44 }, at_ (linked 10 100),
      by decide +kernel⟩,
    ⟨10, { data := beBytes 6 0x0180C2000001 ++ zeros 6 ++ [0x88, 8, 1, 1] ++ zeros 44 }, at_ (linked 10 100),
      by decide +kernel⟩,
    ⟨10, { data := zeros 60 }, at_ (linked 10 100), by decide +kernel⟩,
    ⟨10, { data := beBytes 6 5 ++ zeros 6 ++ [0x88, 8, 1, 1] ++ zeros 44 }, at_ (linked 10 100), by decide +kernel⟩,
    ⟨10, at_ runM, by decide +kernel⟩,
    ⟨21, { fmt := 7, id := 0, data := [] }, at_ (onBus 21), by decide +kernel⟩,
    ⟨0, { fmt := 1, id := 0, data := [] }, at_ (onBus 0), by decide +kernel⟩,
    ⟨21, { fmt := 0, id := 0, data := [], ending := .bad .form true true 5 }, .form, true, true, 5, at_ (onBus 21),
      by decide +kernel⟩,
    ⟨21, { fmt := 4, id := 0, data := [] }, at_ (onBus 21), by decide +kernel⟩,
    ⟨21, { fmt := 0, id := 0, data := [] },
      at_ (par P.can_mode 21 3 { runM with can := upd runM.can 21 fun _ => { detect := some (0, 0, 2 ^ 60) } }),
      by decide +kernel⟩,
    ⟨21, { fmt := 0, id := 0, data := [] }, at_ runM, by decide +kernel, by decide +kernel, by decide +kernel,
      by intro h; revert h; decide +kernel⟩,
    ⟨7, at_ (par P.eth_macsec_enable 7 1 (linked 7 100)), by decide +kernel⟩,
    ⟨10, at_ { linked 10 100 with mod := { (linked 10 100).mod with state := .sleepPrep } }, by decide +kernel⟩,
    ⟨10, { fmt := 8, id := 0, len := 0 }, at_ (linked 10 100), by decide +kernel⟩,
    ⟨10, { fmt := 8, id := 0, len := 0, bytes := zeros 12 ++ [0x81, 0, 0xE0, 0, 0, 0] }, at_ (laneM 10),
      by decide +kernel⟩,
    ⟨10, at_ runM, by decide +kernel⟩,
    ⟨10, at_ { runM with ing := { xoff := [10] } }, by decide +kernel⟩,
    ⟨10, by decide +kernel⟩⟩

theorem witness_LaneAndPipelineCompletes :
    (∃ (ch : Nat) (seq : Nat) (x : FlFrame) (s : State), (ch < 22) ∧ (served s.m (canPort ch) = some (seq, x)) ∧
      (x.started.contains (canPort ch) = false) ∧ (mayCutThrough s.m ch x.frame = true) ∧ (laneMayStart s.m ch
      x.frame = true) ∧ (x.ended = false)) ∧
    (∃ (ch : Nat) (seq : Nat) (x : FlFrame) (s : State), (ch < 22) ∧ (served s.m (canPort ch) = some (seq, x)) ∧
      (x.started.contains (canPort ch) = false) ∧ (mayCutThrough s.m ch x.frame = false) ∧ (laneMayStart s.m ch
      x.frame = true) ∧ (x.ended = true)) ∧
    (∃ (port : Nat) (seq : Nat) (x : FlFrame) (s : State), (port < 11) ∧ (served s.m port = some (seq, x)) ∧
      (x.started.contains port = false) ∧ (x.ended = false) ∧ ((ethAt s.m port).rate ≤ (ethAt s.m x.frame.port).rate)
      ∧ (linkUsable s.m port = true) ∧ (portHeld s.m port = false) ∧ (wireFree s.m port s.base.now = true) ∧
      (classStopped s.m port 7 s.base.now = false) ∧ (macsecBlocks s.m port x.frame.data = false) ∧ (laneForwards s.m
      x.frame = true) ∧ (gateOpen s.m port 7 s.base.time.tb0.full (txTime s.m port (prm s.m P.eth_max_frame_size
      x.frame.port)) = true) ∧ (64 ≤ capturedBytes s.m s.base x.frame)) ∧
    (∃ (port : Nat) (seq : Nat) (x : FlFrame) (s : State), (port < 11) ∧ (served s.m port = some (seq, x)) ∧
      (x.started.contains port = false) ∧ (x.ended = true) ∧ ((ethAt s.m x.frame.port).rate < (ethAt s.m port).rate)
      ∧ (linkUsable s.m port = true) ∧ (portHeld s.m port = false) ∧ (wireFree s.m port s.base.now = true) ∧
      (classStopped s.m port 7 s.base.now = false) ∧ (macsecBlocks s.m port x.frame.data = false) ∧ (laneForwards s.m
      x.frame = true) ∧ (gateOpen s.m port 7 s.base.time.tb0.full (txTime s.m port x.frame.data.length) = true)) ∧
    (∃ (k : Nat) (f : Frame) (rest : List Frame) (s : State), (switching s.m = false) ∧ ((List.range 64).find? (fun i
      => (ctxAt s.m i).frame.isNone) = some k) ∧ (powered s.m = true) ∧ (s.m.ing.inject = f :: rest)) ∧
    (∃ (k : Nat) (s : State), (switching s.m = false) ∧ ((List.range 64).find? (fun i => (ctxAt s.m i).frame.isNone)
      = some k) ∧ (powered s.m = true) ∧ (s.m.ing.inject = [])) ∧
    (∃ (errors : ReadErrors) (r : Released) (rest : List Released) (s : State), (errors.entries.all entryAddrOk =
      true) ∧ (s.m.ing.released = r :: rest) ∧ (powered s.m = true) ∧ (footService s.m = false)) ∧
    (∃ (errors : ReadErrors) (r : Released) (rest : List Released) (s : State), (errors.entries.all entryAddrOk =
      true) ∧ (s.m.ing.released = r :: rest) ∧ (powered s.m = true) ∧ (footService s.m = true)) ∧
    (∃ (q : LearnReq) (rest : List LearnReq) (y : Tables) (n : Nat) (k : Nat) (s : State), (s.m.tab.learnQ = q ::
      rest) ∧ (fullService s.m = true) ∧ (s.m.tab.findSlot (seedOf s.m) q.key = none) ∧ (learnLimit s.m q.port =
      none) ∧ (({ s.m.tab with learnQ := rest } : Tables).insertHash (seedOf s.m) (kicksOf s.m) q.key (learnedSp
      q.port) = some (y, n, k))) ∧
    (∃ (q : LearnReq) (rest : List LearnReq) (n : Nat) (slot : Nat) (l : Learned) (s : State), (s.m.tab.learnQ = q ::
      rest) ∧ (fullService s.m = true) ∧ (s.m.tab.findSlot (seedOf s.m) q.key = some n) ∧ (s.m.tab.learnedAt n = some
      (slot, l))) ∧
    (∃ (s : State), (powered s.m = true)) ∧
    (∃ (s : State), (powered s.m = true)) ∧
    (∃ (k : Nat) (t : TpSession) (s : State), (s.m.ing.tp[k]? = some t) ∧ (t.timer ≠ 0) ∧ (t.deadline + 1200 ≤
      s.base.now) ∧ (awaitedInTime s.m s.base t = false)) ∧
    (∃ (k : Nat) (t : IsoTp) (s : State), (s.m.borul.isotp[k]? = some t) ∧ ((t.sending = false ∨ t.waitFc = true ∧
      t.inFlight = false)) ∧ (t.deadline + 1200 ≤ s.base.now) ∧ (peerInTime s.m t = false)) ∧
    (∃ (k : Nat) (t : IsoTp) (g : Nat) (s : State), (s.m.borul.isotp[k]? = some t) ∧ (t.gap = some g) ∧ (g ≤
      s.base.now)) :=
  ⟨⟨21, 5, { (laneFrame 35 35) with frame := { port := 35, fmt := 1, seq := 5 } },
      at_ (onBus 21 {} (withLane ({ (laneFrame 35 35) with frame := { port := 35, fmt := 1, seq := 5 } }))),
      by decide +kernel⟩,
    ⟨21, 5, { (laneFrame 34 35) with frame := { port := 34, fmt := 1, seq := 5 }, ended := true },
      at_ (par P.can_nominal_brp 21 1 (onBus 21 {} (withLane ({ (laneFrame 34 35) with frame := { port := 34, fmt := 1, seq := 5 }, ended := true })))),
      by decide +kernel⟩,
    ⟨9, 5,
      { (laneFrame 9 9) with frame := { (laneFrame 9 9).frame with port := 10, data := zeros 64, unfinished := true } },
      at_ (linked 9 100 (linked 10 100 (withLane ({ (laneFrame 9 9) with frame := { (laneFrame 9 9).frame with port := 10, data := zeros 64, unfinished := true } })))),
      by decide +kernel⟩,
    ⟨9, 5, { (laneFrame 10 9) with ended := true, frame := { (laneFrame 10 9).frame with data := zeros 64 } },
      at_ (linked 9 1000 (linked 10 100 (withLane ({ (laneFrame 10 9) with ended := true, frame := { (laneFrame 10 9).frame with data := zeros 64 } })))),
      by decide +kernel⟩,
    ⟨0, { port := 43, fmt := 0 }, [], at_ { runM with ing := { inject := [{ port := 43, fmt := 0 }] } },
      by decide +kernel⟩,
    ⟨63, at_ { runM with ing := { ctxs := List.replicate 63 { frame := some { port := 43, fmt := 0 } } ++ [{}] } },
      by decide +kernel⟩,
    ⟨{ entries := [0x02000000 + 131071] }, { frame := { port := 43, fmt := 0 }, key := 0, ending := .key }, [],
      at_ { runM with ing := { released := [{ frame := { port := 43, fmt := 0 }, key := 0, ending := .key }] } },
      by decide +kernel⟩,
    ⟨{}, { frame := { port := 43, fmt := 0 }, key := 0, ending := .key }, [],
      at_ { mod := { state := .footpath }, ing := { released := [{ frame := { port := 43, fmt := 0 }, key := 0, ending := .key }] } },
      by decide +kernel⟩,
    by refine ⟨{ port := 10, key := macKey 0 1 }, [], _, _, _,
      at_ { runM with tab := { learnQ := [{ port := 10, key := macKey 0 1 }] } }, ?_, ?_, ?_, ?_,
      rfl⟩ <;> decide +kernel,
    ⟨{ port := 10, key := macKey 4095 1 }, [], 58228, 0, { key := 5764326048057524225, port := 10, index := 58228 },
      at_ relearnM, by decide +kernel⟩,
    ⟨at_ runM, by decide +kernel⟩,
    ⟨at_ learnedM, by decide +kernel⟩,
    ⟨0, tpS, at_ { runM with ing := { tp := [tpS] } }, by decide +kernel⟩,
    ⟨0, isoS, at_ { runM with borul := { isotp := [isoS] } }, by decide +kernel⟩,
    ⟨0, { isoS with gap := some (1000 * 2 ^ 32) }, 1000 * 2 ^ 32,
      at_ { runM with borul := { isotp := [{ isoS with gap := some (1000 * 2 ^ 32) }] } }, by decide +kernel⟩⟩

theorem witness_TableReadsAnswer :
    (∃ (size : Nat) (n : Nat) (r : Request) (s : State) (i : Nat), Accepted opTableInfo r s i ∧ (tableOpsInUse s.m <
      16) ∧ (4 ≤ r.payload.length) ∧ (tableShape (leAt r.payload 0 1) = some (size, n))) ∧
    (∃ (size : Nat) (n : Nat) (r : Request) (s : State) (i : Nat), Accepted opTableRead r s i ∧ (tableOpsInUse s.m <
      16) ∧ (12 ≤ r.payload.length) ∧ (tableShape (leAt r.payload 0 1) = some (size, n)) ∧ (leAt r.payload 8 2 ≠ 0) ∧
      (rangeStatus (leAt r.payload 0 1) n (leAt r.payload 4 4) (leAt r.payload 8 2) = none) ∧ (8 + leAt r.payload 8 2
      * (4 + entrySize (leAt r.payload 0 1) (leAt r.payload 4 4)) ≤ 64896)) ∧
    (∃ (size : Nat) (n : Nat) (r : Request) (s : State) (i : Nat), Accepted opTableRead r s i ∧ (tableOpsInUse s.m <
      16) ∧ (12 ≤ r.payload.length) ∧ (tableShape (leAt r.payload 0 1) = some (size, n)) ∧ (leAt r.payload 8 2 ≠ 0) ∧
      (rangeStatus (leAt r.payload 0 1) n (leAt r.payload 4 4) (leAt r.payload 8 2) = none) ∧ (8 + leAt r.payload 8 2
      * (4 + entrySize (leAt r.payload 0 1) (leAt r.payload 4 4)) ≤ 64896)) ∧
    (∃ (r : Request) (s : State) (i : Nat), Accepted opTableSearch r s i ∧ (tableOpsInUse s.m < 16) ∧ (4 ≤
      r.payload.length) ∧ ([2, 3, 4, 5, 7].contains (leAt r.payload 0 1) = true) ∧ (24 ≤ r.payload.length)) ∧
    (∃ (r : Request) (s : State) (i : Nat), Accepted opTableDiscard r s i ∧ (tableOpsInUse s.m < 16) ∧ (ownSlot
      (entered opTableDiscard r i s).m (asked r i s) = some i)) :=
  ⟨⟨8, 45136, ask opTableInfo [1, 0, 0, 0], hostS, 0, ask_accepted (by decide +kernel), by decide +kernel⟩,
    ⟨8, 45136, ask opTableRead ([1, 0, 0, 0] ++ u32 45135 ++ u16 1 ++ zeros 2), hostS, 0,
      ask_accepted (by decide +kernel), by decide +kernel⟩,
    ⟨16, 5720, ask opTableRead ([15, 0, 0, 0] ++ u32 2476 ++ u16 3244 ++ zeros 2), hostS, 0,
      ask_accepted (by decide +kernel), by decide +kernel⟩,
    ⟨ask opTableSearch ([7, 0, 0, 0] ++ zeros 20), hostS, 0, ask_accepted (by decide +kernel), by decide +kernel⟩,
    ⟨ask opTableDiscard [], hostS, 0, ask_accepted (by decide +kernel), by decide +kernel⟩⟩

theorem witness_TableWritesComplete :
    (∃ (size : Nat) (n : Nat) (r : Request) (s : State) (i : Nat), Accepted opTableWrite r s i ∧ (r.posted = false) ∧
      (tableOpsInUse s.m < 16) ∧ (switching s.m = false) ∧ (8 ≤ r.payload.length) ∧ (tableShape (leAt r.payload 0 1)
      = some (size, n)) ∧ ([2, 3, 4, 5, 7].contains (leAt r.payload 0 1) = false) ∧ (leAt r.payload 2 2 ≠ 0) ∧
      (rangeStatus (leAt r.payload 0 1) n (leAt r.payload 4 4) (leAt r.payload 2 2) = none) ∧ (r.payload.length = 8 +
      leAt r.payload 2 2 * entrySize (leAt r.payload 0 1) (leAt r.payload 4 4)) ∧ (checkAll s.base (leAt r.payload 0
      1) (leAt r.payload 4 4) (payloadEntries (entrySize (leAt r.payload 0 1) (leAt r.payload 4 4)) (leAt r.payload 2
      2) r.payload) (entered opTableWrite r i s).m = none)) ∧
    (∃ (size : Nat) (n : Nat) (r : Request) (s : State) (i : Nat), Accepted opTableWrite r s i ∧ (r.posted = false) ∧
      (tableOpsInUse s.m < 16) ∧ (switching s.m = false) ∧ (8 ≤ r.payload.length) ∧ (tableShape (leAt r.payload 0 1)
      = some (size, n)) ∧ ([2, 3, 4, 5, 7].contains (leAt r.payload 0 1) = false) ∧ (leAt r.payload 2 2 ≠ 0) ∧
      (rangeStatus (leAt r.payload 0 1) n (leAt r.payload 4 4) (leAt r.payload 2 2) = none) ∧ (r.payload.length = 8 +
      leAt r.payload 2 2 * entrySize (leAt r.payload 0 1) (leAt r.payload 4 4)) ∧ (checkAll s.base (leAt r.payload 0
      1) (leAt r.payload 4 4) (payloadEntries (entrySize (leAt r.payload 0 1) (leAt r.payload 4 4)) (leAt r.payload 2
      2) r.payload) (entered opTableWrite r i s).m = none)) ∧
    (∃ (size : Nat) (n : Nat) (w : W) (k : Nat) (r : Request) (s : State) (i : Nat), Accepted opTableWrite r s i ∧
      (r.posted = false) ∧ (tableOpsInUse s.m < 16) ∧ (switching s.m = false) ∧ (8 ≤ r.payload.length) ∧ (tableShape
      (leAt r.payload 0 1) = some (size, n)) ∧ ((leAt r.payload 0 1 = 2 ∨ leAt r.payload 0 1 = 3)) ∧ (leAt r.payload
      2 2 ≠ 0) ∧ (rangeStatus (leAt r.payload 0 1) n (leAt r.payload 4 4) (leAt r.payload 2 2) = none) ∧
      (r.payload.length = 8 + leAt r.payload 2 2 * entrySize (leAt r.payload 0 1) (leAt r.payload 4 4)) ∧ (checkAll
      s.base (leAt r.payload 0 1) (leAt r.payload 4 4) (payloadEntries (entrySize (leAt r.payload 0 1) (leAt
      r.payload 4 4)) (leAt r.payload 2 2) r.payload) (entered opTableWrite r i s).m = none) ∧ (stage (asked r i s)
      ((payloadEntries (entrySize (leAt r.payload 0 1) (leAt r.payload 4 4)) (leAt r.payload 2 2)
      r.payload).zipIdx.map (fun q => .write (leAt r.payload 0 1) (leAt r.payload 4 4 + q.2) (clearBits (reservedOf
      s.m.tab (leAt r.payload 0 1) (leAt r.payload 4 4 + q.2) q.1) q.1))) (entered opTableWrite r i s) = (w, .ok k))) ∧
    (∃ (size : Nat) (n : Nat) (w : W) (k : Nat) (r : Request) (s : State) (i : Nat), Accepted opTableWrite r s i ∧
      (r.posted = false) ∧ (tableOpsInUse s.m < 16) ∧ (switching s.m = false) ∧ (8 ≤ r.payload.length) ∧ (tableShape
      (leAt r.payload 0 1) = some (size, n)) ∧ ((leAt r.payload 0 1 = 2 ∨ leAt r.payload 0 1 = 3)) ∧ (leAt r.payload
      2 2 ≠ 0) ∧ (rangeStatus (leAt r.payload 0 1) n (leAt r.payload 4 4) (leAt r.payload 2 2) = none) ∧
      (r.payload.length = 8 + leAt r.payload 2 2 * entrySize (leAt r.payload 0 1) (leAt r.payload 4 4)) ∧ (checkAll
      s.base (leAt r.payload 0 1) (leAt r.payload 4 4) (payloadEntries (entrySize (leAt r.payload 0 1) (leAt
      r.payload 4 4)) (leAt r.payload 2 2) r.payload) (entered opTableWrite r i s).m = none) ∧ (stage (asked r i s)
      ((payloadEntries (entrySize (leAt r.payload 0 1) (leAt r.payload 4 4)) (leAt r.payload 2 2)
      r.payload).zipIdx.map (fun q => .write (leAt r.payload 0 1) (leAt r.payload 4 4 + q.2) (clearBits (reservedOf
      s.m.tab (leAt r.payload 0 1) (leAt r.payload 4 4 + q.2) q.1) q.1))) (entered opTableWrite r i s) = (w, .ok k))) ∧
    (∃ (w : W) (k : Nat) (r : Request) (s : State) (i : Nat), Accepted opTableInsert r s i ∧ (r.posted = false) ∧
      (tableOpsInUse s.m < 16) ∧ (switching s.m = false) ∧ (4 + entrySize 2 0 ≤ r.payload.length) ∧ (leAt r.payload 0
      1 = 2) ∧ ((let e0 := leAt r.payload 4 (entrySize 2 0); let e := clearBits (reservedOf s.m.tab 2 0 e0) e0;
      Sp.valid.on (He.sp.get e) = true ∧ signpostOk (He.sp.get e) = true ∧ stage (asked r i s) [.insert 2 e] (entered
      opTableInsert r i s) = (w, .ok k)))) ∧
    (∃ (w : W) (k : Nat) (r : Request) (s : State) (i : Nat), Accepted opTableDelete r s i ∧ (r.posted = false) ∧
      (tableOpsInUse s.m < 16) ∧ (switching s.m = false) ∧ (12 ≤ r.payload.length) ∧ (leAt r.payload 0 1 = 2) ∧
      (stage (asked r i s) [.delete 2 (leAt r.payload 4 8)] (entered opTableDelete r i s) = (w, .ok k))) ∧
    (∃ (x : Tables) (k : Nat) (r : Request) (s : State) (i : Nat), Accepted opTableInsert r s i ∧ (r.posted = false)
      ∧ (tableOpsInUse s.m < 16) ∧ (switching s.m = false) ∧ (4 + entrySize (leAt r.payload 0 1) 0 ≤
      r.payload.length) ∧ ((leAt r.payload 0 1 = 4 ∨ leAt r.payload 0 1 = 5)) ∧
      ((let e0 := leAt r.payload 4 (entrySize (leAt r.payload 0 1) 0);
      let e := clearBits (reservedOf s.m.tab (leAt r.payload 0 1) 0 e0) e0;
      let sp := if leAt r.payload 0 1 = 4 then L4.sp.get e else L6.sp.get e; Sp.valid.on sp = true ∧ signpostOk sp =
      true ∧ lpmStatus (leAt r.payload 0 1) e = none ∧ s.m.tab.insertLpm (leAt r.payload 0 1) e = some (x, k)))) ∧
    (∃ (k : Nat) (l : Learned) (r : Request) (s : State) (i : Nat), Accepted opTableDelete r s i ∧ (r.posted = false)
      ∧ (tableOpsInUse s.m < 16) ∧ (switching s.m = false) ∧ (12 ≤ r.payload.length) ∧ (leAt r.payload 0 1 = 7) ∧
      (learnedByKey s.m.tab (macKey (leAt r.payload 10 2 % 4096) (beAt r.payload 4 6)) = some (k, l))) ∧
    (∃ (r : Request) (s : State) (i : Nat), Accepted opTableDelete r s i ∧ (r.posted = false) ∧ (tableOpsInUse s.m <
      16) ∧ (switching s.m = false) ∧ (12 ≤ r.payload.length) ∧ (leAt r.payload 0 1 = 7) ∧ (learnedByKey s.m.tab
      (macKey (leAt r.payload 10 2 % 4096) (beAt r.payload 4 6)) = none)) ∧
    (∃ (r : Request) (s : State) (i : Nat), Accepted opTableDelete r s i ∧ (r.posted = false) ∧ (tableOpsInUse s.m <
      16) ∧ (switching s.m = false) ∧ ((leAt r.payload 0 1 = 4 ∨ leAt r.payload 0 1 = 5)) ∧ (4 + (if leAt r.payload 0
      1 = 4 then 8 else 24) ≤ r.payload.length) ∧ (lpmStatus (leAt r.payload 0 1) (leAt r.payload 4 (if leAt
      r.payload 0 1 = 4 then 8 else 24)) = none)) ∧
    (∃ (r : Request) (s : State) (i : Nat), Accepted opTableDelete r s i ∧ (r.posted = false) ∧ (tableOpsInUse s.m <
      16) ∧ (switching s.m = false) ∧ ((leAt r.payload 0 1 = 4 ∨ leAt r.payload 0 1 = 5)) ∧ (4 + (if leAt r.payload 0
      1 = 4 then 8 else 24) ≤ r.payload.length) ∧ (lpmStatus (leAt r.payload 0 1) (leAt r.payload 4 (if leAt
      r.payload 0 1 = 4 then 8 else 24)) = none)) ∧
    (∃ (r : Request) (s : State) (i : Nat), Accepted opTableCommit r s i ∧ (r.posted = false) ∧ (tableOpsInUse s.m <
      16) ∧ (switching s.m = false) ∧ (8 ≤ r.payload.length) ∧ (leAt r.payload 0 1 ≤ 1) ∧ ((leAt r.payload 0 1 = 1 →
      leAt r.payload 4 4 = s.m.tab.generation)) ∧ (ownStaged (entered opTableCommit r i s).m (asked r i s) = [])) ∧
    (∃ (r : Request) (s : State) (i : Nat), Accepted opTableCommit r s i ∧ (r.posted = false) ∧ (tableOpsInUse s.m <
      16) ∧ (switching s.m = false) ∧ (8 ≤ r.payload.length) ∧ (leAt r.payload 0 1 ≤ 1) ∧ ((leAt r.payload 0 1 = 1 →
      leAt r.payload 4 4 = s.m.tab.generation)) ∧ (ownStaged (entered opTableCommit r i s).m (asked r i s) = [])) ∧
    (∃ (x : Staged) (l : List Staged) (r : Request) (s : State) (i : Nat), Accepted opTableCommit r s i ∧ (r.posted =
      false) ∧ (tableOpsInUse s.m < 16) ∧ (switching s.m = false) ∧ (8 ≤ r.payload.length) ∧ (leAt r.payload 0 1 ≤ 1)
      ∧ ((leAt r.payload 0 1 = 1 → leAt r.payload 4 4 = s.m.tab.generation)) ∧ (ownStaged (entered opTableCommit r i
      s).m (asked r i s) = x :: l)) ∧
    (∃ (r : Request) (s : State) (i : Nat), Accepted opTableFlush r s i ∧ (r.posted = false) ∧ (tableOpsInUse s.m <
      16) ∧ (switching s.m = false) ∧ (16 ≤ r.payload.length)) ∧
    (∃ (o : Op) (gen : Option Nat) (s : State), (s.m.borul.ops.find? (fun o => isCommit o.kind) = some o) ∧ (o.kind =
      .commit gen) ∧ (gen.any (· != s.m.tab.generation) = false)) :=
  ⟨⟨16, 65536, ask opTableWrite ([9, 0] ++ u16 1 ++ u32 65535 ++ zeros 16), hostS, 0,
      ask_accepted (by decide +kernel), by decide +kernel⟩,
    ⟨32, 2048, ask opTableWrite ([13, 0] ++ u16 1 ++ u32 2047 ++ zeros 32), hostS, 0,
      ask_accepted (by decide +kernel), by decide +kernel⟩,
    by refine ⟨16, 131072, _, _, ask opTableWrite ([2, 0] ++ u16 1 ++ u32 131071 ++ zeros 16), hostS, 0,
      ask_accepted (by decide +kernel), ?_, ?_, ?_, ?_, ?_, ?_, ?_, ?_, ?_, ?_, rfl⟩ <;> decide +kernel,
    by refine ⟨48, 4096, _, _, ask opTableWrite ([3, 0] ++ u16 1 ++ u32 4095 ++ zeros 48), hostS, 0,
      ask_accepted (by decide +kernel), ?_, ?_, ?_, ?_, ?_, ?_, ?_, ?_, ?_, ?_, rfl⟩ <;> decide +kernel,
    by refine ⟨_, _, ask opTableInsert ([2, 0, 0, 0] ++ u64 0 ++ u64 (2 ^ 63 + 10 * 2 ^ 49)), hostS, 0,
      ask_accepted (by decide +kernel), ?_, ?_, ?_, ?_, ?_, ⟨by decide +kernel, by decide +kernel,
      rfl⟩⟩ <;> decide +kernel,
    by refine ⟨_, _, ask opTableDelete ([2, 0, 0, 0] ++ u64 0), hostS, 0, ask_accepted (by decide +kernel), ?_, ?_,
      ?_, ?_, ?_, rfl⟩ <;> decide +kernel,
    by refine ⟨_, _, ask opTableInsert ([4, 0, 0, 0] ++ u64 0 ++ u64 (2 ^ 63 + 10 * 2 ^ 49)), hostS, 0,
      ask_accepted (by decide +kernel), ?_, ?_, ?_, ?_, ?_, ⟨by decide +kernel, by decide +kernel, by decide +kernel,
      rfl⟩⟩ <;> decide +kernel,
    ⟨0, { key := macKey 4095 1, port := 10, index := 0 }, ask opTableDelete ([7, 0, 0, 0, 0, 0, 0, 0, 0,
      1] ++ u16 4095), at_ (learnedM), 0, ask_accepted (by decide +kernel), by decide +kernel⟩,
    ⟨ask opTableDelete ([7, 0, 0, 0] ++ zeros 8), hostS, 0, ask_accepted (by decide +kernel), by decide +kernel⟩,
    ⟨ask opTableDelete ([4, 0, 0, 0] ++ u64 0), hostS, 0, ask_accepted (by decide +kernel), by decide +kernel⟩,
    ⟨ask opTableDelete ([5, 0, 0, 0] ++ zeros 24), hostS, 0, ask_accepted (by decide +kernel), by decide +kernel⟩,
    ⟨ask opTableCommit ([0, 0, 0, 0] ++ u32 5), hostS, 0, ask_accepted (by decide +kernel), by decide +kernel⟩,
    ⟨ask opTableCommit ([1, 0, 0, 0] ++ u32 0), hostS, 0, ask_accepted (by decide +kernel), by decide +kernel⟩,
    ⟨{ op := .delete 2 0, closures := 0 }, [], ask opTableCommit ([1, 0, 0, 0] ++ u32 0),
      at_ (hostedBy { sess with staged := [{ op := .delete 2 0, closures := 0 }] } runM), 0,
      ask_accepted (by decide +kernel), by decide +kernel⟩,
    ⟨ask opTableFlush (zeros 16), hostS, 0, ask_accepted (by decide +kernel), by decide +kernel⟩,
    ⟨commitO, some 0, at_ { runM with borul := { ops := [commitO] } }, by decide +kernel⟩⟩

theorem witness_FlowFamilyAnswers :
    (∃ (r : Request) (s : State) (i : Nat), Accepted opFlowRead r s i ∧ (6 ≤ r.payload.length) ∧ (1 ≤ leAt r.payload
      2 2) ∧ (leAt r.payload 2 2 ≤ 63) ∧ (leAt r.payload 0 2 + leAt r.payload 2 2 ≤ 8192)) ∧
    (∃ (r : Request) (s : State) (i : Nat), Accepted opFlowRead r s i ∧ (6 ≤ r.payload.length) ∧ (1 ≤ leAt r.payload
      2 2) ∧ (leAt r.payload 2 2 ≤ 63) ∧ (leAt r.payload 0 2 + leAt r.payload 2 2 ≤ 8192)) ∧
    (∃ (r : Request) (s : State) (i : Nat), Accepted opFlowLearn r s i ∧ (10 ≤ r.payload.length) ∧ (1 ≤ leAt
      r.payload 2 2) ∧ (leAt r.payload 2 2 ≤ 1024) ∧ (leAt r.payload 0 2 + leAt r.payload 2 2 ≤ 8192) ∧ (leAt
      r.payload 6 1 ≤ 1)) ∧
    (∃ (r : Request) (s : State) (i : Nat), Accepted opFlowWatch r s i ∧ (6 ≤ r.payload.length) ∧ (1 ≤ leAt r.payload
      2 2) ∧ (leAt r.payload 2 2 ≤ 1024) ∧ (leAt r.payload 0 2 + leAt r.payload 2 2 ≤ 8192)) ∧
    (∃ (r : Request) (s : State) (i : Nat), Accepted opFlowFreeze r s i ∧ (26 ≤ r.payload.length) ∧ (1 ≤ leAt
      r.payload 2 2) ∧ (leAt r.payload 2 2 ≤ 1024) ∧ (leAt r.payload 0 2 + leAt r.payload 2 2 ≤ 8192) ∧ (leAt
      r.payload 6 1 ≤ 1) ∧ ((leAt r.payload 6 1 = 1 → leAt r.payload 7 1 ≤ 3))) ∧
    (∃ (r : Request) (s : State) (i : Nat), Accepted opFlowFreeze r s i ∧ (26 ≤ r.payload.length) ∧ (1 ≤ leAt
      r.payload 2 2) ∧ (leAt r.payload 2 2 ≤ 1024) ∧ (leAt r.payload 0 2 + leAt r.payload 2 2 ≤ 8192) ∧ (leAt
      r.payload 6 1 ≤ 1) ∧ ((leAt r.payload 6 1 = 1 → leAt r.payload 7 1 ≤ 3))) ∧
    (∃ (r : Request) (s : State) (i : Nat), Accepted opFlowQuarantineClear r s i ∧ (6 ≤ r.payload.length) ∧ (1 ≤ leAt
      r.payload 2 2) ∧ (leAt r.payload 2 2 ≤ 1024) ∧ (leAt r.payload 0 2 + leAt r.payload 2 2 ≤ 8192)) ∧
    (∃ (r : Request) (s : State) (i : Nat), Accepted opFlowKindsAck r s i ∧ (10 ≤ r.payload.length) ∧ (1 ≤ leAt
      r.payload 2 2) ∧ (leAt r.payload 2 2 ≤ 1024) ∧ (leAt r.payload 0 2 + leAt r.payload 2 2 ≤ 8192)) ∧
    (∃ (r : Request) (s : State) (i : Nat), Accepted opFlowLaybyList r s i ∧ (8 ≤ r.payload.length) ∧ (1 ≤ leAt
      r.payload 4 2) ∧ (leAt r.payload 4 2 ≤ 126)) ∧
    (∃ (x : Held) (r : Request) (s : State) (i : Nat), Accepted opFlowLaybyRead r s i ∧ (8 ≤ r.payload.length) ∧
      (findHeld s.m (leAt r.payload 0 4) = some x) ∧ (readFault s.m x.frame none = none)) ∧
    (∃ (r : Request) (s : State) (i : Nat), Accepted opFlowLaybyDispose r s i ∧ (1 ≤ leAt r.payload 0 2) ∧ (leAt
      r.payload 0 2 ≤ 64) ∧ (r.payload.length = 4 + 16 * leAt r.payload 0 2) ∧ (((List.range (leAt r.payload 0
      2)).map (fun k => slice r.payload (4 + 16 * k) 16)).any (fun e => decide (3 < leAt e 4 1)) = false)) ∧
    (∃ (r : Request) (s : State) (i : Nat), Accepted opFlowLaybyDispose r s i ∧ (1 ≤ leAt r.payload 0 2) ∧ (leAt
      r.payload 0 2 ≤ 64) ∧ (r.payload.length = 4 + 16 * leAt r.payload 0 2) ∧ (((List.range (leAt r.payload 0
      2)).map (fun k => slice r.payload (4 + 16 * k) 16)).any (fun e => decide (3 < leAt e 4 1)) = false)) :=
  ⟨⟨ask opFlowRead (u16 8129 ++ u16 63 ++ zeros 2), hostS, 0, ask_accepted (by decide +kernel), by decide +kernel⟩,
    ⟨ask opFlowRead (u16 8191 ++ u16 1 ++ zeros 2), hostS, 0, ask_accepted (by decide +kernel), by decide +kernel⟩,
    ⟨ask opFlowLearn (u16 7168 ++ u16 1024 ++ zeros 2 ++ [1] ++ zeros 3), hostS, 0, ask_accepted (by decide +kernel),
      by decide +kernel⟩,
    ⟨ask opFlowWatch (u16 7168 ++ u16 1024 ++ zeros 2), hostS, 0, ask_accepted (by decide +kernel),
      by decide +kernel⟩,
    ⟨ask opFlowFreeze (u16 7168 ++ u16 1024 ++ zeros 2 ++ [1, 3] ++ zeros 18), hostS, 0,
      ask_accepted (by decide +kernel), by decide +kernel⟩,
    ⟨ask opFlowFreeze (u16 0 ++ u16 1 ++ zeros 2 ++ [0, 255] ++ zeros 18), hostS, 0,
      ask_accepted (by decide +kernel), by decide +kernel⟩,
    ⟨ask opFlowQuarantineClear (u16 8191 ++ u16 1 ++ zeros 2), hostS, 0, ask_accepted (by decide +kernel),
      by decide +kernel⟩,
    ⟨ask opFlowKindsAck (u16 8191 ++ u16 1 ++ zeros 6), hostS, 0, ask_accepted (by decide +kernel),
      by decide +kernel⟩,
    ⟨ask opFlowLaybyList (zeros 4 ++ u16 126 ++ zeros 2), hostS, 0, ask_accepted (by decide +kernel),
      by decide +kernel⟩,
    ⟨heldX, ask opFlowLaybyRead (u32 1 ++ zeros 4), at_ { hosted runM with flow := { layby := [heldX] } }, 0,
      ask_accepted (by decide +kernel), by decide +kernel⟩,
    ⟨ask opFlowLaybyDispose (u16 1 ++ zeros 2 ++ u32 1 ++ [3] ++ zeros 11), hostS, 0,
      ask_accepted (by decide +kernel), by decide +kernel⟩,
    ⟨ask opFlowLaybyDispose (u16 64 ++ zeros 2 ++ zeros 1024), hostS, 0, ask_accepted (by decide +kernel),
      by decide +kernel⟩⟩

theorem witness_WaypointAndFabricEventsComplete :
    (∃ (x : Job) (s : State), (powered s.m = true) ∧ (nextClassified s.m.flow.classified = some x)) ∧
    (∃ (id : Nat) (x : Held) (s : State), (findHeld s.m id = some x) ∧ (s.base.expired (x.since + prmNs s.m
      P.flows_layby_max_hold) = true)) ∧
    (∃ (t : Option TileFault) (x : Job) (s : State), (powered s.m = true) ∧ (s.m.flow.enq.find? (jobReady s.m) = some
      x) ∧ ((t = none ∨ ∃ y, t = some y ∧ y.cause ≠ 3))) ∧
    (∃ (t : Option TileFault) (x : Job) (s : State), (powered s.m = true) ∧ (s.m.flow.enq.find? (jobReady s.m) = some
      x) ∧ ((t = none ∨ ∃ y, t = some y ∧ y.cause ≠ 3))) ∧
    (∃ (t : TileFault) (x : Job) (s : State), (powered s.m = true) ∧ (s.m.flow.enq.find? (jobReady s.m) = some x) ∧
      (t.cause = 3)) ∧
    (∃ (port : Nat) (q : Nat) (since : Nat) (s : State), (isQueue port q = true) ∧ ((updateBlocking s.base ⟨s.m,
      []⟩).m.fab.blocked.get? (queueKey port q) = some since) ∧ (since + prmNs (updateBlocking s.base ⟨s.m, []⟩).m
      P.fabric_bp_ceiling ≤ s.base.now) ∧ ((updateBlocking s.base ⟨s.m, []⟩).m.fab.dropOldest.contains (queueKey port
      q) = false)) ∧
    (∃ (port : Nat) (q : Nat) (c : Copy) (rest : List Copy) (s : State), (isEthPort port = true) ∧ (q < 8) ∧
      ((updateBlocking s.base ⟨s.m, []⟩).m.fab.dropOldest.contains (queueKey port q) = true) ∧ (queueOf
      (updateBlocking s.base ⟨s.m, []⟩).m port q = c :: rest)) ∧
    (∃ (port : Nat) (q : Nat) (n : Nat) (o : MsgObj) (c : Copy) (s : State), (isCanPort port = true) ∧ (q < 4) ∧
      ((updateBlocking s.base ⟨s.m, []⟩).m.fab.dropOldest.contains (queueKey port q) = true) ∧ (firstLoaded (canAt
      (updateBlocking s.base ⟨s.m, []⟩).m (port - 14)) q = some n) ∧ ((canAt (updateBlocking s.base ⟨s.m, []⟩).m
      (port - 14)).objs.get? n = some o) ∧ (o.copy = some c)) ∧
    (∃ (d : List Demand), (d.all (fun x => decide (x.index < 96 ∧ x.at_ < 400)) = true)) ∧
    (∃ (resource : Nat) (requester : Nat) (addrs : List Nat) (c : Closure) (s : State), (resource < 6 ∧ requester <
      16 ∧ addrs.length ≤ 8) ∧ ((s.m.fab.closures.getD requester []).find? (fun c => c.resource == resource &&
      c.addrs == addrs && decide (c.start + 64 ≤ s.base.cycle)) = some c)) ∧
    (∃ (lost : Nat) (s : State), (lost ≠ 0) ∧ (powered s.m = true)) :=
  ⟨⟨jobX, at_ { runM with flow := { classified := [jobX] } }, by decide +kernel⟩,
    ⟨1, heldX, at_ { runM with flow := { layby := [heldX] } }, by decide +kernel⟩,
    ⟨some { tile := 0, cause := 2 }, jobX, at_ { runM with flow := { enq := [jobX] } }, by decide +kernel⟩,
    ⟨none, jobX, at_ { runM with flow := { enq := [jobX] } }, by decide +kernel⟩,
    ⟨{ tile := 0, cause := 3 }, jobX, at_ { runM with flow := { enq := [jobX] } }, by decide +kernel⟩,
    ⟨10, 7, 0, at_ blockedM, by decide +kernel⟩,
    ⟨10, 7, { frame := jobX.frame }, [],
      at_ (fullM { queues := [(queueKey 10 7, [{ frame := jobX.frame }])], dropOldest := [queueKey 10 7] }),
      by decide +kernel⟩,
    ⟨35, 0, 63, { st := 1, copy := some { frame := jobX.frame } }, { frame := jobX.frame },
      at_ (fullM { dropOldest := [queueKey 35 0] } (onBus 21 { objs := [(63, { st := 1, copy := some { frame := jobX.frame } })] })),
      by decide +kernel⟩,
    ⟨[{ index := 95, slots := 1 }], by decide +kernel⟩,
    ⟨2, 5, [0], { resource := 2, addrs := [0], accesses := 1, start := 0 },
      at_ { runM with fab := { closures := [(5, [{ resource := 2, addrs := [0], accesses := 1, start := 0 }])] } },
      by decide +kernel⟩,
    ⟨1, at_ runM, by decide +kernel⟩⟩

theorem witness_EthernetEgressCompletes :
    (∃ (port : Nat) (w : W) (s : State), (port < 11) ∧ (powered s.m = true) ∧ (takeOpportunity s.base port ⟨s.m, []⟩
      = some w) ∧ (portHeld w.m port = false) ∧ (wireFree (settle s.base (w.each (List.range 8) fun q w =>
      discardHeads s.base port q ((queueOf w.m port q).length) w)).m port s.base.now = true)) ∧
    (∃ (port : Nat) (s : State), (port < 11) ∧ (powered s.m = true) ∧ (takeOpportunity s.base port ⟨s.m, []⟩ = none)) ∧
    (∃ (port : Nat) (x : EthTx) (s : State), (port < 11) ∧ (s.m.fab.tx.get? port = some x) ∧ (x.fastLane = false) ∧
      (powered s.m = true) ∧ (x.copy.frame.unfinished = false) ∧ ((chainOfFrame s.m x.copy.frame.seq).findSome?
      (badTile s.m.fab) = none)) ∧
    (∃ (port : Nat) (x : EthTx) (t : TileFault) (s : State), (port < 11) ∧ (s.m.fab.tx.get? port = some x) ∧
      (x.fastLane = false) ∧ (powered s.m = true) ∧ ((chainOfFrame s.m x.copy.frame.seq).findSome? (badTile s.m.fab)
      = some t) ∧ ((chainOfFrame s.m x.copy.frame.seq).contains t.tile = true)) ∧
    (∃ (port : Nat) (x : EthTx) (t : TileFault) (s : State), (port < 11) ∧ (s.m.fab.tx.get? port = some x) ∧
      (x.fastLane = false) ∧ (powered s.m = true) ∧ ((chainOfFrame s.m x.copy.frame.seq).contains t.tile = true)) ∧
    (∃ (port : Nat) (x : EthTx) (s : State), (port < 11) ∧ (s.m.fab.tx.get? port = some x) ∧ (x.fastLane = false) ∧
      (powered s.m = true) ∧ (x.copy.frame.unfinished = true)) ∧
    (∃ (port : Nat) (x : EthTx) (s : State), (port < 11) ∧ (s.m.fab.tx.get? port = some x) ∧ (x.fastLane = true) ∧
      (powered s.m = true) ∧ (laneWaits s.m port x.copy.frame.seq = false)) ∧
    (∃ (port : Nat) (s : State), (port < 11) ∧ (((gateOf s.m port).gating = true ∨ (gateOf s.m port).pending.isSome =
      true)) ∧ ((∀ f u, (gateOf s.m port).frozen = some (f, u) → s.base.time.tb0.full < u))) ∧
    (∃ (port : Nat) (s : State), (port < 11) ∧ (((gateOf s.m port).gating = true ∨ (gateOf s.m port).pending.isSome =
      true)) ∧ ((∀ f u, (gateOf s.m port).frozen = some (f, u) → s.base.time.tb0.full < u))) ∧
    (∃ (port : Nat) (f : Nat) (u : Nat) (s : State), (port < 11) ∧ (((gateOf s.m port).gating = true ∨ (gateOf s.m
      port).pending.isSome = true)) ∧ ((gateOf s.m port).frozen = some (f, u)) ∧ (u ≤ s.base.time.tb0.full)) ∧
    (∃ (port : Nat) (at_ : Nat) (start : Nat) (s : State), (port < 11) ∧ ((gateOf s.m port).pending = some (at_,
      start)) ∧ (start ≤ s.base.time.tb0.full)) :=
  ⟨⟨10, _, at_ runM, by decide +kernel, by decide +kernel, rfl, by decide +kernel⟩,
    ⟨9,
      at_ (par P.eth_plca_node_id 9 1 (par P.eth_plca_enable 9 1 (linked 9 10 { runM with eth := upd runM.eth 9 fun x => { x with beacons := true, opp := some { until_ := 2 ^ 60 } } }))),
      by decide +kernel⟩,
    ⟨10, { copy := { frame := { port := 43, fmt := 8 } }, tc := 7 },
      at_ { runM with fab := { tx := [(10, { copy := { frame := { port := 43, fmt := 8 } }, tc := 7 })] } },
      by decide +kernel⟩,
    ⟨10, { copy := { frame := { port := 43, fmt := 8, seq := 5 } }, tc := 7 }, ⟨49151, 1⟩,
      at_ { runM with fab := { tx := [(10, { copy := { frame := { port := 43, fmt := 8, seq := 5 } }, tc := 7 })], store := [(5, { account := 43, tiles := 1, refs := 1, head := some 49151 })], tiles := [(49151, { data := [], whole := true, error := some 1 })] } },
      by decide +kernel⟩,
    ⟨10, { copy := { frame := { port := 43, fmt := 8, seq := 5 } }, tc := 7 }, ⟨49151, 0⟩,
      at_ { runM with fab := { tx := [(10, { copy := { frame := { port := 43, fmt := 8, seq := 5 } }, tc := 7 })], store := [(5, { account := 43, tiles := 1, refs := 1, head := some 49151 })], tiles := [(49151, { data := [], whole := true, error := some 1 })] } },
      by decide +kernel⟩,
    ⟨10, { copy := { frame := { port := 43, fmt := 8, unfinished := true } }, tc := 7 },
      at_ { runM with fab := { tx := [(10, { copy := { frame := { port := 43, fmt := 8, unfinished := true } }, tc := 7 })] } },
      by decide +kernel⟩,
    ⟨10, { copy := { frame := { port := 43, fmt := 8, seq := 5 } }, tc := 7, fastLane := true },
      at_ { runM with fab := { tx := [(10, { copy := { frame := { port := 43, fmt := 8, seq := 5 } }, tc := 7, fastLane := true })], fl := [(5, laneFrame 43 9)] } },
      by decide +kernel⟩,
    ⟨10, at_ { runM with fab := { gates := [(10, { gating := true })] } }, by decide +kernel, by decide +kernel,
      frozen_none rfl⟩,
    ⟨10, at_ { runM with fab := { gates := [(10, { gating := true, frozen := some (0, 2 ^ 60) })] } },
      by decide +kernel, by decide +kernel, frozen_some rfl (by decide +kernel)⟩,
    ⟨10, 0, 1000 * 2 ^ 32,
      at_ { runM with fab := { gates := [(10, { gating := true, frozen := some (0, 1000 * 2 ^ 32) })] } },
      by decide +kernel⟩,
    ⟨10, 5, 1000 * 2 ^ 32, at_ { runM with fab := { gates := [(10, { pending := some (5, 1000 * 2 ^ 32) })] } },
      by decide +kernel⟩⟩

theorem witness_CanTransmissionCompletes :
    (∃ (ch : Nat) (q : Nat), (ch < 22) ∧ (q < 4)) ∧
    (∃ (ch : Nat), (ch < 22)) ∧
    (∃ (ch : Nat) (n : Nat) (o : MsgObj) (s : State), (ch < 22) ∧ ((canAt s.m ch).attempt = none) ∧ (laneFirst s.m ch
      = false) ∧ (startable s.m s.base.now ch = some (n, o))) ∧
    (∃ (ch : Nat) (n : Nat) (s : State), (ch < 22) ∧ ((canAt s.m ch).attempt = some (.obj n))) ∧
    (∃ (ch : Nat) (q : Nat) (e : CanTxEnd) (s : State), (ch < 22) ∧ ((canAt s.m ch).attempt = some (.fast q)) ∧
      (trailing s.m ch e = false)) ∧
    (∃ (ch : Nat) (q : Nat) (e : CanTxEnd) (s : State), (ch < 22) ∧ ((canAt s.m ch).attempt = some (.fast q)) ∧
      (trailing s.m ch e = false)) ∧
    (∃ (ch : Nat) (n : Nat) (s : State), (ch < 22) ∧ (n < 96) ∧ ((objAt (canAt s.m ch) n).st = 3) ∧ ((objAt (canAt
      s.m ch) n).since + prmNs s.m P.can_collision_hold ch + 1200 ≤ s.base.now)) ∧
    (∃ (ch : Nat) (s : State), (ch < 22) ∧ ((canAt s.m ch).conf = 2) ∧ ((canAt s.m ch).recovering = true) ∧
      (portHeldAt s.m s.base.now (canPort ch) = false)) ∧
    (∃ (ch : Nat) (p : Nat) (n : Nat) (u : Nat) (s : State), (ch < 22) ∧ ((canAt s.m ch).detect = some (p, n, u))) ∧
    (∃ (ch : Nat) (lines : Nat) (s : State), (20 ≤ ch) ∧ (ch < 22) ∧ (lines < 8) ∧ (setFld (canAt s.m ch).transceiver
      8 3 lines ≠ (canAt s.m ch).transceiver) ∧ (powered s.m = true)) ∧
    (∃ (ch : Nat) (lines : Nat) (s : State), (20 ≤ ch) ∧ (ch < 22) ∧ (lines < 8) ∧ (setFld (canAt s.m ch).transceiver
      8 3 lines ≠ (canAt s.m ch).transceiver) ∧ (powered s.m = true)) :=
  ⟨⟨21, 3, by decide +kernel⟩,
    ⟨21, by decide +kernel⟩,
    ⟨21, 127, { kind := 2, st := 1 }, at_ (onBus 21 { objs := [(127, { kind := 2, st := 1 })] }), by decide +kernel⟩,
    ⟨21, 127, at_ (onBus 21 { attempt := some (.obj 127) }), by decide +kernel⟩,
    ⟨21, 5, .sent, at_ (onBus 21 { attempt := some (.fast 5) }), by decide +kernel⟩,
    ⟨21, 5, .lost, at_ (onBus 21 { attempt := some (.fast 5) } (withLane (laneFrame 14 35))), by decide +kernel⟩,
    ⟨21, 95, at_ (onBus 21 { objs := [(95, { st := 3 })] }), by decide +kernel⟩,
    ⟨21, at_ (onBus 21 { conf := 2, recovering := true }), by decide +kernel⟩,
    ⟨21, 0, 0, 5, at_ (onBus 21 { detect := some (0, 0, 5) }), by decide +kernel⟩,
    ⟨20, 7, at_ runM, by decide +kernel⟩,
    ⟨21, 1, at_ runM, by decide +kernel⟩⟩

theorem witness_ObjectRequestsAnswer :
    (∃ (ch : Nat) (r : Request) (s : State) (i : Nat), Accepted opObjectStatus r s i ∧ ((ch < 22 ∧ leAt r.payload 0 1
      = canPort ch)) ∧ (4 ≤ r.payload.length)) ∧
    (∃ (ch : Nat) (r : Request) (s : State) (i : Nat), Accepted opObjectConfig r s i ∧ ((ch < 22 ∧ leAt r.payload 0 1
      = canPort ch)) ∧ (12 ≤ r.payload.length) ∧ (96 ≤ leAt r.payload 1 1) ∧ (leAt r.payload 1 1 < 128) ∧ (leAt
      r.payload 2 1 = 0) ∧ ((objAt (canAt s.m ch) (leAt r.payload 1 1)).st = 0)) ∧
    (∃ (ch : Nat) (r : Request) (s : State) (i : Nat), Accepted opObjectConfig r s i ∧ ((ch < 22 ∧ leAt r.payload 0 1
      = canPort ch)) ∧ (12 ≤ r.payload.length) ∧ (96 ≤ leAt r.payload 1 1) ∧ (leAt r.payload 1 1 < 128) ∧ (leAt
      r.payload 2 1 = 1 ∨ leAt r.payload 2 1 = 2) ∧ ((objAt (canAt s.m ch) (leAt r.payload 1 1)).st = 0)) ∧
    (∃ (ch : Nat) (r : Request) (s : State) (i : Nat), Accepted opObjectConfig r s i ∧ ((ch < 22 ∧ leAt r.payload 0 1
      = canPort ch)) ∧ (12 ≤ r.payload.length) ∧ (96 ≤ leAt r.payload 1 1) ∧ (leAt r.payload 1 1 < 128) ∧ (leAt
      r.payload 2 1 = 1 ∨ leAt r.payload 2 1 = 2) ∧ ((objAt (canAt s.m ch) (leAt r.payload 1 1)).st = 0)) ∧
    (∃ (ch : Nat) (r : Request) (s : State) (i : Nat), Accepted opObjectRead r s i ∧ ((ch < 22 ∧ leAt r.payload 0 1 =
      canPort ch)) ∧ (4 ≤ r.payload.length) ∧ (leAt r.payload 1 1 < 128)) ∧
    (∃ (ch : Nat) (r : Request) (s : State) (i : Nat), Accepted opObjectAck r s i ∧ ((ch < 22 ∧ leAt r.payload 0 1 =
      canPort ch)) ∧ (4 ≤ r.payload.length) ∧ (leAt r.payload 1 1 < 128) ∧ ((objAt (canAt s.m ch) (leAt r.payload 1
      1)).rxSeq = leAt r.payload 2 2) ∧ (((canAt s.m ch).objs.get? (leAt r.payload 1 1)).isSome = true)) ∧
    (∃ (ch : Nat) (r : Request) (s : State) (i : Nat), Accepted opObjectSend r s i ∧ ((ch < 22 ∧ leAt r.payload 0 1 =
      canPort ch)) ∧ (12 + leAt r.payload 8 1 ≤ r.payload.length) ∧ (96 ≤ leAt r.payload 1 1) ∧ (leAt r.payload 1 1 <
      128) ∧ (leAt r.payload 8 1 ≤ 64) ∧ (canLength (withWord (leAt r.payload 4 4) {}).fdf (leAt r.payload 8 1) =
      true) ∧ (formatSendable s.m ch (b2n (withWord (leAt r.payload 4 4) {}).ide + 2 * b2n (withWord (leAt r.payload
      4 4) {}).fdf) = true) ∧ ((objAt (canAt s.m ch) (leAt r.payload 1 1)).kind = 2) ∧ ((objAt (canAt s.m ch) (leAt
      r.payload 1 1)).st = 0)) ∧
    (∃ (ch : Nat) (r : Request) (s : State) (i : Nat), Accepted opObjectSend r s i ∧ ((ch < 22 ∧ leAt r.payload 0 1 =
      canPort ch)) ∧ (12 + leAt r.payload 8 1 ≤ r.payload.length) ∧ (96 ≤ leAt r.payload 1 1) ∧ (leAt r.payload 1 1 <
      128) ∧ (leAt r.payload 8 1 ≤ 64) ∧ (canLength (withWord (leAt r.payload 4 4) {}).fdf (leAt r.payload 8 1) =
      true) ∧ (formatSendable s.m ch (b2n (withWord (leAt r.payload 4 4) {}).ide + 2 * b2n (withWord (leAt r.payload
      4 4) {}).fdf) = true) ∧ ((objAt (canAt s.m ch) (leAt r.payload 1 1)).kind = 2) ∧ ((objAt (canAt s.m ch) (leAt
      r.payload 1 1)).st = 0)) ∧
    (∃ (ch : Nat) (r : Request) (s : State) (i : Nat), Accepted opObjectCancel r s i ∧ ((ch < 22 ∧ leAt r.payload 0 1
      = canPort ch)) ∧ (4 ≤ r.payload.length) ∧ (leAt r.payload 1 1 < 64) ∧ ((objAt (canAt s.m ch) (leAt r.payload 1
      1)).st = 1 ∨ (objAt (canAt s.m ch) (leAt r.payload 1 1)).st = 3)) ∧
    (∃ (ch : Nat) (r : Request) (s : State) (i : Nat), Accepted opObjectCancel r s i ∧ ((ch < 22 ∧ leAt r.payload 0 1
      = canPort ch)) ∧ (4 ≤ r.payload.length) ∧ (leAt r.payload 1 1 < 64) ∧ ((objAt (canAt s.m ch) (leAt r.payload 1
      1)).st = 1 ∨ (objAt (canAt s.m ch) (leAt r.payload 1 1)).st = 3)) ∧
    (∃ (ch : Nat) (r : Request) (s : State) (i : Nat), Accepted opObjectCancel r s i ∧ ((ch < 22 ∧ leAt r.payload 0 1
      = canPort ch)) ∧ (4 ≤ r.payload.length) ∧ (96 ≤ leAt r.payload 1 1) ∧ (leAt r.payload 1 1 < 128) ∧ ((objAt
      (canAt s.m ch) (leAt r.payload 1 1)).st = 1 ∨ (objAt (canAt s.m ch) (leAt r.payload 1 1)).st = 3)) ∧
    (∃ (ch : Nat) (r : Request) (s : State) (i : Nat), Accepted opObjectCancel r s i ∧ ((ch < 22 ∧ leAt r.payload 0 1
      = canPort ch)) ∧ (4 ≤ r.payload.length) ∧ (96 ≤ leAt r.payload 1 1) ∧ (leAt r.payload 1 1 < 128) ∧ ((objAt
      (canAt s.m ch) (leAt r.payload 1 1)).st = 1 ∨ (objAt (canAt s.m ch) (leAt r.payload 1 1)).st = 3)) ∧
    (∃ (ch : Nat) (r : Request) (s : State) (i : Nat), Accepted opObjectRetry r s i ∧ ((ch < 22 ∧ leAt r.payload 0 1
      = canPort ch)) ∧ (4 ≤ r.payload.length) ∧ (96 ≤ leAt r.payload 1 1) ∧ (leAt r.payload 1 1 < 128) ∧ ((objAt
      (canAt s.m ch) (leAt r.payload 1 1)).st = 3)) ∧
    (∃ (ch : Nat) (r : Request) (s : State) (i : Nat), Accepted opObjectRecover r s i ∧ ((ch < 22 ∧ leAt r.payload 0
      1 = canPort ch)) ∧ (4 ≤ r.payload.length) ∧ ((canAt s.m ch).conf = 2) ∧ ((canAt s.m ch).recovering = false)) ∧
    (∃ (ch : Nat) (r : Request) (s : State) (i : Nat), Accepted opObjectRateDetect r s i ∧ ((ch < 22 ∧ leAt r.payload
      0 1 = canPort ch)) ∧ (4 ≤ r.payload.length) ∧ (portHeld s.m (canPort ch) = false) ∧ (onFootRecords s.m = false)
      ∧ ((canAt s.m ch).detect = none)) ∧
    (∃ (ch : Nat) (r : Request) (s : State) (i : Nat), Accepted opObjectCollisions r s i ∧ ((ch < 22 ∧ leAt r.payload
      0 1 = canPort ch)) ∧ (4 ≤ r.payload.length)) ∧
    (∃ (n : Nat) (r : Request) (s : State) (i : Nat), Accepted opObjectLinScheduleWrite r s i ∧ ((n < 8 ∧ leAt
      r.payload 0 1 = n + 36)) ∧ (4 ≤ r.payload.length) ∧ (leAt r.payload 2 2 ≤ 512) ∧ (r.payload.length = 4 + 8 *
      leAt r.payload 2 2) ∧ (leAt r.payload 1 1 ≤ 31) ∧ (entriesUsed (linAt s.m n) - (linTable (linAt s.m n) (leAt
      r.payload 1 1)).length + leAt r.payload 2 2 ≤ 512) ∧ (((List.range (leAt r.payload 2 2)).map (fun k => leMask
      (leAt r.payload (4 + 8 * k) 8))).all leForm = true) ∧ (((List.range (leAt r.payload 2 2)).map (fun k => leMask
      (leAt r.payload (4 + 8 * k) 8))).all leRanges = true) ∧ (((linAt s.m n).running && (linAt s.m n).active == leAt
      r.payload 1 1) = false) ∧ ((linAt s.m n).pending ≠ some (leAt r.payload 1 1))) ∧
    (∃ (n : Nat) (r : Request) (s : State) (i : Nat), Accepted opObjectLinScheduleWrite r s i ∧ ((n < 8 ∧ leAt
      r.payload 0 1 = n + 36)) ∧ (4 ≤ r.payload.length) ∧ (leAt r.payload 2 2 ≤ 512) ∧ (r.payload.length = 4 + 8 *
      leAt r.payload 2 2) ∧ (leAt r.payload 1 1 ≤ 31) ∧ (entriesUsed (linAt s.m n) - (linTable (linAt s.m n) (leAt
      r.payload 1 1)).length + leAt r.payload 2 2 ≤ 512) ∧ (((List.range (leAt r.payload 2 2)).map (fun k => leMask
      (leAt r.payload (4 + 8 * k) 8))).all leForm = true) ∧ (((List.range (leAt r.payload 2 2)).map (fun k => leMask
      (leAt r.payload (4 + 8 * k) 8))).all leRanges = true) ∧ (((linAt s.m n).running && (linAt s.m n).active == leAt
      r.payload 1 1) = false) ∧ ((linAt s.m n).pending ≠ some (leAt r.payload 1 1))) ∧
    (∃ (n : Nat) (r : Request) (s : State) (i : Nat) (w : W), Accepted opObjectLinScheduleSelect r s i ∧ ((n < 8 ∧
      leAt r.payload 0 1 = n + 36)) ∧ (4 ≤ r.payload.length) ∧ (leAt r.payload 1 1 ≤ 31) ∧ (requestTable n (leAt
      r.payload 1 1) (entered opObjectLinScheduleSelect r i s) = some w)) ∧
    (∃ (n : Nat) (r : Request) (s : State) (i : Nat), Accepted opObjectLinBufferRead r s i ∧ ((n < 8 ∧ leAt r.payload
      0 1 = n + 36)) ∧ (4 ≤ r.payload.length) ∧ (leAt r.payload 1 1 ≤ 63)) :=
  ⟨⟨21, ask opObjectStatus ([35, 0, 0, 0]), at_ (hosted runM), 0, ask_accepted (by decide +kernel),
      by decide +kernel⟩,
    ⟨21, ask opObjectConfig ([35, 127, 0, 0] ++ zeros 8), at_ (hosted runM), 0, ask_accepted (by decide +kernel),
      by decide +kernel⟩,
    ⟨21, ask opObjectConfig ([35, 96, 1, 0] ++ zeros 8), at_ (hosted runM), 0, ask_accepted (by decide +kernel),
      by decide +kernel⟩,
    ⟨0, ask opObjectConfig ([14, 127, 2, 0] ++ zeros 8), at_ (hosted runM), 0, ask_accepted (by decide +kernel),
      by decide +kernel⟩,
    ⟨21, ask opObjectRead ([35, 127, 0, 0]), at_ (hosted runM), 0, ask_accepted (by decide +kernel),
      by decide +kernel⟩,
    ⟨21, ask opObjectAck ([35, 127] ++ u16 65535),
      at_ (hosted (onBus 21 { objs := [(127, { kind := 1, rxSeq := 65535 })] })), 0,
      ask_accepted (by decide +kernel), by decide +kernel⟩,
    ⟨21, ask opObjectSend ([35, 127, 0, 0] ++ u32 0 ++ [8, 0, 0, 0] ++ zeros 8),
      at_ (hosted (onBus 21 { objs := [(127, { kind := 2 })] })), 0, ask_accepted (by decide +kernel),
      by decide +kernel⟩,
    ⟨0, ask opObjectSend ([14, 96, 0, 0] ++ u32 0 ++ [0, 0, 0, 0]),
      at_ (hosted (onBus 0 { objs := [(96, { kind := 2 })] })), 0, ask_accepted (by decide +kernel),
      by decide +kernel⟩,
    ⟨21, ask opObjectCancel ([35, 63, 0, 0]), at_ (hosted (onBus 21 { objs := [(63, { st := 3 })] })), 0,
      ask_accepted (by decide +kernel), by decide +kernel⟩,
    ⟨21, ask opObjectCancel ([35, 0, 0, 0]), at_ (hosted (onBus 21 { objs := [(0, { st := 1 })] })), 0,
      ask_accepted (by decide +kernel), by decide +kernel⟩,
    ⟨21, ask opObjectCancel ([35, 127, 0, 0]), at_ (hosted (onBus 21 { objs := [(127, { st := 3 })] })), 0,
      ask_accepted (by decide +kernel), by decide +kernel⟩,
    ⟨21, ask opObjectCancel ([35, 96, 0, 0]), at_ (hosted (onBus 21 { objs := [(96, { st := 1 })] })), 0,
      ask_accepted (by decide +kernel), by decide +kernel⟩,
    ⟨21, ask opObjectRetry ([35, 127, 0, 0]), at_ (hosted (onBus 21 { objs := [(127, { st := 3 })] })), 0,
      ask_accepted (by decide +kernel), by decide +kernel⟩,
    ⟨21, ask opObjectRecover ([35, 0, 0, 0]), at_ (hosted (onBus 21 { conf := 2 })), 0,
      ask_accepted (by decide +kernel), by decide +kernel⟩,
    ⟨21, ask opObjectRateDetect ([35, 0, 0, 0]), at_ (hosted runM), 0, ask_accepted (by decide +kernel),
      by decide +kernel⟩,
    ⟨21, ask opObjectCollisions ([35, 0, 0, 0]), at_ (hosted runM), 0, ask_accepted (by decide +kernel),
      by decide +kernel⟩,
    ⟨7, ask opObjectLinScheduleWrite ([43, 31] ++ u16 0), at_ (hosted runM), 0, ask_accepted (by decide +kernel),
      by decide +kernel⟩,
    ⟨7, ask opObjectLinScheduleWrite ([43, 31] ++ u16 1 ++ u64 (59 + 8 * 2 ^ 16 + 255 * 2 ^ 24 + 10 * 2 ^ 32)),
      at_ (hosted runM), 0, ask_accepted (by decide +kernel), by decide +kernel⟩,
    ⟨7, ask opObjectLinScheduleSelect ([43, 31, 0, 0]),
      at_ ({ hosted runM with lin := upd runM.lin 7 fun l => { l with tables := [(31, [0])] } }), 0, _,
      ask_accepted (by decide +kernel), by decide +kernel, by decide +kernel, by decide +kernel, rfl⟩,
    ⟨7, ask opObjectLinBufferRead ([43, 63, 0, 0]), at_ (hosted runM), 0, ask_accepted (by decide +kernel),
      by decide +kernel⟩⟩

theorem witness_ClaimAndLinEventsComplete :
    (∃ (ch : Nat) (t : Nat) (s : State), (ch < 22) ∧ ((canAt s.m ch).claimSof = some t) ∧ ((canAt s.m ch).ownAddr ≤
      253) ∧ ((canAt s.m ch).claimed = false) ∧ (t + 250000000 + 1200 ≤ s.base.now) ∧ (contestOnTheWay s.m s.base ch
      (t + 250000000) = false)) ∧
    (∃ (ch : Nat) (lost : Nat) (u : Nat) (s : State), (ch < 22) ∧ ((canAt s.m ch).cannot = some (lost, u)) ∧ (u +
      1200 ≤ s.base.now) ∧ (ownClaimReady s.m ch = true)) ∧
    (∃ (n : Nat) (e : Nat) (s : State), (n < 8) ∧ (linRuns s.m n = true) ∧ (((linAt s.m n).running = true → (linAt
      s.m n).slotEnd ≤ s.base.now ∧ (linAt s.m n).await = none ∧ (linAt s.m n).busyUntil ≤ s.base.now)) ∧ ((linTable
      (linAt (nextEntry s.base n ⟨s.m, []⟩).m n) (linAt (nextEntry s.base n ⟨s.m, []⟩).m n).active)[(linAt (nextEntry
      s.base n ⟨s.m, []⟩).m n).entry]? = some e)) ∧
    (∃ (n : Nat) (s : State), (n < 8) ∧ (linRuns s.m n = true) ∧ (((linAt s.m n).running = true → (linAt s.m
      n).slotEnd ≤ s.base.now ∧ (linAt s.m n).await = none ∧ (linAt s.m n).busyUntil ≤ s.base.now)) ∧ ((linTable
      (linAt (nextEntry s.base n ⟨s.m, []⟩).m n) (linAt (nextEntry s.base n ⟨s.m, []⟩).m n).active)[(linAt (nextEntry
      s.base n ⟨s.m, []⟩).m n).entry]? = none)) ∧
    (∃ (n : Nat) (s : State), (n < 8) ∧ (linRuns s.m n = true) ∧ ((linAt s.m n).running = true) ∧ ((linAt s.m
      n).slotEnd ≤ s.base.now) ∧ (((linAt s.m n).await.isSome || decide (s.base.now < (linAt s.m n).busyUntil)) =
      true) ∧ ((linAt s.m n).overrun = false)) ∧
    (∃ (n : Nat) (s : State), (n < 8) ∧ (linRuns s.m n = true) ∧ ((linAt s.m n).running = true) ∧ ((linAt s.m
      n).slotEnd ≤ s.base.now) ∧ (((linAt s.m n).await.isSome || decide (s.base.now < (linAt s.m n).busyUntil)) =
      true) ∧ ((linAt s.m n).overrun = false)) ∧
    (∃ (n : Nat) (data : List Byte) (id : Nat) (len : Nat) (event : Bool) (u : Nat) (s : State), (n < 8) ∧ ((linAt
      s.m n).await = some (id, len, event, u)) ∧ (s.base.now ≤ u) ∧ (data.length = len)) ∧
    (∃ (n : Nat) (e : LinEnd) (id : Nat) (len : Nat) (u : Nat) (s : State), (n < 8) ∧ ((linAt s.m n).await = some
      (id, len, false, u)) ∧ (s.base.now ≤ u) ∧ (e ≠ .good)) ∧
    (∃ (n : Nat) (id : Nat) (len : Nat) (event : Bool) (u : Nat) (s : State), (n < 8) ∧ ((linAt s.m n).await = some
      (id, len, event, u)) ∧ (u < s.base.now)) :=
  ⟨⟨21, 5, at_ (onBus 21 { claimSof := some 5, ownAddr := 253 }), by decide +kernel⟩,
    ⟨21, 253, 1000 * 2 ^ 32 - 1200,
      at_ (setPrm (par P.can_claim_enable 21 1 (par P.can_own_name 21 5 (onBus 21 { cannot := some (253, 1000 * 2 ^ 32 - 1200) }))) P.ingress_port_mode 0 35 16),
      by decide +kernel⟩,
    ⟨7, 5, at_ (linOn 7 { tables := [(0, [5])] }), by decide +kernel, by decide +kernel,
      by intro h; revert h; decide +kernel, by decide +kernel⟩,
    ⟨7, at_ (linOn 7 { running := true, slotEnd := 1000 * 2 ^ 32 }), by decide +kernel, by decide +kernel,
      fun _ => by decide +kernel, by decide +kernel⟩,
    ⟨7, at_ (linOn 7 { running := true, slotEnd := 1000 * 2 ^ 32, busyUntil := 1000 * 2 ^ 32 + 1 }),
      by decide +kernel⟩,
    ⟨7, at_ (linOn 7 { running := true, await := some (63, 8, true, 1000 * 2 ^ 32) }), by decide +kernel⟩,
    ⟨7, zeros 8, 63, 8, true, 1000 * 2 ^ 32,
      at_ (linOn 7 { running := true, await := some (63, 8, true, 1000 * 2 ^ 32) }), by decide +kernel⟩,
    ⟨7, .bit, 63, 8, 1000 * 2 ^ 32, at_ (linOn 7 { running := true, await := some (63, 8, false, 1000 * 2 ^ 32) }),
      by decide +kernel⟩,
    ⟨7, 63, 8, false, 1000 * 2 ^ 32 - 1,
      at_ (linOn 7 { running := true, await := some (63, 8, false, 1000 * 2 ^ 32 - 1) }), by decide +kernel⟩⟩

theorem witness_JunctionEventsComplete :
    (∃ (t : Option TileFault) (c : Copy) (rest : List Copy) (s : State), (s.m.fab.i1 = c :: rest) ∧ (heldAllAt s.m
      s.base.now = false) ∧ (powered s.m = true) ∧ (junctionRuns s.m s.base.now = true) ∧ (heldForDeadline s.m s.base
      c.frame = false) ∧ (readFault (corrected c.frame t (W.fab ⟨s.m, []⟩ fun x => { x with i1 := rest })).m c.frame
      t = none)) ∧
    (∃ (k : Nat) (d : Nat) (s : State), (k < 4096) ∧ ((mapState s.m k).deadline = some d) ∧ ((mapState s.m
      k).timedOut = false) ∧ (mapValid s.m k = true) ∧ (fullService s.m = true) ∧ (d + 1200 ≤ s.base.now) ∧
      (earlierMatch s.m s.base k d = false)) ∧
    (∃ (t : Nat) (s : State), (isTpl t = true) ∧ (tplValid s.m t = true) ∧ ((Tp.mode.get (tplGet s.m t) = 1 ∨
      Tp.mode.get (tplGet s.m t) = 2)) ∧ (Tp.period.get (tplGet s.m t) ≠ 0) ∧ ((tplState s.m t).start + Tp.phase.get
      (tplGet s.m t) * 1000000 + (tplState s.m t).grid * (Tp.period.get (tplGet s.m t) * 1000) ≤ s.base.now) ∧
      (junctionRuns s.m s.base.now = true)) ∧
    (∃ (t : Nat) (s : State), (isTpl t = true) ∧ (tplValid s.m t = true) ∧ ((Tp.mode.get (tplGet s.m t) = 1 ∨
      Tp.mode.get (tplGet s.m t) = 2)) ∧ (Tp.period.get (tplGet s.m t) ≠ 0) ∧ ((tplState s.m t).start + Tp.phase.get
      (tplGet s.m t) * 1000000 + (tplState s.m t).grid * (Tp.period.get (tplGet s.m t) * 1000) ≤ s.base.now) ∧
      (junctionRuns s.m s.base.now = true)) ∧
    (∃ (t : Nat) (s : State), (isTpl t = true) ∧ ((tplState s.m t).pending = true) ∧ ((match gapEnd s.m t with
      | some g => decide (g ≤ s.base.now) | none => true) = true) ∧ (junctionRuns s.m s.base.now = true) ∧ (tplValid
      s.m t = true) ∧ (powered s.m = true)) ∧
    (∃ (k : Nat) (s : State), (k < 16) ∧ ((tunnelAt s.m k).open_ ≠ []) ∧ ((tunnelAt s.m k).first + prmNs s.m
      P.junction_tunnel_flush_time 0 k ≤ s.base.now) ∧ (junctionRuns s.m s.base.now = true)) ∧
    (∃ (target : Nat) (inst : Nat) (id : Nat) (s : State), (target < 3) ∧ (s.m.jn.posted.any (fun p => p.target ==
      target && p.inst == inst && p.id == id && p.failed s.base.now) = true)) :=
  ⟨⟨none, { frame := { port := 43, fmt := 0 } }, [],
      at_ { runM with fab := { i1 := [{ frame := { port := 43, fmt := 0 } }] } }, by decide +kernel⟩,
    ⟨4095, 1000 * 2 ^ 32 - 1200,
      at_ { runM with tab := runM.tab.put 0x0E 4095 (2 ^ 71), jn := { maps := [(4095, { deadline := some (1000 * 2 ^ 32 - 1200) })] } },
      by decide +kernel⟩,
    ⟨8191, at_ { runM with tab := runM.tab.put 0x0A 8191 tplW }, by decide +kernel⟩,
    ⟨8191, at_ { runM with tab := runM.tab.put 0x0A 8191 (tplW + 2 ^ 8) }, by decide +kernel⟩,
    ⟨8191,
      at_ { runM with tab := runM.tab.put 0x0A 8191 (tplW + 2 ^ 96), jn := { tpls := [(8191, { pending := true, lastSend := some (1000 * 2 ^ 32 - 10000) })] } },
      by decide +kernel⟩,
    ⟨15, at_ { runM with jn := { tunnels := [(15, { open_ := [0] })] } }, by decide +kernel⟩,
    ⟨1, 4, 0, at_ { runM with jn := { posted := [{ target := 1, inst := 4, id := 0, at_ := 0 }] } },
      by decide +kernel⟩⟩

theorem witness_JunctionRequestsAnswer :
    (∃ (r : Request) (s : State) (i : Nat), Accepted opJunctionStatus r s i) ∧
    (∃ (r : Request) (s : State) (i : Nat), Accepted opJunctionMapStatus r s i ∧ (4 ≤ r.payload.length) ∧ (1 ≤ leAt
      r.payload 2 2) ∧ (leAt r.payload 2 2 ≤ 250) ∧ (leAt r.payload 0 2 + leAt r.payload 2 2 ≤ 4096)) ∧
    (∃ (r : Request) (s : State) (i : Nat), Accepted opJunctionMapStatus r s i ∧ (4 ≤ r.payload.length) ∧ (1 ≤ leAt
      r.payload 2 2) ∧ (leAt r.payload 2 2 ≤ 250) ∧ (leAt r.payload 0 2 + leAt r.payload 2 2 ≤ 4096)) ∧
    (∃ (r : Request) (s : State) (i : Nat), Accepted opJunctionGroupRead r s i ∧ (4 ≤ r.payload.length) ∧ (1 ≤ leAt
      r.payload 2 2) ∧ (leAt r.payload 2 2 ≤ 500) ∧ (leAt r.payload 0 2 + leAt r.payload 2 2 ≤ 1024)) ∧
    (∃ (r : Request) (s : State) (i : Nat), Accepted opJunctionGroupRead r s i ∧ (4 ≤ r.payload.length) ∧ (1 ≤ leAt
      r.payload 2 2) ∧ (leAt r.payload 2 2 ≤ 500) ∧ (leAt r.payload 0 2 + leAt r.payload 2 2 ≤ 1024)) ∧
    (∃ (r : Request) (s : State) (i : Nat), Accepted opJunctionTemplateRead r s i ∧ (4 ≤ r.payload.length) ∧ (leAt
      r.payload 0 2 < 8192) ∧ (tplValid s.m (leAt r.payload 0 2) = true)) ∧
    (∃ (r : Request) (s : State) (i : Nat), Accepted opJunctionTemplateSend r s i ∧ (4 ≤ r.payload.length) ∧ (leAt
      r.payload 0 2 < 8192) ∧ (tplValid s.m (leAt r.payload 0 2) = true) ∧ (junctionRuns s.m s.base.now = true)) ∧
    (∃ (r : Request) (s : State) (i : Nat), Accepted opJunctionTemplateRestore r s i ∧ (4 ≤ r.payload.length) ∧ (leAt
      r.payload 0 2 < 8192) ∧ (tplValid s.m (leAt r.payload 0 2) = true)) ∧
    (∃ (r : Request) (s : State) (i : Nat), Accepted opJunctionSignalRead r s i ∧ (4 ≤ r.payload.length) ∧ (baseRoute
      s.m (leAt r.payload 0 2) = true)) ∧
    (∃ (r : Request) (s : State) (i : Nat), Accepted opJunctionSignalWrite r s i ∧ (12 ≤ r.payload.length) ∧
      (baseRoute s.m (leAt r.payload 0 2) = true) ∧ (Sr.destKind.get (routeGet s.m (leAt r.payload 0 2)) = 0)) :=
  ⟨⟨ask opJunctionStatus ([]), at_ (hosted runM), 0, ask_accepted (by decide +kernel)⟩,
    ⟨ask opJunctionMapStatus (u16 3846 ++ u16 250), at_ (hosted runM), 0, ask_accepted (by decide +kernel),
      by decide +kernel⟩,
    ⟨ask opJunctionMapStatus (u16 4095 ++ u16 1), at_ (hosted runM), 0, ask_accepted (by decide +kernel),
      by decide +kernel⟩,
    ⟨ask opJunctionGroupRead (u16 524 ++ u16 500), at_ (hosted runM), 0, ask_accepted (by decide +kernel),
      by decide +kernel⟩,
    ⟨ask opJunctionGroupRead (u16 1023 ++ u16 1), at_ (hosted runM), 0, ask_accepted (by decide +kernel),
      by decide +kernel⟩,
    ⟨ask opJunctionTemplateRead (u16 8191 ++ zeros 2), at_ ({ hosted runM with tab := runM.tab.put 10 8191 (tplW) }),
      0, ask_accepted (by decide +kernel), by decide +kernel⟩,
    ⟨ask opJunctionTemplateSend (u16 8191 ++ zeros 2), at_ ({ hosted runM with tab := runM.tab.put 10 8191 (tplW) }),
      0, ask_accepted (by decide +kernel), by decide +kernel⟩,
    ⟨ask opJunctionTemplateRestore (u16 8191 ++ zeros 2),
      at_ ({ hosted runM with tab := runM.tab.put 10 8191 (tplW) }), 0, ask_accepted (by decide +kernel),
      by decide +kernel⟩,
    ⟨ask opJunctionSignalRead (u16 65535 ++ zeros 2),
      at_ ({ hosted runM with tab := runM.tab.put 9 65535 (2 ^ 23) }), 0, ask_accepted (by decide +kernel),
      by decide +kernel⟩,
    ⟨ask opJunctionSignalWrite (u16 65535 ++ zeros 10),
      at_ ({ hosted runM with tab := runM.tab.put 9 65535 (2 ^ 23) }), 0, ask_accepted (by decide +kernel),
      by decide +kernel⟩⟩

theorem witness_EthernetLinkEventsComplete :
    (∃ (port : Nat) (rate : Nat) (master : Bool) (sqi : Nat) (s : State), (port < 11) ∧ (sqi < 8) ∧ (rateCode rate ≠
      0) ∧ (ethPowered s.m port = true) ∧ (prm s.m P.eth_phy_mode port ≠ 0) ∧ ((ethAt s.m port).sleeping = false) ∧
      (powered s.m = true) ∧ ((ethAt s.m port).up = false) ∧ (portAsleep s.m port = false) ∧ (trains s.m port rate
      master = true)) ∧
    (∃ (port : Nat) (rate : Nat) (master : Bool) (sqi : Nat) (s : State), (port < 11) ∧ (sqi < 8) ∧ (rateCode rate ≠
      0) ∧ (ethPowered s.m port = true) ∧ (prm s.m P.eth_phy_mode port ≠ 0) ∧ ((ethAt s.m port).sleeping = false) ∧
      (powered s.m = true) ∧ ((ethAt s.m port).up = false) ∧ (portAsleep s.m port = false) ∧ (trains s.m port rate
      master = true)) ∧
    (∃ (port : Nat) (rate : Nat) (master : Bool) (sqi : Nat) (s : State), (port < 11) ∧ (sqi < 8) ∧ (rateCode rate ≠
      0) ∧ (ethPowered s.m port = true) ∧ (prm s.m P.eth_phy_mode port ≠ 0) ∧ ((ethAt s.m port).sleeping = false) ∧
      (powered s.m = true) ∧ ((ethAt s.m port).up = true) ∧ (portAsleep s.m port = false) ∧ (trains s.m port rate
      master = true)) ∧
    (∃ (port : Nat) (sqi : Nat) (s : State), (port < 11) ∧ (sqi < 8) ∧ (powered s.m = true) ∧ ((ethAt s.m port).up =
      true)) ∧
    (∃ (port : Nat) (s : State), ((port = 8 ∨ port = 9)) ∧ (prmB s.m P.eth_plca_enable port = true) ∧ (prm s.m
      P.eth_plca_node_id port ≠ 0) ∧ (powered s.m = true) ∧ ((ethAt s.m port).beaconLost = false)) ∧
    (∃ (port : Nat) (s : State), ((port = 8 ∨ port = 9)) ∧ (prmB s.m P.eth_plca_enable port = true) ∧ (prm s.m
      P.eth_plca_node_id port ≠ 0) ∧ (powered s.m = true) ∧ ((ethAt s.m port).beaconLost = false)) ∧
    (∃ (port : Nat) (s : State), ((port = 8 ∨ port = 9)) ∧ (prmB s.m P.eth_plca_enable port = true) ∧ (prm s.m
      P.eth_plca_node_id port ≠ 0) ∧ (powered s.m = true) ∧ ((ethAt s.m port).beaconLost = true)) ∧
    (∃ (port : Nat) (s : State), ((port = 8 ∨ port = 9)) ∧ (prmB s.m P.eth_plca_enable port = true) ∧ (prm s.m
      P.eth_plca_node_id port ≠ 0) ∧ (powered s.m = true) ∧ ((ethAt s.m port).beaconLost = false)) ∧
    (∃ (port : Nat) (s : State), (port < 8) ∧ (prmB s.m P.eth_macsec_enable port = true) ∧ (managed s.m = true)) ∧
    (∃ (port : Nat) (s : State), (port < 8) ∧ (tc10Port s.m port = true) ∧ ((ethAt s.m port).up = true) ∧ ((ethAt s.m
      port).sleeping = false) ∧ (powered s.m = true) ∧ (prmB s.m P.eth_tc10_sleep_accept port = true) ∧ (egressEmpty
      s.m port = true)) ∧
    (∃ (port : Nat) (s : State), (port < 8) ∧ (tc10Port s.m port = true) ∧ ((ethAt s.m port).up = true) ∧ ((ethAt s.m
      port).sleeping = false) ∧ (powered s.m = true) ∧ ((prmB s.m P.eth_tc10_sleep_accept port = false ∨ egressEmpty
      s.m port = false))) ∧
    (∃ (port : Nat) (s : State), (port < 8) ∧ (tc10Port s.m port = true) ∧ ((ethAt s.m port).up = true) ∧ ((ethAt s.m
      port).sleeping = false) ∧ (powered s.m = true) ∧ ((prmB s.m P.eth_tc10_sleep_accept port = false ∨ egressEmpty
      s.m port = false))) ∧
    (∃ (port : Nat) (s : State), (port < 8) ∧ (tc10Port s.m port = true) ∧ (s.m.mod.state ≠ .sleep) ∧ ((ethAt s.m
      port).sleeping = true)) ∧
    (∃ (port : Nat) (s : State), (port < 8) ∧ (tc10Port s.m port = true) ∧ (s.m.mod.state = .sleep)) ∧
    (∃ (port : Nat) (status : Nat) (s : State), (port < 8) ∧ (1 ≤ status) ∧ (status ≤ 4) ∧ (Ge.preEnable.on (gateRow
      s.m port 516) = true) ∧ (Ge.verifyOff.on (gateRow s.m port 516) = false) ∧ ((ethAt s.m port).up = true) ∧
      ((gateOf s.m port).verify ≠ status)) ∧
    (∃ (port : Nat) (status : Nat) (s : State), (port < 8) ∧ (1 ≤ status) ∧ (status ≤ 4) ∧ (Ge.preEnable.on (gateRow
      s.m port 516) = true) ∧ (Ge.verifyOff.on (gateRow s.m port 516) = false) ∧ ((ethAt s.m port).up = true) ∧
      ((gateOf s.m port).verify ≠ status)) ∧
    (∃ (l : List MkaReport) (s : State), (l.all (fun x => decide (x.port < 8)) = true) ∧ (managed s.m = true) ∧
      (fullService s.m = true)) :=
  ⟨⟨10, 10000, false, 7, at_ (par P.eth_phy_mode 10 1 { runM with doip := { active := true } }), by decide +kernel⟩,
    ⟨0, 10, true, 0, at_ (par P.eth_phy_role 0 1 (par P.eth_phy_mode 0 6)), by decide +kernel⟩,
    ⟨10, 10000, false, 7, at_ (linked 10 100), by decide +kernel⟩,
    ⟨10, 0, at_ (linked 10 100), by decide +kernel⟩,
    ⟨9,
      at_ (par P.eth_plca_enable 9 1 (par P.eth_plca_node_id 9 7 { runM with eth := upd runM.eth 9 fun x => { x with beacons := true } })),
      by decide +kernel⟩,
    ⟨8,
      at_ (par P.eth_plca_enable 8 1 (par P.eth_plca_node_id 8 255 { runM with eth := upd runM.eth 8 fun x => { x with beacons := true } })),
      by decide +kernel⟩,
    ⟨9,
      at_ (par P.eth_plca_enable 9 1 (par P.eth_plca_node_id 9 7 { runM with eth := upd runM.eth 9 fun x => { x with beaconLost := true } })),
      by decide +kernel⟩,
    ⟨9, at_ (par P.eth_plca_enable 9 1 (par P.eth_plca_node_id 9 7)), by decide +kernel⟩,
    ⟨7, at_ (par P.eth_macsec_enable 7 1), by decide +kernel⟩,
    ⟨7, at_ (par P.eth_tc10_enable 7 1 (par P.eth_tc10_sleep_accept 7 1 (linked 7 1000))), by decide +kernel⟩,
    ⟨7, at_ (par P.eth_tc10_enable 7 1 (linked 7 1000)), by decide +kernel⟩,
    ⟨7,
      at_ (par P.eth_tc10_enable 7 1 (par P.eth_tc10_sleep_accept 7 1 (linked 7 1000 { runM with fab := { queues := [(queueKey 7 0, [{ frame := jobX.frame }])] } }))),
      by decide +kernel⟩,
    ⟨7, at_ (par P.eth_tc10_enable 7 1 { runM with eth := upd runM.eth 7 fun x => { x with sleeping := true } }),
      by decide +kernel⟩,
    ⟨7, at_ (par P.eth_tc10_enable 7 1 { mod := { state := .sleep } }), by decide +kernel⟩,
    ⟨7, 4, at_ verifyM, by decide +kernel⟩,
    ⟨7, 1, at_ verifyM, by decide +kernel⟩,
    ⟨[{ port := 7, peers := 1 }], at_ runM, by decide +kernel⟩⟩

theorem witness_DoipEventsComplete :
    (∃ (x : Level) (s : State), (debounced false (prm s.m P.io_doip_act_debounce) x = some true) ∧ (bit s.m.io.din 12
      = false) ∧ (s.m.mod.state ≠ .off) ∧ ((s.m.mod.state ≠ .sleep)) ∧ (powered s.m = true)) ∧
    (∃ (x : Level) (s : State), (debounced false (prm s.m P.io_doip_act_debounce) x = some false) ∧ (bit s.m.io.din
      12 = true) ∧ (s.m.mod.state ≠ .off) ∧ ((s.m.mod.state ≠ .sleep)) ∧ (powered s.m = true)) ∧
    (∃ (t : Nat) (s : State), (s.m.doip.deassertedAt = some t) ∧ (prm s.m P.eth_doip_activation_mode 10 ≠ 1) ∧ (t +
      prmNs s.m P.eth_doip_deactivation_delay 10 + 1200 ≤ s.base.now)) ∧
    (∃ (s : State), (doipServed s.m = true) ∧ (s.m.doip.announced < announceNum)) ∧
    (∃ (type : Nat) (payload : List Byte) (s : State), (doipServed s.m = true) ∧ ((type = 1 ∨ type = 2 ∧ payload =
      eidBytes s.m ∨ type = 3 ∧ payload = vinBytes s.m))) ∧
    (∃ (type : Nat) (payload : List Byte) (s : State), (doipServed s.m = true) ∧ ((type = 1 ∨ type = 2 ∧ payload =
      eidBytes s.m ∨ type = 3 ∧ payload = vinBytes s.m))) ∧
    (∃ (type : Nat) (payload : List Byte) (s : State), (doipServed s.m = true) ∧ ((type = 1 ∨ type = 2 ∧ payload =
      eidBytes s.m ∨ type = 3 ∧ payload = vinBytes s.m))) ∧
    (∃ (s : State), (doipServed s.m = true)) ∧
    (∃ (s : State), (doipServed s.m = true)) ∧
    (∃ (s : State), (doipServed s.m = true)) ∧
    (∃ (conn : Nat) (sa : Nat) (type : Nat) (s : State), (doipServed s.m = true) ∧ (sa < 65536) ∧ (routingCode s.m
      conn sa type = 0x10)) ∧
    (∃ (conn : Nat) (sa : Nat) (type : Nat) (s : State), (doipServed s.m = true) ∧ (sa < 65536) ∧ (routingCode s.m
      conn sa type = 0x10)) ∧
    (∃ (conn : Nat) (sa : Nat) (type : Nat) (s : State), (doipServed s.m = true) ∧ (sa < 65536) ∧ (routingCode s.m
      conn sa type ≠ 0x10)) ∧
    (∃ (conn : Nat) (sa : Nat) (ta : Nat) (data : List Byte) (code : Nat) (s : State), (doipServed s.m = true) ∧ (sa
      < 65536) ∧ (ta < 65536) ∧ (diagRefused (touchConn s.base conn ⟨s.m, []⟩).m conn sa ta data.length = some code)) ∧
    (∃ (conn : Nat) (sa : Nat) (ta : Nat) (data : List Byte) (s : State), (doipServed s.m = true) ∧ (sa < 65536) ∧
      (ta < 65536) ∧ (diagRefused (touchConn s.base conn ⟨s.m, []⟩).m conn sa ta data.length = none)) :=
  ⟨⟨⟨6000, 255⟩, at_ runM, by decide +kernel⟩,
    ⟨⟨3500, 255⟩, at_ { runM with io := { din := 0x1000 } }, by decide +kernel⟩,
    ⟨1000 * 2 ^ 32 - 3600000001200,
      at_ { runM with doip := { deassertedAt := some (1000 * 2 ^ 32 - 3600000001200) } }, by decide +kernel⟩,
    ⟨at_ { doipM with doip := { active := true, announced := 2 } }, by decide +kernel⟩,
    ⟨1, [], at_ doipM, by decide +kernel⟩,
    ⟨2, eidBytes (at_ doipM).m, at_ doipM, by decide +kernel⟩,
    ⟨3, vinBytes (at_ doipM).m, at_ doipM, by decide +kernel⟩,
    ⟨at_ doipM, by decide +kernel⟩,
    ⟨at_ doipM, by decide +kernel⟩,
    ⟨at_ doipM, by decide +kernel⟩,
    ⟨4, 0x0E00, 1, at_ doipM, by decide +kernel⟩,
    ⟨4, 0x0EFF, 0, at_ (doipM [{ conn := 4, tester := 0x0EFF, last := 0 }]), by decide +kernel⟩,
    ⟨4, 0x0EFF, 2, at_ doipM, by decide +kernel⟩,
    ⟨4, 0x0EFF, 0, [], _, at_ doipM, by decide +kernel, by decide +kernel, by decide +kernel, rfl⟩,
    ⟨4, 0x0EFF, 0x4000 + 256 * 21, zeros 4095, at_ diagM, by decide +kernel⟩⟩

theorem witness_TimeEventsComplete :
    (∃ (tb : Nat) (s : State), (tb < 4) ∧ (clockRuns s.m = true)) ∧
    (∃ (g : GptpSync) (s : State), (g.port < 10) ∧ (gptpRunning s.m = true) ∧ (gptpRole s.m g.port = 2) ∧ (asCapable
      s.m g.port = true) ∧ (g.domain = 0) ∧ (prm s.m P.time_tb0_mode ≠ 2)) ∧
    (∃ (g : GptpSync) (s : State), (g.port < 10) ∧ (gptpRunning s.m = true) ∧ (gptpRole s.m g.port = 2) ∧ (asCapable
      s.m g.port = true) ∧ (g.domain = 0) ∧ (prm s.m P.time_tb0_mode = 2)) ∧
    (∃ (g : GptpSync) (s : State), (g.port < 10) ∧ (gptpRunning s.m = true) ∧ (gptpRole s.m g.port = 2) ∧ (asCapable
      s.m g.port = true) ∧ (g.domain ≠ 0) ∧ (g.domain = prm s.m P.time_gptp_domain_b)) ∧
    (∃ (s : State), (gptpRunning s.m = true) ∧ (prm s.m P.time_tb0_mode = 2)) ∧
    (∃ (port : Nat) (s : State), (port < 10) ∧ (gptpRunning s.m = true) ∧ (gptpRole s.m port ≠ 0) ∧ ((ethAt s.m
      port).up = true) ∧ (prm s.m P.time_gptp_pdelay_mode ≠ 1)) ∧
    (∃ (tb : Nat) (o : Int) (l : Nat) (s : State), (tb < 2) ∧ (managed s.m = true) ∧ (fullService s.m = true) ∧
      (servoActive s.m tb = true) ∧ ((servoOf s.m tb).st = 2) ∧ ((servoOf s.m tb).prev = some (o, l))) ∧
    (∃ (s : State), ((servoOf s.m 1).st = 3) ∧ (managed s.m = true) ∧ (fullService s.m = true) ∧ ((servoOf s.m
      1).heldAt + prmNs s.m P.time_holdover_limit + 1200 ≤ s.base.now)) ∧
    (∃ (s : State), ((servoOf s.m 0).st = 3) ∧ (managed s.m = true) ∧ (fullService s.m = true) ∧ ((servoOf s.m
      0).heldAt + prmNs s.m P.time_holdover_limit + 1200 ≤ s.base.now) ∧ (prm s.m P.time_tb0_failover = 2)) ∧
    (∃ (s : State), ((servoOf s.m 0).st = 3) ∧ (managed s.m = true) ∧ (fullService s.m = true) ∧ ((servoOf s.m
      0).heldAt + prmNs s.m P.time_holdover_limit + 1200 ≤ s.base.now) ∧ (prm s.m P.time_tb0_failover ≠ 1) ∧ (prm s.m
      P.time_tb0_failover ≠ 2)) ∧
    (∃ (s : State), ((servoOf s.m 0).st = 3) ∧ (managed s.m = true) ∧ (fullService s.m = true) ∧ ((servoOf s.m
      0).heldAt + prmNs s.m P.time_holdover_limit + 1200 ≤ s.base.now) ∧ (prm s.m P.time_tb0_failover = 1) ∧ (prm s.m
      P.time_tb1_mode = 2) ∧ (s.m.tc.s1.st = 2)) ∧
    (∃ (s : State), (s.m.mod.state ≠ .off) ∧ (s.m.mod.state ≠ .sleep)) ∧
    (∃ (tb : Nat) (rate : Nat) (u : Nat) (s : State), (tb < 2) ∧ ((servoOf s.m tb).slew = some (rate, u)) ∧ (u + 1200
      ≤ s.base.now) ∧ (managed s.m = true)) ∧
    (∃ (tb : Nat), (tb < 4)) :=
  ⟨⟨3, at_ runM, by decide +kernel⟩,
    ⟨{ port := 9, domain := 0, gm := 1, master := 5 }, at_ gptpS, by decide +kernel⟩,
    ⟨{ port := 9, domain := 0, gm := 1, master := 5 }, at_ (par P.time_tb0_mode 0 2 gptpS), by decide +kernel⟩,
    ⟨{ port := 9, domain := 127, gm := 1, master := 5 }, at_ (par P.time_gptp_domain_b 0 127 gptpS),
      by decide +kernel⟩,
    ⟨at_ (par P.time_tb0_mode 0 2 gptpS), by decide +kernel⟩,
    ⟨9, at_ gptpS, by decide +kernel⟩,
    ⟨1, 3, 5, at_ (par P.time_tb1_mode 0 2 { runM with tc := { s1 := { st := 2, prev := some (3, 5) } } }),
      by decide +kernel⟩,
    ⟨at_ { runM with tc := { s1 := { st := 3 } } }, by decide +kernel⟩,
    ⟨at_ (par P.time_tb0_failover 0 2 { runM with tc := { s0 := { st := 3 } } }), by decide +kernel⟩,
    ⟨at_ (par P.time_tb0_failover 0 0 { runM with tc := { s0 := { st := 3 } } }), by decide +kernel⟩,
    ⟨at_ (par P.time_tb1_mode 0 2 (par P.time_tb0_failover 0 1 { runM with tc := { s0 := { st := 3 }, s1 := { st := 2 } } })),
      by decide +kernel⟩,
    ⟨at_ { mod := { state := .waking } }, by decide +kernel⟩,
    ⟨1, 5, 1000 * 2 ^ 32 - 1200, at_ { runM with tc := { s1 := { slew := some (5, 1000 * 2 ^ 32 - 1200) } } },
      by decide +kernel⟩,
    ⟨3, by decide +kernel⟩⟩

theorem witness_CtsEventsComplete :
    (∃ (ch : Nat) (s : State), (ch < 22) ∧ (ctsMaster s.m ch = true) ∧ ((canAt s.m ch).objs.get? 71 = none)) ∧
    (∃ (ch : Nat) (p : CtsPair) (t : Nat) (w1 : W) (c : List Byte) (s : State), (ch < 22) ∧ (s.m.tc.ctsTx.get? ch =
      some p) ∧ (p.sof = some t) ∧ (((canAt s.m ch).attempt == some (.obj 71)) = false) ∧ (ctsMaster s.m ch = true) ∧
      (fupCmac s.base p.sync (u8 (0x20 + p.seq) ++ beBytes 4 (t - p.seconds * nanosPerS)) (if prm s.m
      P.time_cts_fup_format == 1 then 8 else 3) (W.tc ⟨s.m, []⟩ fun x => { x with ctsTx := x.ctsTx.erase ch }) = (w1,
      some c))) ∧
    (∃ (ch : Nat) (p : CtsPair) (s : State), (ch < 22) ∧ (s.m.tc.ctsTx.get? ch = some p) ∧ (p.sof = none) ∧ (p.at_ +
      prmNs s.m P.time_cts_fup_timeout + 1200 ≤ s.base.now)) ∧
    (∃ (p : CtsPair) (fup : List Byte) (at_ : Nat) (w1 : W) (s : State), (s.m.tc.ctsRx = some p) ∧ (p.fup = some
      (fup, at_)) ∧ (prm s.m P.time_cts_follower_channel < 22) ∧ (ctsFollows s.m (prm s.m
      P.time_cts_follower_channel) = true) ∧ (at_ < p.tb2 + prmNs s.m P.time_cts_fup_timeout) ∧ (leAt fup 0 1 % 16 =
      p.seq) ∧ (beAt fup 1 4 ≤ 3999999999) ∧ (leAt p.sync 1 1 % 16 = prm s.m P.time_cts_domain) ∧ ((match
      s.m.tc.ctsLastMaster with | some t => decide (t < p.seconds * nanosPerS + beAt fup 1 4) | none => true) = true)
      ∧ (ctsVerify s.base p.sync fup (W.tc ⟨s.m, []⟩ fun x => { x with ctsRx := none }) = (w1, true))) ∧
    (∃ (p : CtsPair) (s : State), (s.m.tc.ctsRx = some p) ∧ (p.fup = none) ∧ (p.tb2 + prmNs s.m
      P.time_cts_fup_timeout + 1200 ≤ s.base.now) ∧ (fupArriving s.m (p.tb2 + prmNs s.m P.time_cts_fup_timeout) =
      false)) :=
  ⟨⟨21, at_ (par P.time_cts_master_mask 0 (2 ^ 21)), by decide +kernel⟩,
    by refine ⟨21, { seq := 15, seconds := 0, sync := zeros 8, at_ := 5, sof := some 5 }, 5, _, _,
      at_ (par P.time_cts_master_mask 0 (2 ^ 21) { runM with tc := { ctsTx := [(21, { seq := 15, seconds := 0, sync := zeros 8, at_ := 5, sof := some 5 })] } }),
      ?_, ?_, ?_, ?_, ?_, rfl⟩ <;> decide +kernel,
    ⟨21, { seq := 15, seconds := 0, sync := zeros 8, at_ := 1000 * 2 ^ 32 - 10001200 },
      at_ { runM with tc := { ctsTx := [(21, { seq := 15, seconds := 0, sync := zeros 8, at_ := 1000 * 2 ^ 32 - 10001200 })] } },
      by decide +kernel⟩,
    by refine ⟨{ seq := 15, seconds := 4294, sync := zeros 8, at_ := 5, tb2 := 5, fup := some (ctsFup, 10000004) },
      ctsFup, 10000004, _,
      at_ (par P.time_tb1_mode 0 2 (par P.time_cts_follower_channel 0 21 (par P.time_cts_require_cmac 0 0 { runM with tc := { ctsRx := some { seq := 15, seconds := 4294, sync := zeros 8, at_ := 5, tb2 := 5, fup := some (ctsFup, 10000004) } } }))),
      ?_, ?_, ?_, ?_, ?_, ?_, ?_, ?_, ?_, rfl⟩ <;> decide +kernel,
    ⟨{ seq := 15, seconds := 0, sync := zeros 8, at_ := 5, tb2 := 1000 * 2 ^ 32 - 10001200 },
      at_ { runM with tc := { ctsRx := some { seq := 15, seconds := 0, sync := zeros 8, at_ := 5, tb2 := 1000 * 2 ^ 32 - 10001200 } } },
      by decide +kernel⟩⟩

theorem witness_TimeRequestsAnswer :
    (∃ (r : Request) (s : State) (i : Nat), Accepted opTimeRead r s i) ∧
    (∃ (r : Request) (s : State) (i : Nat), Accepted opTimeAdjust r s i ∧ (12 ≤ r.payload.length) ∧ (leAt r.payload 0
      1 < 2) ∧ (leAt r.payload 1 1 = 0) ∧ (hostMayAdjust s.m (leAt r.payload 0 1) true = true)) ∧
    (∃ (rate : Nat) (r : Request) (s : State) (i : Nat), Accepted opTimeAdjust r s i ∧ (12 ≤ r.payload.length) ∧
      (leAt r.payload 0 1 < 2) ∧ (leAt r.payload 1 1 = 1) ∧ (rate = (match (servoOf s.m (leAt r.payload 0 1)).slew
      with | some (x, _) => x | none => (s.base.time.get (leAt r.payload 0 1)).incr.toNat)) ∧ (incrValid (slewIncr
      s.m rate (signed 64 (leAt r.payload 4 8))) = true) ∧ (hostMayAdjust s.m (leAt r.payload 0 1) false = true)) ∧
    (∃ (r : Request) (s : State) (i : Nat), Accepted opTimeSetRate r s i ∧ (12 ≤ r.payload.length) ∧ (leAt r.payload
      0 1 < 2) ∧ (incrValid (leAt r.payload 4 8) = true) ∧ (hostMayAdjust s.m (leAt r.payload 0 1) false = true)) ∧
    (∃ (r : Request) (s : State) (i : Nat), Accepted opTimeTb3Advance r s i ∧ (8 ≤ r.payload.length) ∧ (1 ≤ leAt
      r.payload 0 8) ∧ (leAt r.payload 0 8 ≤ prm s.m P.time_tb3_max_step)) ∧
    (∃ (r : Request) (s : State) (i : Nat), Accepted opTimePortStatus r s i) :=
  ⟨⟨ask opTimeRead ([]), at_ (hosted runM), 0, ask_accepted (by decide +kernel)⟩,
    ⟨ask opTimeAdjust ([1, 0] ++ zeros 10), at_ (hosted runM), 0, ask_accepted (by decide +kernel),
      by decide +kernel⟩,
    ⟨0x0400000000, ask opTimeAdjust ([1, 1] ++ zeros 10), at_ (hosted runM), 0, ask_accepted (by decide +kernel),
      by decide +kernel⟩,
    ⟨ask opTimeSetRate ([1, 0, 0, 0] ++ u64 0x0400000000), at_ (hosted runM), 0, ask_accepted (by decide +kernel),
      by decide +kernel⟩,
    ⟨ask opTimeTb3Advance (u64 1), at_ (hosted runM), 0, ask_accepted (by decide +kernel), by decide +kernel⟩,
    ⟨ask opTimePortStatus ([]), at_ (hosted runM), 0, ask_accepted (by decide +kernel)⟩⟩

theorem witness_SleepEventsComplete :
    (∃ (l : List WakeSource), (l.all (fun x => decide (x.code < 10)) = true)) ∧
    (∃ (port : Nat) (node : Nat) (x : Reason) (s : State), (port < 44) ∧ (s.m.slp.reasons.find? (fun r => r.kind == 0
      && r.unit == port && r.node == node && s.base.expired r.until_) = some x)) ∧
    (∃ (g : Nat) (t : Nat) (s : State), (g < 8) ∧ (atD s.m.slp.woke g none = some t) ∧ (t + prmNs s.m
      P.sleep_min_awake_time + 1200 ≤ s.base.now)) ∧
    (∃ (g : Nat) (s : State), (g < 8) ∧ (bit (prm s.m P.sleep_nm_control) 24 = true) ∧ (nmEnabled s.m = true) ∧
      (s.m.mod.state = .run) ∧ (s.m.mod.firmwareRunning = true) ∧ ((inputHolds s.m || heldBy s.m g 2 || (atD
      s.m.slp.woke g none).isSome) = true)) ∧
    (∃ (n : Nat) (t : Nat) (s : State), (n < 8) ∧ (s.m.slp.linWake.get? n = some t) ∧ (t ≤ s.base.now)) ∧
    (∃ (s : State), (s.m.mod.state = .run) ∧ (s.m.mod.firmwareRunning = true) ∧ (prmB s.m P.sleep_sleep_enable =
      true) ∧ (internalReason s.m = false) ∧ (s.m.mod.holds = []) ∧ (s.m.slp.groups.all (fun g => g != 0) = true)) ∧
    (∃ (s : State), (s.m.mod.state = .sleepPrep) ∧ (prepEnd s.m + 1200 ≤ s.base.now)) ∧
    (∃ (s : State), (s.m.mod.state = .safe) ∧ (inputHolds s.m = false) ∧ (s.m.slp.quietSince + 2 * prmNs s.m
      P.sleep_nm_timeout + 1200 ≤ s.base.now)) ∧
    (∃ (t : Nat) (x : WakeRec) (rest : List WakeRec) (s : State), (s.m.slp.confirm = some t) ∧ (s.m.slp.records = x
      :: rest) ∧ (t + 1200 ≤ s.base.now)) ∧
    (∃ (s : State), (groupsRun s.m = true)) ∧
    (∃ (s : State), (groupsRun s.m = true)) ∧
    (∃ (s : State), (groupsRun s.m = true)) :=
  ⟨⟨[{ code := 9 }], by decide +kernel⟩,
    ⟨43, 5, { kind := 0, unit := 43, node := 5, group := 7, until_ := 1000 * 2 ^ 32 - 1200, since := 0 },
      at_ { runM with slp := { reasons := [{ kind := 0, unit := 43, node := 5, group := 7, until_ := 1000 * 2 ^ 32 - 1200, since := 0 }] } },
      by decide +kernel⟩,
    ⟨7, 0, at_ { runM with slp := { woke := List.replicate 8 (some 0) } }, by decide +kernel⟩,
    ⟨7, at_ (par P.sleep_nm_control 0 (2 ^ 24) (par P.sleep_nm_can_id 0 (2 ^ 31))), by decide +kernel⟩,
    ⟨7, 1000 * 2 ^ 32, at_ { runM with slp := { linWake := [(7, 1000 * 2 ^ 32)] } }, by decide +kernel⟩,
    ⟨at_ { runM with slp := { groups := [1, 2, 1, 2, 1, 2, 1, 2] } }, by decide +kernel⟩,
    ⟨at_ { mod := { state := .sleepPrep }, slp := { prepAt := 1000 * 2 ^ 32 - 500001200 } }, by decide +kernel⟩,
    ⟨at_ { mod := { state := .safe } }, by decide +kernel⟩,
    ⟨5, { source := 9, inst := 255 }, [],
      at_ { runM with slp := { confirm := some 5, records := [{ source := 9, inst := 255 }] } }, by decide +kernel⟩,
    ⟨at_ runM, by decide +kernel⟩,
    ⟨at_ { mod := { state := .unmanaged } }, by decide +kernel⟩,
    ⟨at_ { mod := { state := .sleepPrep } }, by decide +kernel⟩⟩

theorem witness_SleepRequestsAnswer :
    (∃ (r : Request) (s : State) (i : Nat), Accepted opSleepStatus r s i) ∧
    (∃ (r : Request) (s : State) (i : Nat), Accepted opSleepKeepAwake r s i ∧ (8 ≤ r.payload.length) ∧ (leAt
      r.payload 4 4 = 0)) ∧
    (∃ (r : Request) (s : State) (i : Nat), Accepted opSleepKeepAwake r s i ∧ (8 ≤ r.payload.length) ∧ (leAt
      r.payload 4 4 ≠ 0)) ∧
    (∃ (r : Request) (s : State) (i : Nat), Accepted opSleepWakeRecords r s i ∧ (4 ≤ r.payload.length) ∧ (1 ≤ leAt
      r.payload 0 1) ∧ (leAt r.payload 0 1 ≤ 16)) ∧
    (∃ (r : Request) (s : State) (i : Nat), Accepted opSleepWakeRecords r s i ∧ (4 ≤ r.payload.length) ∧ (1 ≤ leAt
      r.payload 0 1) ∧ (leAt r.payload 0 1 ≤ 16)) ∧
    (∃ (r : Request) (s : State) (i : Nat), Accepted opSleepFilterWrite r s i ∧ (28 ≤ r.payload.length) ∧ (leAt
      r.payload 0 1 ≤ 7) ∧ (leAt r.payload 12 1 % 16 ≤ 8)) ∧
    (∃ (r : Request) (s : State) (i : Nat), Accepted opSleepFilterRead r s i ∧ (4 ≤ r.payload.length) ∧ (leAt
      r.payload 0 1 ≤ 7)) ∧
    (∃ (r : Request) (s : State) (i : Nat), Accepted opSleepLedgerRead r s i ∧ (4 ≤ r.payload.length) ∧ (leAt
      r.payload 0 1 ≤ 63) ∧ (1 ≤ leAt r.payload 1 1) ∧ (leAt r.payload 1 1 ≤ 64)) ∧
    (∃ (r : Request) (s : State) (i : Nat), Accepted opSleepLedgerClear r s i) :=
  ⟨⟨ask opSleepStatus ([]), at_ (hosted runM), 0, ask_accepted (by decide +kernel)⟩,
    ⟨ask opSleepKeepAwake (zeros 8), at_ (hosted runM), 0, ask_accepted (by decide +kernel), by decide +kernel⟩,
    ⟨ask opSleepKeepAwake (u32 255 ++ u32 (2 ^ 32 - 1)), at_ (hosted runM), 0, ask_accepted (by decide +kernel),
      by decide +kernel⟩,
    ⟨ask opSleepWakeRecords ([1, 0, 0, 0]), at_ (hosted runM), 0, ask_accepted (by decide +kernel),
      by decide +kernel⟩,
    ⟨ask opSleepWakeRecords ([16, 0, 0, 0]), at_ (hosted runM), 0, ask_accepted (by decide +kernel),
      by decide +kernel⟩,
    ⟨ask opSleepFilterWrite ([7] ++ zeros 11 ++ [8] ++ zeros 15), at_ (hosted runM), 0,
      ask_accepted (by decide +kernel), by decide +kernel⟩,
    ⟨ask opSleepFilterRead ([7, 0, 0, 0]), at_ (hosted runM), 0, ask_accepted (by decide +kernel), by decide +kernel⟩,
    ⟨ask opSleepLedgerRead ([63, 64, 0, 0]), at_ (hosted runM), 0, ask_accepted (by decide +kernel),
      by decide +kernel⟩,
    ⟨ask opSleepLedgerClear ([]), at_ (hosted runM), 0, ask_accepted (by decide +kernel)⟩⟩

theorem witness_ChannelEventsComplete :
    (∃ (d : Nat) (bad : List Nat) (s : State), (d < 5) ∧ (bad.all (fun k => k / 4 == d) = true) ∧ (hbRuns s.m d
      s.base.now = true)) ∧
    (∃ (d : Nat) (s : State), (d < 5) ∧ (hbRuns s.m d s.base.now = true)) ∧
    (∃ (d : Nat), (d < 5)) ∧
    (∃ (d : Nat) (s : State), (d < 5) ∧ (s.m.ident.variantG = false) ∧ ((dieAt s.m d).lost = false) ∧ ((dieAt s.m
      d).last + 20000000 + 1200 ≤ s.base.now)) ∧
    (∃ (ch : Nat) (t : Nat) (s : State), (isChan ch = true) ∧ ((chanAt s.m ch).inrushEnd = some t) ∧ (t ≤
      s.base.now)) ∧
    (∃ (ch : Nat) (current : ChanSample) (s : State), (isChan ch = true) ∧ ((chanAt (chanTwins s.base ch ⟨s.m, []⟩).m
      ch).on = true) ∧ (limitInForce s.base s.m ch ≤ current.mA) ∧ (chanPrm s.m P.switch_fast_trip_time ch ≤
      current.us) ∧ (onFor s.base (chanAt s.m ch) current.us 0 = true)) ∧
    (∃ (ch : Nat) (current : ChanSample) (s : State), (isChan ch = true) ∧ ((chanAt (chanTwins s.base ch ⟨s.m, []⟩).m
      ch).on = true) ∧ (chanPrm s.m P.switch_overload_current ch < current.mA) ∧ (chanPrm s.m P.switch_overload_time
      ch ≤ current.us) ∧ (onFor s.base (chanAt s.m ch) current.us 0 = true)) ∧
    (∃ (ch : Nat) (temp : Int) (s : State), (isChan ch = true) ∧ ((chanAt (chanTwins s.base ch ⟨s.m, []⟩).m ch).on =
      true) ∧ (1750 < temp)) ∧
    (∃ (ch : Nat) (s : State), (isChan ch = true) ∧ ((chanAt s.m ch).retryAt.isSome = true) ∧ ((chanAt s.m ch).cause
      = 4)) ∧
    (∃ (ch : Nat) (t : Nat) (s : State), (isChan ch = true) ∧ ((chanAt s.m ch).retryAt = some t) ∧ ((chanAt s.m
      ch).cause ≠ 4) ∧ (t ≤ s.base.now)) ∧
    (∃ (ch : Nat) (s : State), (isChan ch = true) ∧ ((chanAt s.m ch).on = true) ∧ ((chanAt s.m ch).onSince +
      1000000000 ≤ s.base.now)) ∧
    (∃ (ch : Nat) (current : ChanSample) (s : State), (isChan ch = true) ∧ ((chanAt s.m ch).on = true) ∧ ((chanAt s.m
      ch).openLoad = false) ∧ (inWindow s.base (chanAt s.m ch) = false) ∧ (current.mA < chanPrm s.m
      P.switch_open_load_threshold ch) ∧ (chanPrm s.m P.switch_open_load_time ch ≤ current.us) ∧ (onFor s.base
      (chanAt s.m ch) current.us (max 200000 (chanPrmNs s.m P.switch_inrush_time ch)) = true)) ∧
    (∃ (ch : Nat) (current : Nat) (s : State), (isChan ch = true) ∧ ((chanAt s.m ch).on = true) ∧ ((chanAt s.m
      ch).openLoad = true) ∧ (chanPrm s.m P.switch_open_load_threshold ch < current)) ∧
    (∃ (ch : Nat) (s : State), (isChan ch = true) ∧ ((chanAt s.m ch).out = 2) ∧ (cmdMode (chanAt s.m ch).word = 2) ∧
      (phaseOk s.m ch s.base.now = true)) ∧
    (∃ (d : Nat) (s : State), (d < 5) ∧ (s.m.sw.inhibit = none) ∧ ((dieAt s.m d).inhibited = true) ∧
      (s.m.sw.inhibitEnd + 2000000 * d ≤ s.base.now)) :=
  ⟨⟨4, [16, 19], at_ { runM with sw := { running := true } }, by decide +kernel⟩,
    ⟨4, at_ { runM with sw := { running := true } }, by decide +kernel⟩,
    ⟨4, by decide +kernel⟩,
    ⟨4, at_ { runM with sw := { dies := List.replicate 5 { lost := false, last := 1000 * 2 ^ 32 - 20001200 } } },
      by decide +kernel⟩,
    ⟨19, 1000 * 2 ^ 32,
      at_ { runM with sw := { chans := upd runM.sw.chans 19 fun c => { c with inrushEnd := some (1000 * 2 ^ 32) } } },
      by decide +kernel⟩,
    ⟨19, ⟨4294967295, 1000000⟩,
      at_ { runM with sw := { chans := upd runM.sw.chans 19 fun c => { c with out := 1 } } }, by decide +kernel⟩,
    ⟨19, ⟨4294967295, 1000000⟩,
      at_ { runM with sw := { chans := upd runM.sw.chans 19 fun c => { c with out := 1 } } }, by decide +kernel⟩,
    ⟨19, 1751, at_ { runM with sw := { chans := upd runM.sw.chans 19 fun c => { c with out := 2, duty := 1 } } },
      by decide +kernel⟩,
    ⟨19, at_ { runM with sw := { chans := upd runM.sw.chans 19 fun c => { c with retryAt := some 5, cause := 4 } } },
      by decide +kernel⟩,
    ⟨19, 1000 * 2 ^ 32,
      at_ { runM with sw := { chans := upd runM.sw.chans 19 fun c => { c with retryAt := some (1000 * 2 ^ 32), cause := 1 } } },
      by decide +kernel⟩,
    ⟨19,
      at_ { runM with sw := { chans := upd runM.sw.chans 19 fun c => { c with out := 1, onSince := 1000 * 2 ^ 32 - 1000000000 } } },
      by decide +kernel⟩,
    ⟨19, ⟨0, 60000000⟩, at_ { runM with sw := { chans := upd runM.sw.chans 19 fun c => { c with out := 1 } } },
      by decide +kernel⟩,
    ⟨19, 65535,
      at_ { runM with sw := { chans := upd runM.sw.chans 19 fun c => { c with out := 1, openLoad := true } } },
      by decide +kernel⟩,
    ⟨19,
      at_ { runM with sw := { chans := upd runM.sw.chans 19 fun c => { c with out := 2, word := 2, duty := 1 } } },
      by decide +kernel⟩,
    ⟨4,
      at_ { runM with sw := { inhibitEnd := 1000 * 2 ^ 32 - 8000000, dies := List.replicate 5 { inhibited := true } } },
      by decide +kernel⟩⟩

theorem witness_ChannelRequestsAnswer :
    (∃ (r : Request) (s : State) (i : Nat), Accepted opChannelStatus r s i ∧ (4 ≤ r.payload.length) ∧ (1 ≤ leAt
      r.payload 1 1) ∧ (leAt r.payload 0 1 + leAt r.payload 1 1 ≤ 20) ∧ (s.m.ident.variantG = false)) ∧
    (∃ (r : Request) (s : State) (i : Nat), Accepted opChannelStatus r s i ∧ (4 ≤ r.payload.length) ∧ (1 ≤ leAt
      r.payload 1 1) ∧ (leAt r.payload 0 1 + leAt r.payload 1 1 ≤ 20) ∧ (s.m.ident.variantG = false)) ∧
    (∃ (r : Request) (s : State) (i : Nat), Accepted opChannelTripLog r s i ∧ (4 ≤ r.payload.length) ∧ (1 ≤ leAt
      r.payload 0 1) ∧ (leAt r.payload 0 1 ≤ 32) ∧ (s.m.ident.variantG = false)) ∧
    (∃ (r : Request) (s : State) (i : Nat), Accepted opChannelTripLog r s i ∧ (4 ≤ r.payload.length) ∧ (1 ≤ leAt
      r.payload 0 1) ∧ (leAt r.payload 0 1 ≤ 32) ∧ (s.m.ident.variantG = false)) ∧
    (∃ (r : Request) (s : State) (i : Nat), Accepted opChannelSet r s i ∧ (1 ≤ leAt r.payload 0 1) ∧ (leAt r.payload
      0 1 ≤ 20) ∧ (r.payload.length = 4 + 12 * leAt r.payload 0 1) ∧ (firstFail setCheck [] (setEntries r.payload
      (leAt r.payload 0 1)) = none) ∧ (s.m.ident.variantG = false) ∧ (hostCommands s.m = true) ∧ (firstFail (setState
      (entered opChannelSet r i s).m) [] (setEntries r.payload (leAt r.payload 0 1)) = none)) ∧
    (∃ (r : Request) (s : State) (i : Nat), Accepted opChannelClear r s i ∧ (4 ≤ r.payload.length) ∧ (leAt r.payload
      0 4 < 2 ^ 20) ∧ (s.m.ident.variantG = false) ∧ (hostCommands s.m = true)) ∧
    (∃ (r : Request) (s : State) (i : Nat), Accepted opChannelAllOff r s i ∧ (s.m.ident.variantG = false) ∧
      ((hostCommands s.m || s.m.mod.state == .safe) = true)) ∧
    (∃ (r : Request) (s : State) (i : Nat), Accepted opChannelAllOff r s i ∧ (s.m.ident.variantG = false) ∧
      ((hostCommands s.m || s.m.mod.state == .safe) = true)) :=
  ⟨⟨ask opChannelStatus ([0, 20, 0, 0]), at_ (hosted runM), 0, ask_accepted (by decide +kernel), by decide +kernel⟩,
    ⟨ask opChannelStatus ([19, 1, 0, 0]), at_ (hosted runM), 0, ask_accepted (by decide +kernel), by decide +kernel⟩,
    ⟨ask opChannelTripLog ([1, 0, 0, 0]), at_ (hosted runM), 0, ask_accepted (by decide +kernel), by decide +kernel⟩,
    ⟨ask opChannelTripLog ([32, 0, 0, 0]), at_ (hosted runM), 0, ask_accepted (by decide +kernel), by decide +kernel⟩,
    ⟨ask opChannelSet ([1, 0, 0, 0, 19, 0, 0, 0] ++ u32 1 ++ u32 (2 ^ 32 - 2)), at_ (hosted runM), 0,
      ask_accepted (by decide +kernel), by decide +kernel⟩,
    ⟨ask opChannelClear (u32 (2 ^ 20 - 1)), at_ (hosted runM), 0, ask_accepted (by decide +kernel),
      by decide +kernel⟩,
    ⟨ask opChannelAllOff ([]), at_ (hosted runM), 0, ask_accepted (by decide +kernel), by decide +kernel⟩,
    ⟨ask opChannelAllOff [], at_ (hosted { mod := { state := .safe, firmwareRunning := true } }), 0,
      ask_accepted (by decide +kernel), by decide +kernel⟩⟩

theorem witness_KeyAndSecuredTrafficCompletes :
    (∃ (r : Request) (s : State) (i : Nat), Accepted opKeyStatus r s i ∧ (keyOpsInUse s.m < 8) ∧ (4 ≤
      r.payload.length) ∧ (leAt r.payload 0 1 + (if leAt r.payload 1 1 == 0 then 256 else leAt r.payload 1 1) ≤ 256)) ∧
    (∃ (r : Request) (s : State) (i : Nat), Accepted opKeyStatus r s i ∧ (keyOpsInUse s.m < 8) ∧ (4 ≤
      r.payload.length) ∧ (leAt r.payload 0 1 + (if leAt r.payload 1 1 == 0 then 256 else leAt r.payload 1 1) ≤ 256)) ∧
    (∃ (r : Request) (s : State) (i : Nat), Accepted opKeyCertRead r s i ∧ (keyOpsInUse s.m < 8)) ∧
    (∃ (r : Request) (s : State) (i : Nat), Accepted opKeyAttest r s i ∧ (keyOpsInUse s.m < 8) ∧ (32 ≤
      r.payload.length) ∧ (prm s.m P.security_attest_enable ≠ 0)) ∧
    (∃ (pk : List Byte) (w : W) (p : List Byte) (r : Request) (s : State) (i : Nat), Accepted opKeyUpdate r s i ∧
      (r.posted = false) ∧ (108 ≤ r.payload.length) ∧ (leAt r.payload 0 8 = s.m.ident.uniqueId) ∧ ((prm (useTwin
      s.base P.security_key_update_enable 0 0 (entered opKeyUpdate r i s)).m P.security_key_update_enable == 0) =
      false) ∧ (keyUpdating (useTwin s.base P.security_key_update_enable 0 0 (entered opKeyUpdate r i s)).m (keyMsg
      r.payload).slot = false) ∧ (keyOpsInUse (useTwin s.base P.security_key_update_enable 0 0 (entered opKeyUpdate r
      i s)).m < 8) ∧ ((keyMsg r.payload).op ≤ 2) ∧ (parentFits (useTwin s.base P.security_key_update_enable 0 0
      (entered opKeyUpdate r i s)).m (keyMsg r.payload) = true) ∧ (parentKey (if decide ((keyMsg r.payload).parent <
      256) && (keyMsg r.payload).parent != (keyMsg r.payload).slot then readRecord s.base (keyMsg r.payload).parent
      (useTwin s.base P.security_key_update_enable 0 0 (entered opKeyUpdate r i s)) else (useTwin s.base
      P.security_key_update_enable 0 0 (entered opKeyUpdate r i s))).m (keyMsg r.payload) = some pk) ∧ (checkKey
      s.base (asked r i s) (keyMsg r.payload) pk (if decide ((keyMsg r.payload).parent < 256) && (keyMsg
      r.payload).parent != (keyMsg r.payload).slot then readRecord s.base (keyMsg r.payload).parent (useTwin s.base
      P.security_key_update_enable 0 0 (entered opKeyUpdate r i s)) else (useTwin s.base P.security_key_update_enable
      0 0 (entered opKeyUpdate r i s))) = (w, .ok p))) ∧
    (∃ (s : State), (powered s.m = true)) ∧
    (∃ (x : Job) (rest : List Job) (s : State), (s.m.flow.zsp = x :: rest) ∧ (flowValid (touch s.base [entryKey 0x0D
      (Sp.securedFlow.get x.sp)] ⟨s.m, []⟩).m (Sp.securedFlow.get x.sp) = true) ∧ (Sf.sign.on (flowGet (touch s.base
      [entryKey 0x0D (Sp.securedFlow.get x.sp)] ⟨s.m, []⟩).m (Sp.securedFlow.get x.sp)) = false) ∧ (zspIgnored
      ((touch s.base [entryKey 0x0D (Sp.securedFlow.get x.sp)] ⟨s.m, []⟩).flow fun y => { y with zsp := rest }).m x =
      false)) ∧
    (∃ (x : Job) (rest : List Job) (s : State), (s.m.flow.zsp = x :: rest) ∧ (flowValid (touch s.base [entryKey 0x0D
      (Sp.securedFlow.get x.sp)] ⟨s.m, []⟩).m (Sp.securedFlow.get x.sp) = true) ∧ (Sf.sign.on (flowGet (touch s.base
      [entryKey 0x0D (Sp.securedFlow.get x.sp)] ⟨s.m, []⟩).m (Sp.securedFlow.get x.sp)) = true) ∧ (zspIgnored ((touch
      s.base [entryKey 0x0D (Sp.securedFlow.get x.sp)] ⟨s.m, []⟩).flow fun y => { y with zsp := rest }).m x = false)) ∧
    (∃ (ch : Nat) (f : CanRx) (s : State), (ch < 22) ∧ (f.fmt < 4) ∧ (f.id < 2 ^ 29) ∧ (f.data.length = 12) ∧
      (fullService s.m = true) ∧ (zspPort s.m (canPort ch) 0 = true)) ∧
    (∃ (k : Nat) (w1 : W) (key : List Byte) (s : State), (k < 2048) ∧ (fullService s.m = true) ∧ (flowValid s.m k =
      true) ∧ (Sf.sign.on (flowGet s.m k) = true) ∧ (countsOn (flowGet s.m k) = true) ∧ (internalFits s.m 13 12 =
      true) ∧ (useKey s.base (Sf.keySlot.get (flowGet s.m k)) 0 Attr.encrypt ⟨s.m, []⟩ = (w1, some key))) :=
  ⟨⟨ask opKeyStatus (zeros 4), at_ (hosted runM), 0, ask_accepted (by decide +kernel), by decide +kernel⟩,
    ⟨ask opKeyStatus ([255, 1, 0, 0]), at_ (hosted runM), 0, ask_accepted (by decide +kernel), by decide +kernel⟩,
    ⟨ask opKeyCertRead ([]), at_ (hosted runM), 0, ask_accepted (by decide +kernel), by decide +kernel⟩,
    ⟨ask opKeyAttest (zeros 32), at_ (hosted runM), 0, ask_accepted (by decide +kernel), by decide +kernel⟩,
    by refine ⟨transportKey hostS.m, key_checked.choose, key_checked.choose_spec.choose, ask opKeyUpdate keyPayload,
      hostS, 0, ask_accepted (by decide +kernel), ?_, keyPayload_length, ?_, ?_, ?_, ?_, ?_, ?_, rfl,
      key_checked.choose_spec.choose_spec⟩ <;> decide +kernel,
    ⟨at_ runM, by decide +kernel⟩,
    ⟨{ frame := { port := 43, fmt := 0 }, sp := 2047 * 2 ^ 17 }, [],
      at_ { runM with tab := runM.tab.put 0x0D 2047 (1), flow := { zsp := [{ frame := { port := 43, fmt := 0 }, sp := 2047 * 2 ^ 17 }] } },
      by decide +kernel⟩,
    ⟨{ frame := { port := 43, fmt := 0 }, sp := 2047 * 2 ^ 17 }, [],
      at_ { runM with tab := runM.tab.put 0x0D 2047 (3), flow := { zsp := [{ frame := { port := 43, fmt := 0 }, sp := 2047 * 2 ^ 17 }] } },
      by decide +kernel⟩,
    ⟨21, { fmt := 3, id := 2 ^ 29 - 1, data := zeros 12 }, at_ runM, by decide +kernel⟩,
    by refine ⟨2047, _, _,
      at_ { runM with tab := runM.tab.put 0x0D 2047 (3 + 2 ^ 64 + 2 ^ 94), keys := { slots := [(0, { st := 1, attrs := 15 })] } },
      ?_, ?_, ?_, ?_, ?_, ?_, rfl⟩ <;> decide +kernel⟩

theorem witness_JournalCompletes :
    (∃ (s : State), (powered s.m = true)) ∧
    (∃ (s : State), (s.m.jr.acc.minute < tb3Minute s.base) ∧ (powered s.m = true)) ∧
    (∃ (r : Request) (s : State) (i : Nat), Accepted opJournalStatus r s i) ∧
    (∃ (l : List JRecord) (r : Request) (s : State) (i : Nat), Accepted opJournalRead r s i ∧ (8 ≤ r.payload.length)
      ∧ (64 ≤ leAt r.payload 4 4) ∧ (leAt r.payload 4 4 ≤ 64896) ∧ (l = (if leAt r.payload 0 4 = 0 then s.m.jr.ring
      else s.m.jr.ring.dropWhile (fun x => x.seq != leAt r.payload 0 4))) ∧ ((leAt r.payload 0 4 ≠ 0 → l ≠ []))) ∧
    (∃ (l : List JRecord) (r : Request) (s : State) (i : Nat), Accepted opJournalRead r s i ∧ (8 ≤ r.payload.length)
      ∧ (64 ≤ leAt r.payload 4 4) ∧ (leAt r.payload 4 4 ≤ 64896) ∧ (l = (if leAt r.payload 0 4 = 0 then s.m.jr.ring
      else s.m.jr.ring.dropWhile (fun x => x.seq != leAt r.payload 0 4))) ∧ ((leAt r.payload 0 4 ≠ 0 → l ≠ []))) ∧
    (∃ (r : Request) (s : State) (i : Nat), Accepted opJournalGnss r s i ∧ (4 ≤ r.payload.length) ∧ (1 ≤ leAt
      r.payload 2 1) ∧ (leAt r.payload 2 1 ≤ 2)) ∧
    (∃ (r : Request) (s : State) (i : Nat), Accepted opJournalGnss r s i ∧ (4 ≤ r.payload.length) ∧ (1 ≤ leAt
      r.payload 2 1) ∧ (leAt r.payload 2 1 ≤ 2)) ∧
    (∃ (r : Request) (s : State) (i : Nat), Accepted opJournalAnnotate r s i ∧ (1 ≤ leAt r.payload 0 1) ∧ (leAt
      r.payload 0 1 ≤ 76) ∧ (r.payload.length = 4 + leAt r.payload 0 1) ∧ (prmB s.m P.journal_enable = true)) ∧
    (∃ (r : Request) (s : State) (i : Nat), Accepted opJournalAnnotate r s i ∧ (1 ≤ leAt r.payload 0 1) ∧ (leAt
      r.payload 0 1 ≤ 76) ∧ (r.payload.length = 4 + leAt r.payload 0 1) ∧ (prmB s.m P.journal_enable = true)) ∧
    (∃ (r : Request) (s : State) (i : Nat), Accepted opJournalSealNow r s i ∧ (prmB s.m P.journal_enable = true)) :=
  ⟨⟨at_ runM, by decide +kernel⟩,
    ⟨at_ runM, by decide +kernel⟩,
    ⟨ask opJournalStatus ([]), at_ (hosted runM), 0, ask_accepted (by decide +kernel)⟩,
    ⟨[], ask opJournalRead (u32 0 ++ u32 64896), at_ (hosted runM), 0, ask_accepted (by decide +kernel),
      by decide +kernel⟩,
    ⟨[{ kind := 1, seq := 3, minute := 0, bytes := [] }], ask opJournalRead (u32 3 ++ u32 64),
      at_ { hosted runM with jr := { ring := [{ kind := 1, seq := 3, minute := 0, bytes := [] }] } }, 0,
      ask_accepted (by decide +kernel), by decide +kernel⟩,
    ⟨ask opJournalGnss ([0, 0, 1, 0]), at_ (hosted runM), 0, ask_accepted (by decide +kernel), by decide +kernel⟩,
    ⟨ask opJournalGnss ([255, 255, 2, 0]), at_ (hosted runM), 0, ask_accepted (by decide +kernel), by decide +kernel⟩,
    ⟨ask opJournalAnnotate ([1, 0, 0, 0, 65]), at_ (hosted runM), 0, ask_accepted (by decide +kernel),
      by decide +kernel⟩,
    ⟨ask opJournalAnnotate ([76, 0, 0, 0] ++ zeros 76), at_ (hosted runM), 0, ask_accepted (by decide +kernel),
      by decide +kernel⟩,
    ⟨ask opJournalSealNow ([]), at_ (hosted runM), 0, ask_accepted (by decide +kernel), by decide +kernel⟩⟩

theorem witness_SupplyEventsComplete :
    (∃ (mv : Nat) (s : State), (6500 < mv) ∧ (s.m.mod.state = .off)) ∧
    (∃ (mv : Nat) (s : State), (6500 < mv) ∧ (s.m.mod.state = .sleep)) ∧
    (∃ (mv : Nat) (s : State), (6500 < mv) ∧ (s.m.mod.state = .sleep) ∧ (s.m.supply.sleepDip = true)) ∧
    (∃ (range : Nat) (x : VbatSamples) (s : State), (range < 4) ∧ (rangeChanges s.m s.m.supply.range range x = true)
      ∧ (s.m.mod.state ≠ .off) ∧ (s.m.mod.state ≠ .sleep)) ∧
    (∃ (range : Nat) (x : VbatSamples) (s : State), (range < 4) ∧ (rangeChanges s.m s.m.supply.range range x = true)
      ∧ (s.m.mod.state ≠ .off) ∧ (s.m.mod.state ≠ .sleep)) ∧
    (∃ (range : Nat) (x : VbatSamples) (s : State), (range < 4) ∧ (rangeChanges s.m s.m.supply.range range x = true)
      ∧ (s.m.mod.state ≠ .off) ∧ (s.m.mod.state ≠ .sleep)) ∧
    (∃ (s : State), (s.m.mod.state ≠ .off) ∧ (s.m.mod.state ≠ .sleep)) ∧
    (∃ (s : State), (s.m.mod.state ≠ .off) ∧ (s.m.mod.state ≠ .sleep)) ∧
    (∃ (s : State), (s.m.mod.state = .sleep)) ∧
    (∃ (offset : Int) (s : State), (s.m.mod.state ≠ .off) ∧ (s.m.mod.state ≠ .sleep) ∧ (((prm s.m
      P.supply_ground_loss_threshold : Nat) : Int) < offset)) ∧
    (∃ (temp : Int) (s : State), (powered s.m = true) ∧ ((useTwin s.base P.supply_thermal_shed_enable 0 0 (W.supply
      ⟨s.m, []⟩ fun x => { x with dieTemp := temp })).m.supply.shed = false) ∧ (135000 ≤ temp) ∧ (prmB (useTwin
      s.base P.supply_thermal_shed_enable 0 0 (W.supply ⟨s.m, []⟩ fun x => { x with dieTemp := temp })).m
      P.supply_thermal_shed_enable = true)) ∧
    (∃ (temp : Int) (s : State), (powered s.m = true) ∧ ((useTwin s.base P.supply_thermal_shed_enable 0 0 (W.supply
      ⟨s.m, []⟩ fun x => { x with dieTemp := temp })).m.supply.shed = true) ∧ (temp < 125000)) ∧
    (∃ (temp : Int) (s : State), (s.m.mod.heldHot = false) ∧ (150000 ≤ temp) ∧ (s.m.mod.state ≠ .off) ∧
      (s.m.mod.state ≠ .sleep)) ∧
    (∃ (temp : Int) (s : State), (powered s.m = true) ∧ ((useTwin s.base P.supply_base_plate_warning 0 0 (W.supply
      ⟨s.m, []⟩ fun x => { x with basePlate := temp })).m.supply.basePlateWarn = false) ∧ (prmI (useTwin s.base
      P.supply_base_plate_warning 0 0 (W.supply ⟨s.m, []⟩ fun x => { x with basePlate := temp })).m
      P.supply_base_plate_warning < temp)) ∧
    (∃ (mw : Nat) (s : State), (powered s.m = true) ∧ (s.m.ident.variantG = false) ∧ (powerLimit s.m < mw) ∧
      (s.m.supply.powerOver = false)) ∧
    (∃ (mw : Nat) (s : State), (powered s.m = true) ∧ (s.m.ident.variantG = false) ∧ (powerLimit s.m < mw) ∧
      (s.m.supply.powerOver = false)) ∧
    (∃ (mw : Nat) (s : State), (powered s.m = true) ∧ (s.m.ident.variantG = false) ∧ (mw ≤ powerLimit s.m)) ∧
    (∃ (mw : Nat) (s : State), (powered s.m = true) ∧ (s.m.ident.variantG = false) ∧ (mw ≤ powerLimit s.m)) :=
  ⟨⟨6501, at_ { mod := { state := .off } }, by decide +kernel⟩,
    ⟨6501, at_ { mod := { state := .sleep } }, by decide +kernel⟩,
    ⟨6501, at_ { mod := { state := .sleep }, supply := { sleepDip := true } }, by decide +kernel⟩,
    ⟨3, ⟨36000, 36000, 1000000⟩, at_ { mod := { state := .waking }, supply := { range := 2 } }, by decide +kernel⟩,
    ⟨1, ⟨7000, 7000, 1000000⟩, at_ { mod := { state := .waking } }, by decide +kernel⟩,
    ⟨0, ⟨9000, 9000, 10000000⟩, at_ { runM with supply := { range := 1 } }, by decide +kernel⟩,
    ⟨at_ { mod := { state := .waking } }, by decide +kernel⟩,
    ⟨at_ { mod := { state := .waking } }, by decide +kernel⟩,
    ⟨at_ { mod := { state := .sleep } }, by decide +kernel⟩,
    ⟨5001, at_ { mod := { state := .waking } }, by decide +kernel⟩,
    ⟨135000, at_ runM, by decide +kernel⟩,
    ⟨124999, at_ { runM with supply := { shed := true } }, by decide +kernel⟩,
    ⟨150000, at_ { mod := { state := .waking } }, by decide +kernel⟩,
    ⟨1000000, at_ runM, by decide +kernel⟩,
    ⟨8401, at_ runM, by decide +kernel⟩,
    ⟨4201, at_ { runM with supply := { basePlate := 95000 } }, by decide +kernel⟩,
    ⟨8400, at_ runM, by decide +kernel⟩,
    ⟨6300, at_ { runM with supply := { basePlate := 90000 } }, by decide +kernel⟩⟩

theorem witness_RestartEventsComplete :
    (∃ (b : BringUp) (s : State), ((b.badKeys ++ b.wornKeys).all (fun i => decide (i < 256)) = true) ∧ (s.m.mod.state
      = .waking) ∧ (s.m.mod.heldHot = false) ∧ (b.mramOk = true) ∧ (b.fuses % 8 = 7) ∧ ((bringUpFoot s.base b ⟨s.m,
      []⟩).m.mod.safeWake = false)) ∧
    (∃ (b : BringUp) (s : State), ((b.badKeys ++ b.wornKeys).all (fun i => decide (i < 256)) = true) ∧ (s.m.mod.state
      = .waking) ∧ (s.m.mod.heldHot = false) ∧ (b.mramOk = false)) ∧
    (∃ (b : BringUp) (s : State), ((b.badKeys ++ b.wornKeys).all (fun i => decide (i < 256)) = true) ∧ (s.m.mod.state
      = .waking) ∧ (s.m.mod.heldHot = false) ∧ (b.mramOk = true) ∧ (b.fuses % 8 ≠ 7)) ∧
    (∃ (b : BringUp) (s : State), ((b.badKeys ++ b.wornKeys).all (fun i => decide (i < 256)) = true) ∧ (s.m.mod.state
      = .waking) ∧ (s.m.mod.heldHot = false) ∧ (b.mramOk = true) ∧ (b.fuses % 8 ≠ 7)) ∧
    (∃ (k : Nat) (s : State), (s.m.mod.booting = some k) ∧ (s.m.mod.mgmtStart + 500000000 ≤ s.base.now)) ∧
    (∃ (s : State), (s.m.mod.firmwareRunning = true) ∧ (s.base.expired (s.m.mod.mgmtStart + prmNs s.m
      P.module_mgmt_watchdog_timeout) = true)) ∧
    (∃ (s : State), (mgmtUp s.m = true)) ∧
    (∃ (s : State), (mgmtUp s.m = true)) ∧
    (∃ (s : State), (s.m.mod.firmwareRunning = false) ∧ (s.m.mod.unmanagedSince.isSome = true) ∧ (s.base.expired
      (s.m.mod.restartAt + 120000000) = true)) ∧
    (∃ (t : Nat) (s : State), (s.m.mod.firmwareRunning = false) ∧ (s.m.mod.state = .unmanaged) ∧
      (s.m.mod.unmanagedSince = some t) ∧ (lowRange s.m = false)) ∧
    (∃ (k : Nat) (s : State), (s.m.mod.firmwareRunning = false) ∧ (s.m.mod.state = .footpath) ∧ (s.m.mod.booting =
      some k)) ∧
    (∃ (s : State), (s.m.mod.firmwareRunning = false) ∧ (s.m.mod.state = .safe)) ∧
    (∃ (s : State), (powered s.m = true) ∧ (s.m.mod.state ≠ .safe)) :=
  ⟨⟨{ posA := [], posB := [], badKeys := [255] }, at_ { mod := { state := .waking } }, by decide +kernel⟩,
    ⟨{ posA := [], posB := [], mramOk := false }, at_ { mod := { state := .waking } }, by decide +kernel⟩,
    ⟨{ posA := [], posB := [], fuses := 6 }, at_ { mod := { state := .waking } }, by decide +kernel⟩,
    ⟨{ posA := [], posB := [], fuses := 3 }, at_ { mod := { state := .waking } }, by decide +kernel⟩,
    ⟨0, at_ { mod := { state := .footpath, booting := some 0 } }, by decide +kernel⟩,
    ⟨at_ runM, by decide +kernel⟩,
    ⟨at_ runM, by decide +kernel⟩,
    ⟨at_ { mod := { state := .unmanaged, unmanagedSince := some 5 } }, by decide +kernel⟩,
    ⟨at_ { mod := { state := .unmanaged, unmanagedSince := some 5, restartAt := 1000 * 2 ^ 32 - 120001200 } },
      by decide +kernel⟩,
    ⟨5, at_ { mod := { state := .unmanaged, unmanagedSince := some 5 } }, by decide +kernel⟩,
    ⟨1, at_ { mod := { state := .footpath, booting := some 1 } }, by decide +kernel⟩,
    ⟨at_ { mod := { state := .safe } }, by decide +kernel⟩,
    ⟨at_ runM, by decide +kernel⟩⟩

theorem witness_RoutebookRequestsAnswer :
    (∃ (r : Request) (s : State) (i : Nat), Accepted opRoutebookStatus r s i) ∧
    (∃ (r : Request) (s : State) (i : Nat), Accepted opRoutebookWrite r s i ∧ (r.posted = false) ∧ (8 ≤
      r.payload.length) ∧ (leAt r.payload 0 1 ≤ 1) ∧ (leAt r.payload 4 4 + (r.payload.drop 8).length ≤ slotSize) ∧
      ((leAt r.payload 4 4 = 0 ∨ leAt r.payload 4 4 = (bookSlot s.m (leAt r.payload 0 1)).bytes.length)) ∧
      (s.m.upd.committed ≠ some (leAt r.payload 0 1)) ∧ (protected_ s.m (leAt r.payload 0 1) = false) ∧ (switching
      s.m = false)) ∧
    (∃ (r : Request) (s : State) (i : Nat), Accepted opRoutebookWrite r s i ∧ (r.posted = false) ∧ (8 ≤
      r.payload.length) ∧ (leAt r.payload 0 1 ≤ 1) ∧ (leAt r.payload 4 4 + (r.payload.drop 8).length ≤ slotSize) ∧
      ((leAt r.payload 4 4 = 0 ∨ leAt r.payload 4 4 = (bookSlot s.m (leAt r.payload 0 1)).bytes.length)) ∧
      (s.m.upd.committed ≠ some (leAt r.payload 0 1)) ∧ (protected_ s.m (leAt r.payload 0 1) = false) ∧ (switching
      s.m = false)) ∧
    (∃ (w : W) (c : Nat) (r : Request) (s : State) (i : Nat), Accepted opRoutebookVerify r s i ∧ (r.posted = false) ∧
      (4 ≤ r.payload.length) ∧ (leAt r.payload 0 1 ≤ 1) ∧ (bookUsable s.base (leAt r.payload 0 1) (entered
      opRoutebookVerify r i s) = (w, c))) ∧
    (∃ (r : Request) (s : State) (i : Nat), Accepted opRoutebookHeaderRead r s i ∧ (4 ≤ r.payload.length) ∧ (leAt
      r.payload 0 1 ≤ 1) ∧ (128 ≤ (bookSlot s.m (leAt r.payload 0 1)).bytes.length)) :=
  ⟨⟨ask opRoutebookStatus ([]), at_ (hosted runM), 0, ask_accepted (by decide +kernel)⟩,
    ⟨ask opRoutebookWrite ([1, 0, 0, 0] ++ u32 0), at_ (hosted runM), 0, ask_accepted (by decide +kernel),
      by decide +kernel⟩,
    ⟨ask opRoutebookWrite ([1, 0, 0, 0] ++ u32 3 ++ [7]),
      at_ ({ hosted runM with upd := { slots := [{}, { bytes := [1, 2, 3] }] } }), 0,
      ask_accepted (by decide +kernel), by decide +kernel⟩,
    ⟨_, _, ask opRoutebookVerify ([1, 0, 0, 0]), at_ (hosted runM), 0, ask_accepted (by decide +kernel),
      by decide +kernel, by decide +kernel, by decide +kernel, rfl⟩,
    ⟨ask opRoutebookHeaderRead ([1, 0, 0, 0]),
      at_ ({ hosted runM with upd := { slots := [{}, { bytes := zeros 128 }] } }), 0,
      ask_accepted (by decide +kernel), by decide +kernel⟩⟩

theorem witness_UpdateCommandsComplete :
    (∃ (r : Request) (s : State) (i : Nat), Accepted opUpdateStatus r s i) ∧
    (∃ (r : Request) (s : State) (i : Nat), Accepted opUpdateBegin r s i ∧ (128 ≤ r.payload.length) ∧ (s.m.upd.st =
      0)) ∧
    (∃ (recs : List DeltaRec) (bs : List Byte) (r : Request) (s : State) (i : Nat), Accepted opUpdateChunk r s i ∧
      (r.posted = false) ∧ (40 ≤ r.payload.length) ∧ (deltaRecords r.payload.length (r.payload.drop 40) = .ok recs) ∧
      (s.m.upd.st = 1) ∧ ((slice r.payload 8 32 = targetHash (runningBank s.m).header ∨ slice r.payload 8 32 = zeros
      32 ∧ recs.all (fun r => !r.isCopy) = true)) ∧ ((s.m.upd.chunks = 0 ∨ r.payload ≠ s.m.upd.lastChunk)) ∧ (leAt
      r.payload 0 4 = s.m.upd.chunks) ∧ (leAt r.payload 4 4 = (bankAt s.m s.m.upd.target).image.length) ∧ (applyDelta
      (runningBank s.m).image recs = some bs) ∧ ((bankAt s.m s.m.upd.target).image.length + bs.length ≤ min
      (headerSize s.m.upd.header) 25165696)) ∧
    (∃ (w : W) (r : Request) (s : State) (i : Nat), Accepted opUpdateActivate r s i ∧ (r.posted = false) ∧ (4 ≤
      r.payload.length) ∧ (leAt r.payload 0 1 ≤ 1) ∧ (s.m.upd.st = 2) ∧ (w = (useTwin s.base P.update_allow_dp_reset
      0 0 (useTwin s.base P.update_update_enable 0 0 (entered opUpdateActivate r i s)))) ∧ (activeFits w.m
      s.m.upd.header = true) ∧ (prmB w.m P.update_update_enable = true) ∧ (headerCompat s.m.upd.header =
      s.m.upd.dpCompat)) ∧
    (∃ (r : Request) (s : State) (i : Nat), Accepted opUpdateConfirm r s i ∧ (s.m.upd.st = 3) ∧
      (s.m.upd.selfConfirmed = true)) ∧
    (∃ (r : Request) (s : State) (i : Nat), Accepted opUpdateAbort r s i ∧ ((s.m.upd.st = 1 ∨ s.m.upd.st = 2))) ∧
    (∃ (r : Request) (s : State) (i : Nat), Accepted opUpdateAbort r s i ∧ ((s.m.upd.st = 1 ∨ s.m.upd.st = 2))) ∧
    (∃ (t : Nat) (s : State), (s.m.upd.runSince = some t) ∧ (s.m.upd.st = 3) ∧ (s.m.mod.bootBank = s.m.upd.target) ∧
      (s.m.mod.state = .run) ∧ (s.m.mod.firmwareRunning = true) ∧ (s.base.expired (t + prmNs s.m
      P.update_self_confirm_time) = true)) ∧
    (∃ (w : W) (s : State), (w = accrueTrial s.base ⟨s.m, []⟩) ∧ (w.m.upd.st = 3) ∧ (powered w.m = true) ∧
      (w.m.mod.state ≠ .safe) ∧ (prmNs w.m P.update_trial_window ≤ w.m.upd.trialNs)) :=
  ⟨⟨ask opUpdateStatus ([]), at_ (hosted runM), 0, ask_accepted (by decide +kernel)⟩,
    ⟨ask opUpdateBegin (zeros 128), at_ (hosted runM), 0, ask_accepted (by decide +kernel), by decide +kernel⟩,
    ⟨[.literal [1, 2]], [1, 2], ask opUpdateChunk (u32 0 ++ u32 0 ++ zeros 32 ++ [1, 0, 0, 0] ++ u32 2 ++ [1, 2, 0,
      0]), at_ ({ hosted runM with upd := { st := 1, header := zeros 16 ++ u32 2 ++ zeros 108 } }), 0,
      ask_accepted (by decide +kernel), by decide +kernel, by decide +kernel, rfl, by decide +kernel,
      Or.inr (by decide +kernel), by decide +kernel⟩,
    by refine ⟨_, ask opUpdateActivate ([1, 0, 0, 0]),
      at_ ({ hosted runM with upd := { st := 2, header := zeros 128 } }), 0, ask_accepted (by decide +kernel), ?_,
      ?_, ?_, ?_, rfl, ?_⟩ <;> decide +kernel,
    ⟨ask opUpdateConfirm ([]), at_ ({ hosted runM with upd := { st := 3, selfConfirmed := true } }), 0,
      ask_accepted (by decide +kernel), by decide +kernel⟩,
    ⟨ask opUpdateAbort ([]), at_ ({ hosted runM with upd := { st := 1 } }), 0, ask_accepted (by decide +kernel),
      by decide +kernel⟩,
    ⟨ask opUpdateAbort ([]), at_ ({ hosted runM with upd := { st := 2 } }), 0, ask_accepted (by decide +kernel),
      by decide +kernel⟩,
    ⟨0, at_ { runM with upd := { st := 3, runSince := some 0 }, mod := { runM.mod with bootBank := 1 } },
      by decide +kernel⟩,
    ⟨_, at_ { runM with upd := { st := 3 } }, rfl, by decide +kernel⟩⟩

theorem witness_CounterAndTestRequestsAnswer :
    (∃ (r : Request) (s : State) (i : Nat), Accepted opCounterRead r s i ∧ (4 ≤ r.payload.length) ∧ (counterLengthOk
      r.payload = true)) ∧
    (∃ (r : Request) (s : State) (i : Nat), Accepted opCounterRead r s i ∧ (4 ≤ r.payload.length) ∧ (counterLengthOk
      r.payload = true)) ∧
    (∃ (w : W) (b : List Byte) (r : Request) (s : State) (i : Nat), Accepted opCounterClear r s i ∧ (4 ≤
      r.payload.length) ∧ (counterLengthOk r.payload = true) ∧ (firstIndex (fun id => (clearStatus id).isSome)
      (counterIds r.payload) = none) ∧ (clearAll s.base (counterIds r.payload) (entered opCounterClear r i s) = (w,
      b))) ∧
    (∃ (c : CRef) (r : Request) (s : State) (i : Nat), Accepted opCounterDescribe r s i ∧ (4 ≤ r.payload.length) ∧
      (counterRef (leAt r.payload 0 4 / 16777216) (leAt r.payload 0 4 / 65536 % 256) = some c)) ∧
    (∃ (r : Request) (s : State) (i : Nat), Accepted opTestStatus r s i) ∧
    (∃ (r : Request) (s : State) (i : Nat), Accepted opTestRestart r s i) ∧
    (∃ (r : Request) (s : State) (i : Nat), Accepted opTestFullReset r s i ∧ (8 ≤ r.payload.length) ∧ (leAt r.payload
      0 8 = s.m.ident.uniqueId) ∧ (prmB s.m P.module_full_reset_enable = true)) ∧
    (∃ (r : Request) (s : State) (i : Nat), Accepted opTestSafeExit r s i ∧ (s.m.mod.state = .safe) ∧ (prm s.m
      P.module_safe_exit_mode ≠ 0)) ∧
    (∃ (r : Request) (s : State) (i : Nat), Accepted opTestInject r s i ∧ (8 ≤ r.payload.length) ∧ (injectStatus s.m
      (leAt r.payload 0 1) (leAt r.payload 4 4) = none) ∧ (s.m.mod.state = .run) ∧ (speedAllows s.m = true) ∧ (bit
      (pendingKinds s.m s.base.now) (leAt r.payload 0 1) = false)) ∧
    (∃ (r : Request) (s : State) (i : Nat), Accepted opTestInject r s i ∧ (8 ≤ r.payload.length) ∧ (injectStatus s.m
      (leAt r.payload 0 1) (leAt r.payload 4 4) = none) ∧ (s.m.mod.state = .run) ∧ (speedAllows s.m = true) ∧ (bit
      (pendingKinds s.m s.base.now) (leAt r.payload 0 1) = false)) ∧
    (∃ (r : Request) (s : State) (i : Nat), Accepted opTestInject r s i ∧ (8 ≤ r.payload.length) ∧ (injectStatus s.m
      (leAt r.payload 0 1) (leAt r.payload 4 4) = none) ∧ (s.m.mod.state = .run) ∧ (speedAllows s.m = true) ∧ (bit
      (pendingKinds s.m s.base.now) (leAt r.payload 0 1) = false)) ∧
    (∃ (r : Request) (s : State) (i : Nat), Accepted opTestInject r s i ∧ (8 ≤ r.payload.length) ∧ (injectStatus s.m
      (leAt r.payload 0 1) (leAt r.payload 4 4) = none) ∧ (s.m.mod.state = .run) ∧ (speedAllows s.m = true) ∧ (bit
      (pendingKinds s.m s.base.now) (leAt r.payload 0 1) = false)) :=
  ⟨⟨ask opCounterRead (u16 1 ++ zeros 6), at_ (hosted runM), 0, ask_accepted (by decide +kernel), by decide +kernel⟩,
    ⟨ask opCounterRead (u16 252 ++ zeros 2 ++ zeros 1008), at_ (hosted runM), 0, ask_accepted (by decide +kernel),
      by decide +kernel⟩,
    ⟨_, _, ask opCounterClear (u16 1 ++ zeros 2 ++ u32 (2 ^ 25 + 0xFFFF)), at_ (hosted runM), 0,
      ask_accepted (by decide +kernel), by decide +kernel, by decide +kernel, by decide +kernel, rfl⟩,
    ⟨_, ask opCounterDescribe (u32 (2 ^ 25)), at_ (hosted runM), 0, ask_accepted (by decide +kernel),
      by decide +kernel, rfl⟩,
    ⟨ask opTestStatus ([]), at_ (hosted runM), 0, ask_accepted (by decide +kernel)⟩,
    ⟨ask opTestRestart ([]), at_ (hosted runM), 0, ask_accepted (by decide +kernel)⟩,
    ⟨ask opTestFullReset (u64 0), at_ (hosted runM), 0, ask_accepted (by decide +kernel), by decide +kernel⟩,
    ⟨ask opTestSafeExit [],
      at_ (par P.module_safe_exit_mode 0 1 (hosted { mod := { state := .safe, firmwareRunning := true } })), 0,
      ask_accepted (by decide +kernel), by decide +kernel⟩,
    ⟨ask opTestInject ([0, 0, 0, 0] ++ u32 43), at_ { hosted runM with jr := { watchSpeed := some 0 } }, 0,
      ask_accepted (by decide +kernel), by decide +kernel⟩,
    ⟨ask opTestInject ([3, 0, 0, 0] ++ u32 79), at_ { hosted runM with jr := { watchSpeed := some 0 } }, 0,
      ask_accepted (by decide +kernel), by decide +kernel⟩,
    ⟨ask opTestInject ([4, 0, 0, 0] ++ u32 4), at_ { hosted runM with jr := { watchSpeed := some 0 } }, 0,
      ask_accepted (by decide +kernel), by decide +kernel⟩,
    ⟨ask opTestInject ([5, 0, 0, 0] ++ u32 0), at_ { hosted runM with jr := { watchSpeed := some 0 } }, 0,
      ask_accepted (by decide +kernel), by decide +kernel⟩⟩

theorem witness_InputEventsComplete :
    (∃ (n : Nat) (x : Level) (asserted : Bool) (s : State), (n < 12) ∧ (dinState s.m n x = some asserted) ∧
      (inputSampled s.m n = true) ∧ (bit s.m.io.din n ≠ asserted)) ∧
    (∃ (p : Pulse) (s : State), (p.input < 2) ∧ (powered s.m = true) ∧ (edgeAccepted s.m p = true)) ∧
    (∃ (n : Nat) (s : State), (n < 4) ∧ (powered s.m = true)) ∧
    (∃ (mv : Nat) (s : State), (mv < 65536) ∧ (sensorOn s.m = true)) ∧
    (∃ (mv : Nat) (s : State), (mv < 65536) ∧ (s.m.io.sensorLimited = true) ∧ (sensorWanted s.m = true) ∧
      (s.m.io.sensorOffAt + 1000000000 ≤ s.base.now)) :=
  ⟨⟨11, ⟨6000, 255⟩, true, at_ runM, by decide +kernel⟩,
    ⟨{ input := 1 }, at_ (setPrm runM P.io_freq_config 0 1 1), by decide +kernel⟩,
    ⟨3, at_ runM, by decide +kernel⟩,
    ⟨65535, at_ (par P.io_sensor_supply_mode 0 1), by decide +kernel⟩,
    ⟨65535, at_ (par P.io_sensor_supply_mode 0 1 { runM with io := { sensorLimited := true } }), by decide +kernel⟩⟩

theorem witness_IdleStepIsOneClockEdge :
    (∃ (s : State), (s.pending = []) ∧ (clockRuns s.m = true)) ∧
    (∃ (s : State), (s.pending = []) ∧ ((s.m.mod.state = .off ∨ s.m.mod.state = .sleep))) ∧
    (∃ (s : State), (s.pending = []) ∧ ((s.m.mod.state = .off ∨ s.m.mod.state = .sleep))) :=
  ⟨⟨at_ runM, by decide +kernel⟩,
    ⟨at_ { mod := { state := .off } }, by decide +kernel⟩,
    ⟨at_ { mod := { state := .sleep } }, by decide +kernel⟩⟩

theorem witness_WellFormedCommandsComplete :
    (∃ (c : Instr), (c.wf = true)) ∧
    (∃ (c : Instr), (c.wf = true)) :=
  ⟨⟨.nop 63, by decide +kernel⟩,
    ⟨.canFrameReceive 21 { fmt := 7, id := 0, data := [] }, by decide +kernel⟩⟩

theorem witness_DataPlaneReset :
    (∃ (b : Base), (b.cnt.wf 0 = true)) :=
  ⟨({ cnt := [(3, 5)] } : Base), by decide +kernel⟩

theorem witness_Tb3NeverDecreases :
    (∃ (e : Eff), ((∀ k, e ≠ .edges k))) ∧
    (∃ (t : TimeBase) (k : Nat), (t.full * 2 ^ 32 + t.frac.toNat + k * t.incr.toNat < 2 ^ 96)) :=
  ⟨⟨.draw, by intro k; simp⟩,
    ⟨{ m := 2 ^ 32 - 1, n := 2 ^ 32 - 2, frac := 0, incr := 2 ^ 32 }, 1, by decide +kernel⟩⟩

theorem witness_FieldsRoundTrip :
    (∃ (n : Nat) (i : Int), (0 < n) ∧ (-(2 ^ (n - 1) : Nat) ≤ i) ∧ (i < (2 ^ (n - 1) : Nat))) ∧
    (∃ (n : Nat) (i : Int), (0 < n) ∧ (-(2 ^ (n - 1) : Nat) ≤ i) ∧ (i < (2 ^ (n - 1) : Nat))) ∧
    (∃ (n : Nat) (i : Int), (0 < n) ∧ (-(2 ^ (n - 1) : Nat) ≤ i) ∧ (i < (2 ^ (n - 1) : Nat))) :=
  ⟨⟨1, -1, by decide +kernel⟩,
    ⟨8, 127, by decide +kernel⟩,
    ⟨8, -128, by decide +kernel⟩⟩

theorem witness_RequestsAreCheckedInOrder :
    (∃ (s : State), (managed s.m = false)) ∧
    (∃ (r : Request) (s : State), (managed s.m = true) ∧ (admitted s.m ((if r.sessionId == 0 then none else findSlot
      s.m r.sessionId).map (slotAt s.m)) r.src = .no)) ∧
    (∃ (r : Request) (s : State), (managed s.m = true) ∧ (admitted s.m ((if r.sessionId == 0 then none else findSlot
      s.m r.sessionId).map (slotAt s.m)) r.src = .discard)) ∧
    (∃ (r : Request) (s : State) (t : Transport), (managed s.m = true) ∧ (admitted s.m ((if r.sessionId == 0 then
      none else findSlot s.m r.sessionId).map (slotAt s.m)) r.src = .yes t) ∧ (framingOk r = false)) ∧
    (∃ (r : Request) (s : State) (t : Transport), (managed s.m = true) ∧ (r.sessionId ≠ 0) ∧ (findSlot s.m
      r.sessionId = none) ∧ (admitted s.m none r.src = .yes t) ∧ (framingOk r = true)) ∧
    (∃ (op : OpInfo) (r : Request) (s : State) (t : Transport), (managed s.m = true) ∧ (r.sessionId = 0) ∧ (admitted
      s.m none r.src = .yes t) ∧ (framingOk r = true) ∧ (r.trailer ≠ trailerOf none (requestBytes (named op r).code
      r))) ∧
    (∃ (r : Request) (s : State) (i : Nat) (t : Transport), (managed s.m = true) ∧ (r.sessionId ≠ 0) ∧ (findSlot s.m
      r.sessionId = some i) ∧ (admitted s.m (some (slotAt s.m i)) r.src = .yes t) ∧ (framingOk r = true) ∧
      ((sameEndpoint (slotAt s.m i).src r.src = false ∨ s.base.late (slotAt s.m i).deadline = true))) ∧
    (∃ (r : Request) (s : State) (i : Nat) (t : Transport), (managed s.m = true) ∧ (r.sessionId ≠ 0) ∧ (findSlot s.m
      r.sessionId = some i) ∧ (admitted s.m (some (slotAt s.m i)) r.src = .yes t) ∧ (framingOk r = true) ∧
      ((sameEndpoint (slotAt s.m i).src r.src = false ∨ s.base.late (slotAt s.m i).deadline = true))) ∧
    (∃ (op : OpInfo) (r : Request) (s : State) (i : Nat) (t : Transport), (managed s.m = true) ∧ (r.sessionId ≠ 0) ∧
      (findSlot s.m r.sessionId = some i) ∧ (admitted s.m (some (slotAt s.m i)) r.src = .yes t) ∧ (framingOk r =
      true) ∧ (sameEndpoint (slotAt s.m i).src r.src = true) ∧ (s.base.late (slotAt s.m i).deadline = false) ∧
      (r.trailer ≠ trailerOf (some (slotAt s.m i).key) (requestBytes (named op r).code r)) ∧ (((slotAt s.m i).st ≠
      .pending ∨ (named op r).code ≠ 0x0102))) ∧
    (∃ (op : OpInfo) (r : Request) (s : State) (t : Transport), (r.other = none) ∧ (managed s.m = true) ∧
      (r.sessionId = 0) ∧ (admitted s.m none r.src = .yes t) ∧ (framingOk r = true) ∧ (r.trailer = trailerOf none
      (requestBytes op.code r)) ∧ (op.code ≠ 0x0101) ∧ (op.code / 256 ≠ 0x02)) ∧
    (∃ (op : OpInfo) (r : Request) (s : State) (i : Nat), Verified op r s i ∧ ((if (slotAt s.m i).st = .pending then
      op.code ≠ 0x0102 else op.code = 0x0101 ∨ op.code = 0x0102))) ∧
    (∃ (op : OpInfo) (r : Request) (s : State) (i : Nat), Verified op r s i ∧ ((if (slotAt s.m i).st = .pending then
      op.code ≠ 0x0102 else op.code = 0x0101 ∨ op.code = 0x0102))) ∧
    (∃ (op : OpInfo) (r : Request) (s : State) (i : Nat), Verified op r s i ∧ (allowedIn (slotAt s.m i) op = true) ∧
      ((r.major, r.minor) ≠ ((slotAt s.m i).major, (slotAt s.m i).minor))) ∧
    (∃ (op : OpInfo) (r : Request) (s : State) (i : Nat) (st : Nat) (d : List Byte), Reaches op r s i ∧ (findDup op r
      (slotAt s.m i) = none) ∧ ((slotAt s.m i).rxHigh < r.sequence) ∧ (gate s.m op ((slotAt s.m i).major, (slotAt s.m
      i).minor) ((slotAt s.m i).role + 1) (wholePayload s.base r (slotAt s.m i)) = some (st, d))) ∧
    (∃ (op : OpInfo) (r : Request) (s : State) (i : Nat) (st : Nat) (d : List Byte), Reaches op r s i ∧ (findDup op r
      (slotAt s.m i) = none) ∧ ((slotAt s.m i).rxHigh < r.sequence) ∧ (gate s.m op ((slotAt s.m i).major, (slotAt s.m
      i).minor) ((slotAt s.m i).role + 1) (wholePayload s.base r (slotAt s.m i)) = some (st, d))) ∧
    (∃ (op : OpInfo) (r : Request) (s : State) (i : Nat), Reaches op r s i ∧ (findDup op r (slotAt s.m i) = none) ∧
      ((slotAt s.m i).rxHigh < r.sequence) ∧ (gate s.m op ((slotAt s.m i).major, (slotAt s.m i).minor) ((slotAt s.m
      i).role + 1) (wholePayload s.base r (slotAt s.m i)) = none) ∧ (trainOf (slotAt s.m i) r.tag = none) ∧ ((slotAt
      s.m i).tags.contains r.tag = true)) ∧
    (∃ (r : Request) (c : Nat), (r.other = some c)) ∧
    (∃ (st : Nat), (0x0100 ≤ st)) ∧
    (∃ (st : Nat), (0x0100 ≤ st) ∧ (st ≠ St.busy)) ∧
    (∃ (st : Nat), (0x0100 ≤ st) ∧ (st ≠ St.busy)) ∧
    (∃ (st : Nat), (0x0100 ≤ st)) :=
  ⟨⟨at_ { mod := { state := .waking } }, by decide +kernel⟩,
    ⟨{ ask opSessionPing [] with src := .isotp 1 }, hostS, by decide +kernel⟩,
    ⟨fromUdp, at_ udpM, by decide +kernel⟩,
    ⟨askOut opSessionPing (zeros 4057), hostS, {}, by decide +kernel⟩,
    ⟨ask opSessionPing [], at_ (hostedBy {} runM), {}, by decide +kernel⟩,
    by refine ⟨opSessionPing, forgedOut, hostS, {}, ?_, ?_, ?_, ?_, forgedOut_differs⟩ <;> decide +kernel,
    ⟨ask opSessionPing [], at_ (hostedBy { sess with src := .isotp 1 } runM), 0, {}, by decide +kernel⟩,
    ⟨ask opSessionPing [], at_ (hostedBy { sess with deadline := 1000 * 2 ^ 32 } runM), 0, {}, by decide +kernel⟩,
    by refine ⟨opSessionPing, forged, hostS, 0, {}, ?_, ?_, ?_, ?_, ?_, ?_, ?_, forged_differs,
      ?_⟩ <;> decide +kernel,
    ⟨opSessionPing, askOut opSessionPing [], hostS, {}, by decide +kernel⟩,
    ⟨opSessionPing, ask opSessionPing [], at_ (hostedBy { sess with st := .pending } runM), 0,
      ask_verified (by decide +kernel), by decide +kernel⟩,
    ⟨opSessionAuth, ask opSessionAuth [], hostS, 0, ask_verified (by decide +kernel), by decide +kernel⟩,
    ⟨opSessionPing, ask opSessionPing [], at_ (hostedBy { sess with minor := 1 } runM), 0,
      ask_verified (by decide +kernel), by decide +kernel⟩,
    ⟨opSessionEvict, ask opSessionEvict [], at_ (hostedBy { sess with role := 0 } runM), 0, St.notPermitted, [],
      ask_reaches (by decide +kernel), by decide +kernel⟩,
    ⟨opCounterClear, ask opCounterClear (u16 1 ++ zeros 2 ++ u32 0x0D000000),
      at_ (hostedBy { sess with role := 1 } runM), 0, St.notPermitted, [0, 0, 0, 0], ask_reaches (by decide +kernel),
      by decide +kernel⟩,
    ⟨opSessionPing, ask opSessionPing [], at_ (hostedBy { sess with tags := [0] } runM), 0,
      ask_reaches (by decide +kernel), by decide +kernel⟩,
    ⟨{ ask opSessionPing [] with other := some 0x01FF }, 0x01FF, by decide +kernel⟩,
    ⟨0x0100, by decide +kernel⟩,
    ⟨0x0100, by decide +kernel⟩,
    ⟨0x0400, by decide +kernel⟩,
    ⟨0x0100, by decide +kernel⟩⟩

theorem witness_DuplicatesAreNotRunAgain :
    (∃ (op : OpInfo) (r : Request) (s : State) (i : Nat) (d : DupEntry), Reaches op r s i ∧ (findDup op r (slotAt s.m
      i) = some d) ∧ (d.reply = none)) ∧
    (∃ (op : OpInfo) (r : Request) (s : State) (i : Nat) (d : DupEntry) (st : Nat) (posted : Bool) (p : List Byte),
      Reaches op r s i ∧ (findDup op r (slotAt s.m i) = some d) ∧ (d.reply = some (st, posted, p))) ∧
    (∃ (op : OpInfo) (r : Request) (s : State) (i : Nat), Reaches op r s i ∧ (findDup op r (slotAt s.m i) = none) ∧
      (r.sequence ≤ (slotAt s.m i).rxHigh)) ∧
    (∃ (op : OpInfo) (r : Request) (x : Session) (d : DupEntry), (findDup op r x = some d)) ∧
    (∃ (op : OpInfo) (r : Request) (x : Session), (findDup op r x = none)) ∧
    (∃ (op : OpInfo) (r : Request) (s : State) (i : Nat), Reaches op r s i ∧ ((slotAt s.m i).rxHigh < r.sequence)) :=
  ⟨⟨opSessionPing, ask opSessionPing [], at_ (hostedBy (dupSess none) runM), 0, dupOf none,
      ask_reaches (by decide +kernel), dup_found none, by decide +kernel⟩,
    ⟨opSessionPing, ask opSessionPing [], at_ (hostedBy (dupSess (some (0, false, []))) runM), 0, dupOf (some (0,
      false, [])), 0, false, [], ask_reaches (by decide +kernel), dup_found _, rfl⟩,
    ⟨opSessionPing, ask opSessionPing [], at_ (hostedBy { sess with rxHigh := 1 } runM), 0,
      ask_reaches (by decide +kernel), by decide +kernel⟩,
    ⟨opSessionPing, ask opSessionPing [], dupSess none, dupOf none, dup_found none⟩,
    ⟨opSessionPing, ask opSessionPing [], sess, by decide +kernel⟩,
    ⟨opSessionPing, ask opSessionPing [], hostS, 0, ask_reaches (by decide +kernel), by decide +kernel⟩⟩

theorem witness_StaleGenerationWritesNothing :
    (∃ (r : Request) (s : State) (i : Nat) (n : Nat), Accepted opParamWrite r s i ∧ (n = leAt r.payload 0 2) ∧ (1 ≤
      n) ∧ (n ≤ 202) ∧ (r.payload.length = 8 + 20 * n) ∧ (bit (leAt r.payload 2 1) 0 = true) ∧ (leAt r.payload 4 4 ≠
      s.m.mod.generation)) :=
  ⟨ask opParamWrite (u16 202 ++ [1, 0] ++ u32 1 ++ zeros 4040), hostS, 0, 202, ask_accepted (by decide +kernel),
    by decide +kernel⟩

/-- A route book without content for position 5, unsigned as far as this text goes, in slot 1. -/
def bookBytes : List Byte :=
  u32 0x42525A47 ++ zeros 12 ++ u64 32 ++ zeros 8 ++ beBytes 32 (Config.sha256 []).toNat ++ zeros 64

/-- A module that can read it, with the key of its book slot; `c` stands in parse context 63. -/
def bookS (c : ParseCtx) : State :=
  at_ { hosted runM with
    mod := { (hosted runM).mod with effective := 5 }
    upd := { slots := [{}, { st := 3, bytes := bookBytes }]
             banks := [{ st := 1, header := zeros 128 }, {}] }
    keys := { slots := [(248, { st := 1, attrs := 2 })] }
    ing := { ctxs := List.replicate 63 {} ++ [c] } }

abbrev bookW (c : ParseCtx) : W := entered opRoutebookActivate (ask opRoutebookActivate [1, 0, 0, 0]) 0 (bookS c)

/-- The book is usable if the primitive accepts its signature (Config leaves ECDSA open). -/
theorem book_usable (c : ParseCtx)
    (h : Config.ecdsaVerify [] (sha (bookBytes.take 64)) (slice bookBytes 64 64) = true) :
    bookUsable (bookS c).base 1 (bookW c) = (bookW c, 0) := by
  have e : sha (bookContent { st := 3, bytes := bookBytes }) = slice bookBytes 32 32 := by rfl
  have h1 : bookHashOk (bookSlot (bookW c).m 1) = true := by
    show bookHashOk { st := 3, bytes := bookBytes } = true
    simp only [bookHashOk, e, beq_self_eq_true, Bool.and_true]
    decide +kernel
  have t1 : useTwin (bookS c).base P.security_routebook_key_slot 0 0 (bookW c) = bookW c := by rfl
  have t2 : useTwin (bookS c).base P.update_routebook_min_version 0 0 (bookW c) = bookW c := by rfl
  have k : usableKey (bookW c).m (prm (bookW c).m P.security_routebook_key_slot) Attr.decrypt = some [] := by
    have k0 : keySlot (bookW c).m 248 = { st := 1, attrs := 2 } := by rfl
    have k1 : prm (bookW c).m P.security_routebook_key_slot = 248 := by rfl
    rw [k1]
    simp [usableKey, k0, orphaned, ancestryOk, Attr.decrypt, bit]
  have t3 : readRecord (bookS c).base (prm (bookW c).m P.security_routebook_key_slot) (bookW c) = bookW c := by rfl
  have h2 : bookSigned (bookS c).base (bookSlot (bookW c).m 1) (bookW c) = (bookW c, true) := by
    show bookSigned (bookS c).base { st := 3, bytes := bookBytes } (bookW c) = (bookW c, true)
    simp only [bookSigned, t1, t3, k, h]
  have p1 : prm (bookW c).m P.update_routebook_min_version = 0 := by rfl
  have p2 : (bookW c).m.mod.effective = 5 := by rfl
  have p3 : (runningBank (bookW c).m).header = zeros 128 := by rfl
  have p4 : (bookSlot (bookW c).m 1).bytes = bookBytes := by rfl
  have p5 : bookFormat (bookSlot (bookW c).m 1) = 0 := by rfl
  simp only [bookUsable, bookCause, h1, h2, t2, p1, p2, p3, p4, p5]
  rfl

theorem witness_book
    (h : Config.ecdsaVerify [] (sha (bookBytes.take 64)) (slice bookBytes 64 64) = true) :
    (∃ (w : W) (r : Request) (s : State) (i : Nat), Accepted opRoutebookActivate r s i ∧ (r.posted = false) ∧
      (4 ≤ r.payload.length) ∧ (leAt r.payload 0 1 ≤ 1) ∧ (switching s.m = false) ∧
      (bookUsable s.base (leAt r.payload 0 1) (entered opRoutebookActivate r i s) = (w, 0)) ∧
      (busyContexts w.m = false)) ∧
    (∃ (w : W) (r : Request) (s : State) (i : Nat), Accepted opRoutebookActivate r s i ∧ (r.posted = false) ∧
      (4 ≤ r.payload.length) ∧ (leAt r.payload 0 1 ≤ 1) ∧ (switching s.m = false) ∧
      (bookUsable s.base (leAt r.payload 0 1) (entered opRoutebookActivate r i s) = (w, 0)) ∧
      (busyContexts w.m = true)) :=
  ⟨⟨_, _, bookS {}, 0, ask_accepted (by decide +kernel), rfl, by decide +kernel, by decide +kernel, by decide +kernel,
      book_usable {} h, by decide +kernel⟩,
    ⟨_, _, bookS { frame := some { port := 43, fmt := 0 } }, 0, ask_accepted (by decide +kernel), rfl,
      by decide +kernel, by decide +kernel, by decide +kernel, book_usable _ h, by decide +kernel⟩⟩

/-- A bank whose empty image is what its header names. -/
def finishS : State := at_ { hosted runM with upd := { st := 1, header := factoryHeader } }

theorem witness_finish
    (h : Config.ecdsaVerify [] (sha (factoryHeader.take 64)) (slice factoryHeader 64 64) = true) :
    ∃ (r : Request) (s : State) (i : Nat), Accepted opUpdateFinish r s i ∧ r.posted = false ∧ s.m.upd.st = 1 ∧
      (bankAt s.m s.m.upd.target).image.length = headerSize s.m.upd.header ∧ headerOk s.m s.m.upd.header = true ∧
      sha (bankAt s.m s.m.upd.target).image = targetHash s.m.upd.header ∧
      s.m.ident.fuseVersion ≤ headerSecurity s.m.upd.header := by
  refine ⟨ask opUpdateFinish [], finishS, 0, ask_accepted (by decide +kernel), rfl, rfl, by decide +kernel, ?_, rfl,
    by decide +kernel⟩
  show headerOk finishS.m factoryHeader = true
  have e : finishS.m.ident.firmwareKey = [] := rfl
  simp only [headerOk, e, h, Bool.and_true]
  decide +kernel

def critE (code : Nat) (d : List Byte := []) : Event :=
  { code := code, severity := 3, timeBase := 2, timestamp := 0, milestoneLow := 0, rep := 255, seq := 1, detail := d }

def plainE : Event := { critE 1 with severity := 2 }

def queueB (l : List Event) : Base := { ev := { entries := l }, cnt := [(5, counterMax)] }

/-- A full queue: 512 critical entries, then 512 others. -/
def fullB : Base := queueB (List.replicate 512 (critE 1) ++ plainE :: List.replicate 511 plainE)

theorem fullB_inv : fullB.Inv :=
  ⟨by decide +kernel, by decide +kernel, by decide +kernel, by decide +kernel, by decide +kernel, by decide +kernel⟩

theorem witness_StepKeepsInvariant :
    ∃ s t : State, s.base.Inv ∧ step s = .next t :=
  ⟨{ base := fullB, pending := [.parseAccept] }, _, fullB_inv, rfl⟩

theorem witness_CommandsLeaveTheQueue : ∃ (c : Instr) (s t : State), exec c s = .next t ∧ s.pending ≠ [] :=
  ⟨.parseAccept, { pending := [.criticalResend] }, _, rfl, by decide +kernel⟩

theorem witness_FullQueueDropsTheOldestNonCritical :
    (∃ b : Base, b.ev.entries.length = 1023 ∧ b.ev.entries.length < queueBound) ∧
    (∃ (b : Base) (x : Event) (before rest : List Event), b.Inv ∧ b.ev.entries.length = queueBound ∧
      b.ev.entries = before ++ x :: rest ∧ (∀ y ∈ before, y.severity = 3) ∧ x.severity ≠ 3) ∧
    (∃ (b : Base) (e : Event), b.Inv ∧ e ∈ b.ev.entries ∧ e.severity = 3) :=
  ⟨⟨queueB (List.replicate 1023 plainE), by decide +kernel, by decide +kernel⟩,
    ⟨fullB, plainE, _, _, fullB_inv, by decide +kernel, rfl, by decide +kernel, by decide +kernel⟩,
    ⟨fullB, critE 1, fullB_inv, by decide +kernel, by decide +kernel⟩⟩

theorem witness_CriticalEventsMerge :
    (∃ (b : Base) (code : Nat) (d : List Byte),
      b.ev.entries.any (fun (e : Event) => e.severity == 3 && e.code == code && e.detail == d) = true) ∧
    (∃ (b : Base) (code : Nat) (d : List Byte), b.Inv ∧
      b.ev.entries.any (fun (e : Event) => e.severity == 3 && e.code == code && e.detail == d) = false ∧
      criticalBound ≤ (b.ev.entries.filter (fun e => e.severity == 3)).length ∧
      b.ev.entries.any (fun (e : Event) => e.severity == 3 && e.code == code) = true) ∧
    (∃ (b : Base) (code : Nat) (d : List Byte),
      b.ev.entries.any (fun e => e.severity == 3 && e.code == code && e.detail == d) = false ∧
      (b.ev.entries.filter (fun e => e.severity == 3)).length < criticalBound) ∧
    (∃ (b : Base) (code : Nat) (d : List Byte),
      b.ev.entries.any (fun e => e.severity == 3 && e.code == code && e.detail == d) = false ∧
      b.ev.entries.any (fun e => e.severity == 3 && e.code == code) = false ∧
      criticalBound ≤ (b.ev.entries.filter (fun e => e.severity == 3)).length) ∧
    (∃ (b : Base) (x : Event) (before rest : List Event), b.ev.entries.length = queueBound ∧
      b.ev.entries = before ++ x :: rest ∧ (∀ y ∈ before, y.severity = 3) ∧ x.severity ≠ 3) :=
  ⟨⟨queueB [critE 1 [9]], 1, [9], by decide +kernel⟩,
    ⟨fullB, 1, [9], fullB_inv, by decide +kernel, by decide +kernel, by decide +kernel⟩,
    ⟨queueB (List.replicate 511 (critE 1)), 1, [9], by decide +kernel, by decide +kernel⟩,
    ⟨fullB, 2, [], by decide +kernel, by decide +kernel, by decide +kernel⟩,
    ⟨fullB, plainE, _, _, by decide +kernel, rfl, by decide +kernel, by decide +kernel⟩⟩

theorem witness_CountersRiseAndSaturate :
    ∃ (b : Base) (e : Eff), b.Inv ∧ (∀ ids, e ≠ .clear ids) ∧ e ≠ .resetLogs ∧ b.cnt.getD 5 0 = counterMax :=
  ⟨fullB, .count 5 1, fullB_inv, by intro ids; simp, by simp, by decide +kernel⟩

end Sys2Proof.Tests
end

/-! ### Multi-byte fields and two's complement -/

namespace Sys2Proof.Proofs

/-- The recursion of `leBytes` in arithmetic: the low byte first, then the bytes of `v / 256` (R4). -/
theorem leVal_leBytes (n v : Nat) : leVal (leBytes n v) = v % 256 ^ n := by
  induction n generalizing v with
  | zero => simp [leBytes, leVal, Nat.mod_one]
  | succ n ih =>
    calc leVal (leBytes (n + 1) v)
        = v % 256 + 256 * (v / 256 % 256 ^ n) := by simp [leBytes, leVal, ih]
      _ = v % 256 ^ (n + 1) := by rw [Nat.pow_succ', Nat.mod_mul]

/-- Both reversals, of the encoder and of the reader, cancel (R8). -/
theorem beVal_beBytes (n v : Nat) : beVal (beBytes n v) = v % 256 ^ n := by
  rw [beVal, beBytes, List.reverse_reverse, leVal_leBytes]

theorem head?_leBytes_succ (n v : Nat) : (leBytes (n + 1) v).head? = some (BitVec.ofNat 8 v) := rfl

theorem twos_lt (n : Nat) (i : Int) : twos n i < 2 ^ n := by
  have hpos : (0 : Int) < (2 ^ n : Nat) := by exact_mod_cast Nat.two_pow_pos n
  have h := Int.emod_lt_of_pos i hpos
  unfold twos
  omega

/-- A value within the width that is not negative is its own encoding. -/
theorem twos_of_nonneg {n : Nat} {i : Int} (h0 : 0 ≤ i) (h : i < (2 ^ n : Nat)) : (twos n i : Int) = i := by
  rw [twos, Int.emod_eq_of_lt h0 h, Int.toNat_of_nonneg h0]

/-- A negative value within the width is encoded one wrap above itself. -/
theorem twos_of_neg {n : Nat} {i : Int} (h0 : i < 0) (h : -(2 ^ n : Nat) ≤ i) :
    (twos n i : Int) = i + (2 ^ n : Nat) := by
  have hwrap : i % (2 ^ n : Nat) = i + (2 ^ n : Nat) := by
    rw [← Int.add_emod_right, Int.emod_eq_of_lt (by omega) (by omega)]
  rw [twos, hwrap, Int.toNat_of_nonneg (by omega)]

theorem signed_of_lt_half {n v : Nat} (hv : v < 2 ^ n) (h : v < 2 ^ (n - 1)) : signed n v = v := by
  simp only [signed, Nat.mod_eq_of_lt hv, if_pos h]

theorem signed_of_half_le {n v : Nat} (hv : v < 2 ^ n) (h : 2 ^ (n - 1) ≤ v) :
    signed n v = v - (2 ^ n : Nat) := by
  simp only [signed, Nat.mod_eq_of_lt hv, if_neg (Nat.not_lt.mpr h)]

/-- The sign of `i` decides in which half of the field its encoding lies, and `signed` reads each half back. -/
theorem signed_twos {n : Nat} {i : Int} (hn : 0 < n) (hlo : -(2 ^ (n - 1) : Nat) ≤ i)
    (hhi : i < (2 ^ (n - 1) : Nat)) : signed n (twos n i) = i := by
  have hwidth := Nat.two_pow_pred_mul_two hn
  have hlt := twos_lt n i
  rcases Int.lt_or_le i 0 with hneg | hnonneg
  · have henc : (twos n i : Int) = i + (2 ^ n : Nat) := twos_of_neg hneg (by omega)
    rw [signed_of_half_le hlt (by omega), henc]
    omega
  · have henc : (twos n i : Int) = i := twos_of_nonneg hnonneg (by omega)
    rw [signed_of_lt_half hlt (by omega), henc]

/-- Settles O55: by induction on the number of bytes for both byte orders, by the sign for two's complement. -/
theorem fieldsRoundTrip : Obligations.FieldsRoundTrip :=
  ⟨fun n v => ⟨leVal_leBytes n v, Tests.leBytes_length n v⟩,
    fun n v => ⟨beVal_beBytes n v, rfl⟩,
    head?_leBytes_succ,
    fun _ _ => signed_twos⟩

end Sys2Proof.Proofs

/-! ## The Borul protocol, the event queue and what every step keeps -/

namespace Sys2Proof.Proofs

open Sys2Proof Sys2Proof.Machine

/-! ### Every command is one `run` -/

/-- Every command is the shared operation `run`, and its guard holds where the command is well-formed. The commands
listed name a unit the module may not have, and their guard is `Instr.wf` itself; the others have no guard. -/
theorem exec_eq_run (c : Instr) (s : State) :
    ∃ ok f, exec c s = run ok f s ∧ (c.wf = true → ok = true) := by
  cases c with
  | authLockoutEnd _ | authWindowExpiry _ | sessionIdleTimeout _ | fragmentTimeout _ _ | eventDelivery _
  | parseEntryDrainComplete _ | ethFrameReceive _ _ | canFrameReceive _ _ | preclassify _ _ | fastlaneCanSof _
  | fastlaneEthStart _ | nop _ | jmp _ | bz _ | bnz _ | bc _ | bnc _ | bs _ | call _ | ret _ | parseDone _
  | dropFrame _ | jtab _ | ldb _ | ldh _ | ldw _ | ldhl _ | ldwl _ | ldm _ | advi _ | advr _ | setc _ | getc _
  | movi _ | movhi _ | mov _ | add _ | addi _ | sub _ | andR _ | andi _ | orR _ | ori _ | xor _ | shli _
  | shri _ | ext _ | cmp _ | cmpi _ | keyw _ | keyi _ | hash _ | nameRef _ | nameWaitResume _ | tpsub _
  | acsub _ | mark _ | parseOverrun _ | classify _ | bpCeiling _ _ | dropOldestRemove _ _
  | allotmentMilestone _ | closureWatchdog _ _ _ | ethTxStart _ _ | ethTxComplete _ _ | gateEntryChange _
  | gateListActivated _ | pauseQuantaExpiry _ | pauseResend _ | canObjectLoad _ _ _ | canTxAttemptStart _
  | canTxAttemptEnd _ _ | collisionHoldExpiry _ _ | busOffRecovered _ | rateDetectTimeout _ | trailerLine _ _
  | addressClaimConfirm _ | cannotClaimSend _ | linSlotStart _ | linResponseReceive _ _ _
  | linResponseTimeout _ | pduTimeout _ | templateGridSend _ | templateDeferredSend _ | tunnelFlush _
  | postedWriteFail _ | linkChange _ _ _ _ _ | plcaBeaconLoss _ _ | mkaLifeTimeout _ | tc10SleepRequest _
  | tc10Wake _ _ | routingActivationRequest _ _ _ | diagnosticMessage _ _ _ _ | milestoneWrap _ | syncReceive _
  | gptpPdelayExchange _ _ | syncReceiptTimeout _ | holdoverLimit _ | ctsSyncSend _ | ctsFupSend _
  | ctsSyncCancel _ | wakeSourceLatch _ _ | nmTimeout _ _ | minAwakeExpiry _ | nmSend _ | linWakeStart _
  | heartbeatFrame _ _ | heartbeatAck _ | heartbeatTimeout _ | inrushWindowEnd _ | fastTrip _ _ _
  | overloadTrip _ _ _ | thermalShutdown _ _ _ | sympatheticRetry _ | channelRetry _ | tripCountReset _
  | openLoad _ _ | supplyInhibitRelease _ | zspCounterFrame _ _ | zspCounterSend _ | freqEdge _
  | supplyRangeChange _ _ | bringUp _ | discreteInputChange _ _ | sensorSupplyTrip _ _ | sensorSupplyRetry _ _
  | preemptionVerification _ _ | mkaHello _ | timeSlewEnd _ | timeBaseParityError _ | openLoadClear _ _
  | pwmPeriodStart _ | analogueInputSample _ _ => exact ⟨_, _, rfl, id⟩
  | sessionRekey r =>
    exact ⟨_, fun v w => switchKeys (request opSessionRekey r sessionRekeyBody v w), rfl, fun _ => rfl⟩
  | testInject r =>
    exact ⟨_, fun v w => useFaultOut v (requestThen opTestInject r testInjectBody v w), rfl, fun _ => rfl⟩
  | _ => exact ⟨_, _, rfl, fun _ => rfl⟩

/-- Settles O42: the step takes the front command off the queue before it runs it. -/
theorem stepRunsFrontCommand : Obligations.StepRunsFrontCommand := fun _ _ _ => rfl

/-- Settles O44: `run` commits to the base and the module alone. -/
theorem commandsLeaveTheQueue : Obligations.CommandsLeaveTheQueue := by
  intro c s t h
  obtain ⟨ok, f, hrun, -⟩ := exec_eq_run c s
  exact run_pending (hrun ▸ h)

/-- Settles O45: `run` ends in a next state where its guard holds, and in noSuchUnit elsewhere. -/
theorem wellFormedCommandsComplete : Obligations.WellFormedCommandsComplete := by
  refine ⟨fun c s hwf => ?wellFormed, fun c s => ?any⟩
  case wellFormed =>
    obtain ⟨ok, f, hrun, hok⟩ := exec_eq_run c s
    exact hrun ▸ run_completes (hok hwf) f s
  case any =>
    obtain ⟨ok, f, hrun, -⟩ := exec_eq_run c s
    exact hrun ▸ run_ends ok f s

/-! ### The invariant of queue and counters -/

/-- Settles O46: the queue, the counters and the marks of damage are empty. -/
theorem resetMeetsInvariant : Obligations.ResetMeetsInvariant :=
  ⟨Nat.zero_le _, nofun, by decide, rfl, nofun, nofun⟩

theorem idle_inv {s : State} (h : s.base.Inv) : (idle s).base.Inv := by
  unfold idle
  split
  · exact applyEff_inv s.base (.edges 1) h
  · exact h

/-- A command reaches the base by effects only, and each effect keeps the invariant. -/
theorem exec_inv {c : Instr} {s t : State} (h : s.base.Inv) (hrun : exec c s = .next t) : t.base.Inv := by
  obtain ⟨ok, f, hexec, -⟩ := exec_eq_run c s
  obtain ⟨es, hes⟩ := run_effects (hexec ▸ hrun)
  exact hes ▸ effects_inv es s.base h

/-- Settles O47: a step is one clock edge where the queue is empty, else a command. -/
theorem stepKeepsInvariant : Obligations.StepKeepsInvariant := by
  intro s t h hstep
  unfold step at hstep
  split at hstep
  · cases hstep
    exact idle_inv h
  · next c rest _ => exact exec_inv (s := { s with pending := rest }) h hstep

/-! ### The event queue (R48, R49) -/

/-- With a free place nothing is dropped and nothing counted. -/
theorem enqueueEvent_of_lt {b : Base} (e : Event) (h : b.ev.entries.length < queueBound) :
    b.enqueueEvent e = { b with ev := { b.ev with
      entries := b.ev.entries ++ [{ e with seq := b.ev.next }]
      next := (b.ev.next + 1) % 2 ^ 32
      last := b.ev.next } } := by
  simp [Base.enqueueEvent, Nat.not_le.mpr h]

/-- What is dropped is the first entry that is not critical. -/
theorem dropOldest_append {before rest : List Event} {x : Event} (hbefore : ∀ y ∈ before, y.severity = 3)
    (hx : x.severity ≠ 3) : dropOldest (before ++ x :: rest) = before ++ rest := by
  induction before with
  | nil => simp [dropOldest, hx]
  | cons y ys ih =>
    rw [List.forall_mem_cons] at hbefore
    simp [dropOldest, hbefore.1, ih hbefore.2]

/-- A full queue with an entry that is not critical gives up the oldest such entry, and counts it. -/
theorem enqueueEvent_of_full {b : Base} (e : Event) {x : Event} {before rest : List Event}
    (hfull : b.ev.entries.length = queueBound) (hsplit : b.ev.entries = before ++ x :: rest)
    (hbefore : ∀ y ∈ before, y.severity = 3) (hx : x.severity ≠ 3) :
    (b.enqueueEvent e).ev.entries = before ++ rest ++ [{ e with seq := b.ev.next }] ∧
    (b.enqueueEvent e).cnt = (b.count (C.event_dropped.id 0) 1).cnt := by
  have hdrop : dropOldest b.ev.entries = before ++ rest := hsplit ▸ dropOldest_append hbefore hx
  have hroom : ¬ queueBound ≤ (before ++ rest).length := by
    rw [← hfull, hsplit]
    simp
  simp only [Base.enqueueEvent, hfull, hdrop, Nat.le_refl, decide_true, if_true, if_neg hroom, and_self]

/-- No critical entry leaves the queue for a new one. -/
theorem critical_mem_enqueueEvent {b : Base} (e : Event) {y : Event} (hy : y ∈ b.ev.entries) (hc : y.severity = 3) :
    y ∈ (b.enqueueEvent e).ev.entries := by
  rcases Nat.lt_or_ge b.ev.entries.length queueBound with hroom | hfull
  · rw [enqueueEvent_of_lt e hroom]
    exact List.mem_append_left _ hy
  · simp only [Base.enqueueEvent, hfull, decide_true, if_true]
    split
    · exact hy
    · exact List.mem_append_left _ (dropOldest_critical _ y hy hc)

/-- The entry whose repeat count rises is the last that the predicate selects. -/
theorem bumpLast_of_any {p : Event → Bool} {l : List Event} (h : l.any p = true) :
    ∃ before e rest, l = before ++ e :: rest ∧ p e = true ∧ rest.any p = false ∧
      bumpLast p l = before ++ bumpRep e :: rest := by
  induction l with
  | nil => simp at h
  | cons a r ih =>
    cases hr : r.any p with
    | true =>
      obtain ⟨before, e, rest, hl, he, hrest, hbump⟩ := ih hr
      exact ⟨a :: before, e, rest, by rw [hl]; rfl, he, hrest, by simp [bumpLast, hr, hbump]⟩
    | false =>
      have ha : p a = true := by simpa [hr] using h
      exact ⟨[], a, r, rfl, ha, hr, by simp [bumpLast, ha, hr]⟩

/-- An occurrence whose equal is queued raises a repeat count. -/
theorem event_of_same {b : Base} {code : Nat} (tb : Nat) {d : List Byte}
    (h : b.ev.entries.any (fun e => e.severity == 3 && e.code == code && e.detail == d) = true) :
    b.event code 3 tb d = { b with ev := { b.ev with
      entries := bumpLast (fun e => e.severity == 3 && e.code == code && e.detail == d) b.ev.entries } } := by
  simp only [Base.event, h, beq_self_eq_true, Bool.and_self, if_true]

/-- At the bound of critical entries an occurrence without an equal raises the count of the newest of its code. -/
theorem event_of_sameCode {b : Base} {code : Nat} (tb : Nat) {d : List Byte}
    (hnew : b.ev.entries.any (fun e => e.severity == 3 && e.code == code && e.detail == d) = false)
    (hbound : criticalBound ≤ (b.ev.entries.filter (fun e => e.severity == 3)).length)
    (h : b.ev.entries.any (fun e => e.severity == 3 && e.code == code) = true) :
    b.event code 3 tb d = Base.count { b with ev := { b.ev with
      entries := bumpLast (fun e => e.severity == 3 && e.code == code) b.ev.entries } }
      (C.event_critical_merged.id 0) 1 := by
  simp only [Base.event, hnew, hbound, h, beq_self_eq_true, Bool.and_self, Bool.and_false, Bool.false_eq_true,
    decide_true, if_true, if_false]

theorem event_of_room {b : Base} {code : Nat} (tb : Nat) {d : List Byte}
    (hnew : b.ev.entries.any (fun e => e.severity == 3 && e.code == code && e.detail == d) = false)
    (h : (b.ev.entries.filter (fun e => e.severity == 3)).length < criticalBound ∨
      b.ev.entries.any (fun e => e.severity == 3 && e.code == code) = false) :
    b.event code 3 tb d = b.enqueueEvent (mkEvent b code 3 tb d) := by
  have hroom : (decide (criticalBound ≤ (b.ev.entries.filter (fun e => e.severity == 3)).length) &&
      b.ev.entries.any (fun e => e.severity == 3 && e.code == code)) = false := by
    rcases h with h | h
    · simp [Nat.not_le.mpr h]
    · simp [h]
  simp only [Base.event, hnew, hroom, beq_self_eq_true, Bool.and_false, Bool.true_and, Bool.false_eq_true, if_false]

theorem event_of_not_critical (b : Base) (code tb : Nat) (d : List Byte) {sev : Nat} (h : sev ≠ 3) :
    b.event code sev tb d = b.enqueueEvent (mkEvent b code sev tb d) := by
  simp only [Base.event, beq_false_of_ne h, Bool.false_and, Bool.false_eq_true, if_false]

theorem count_ev (b : Base) (id n : Nat) : (b.count id n).ev = b.ev := by
  unfold Base.count
  split <;> rfl

theorem getD_count_self {b : Base} (id n : Nat) (hwf : b.cnt.wf 0 = true) (hsat : ∀ p ∈ b.cnt, p.2 ≤ counterMax) :
    (b.count id n).cnt.getD id 0 = min (b.cnt.getD id 0 + n) counterMax := by
  rw [count_getD b id n id hwf hsat, if_pos rfl]

/-- Whatever occurs, a critical entry stays; its repeat count may have risen. -/
theorem critical_kept_by_event {b : Base} (hinv : b.Inv) (code sev tb : Nat) (d : List Byte) {e : Event}
    (he : e ∈ b.ev.entries) (hc : e.severity = 3) :
    ∃ e' ∈ (b.event code sev tb d).ev.entries, { e' with rep := e.rep } = e ∧ e.rep ≤ e'.rep := by
  have hrep : e.rep ≤ 255 := (of_decide_eq_true (hinv.entries e he)).1
  have hbump : ∀ p, ∃ e' ∈ bumpLast p b.ev.entries, { e' with rep := e.rep } = e ∧ e.rep ≤ e'.rep := by
    intro p
    obtain ⟨e', hmem, hsame, hle⟩ := bumpLast_keeps p b.ev.entries e he
    exact ⟨e', hmem, hsame, hle hrep⟩
  unfold Base.event
  dsimp only
  split
  · exact hbump _
  · split
    · rw [count_ev]
      exact hbump _
    · exact ⟨e, critical_mem_enqueueEvent _ he hc, rfl, Nat.le_refl _⟩

/-- Settles O50: by the place of the oldest entry that is not critical. -/
theorem fullQueueDropsTheOldestNonCritical : Obligations.FullQueueDropsTheOldestNonCritical := by
  refine ⟨?room, ?full, fun b code sev tb d e hinv => critical_kept_by_event hinv code sev tb d⟩
  case room =>
    intro b e h
    rw [enqueueEvent_of_lt e h]
    exact ⟨rfl, rfl⟩
  case full =>
    intro b e x before rest hinv hfull hsplit hbefore hx
    obtain ⟨hentries, hcnt⟩ := enqueueEvent_of_full e hfull hsplit hbefore hx
    exact ⟨hentries, hcnt ▸ getD_count_self _ _ hinv.counters hinv.saturated⟩

/-- Settles O51: the three ways of a critical occurrence, and the newest entry that takes it. -/
theorem criticalEventsMerge : Obligations.CriticalEventsMerge := by
  refine ⟨?same, ?sameCode, fun b code tb d => event_of_room tb,
    fun b code sev tb d => event_of_not_critical b code tb d,
    fun b e x before rest _ _ _ _ y => critical_mem_enqueueEvent e⟩
  case same =>
    intro b code tb d same h
    obtain ⟨before, e, rest, hl, he, hrest, hbump⟩ := bumpLast_of_any h
    refine ⟨before, e, rest, hl, he, hrest, ?_⟩
    rw [event_of_same tb h]
    exact ⟨hbump, rfl⟩
  case sameCode =>
    intro b code tb d hinv same sameCode hnew hbound h
    obtain ⟨before, e, rest, hl, he, hrest, hbump⟩ := bumpLast_of_any h
    refine ⟨before, e, rest, hl, he, hrest, ?_⟩
    rw [event_of_sameCode tb hnew hbound h, count_ev]
    refine ⟨hbump, getD_count_self _ _ ?_ ?_⟩
    · exact hinv.counters
    · exact hinv.saturated

/-- Settles O58: an event, rate-limited or not, and a seal change the journal and `runSince` at most. -/
theorem eventsTouchOnlyQueueAndJournal : Obligations.EventsTouchOnlyQueueAndJournal :=
  ⟨event_same, limited_same, fun w v flags => writeSeal_same v flags w⟩

/-! ### Commands and the outcome `after` -/

/-- A command with its operands in range has its effect; statements write that effect their own way. -/
theorem run_eq_after {ok : Bool} {s : State} {f g : View → W → W} (hok : ok = true)
    (h : f s.base ⟨s.m, []⟩ = g s.base ⟨s.m, []⟩) : run ok f s = after s g := by
  simp only [run, hok, if_true, h, after]

theorem run_eq_self {ok : Bool} {s : State} {f : View → W → W} (hok : ok = true)
    (h : f s.base ⟨s.m, []⟩ = ⟨s.m, []⟩) : run ok f s = .next s := by
  simp only [run, hok, if_true, h]
  rfl

/-- A timer acts once its deadline and the settle time have passed (R42), and changes nothing before. -/
theorem run_eq_ite {ok : Bool} {s : State} {f g : View → W → W} {c : Prop} [Decidable c] (hok : ok = true)
    (hdue : c → f s.base ⟨s.m, []⟩ = g s.base ⟨s.m, []⟩)
    (hearly : ¬ c → f s.base ⟨s.m, []⟩ = ⟨s.m, []⟩) :
    run ok f s = if c then after s g else .next s := by
  split
  · exact run_eq_after hok (hdue ‹_›)
  · exact run_eq_self hok (hearly ‹_›)

/-! ### What the body of an accepted request finds -/

theorem count_now (b : Base) (id n : Nat) : (b.count id n).now = b.now := by
  unfold Base.count
  split <;> rfl

theorem entered_ev (op : OpInfo) (r : Request) (i : Nat) (s : State) :
    ((entered op r i s).base s.base).ev = s.base.ev := count_ev s.base _ 1

theorem entered_now (op : OpInfo) (r : Request) (i : Nat) (s : State) :
    ((entered op r i s).base s.base).now = s.base.now := count_now s.base _ 1

theorem enteredBare_ev (s : State) : ((enteredBare s).base s.base).ev = s.base.ev := count_ev s.base _ 1

theorem enteredBare_now (s : State) : ((enteredBare s).base s.base).now = s.base.now := count_now s.base _ 1

theorem need_of_le {n : Nat} {p : List Byte} (h : n ≤ p.length) (body : Body) (c : Ctx) (v : View) (w : W) :
    need n body c p v w = body c p v w := by
  simp only [need, if_neg (Nat.not_lt.mpr h)]

/-- A request outside any session is answered with OK at once. -/
theorem bare_ok {op : OpInfo} {r : Request} {s : State} (h : AcceptedBare op r s) {body : Body} {w : W} {p : List Byte}
    (hb : body (askedBare r) r.payload s.base (enteredBare s) = (w, .ok p)) :
    run true (request op r body) s = repliedBare op r s w p := by
  simp only [run, if_true, request_bare h, hb]
  rfl

/-! ### Duplicates (R39) -/

theorem findDup_some {op : OpInfo} {r : Request} {x : Session} {d : DupEntry} (h : findDup op r x = some d) :
    d ∈ x.dup ∧ d.seq = r.sequence ∧ d.tag = r.tag ∧ d.opcode = op.code ∧ d.cmac = r.trailer := by
  refine ⟨List.mem_of_find?_eq_some h, ?_⟩
  simpa [and_assoc] using List.find?_some h

theorem findDup_none {op : OpInfo} {r : Request} {x : Session} (h : findDup op r x = none) {d : DupEntry}
    (hd : d ∈ x.dup) : ¬ (d.seq = r.sequence ∧ d.tag = r.tag ∧ d.opcode = op.code ∧ d.cmac = r.trailer) := by
  simpa [and_assoc] using List.find?_eq_none.mp h d hd

theorem turnAway_of_ge {st : Nat} (h : 0x0100 ≤ st) (v : View) (op : OpInfo) (r : Request) (i : Nat) (w : W) :
    turnAway v op r i st w = sendOn v i r.src { major := 0, minor := 0, opcode := op.code, tag := r.tag, reply := true
                                                status := st, payload := u32 r.sequence } w := by
  simp [turnAway, withSeq, h]

/-- Settles O57: what `request` does with a request that reaches step 4. -/
theorem duplicatesAreNotRunAgain : Obligations.DuplicatesAreNotRunAgain := by
  refine ⟨?executing, ?complete, ?stale, fun op r x d => findDup_some, fun op r x h d => findDup_none h, ?fresh⟩
  case executing =>
    intro op r body s i d h hd hreply
    refine run_eq_after rfl ?_
    rw [reaches_request h, hd]
    simp only [repeated, hreply]
  case complete =>
    intro op r body s i d st posted p h hd hreply
    refine run_eq_after rfl ?_
    rw [reaches_request h, hd]
    simp only [repeated, hreply]
  case stale =>
    intro op r body s i h hd hseq
    refine run_eq_after rfl ?_
    rw [reaches_request h, hd]
    simp only [hseq, if_true]
    exact turnAway_of_ge (by decide) ..
  case fresh =>
    intro op r s i h _
    rw [entered_slot op r i s h.slot_lt]
    refine ⟨rfl, (_ : List DupEntry).take _, (List.take_append_drop _ _).symm, ?_⟩
    simp only [List.length_drop, List.length_append, List.length_singleton]
    omega

/-! ### The checks of Table 02-2 -/

/-- A packet without a session named that reaches the module as Borul traffic with good framing. -/
theorem request_bare_framed {op : OpInfo} {r : Request} {s : State} {t : Transport} (hm : managed s.m = true)
    (h0 : r.sessionId = 0) (ht : admitted s.m none r.src = .yes t) (hf : framingOk r = true) (body : Body) :
    request op r body s.base ⟨s.m, []⟩ =
      if r.trailer != trailerOf none (requestBytes (named op r).code r) then W.count ⟨s.m, []⟩ C.borul_auth_fail
      else bareRequest s.base (named op r) r body ⟨s.m, []⟩ := by
  simp [request, hm, h0, ht, hf]

/-- A packet that names the session of slot `i` and reaches the module as Borul traffic with good framing. -/
theorem request_session_framed {op : OpInfo} {r : Request} {s : State} {i : Nat} {t : Transport}
    (hm : managed s.m = true) (h0 : r.sessionId ≠ 0) (hi : findSlot s.m r.sessionId = some i)
    (ht : admitted s.m (some (slotAt s.m i)) r.src = .yes t) (hf : framingOk r = true) (body : Body) :
    request op r body s.base ⟨s.m, []⟩ =
      if !sameEndpoint (slotAt s.m i).src r.src then W.count ⟨s.m, []⟩ C.borul_rx_discarded
      else if s.base.late (slotAt s.m i).deadline then W.count ⟨s.m, []⟩ C.borul_rx_discarded
      else if r.trailer != trailerOf (some (slotAt s.m i).key) (requestBytes (named op r).code r) then
        if (slotAt s.m i).st == .pending && (named op r).code == 0x0102 then
          authFailure s.base (named op r) r i ⟨s.m, []⟩
        else W.count ⟨s.m, []⟩ C.borul_auth_fail
      else sessionRequest s.base (named op r) r i body ⟨s.m, []⟩ := by
  simp [request, hm, h0, hi, ht, hf]

theorem clearDenied_eq (op : OpInfo) (role : Nat) (p : List Byte) :
    clearDenied op role p =
      if op.code = 0x0602 ∧ role < 3 then firstIndex isMramCounter (counterIds p) else none := by
  simp [clearDenied]

theorem flowWriteDenied_iff (op : OpInfo) (role : Nat) (p : List Byte) :
    flowWriteDenied op role p = true ↔ op.code = 0x0403 ∧ role < 3 ∧ p ≠ [] ∧ leAt p 0 1 = 0x0D := by
  simp [flowWriteDenied, and_assoc]

theorem gate_eq (m : Module) (op : OpInfo) (ver : Nat × Nat) (role : Nat) (p : List Byte) :
    gate m op ver role p =
    if familyRev (op.code / 256) ver < op.rev then some (St.badOpcode, [])
    else if role < op.role ∨ op.code = 0x0403 ∧ role < 3 ∧ p ≠ [] ∧ leAt p 0 1 = 0x0D then some (St.notPermitted, [])
    else match (if op.code = 0x0602 ∧ role < 3 then firstIndex isMramCounter (counterIds p) else none) with
      | some k => some (St.notPermitted, u16 k ++ zeros 2)
      | none => if (m.mod.state = .safe ∨ m.mod.bootBank = 2) ∧ detourServes m op = false then some (St.wrongState, [])
        else none := by
  simp only [gate, clearDenied_eq, Bool.or_eq_true, decide_eq_true_eq, flowWriteDenied_iff, runsDetour,
    Bool.and_eq_true, beq_iff_eq, Bool.not_eq_true'] <;> rfl

/-- Every revision that a family's table lists is below 256. -/
theorem families_rev_lt : ∀ f ∈ families, ∀ x ∈ f.2, x.2 < 256 := by decide

theorem foldl_rev_lt {ver : Nat × Nat} (l : List ((Nat × Nat) × Nat)) (r : Nat) (hl : ∀ x ∈ l, x.2 < 256)
    (hr : r < 256) : l.foldl (fun r s => if verLe s.1 ver then max r s.2 else r) r < 256 := by
  induction l generalizing r with
  | nil => exact hr
  | cons x xs ih =>
    rw [List.forall_mem_cons] at hl
    refine ih _ hl.2 ?_
    dsimp only
    split
    · exact Nat.max_lt.mpr ⟨hr, hl.1⟩
    · exact hr

theorem familyRev_lt (fam : Nat) (ver : Nat × Nat) : familyRev fam ver < 256 := by
  unfold familyRev
  cases h : families.find? (fun f => f.1 == fam) with
  | none => exact Nat.zero_lt_succ 255
  | some f => exact foldl_rev_lt f.2 0 (families_rev_lt f (List.mem_of_find?_eq_some h)) (by decide)

/-- Settles O56: the checks of `request` one after another, for a body that is left open. -/
theorem requestsAreCheckedInOrder : Obligations.RequestsAreCheckedInOrder := by
  refine ⟨?unserved, ?elsewhere, ?foreign, ?framing, ?unknown, ?bareTrailer, ?endpoint, ?trailer, ?bareOpcode,
    ?opcode, ?version, ?gate, ?busy, gate_eq, ?other, familyRev_lt, ?reply, ?bareReply,
    fun v op r i st w h => turnAway_of_ge h v op r i w⟩
  case unserved =>
    intro op r body s hm
    refine run_eq_after rfl ?_
    simp [request, hm]
  case elsewhere =>
    intro op r body s hm ha
    refine run_eq_after rfl ?_
    simp only [request, hm, ha, Bool.not_true, Bool.false_eq_true, if_false]
  case foreign =>
    intro op r body s hm ha
    refine run_eq_after rfl ?_
    simp only [request, hm, ha, Bool.not_true, Bool.false_eq_true, if_false]
  case framing =>
    intro op r body s t hm ha hf
    refine run_eq_after rfl ?_
    simp only [request, hm, ha, hf, Bool.not_true, Bool.not_false, Bool.false_eq_true, if_true, if_false]
  case unknown =>
    intro op r body s t hm h0 hfind ha hf
    refine run_eq_after rfl ?_
    simp [request, hm, h0, hfind, ha, hf]
  case bareTrailer =>
    intro op r body s t hm h0 ha hf htr
    refine run_eq_after rfl ?_
    rw [request_bare_framed hm h0 ha hf, if_pos (bne_iff_ne.mpr htr)]
  case endpoint =>
    intro op r body s i t hm h0 hi ha hf hbad
    refine run_eq_after rfl ?_
    rw [request_session_framed hm h0 hi ha hf]
    rcases hbad with h | h <;> simp [h]
  case trailer =>
    intro op r body s i t hm h0 hi ha hf hsame hlate htr hst
    refine run_eq_after rfl ?_
    rw [request_session_framed hm h0 hi ha hf]
    have hnot : ((slotAt s.m i).st == .pending && (named op r).code == 0x0102) = false := by
      rcases hst with h | h <;> simp [h]
    simp [hsame, hlate, htr, hnot]
  case bareOpcode =>
    intro op r body s t hown hm h0 ha hf htr h1 h2
    refine run_eq_after rfl ?_
    rw [request_bare_framed hm h0 ha hf, named_own op hown]
    simp [htr, bareRequest, h1, h2]
  case opcode =>
    intro op r body s i h hop
    refine run_eq_after rfl ?_
    have hno : allowedIn (slotAt s.m i) op = false := by
      unfold allowedIn
      by_cases hst : (slotAt s.m i).st = .pending
      · simpa [hst] using hop
      · simp only [hst, if_false] at hop
        rcases hop with hop | hop <;> simp [hst, hop]
    rw [verified_request h]
    simp only [sessionRequest, hno, Bool.not_false, if_true]
  case version =>
    intro op r body s i h hop hver
    refine run_eq_after rfl ?_
    rw [verified_request h]
    simp only [sessionRequest, hop, Bool.not_true, Bool.false_eq_true, if_false, bne_iff_ne.mpr hver, if_true]
  case gate =>
    intro op r body s i st d h hd hseq hgate
    refine run_eq_after rfl ?_
    have hentered : gate (entered op r i s).m op ((slotAt s.m i).major, (slotAt s.m i).minor)
      ((slotAt s.m i).role + 1) (wholePayload s.base r (slotAt s.m i)) = some (st, d) := hgate
    rw [reaches_fresh h hd hseq, hentered]
  case busy =>
    intro op r body s i h hd hseq hgate htrain htag
    refine run_eq_after rfl ?_
    have hentered : gate (entered op r i s).m op ((slotAt s.m i).major, (slotAt s.m i).minor)
      ((slotAt s.m i).role + 1) (wholePayload s.base r (slotAt s.m i)) = none := hgate
    have hslot := entered_slot op r i s h.slot_lt
    have htrain' : trainOf (slotAt (entered op r i s).m i) r.tag = none := hslot ▸ htrain
    have htag' : (slotAt (entered op r i s).m i).tags.contains r.tag = true := hslot ▸ htag
    rw [reaches_fresh h hd hseq, hentered]
    simp only [carryOut, htrain', carryFresh, htag', if_true]
  case other =>
    intro op r c h
    simp only [named, h]
  case reply =>
    intro v op r i st posted p w h
    simp only [respond, withSeq, h, if_true]
  case bareReply =>
    intro v op r st posted p w h hbusy
    simp only [respond, withSeq, h, if_true, beq_false_of_ne hbusy, Bool.false_eq_true, if_false]

/-! ### The session timers (R17, R34, R35, R38, R42, R44) -/

theorem expired_iff (b : Base) (t : Nat) : b.expired t = true ↔ t + 1200 ≤ b.now := decide_eq_true_iff

theorem not_expired {b : Base} {t : Nat} (h : ¬ t + 1200 ≤ b.now) : b.expired t = false := decide_eq_false h

/-- A PENDING session ends without an event. -/
theorem endSession_of_not_opened {w : W} {i : Nat} (h : (slotAt w.m i).st ≠ .opened) (v : View) (reason : Nat) :
    endSession v i reason w = freed i w := by
  simp only [endSession, beq_false_of_ne h, Bool.false_eq_true, if_false, freed]

theorem endSession_of_opened {w : W} {i : Nat} (h : (slotAt w.m i).st = .opened) (v : View) (reason : Nat) :
    endSession v i reason w = (freed i w).event v 0x0203 0 (u32 (slotAt w.m i).id ++ u8 reason) := by
  simp only [endSession, h, beq_self_eq_true, if_true, freed]

/-- Settles O2: each timer by whether its deadline and the settle time have passed. -/
theorem sessionTimersEnd : Obligations.SessionTimersEnd := by
  refine ⟨?lockout, ?authWindow, ?idle, ?reassembly, ?fragment⟩
  case lockout =>
    intro role s t hrole ht
    refine run_eq_ite (decide_eq_true hrole) (fun hdue => ?_) (fun hearly => ?_)
    · simp only [authLockoutEndCore, ht, (expired_iff ..).mpr hdue, if_true]
    · simp only [authLockoutEndCore, ht, not_expired hearly, Bool.false_eq_true, if_false]
  case authWindow =>
    intro k s hk hst
    have hopen : (slotAt s.m k).st ≠ .opened := by simp [hst]
    refine run_eq_ite (decide_eq_true hk) (fun hdue => ?_) (fun hearly => ?_)
    · simp only [authWindowExpiryCore, hst, beq_self_eq_true, (expired_iff ..).mpr hdue, Bool.and_self, if_true]
      exact endSession_of_not_opened hopen ..
    · simp only [authWindowExpiryCore, not_expired hearly, Bool.and_false, Bool.false_eq_true, if_false]
  case idle =>
    intro k s hk hst
    refine run_eq_ite (decide_eq_true hk) (fun hdue => ?_) (fun hearly => ?_)
    · simp only [sessionIdleTimeoutCore, hst, beq_self_eq_true, (expired_iff ..).mpr hdue, Bool.and_self, if_true]
      exact endSession_of_opened hst ..
    · simp only [sessionIdleTimeoutCore, not_expired hearly, Bool.and_false, Bool.false_eq_true, if_false]
  case reassembly =>
    intro k s p hp
    refine run_eq_ite rfl (fun ⟨hdue, hlate⟩ => ?_) (fun hkeep => ?_)
    · simp only [ipReassemblyTimeoutCore, hp, (expired_iff ..).mpr hdue, hlate, Bool.not_false, Bool.and_self, if_true]
    · have hno : (s.base.expired (p.first + 1000000000) && !fragmentInTime s.m p (p.first + 1000000000)) = false := by
        rw [Bool.eq_false_iff, ne_eq, Bool.and_eq_true, expired_iff, Bool.not_eq_true']
        exact hkeep
      simp only [ipReassemblyTimeoutCore, hp, hno, Bool.false_eq_true, if_false]
  case fragment =>
    intro k tag s t hk htag ht
    refine run_eq_ite (decide_eq_true ⟨hk, htag⟩) (fun hdue => ?_) (fun hearly => ?_)
    · simp only [fragmentTimeoutCore, ht, (expired_iff ..).mpr hdue, if_true, dropTrain]
    · simp only [fragmentTimeoutCore, ht, not_expired hearly, Bool.false_eq_true, if_false]

/-! ### SESSION (Table 02-12) -/

/-- SESSION_AUTH with the right nonce, by what the slot holds while it runs. -/
theorem sessionAuthBody_ok {c : Ctx} {p : List Byte} {v : View} {w : W} {i : Nat} (hslot : c.slot = some i)
    (hlen : 16 ≤ p.length) (hnonce : p.take 16 = (slotAt w.m i).nonce) :
    sessionAuthBody c p v w =
      (((confirmWake v.now ((w.slot i (fun x => { x with
          st := .opened, deadline := v.now + prm w.m P.session_session_idle_timeout * 1000 })).borul
        (fun b => { b with fails := upd b.fails (slotAt w.m i).role (fun _ => 0) }))).event v 0x0202 0
        (u32 (slotAt w.m i).id ++ u8 (slotAt w.m i).role ++ u8 (slotAt w.m i).major ++ u8 (slotAt w.m i).minor
          ++ u8 (transportCode (slotAt w.m i).src))),
        .ok (u8 (slotAt w.m i).role ++ zeros 3 ++ u32 (prm w.m P.session_session_idle_timeout))) := by
  rw [sessionAuthBody, need_of_le hlen]
  simp only [hslot, hnonce, bne_self_eq_false, Bool.false_eq_true, if_false, answer]

theorem sessionHelloBody_ok {r : Request} {c : Ctx} {p : List Byte} {v : View} {w w' : W} {k : Nat} {ver : Nat × Nat}
    {key : List Byte} (hfree : freeSlot w.m = some k) (hlen : 24 ≤ p.length)
    (hhi : (leAt p 2 1, leAt p 3 1) = (r.major, r.minor)) (hrole : leAt p 4 1 ≤ 2)
    (hver : chooseVersion (leAt p 0 1, leAt p 1 1) (r.major, r.minor) = some ver)
    (hlock : roleLocked w.m (leAt p 4 1) v.now = false) (hkey : accessKey v (leAt p 4 1) w = (w', some key)) :
    sessionHelloBody r c p v w = (openPending v r k (leAt p 4 1) ver key w', .done) := by
  simp only [sessionHelloBody, hfree, if_neg (Nat.not_lt.mpr hlen), hhi, hver, hlock, hkey, bne_self_eq_false,
    Bool.false_or, decide_eq_true_eq, if_neg (Nat.not_lt.mpr hrole), Bool.false_eq_true, if_false]

theorem sessionEvictBody_of_found {c : Ctx} {p : List Byte} {v : View} {w : W} {j : Nat} (hlen : 4 ≤ p.length)
    (hj : findSlot w.m (leAt p 0 4) = some j) :
    sessionEvictBody c p v w = if c.slot == some j then (w, .okEnd [] 1) else (endSession v j 1 w, .ok []) := by
  rw [sessionEvictBody, need_of_le hlen]
  simp only [hj, answer]

theorem sessionRekeyBody_ok {c : Ctx} {p : List Byte} {v : View} {w w' : W} {i : Nat} {key : List Byte}
    (hslot : c.slot = some i) (hlen : 16 ≤ p.length) (hkey : accessKey v c.role w = (w', some key)) :
    sessionRekeyBody c p v w =
      ((w'.eff .draw).slot i (fun x => { x with nextKey := some (sessionKey key c.sid (p.take 16)
        (beBytes 16 (Config.random (w'.base v).fresh).toNat) c.ver c.role) }),
      .ok (beBytes 16 (Config.random (w'.base v).fresh).toNat)) := by
  rw [sessionRekeyBody, need_of_le hlen]
  simp only [hslot, hkey, answer]

/-- Settles O1: each body's answer on the session record that the checks leave. -/
theorem sessionRequestsAnswer : Obligations.SessionRequestsAnswer := by
  refine ⟨?hello, ?auth, fun _ _ _ h => accepted_ok h (Bool.and_false _) rfl,
    fun _ _ _ h => accepted_okEnd h (Bool.and_false _) rfl,
    fun _ _ _ h => accepted_ok h (Bool.and_false _) rfl, ?evict, ?evictSelf, ?rekey⟩
  case hello =>
    intro r s k ver w key h hfree hlen hhi hrole hver hlock hkey
    have hbody : sessionHelloBody r (askedBare r) r.payload s.base (enteredBare s) = _ :=
      sessionHelloBody_ok hfree hlen hhi hrole hver hlock hkey
    show run true (request opSessionHello r (sessionHelloBody r)) s = _
    simp only [run, if_true, request_bare h, hbody]
  case auth =>
    intro r s i h hlen hnonce
    have hslot := entered_slot opSessionAuth r i s h.slot_lt
    have hbody := sessionAuthBody_ok (c := asked r i s) (v := s.base) (w := entered opSessionAuth r i s) rfl hlen
      (by rw [hslot]; exact hnonce)
    rw [hslot] at hbody
    exact accepted_ok h (Bool.and_false _) hbody
  case evict =>
    intro r s i j h hlen hj hne
    have hbody : sessionEvictBody (asked r i s) r.payload s.base (entered opSessionEvict r i s) = _ :=
      sessionEvictBody_of_found hlen hj
    rw [if_neg (by simpa [asked, sessionCtx] using Ne.symm hne)] at hbody
    exact accepted_ok h (Bool.and_false _) hbody
  case evictSelf =>
    intro r s i h hlen hi
    have hbody : sessionEvictBody (asked r i s) r.payload s.base (entered opSessionEvict r i s) = _ :=
      sessionEvictBody_of_found hlen hi
    rw [if_pos (by simp [asked, sessionCtx])] at hbody
    exact accepted_okEnd h (Bool.and_false _) hbody
  case rekey =>
    intro r s i w key h hlen hkey
    have hbody := sessionRekeyBody_ok (c := asked r i s) (p := r.payload) rfl hlen hkey
    have hreq := request_ok h (Bool.and_false _) hbody
    show run true (fun v w => switchKeys (request opSessionRekey r sessionRekeyBody v w)) s = _
    simp only [run, if_true, hreq]
    rfl

/-! ### EVENT (Table 02-12, R50, R51) -/

theorem eventSubscribeBody_of_slot {c : Ctx} {p : List Byte} {v : View} {w : W} {i : Nat} (hslot : c.slot = some i)
    (hlen : 8 ≤ p.length) (hsev : leAt p 0 1 ≤ 3) (hen : leAt p 1 1 ≤ 1) :
    eventSubscribeBody c p v w = (w.slot i (fun x => { x with
      sub := if leAt p 1 1 == 0 then none
        else some { minSeverity := leAt p 0 1, chapterMask := leAt p 4 4
                    next := match x.sub with | some o => o.next | none => oldestSeq (w.base v).ev } }), .ok []) := by
  rw [eventSubscribeBody, need_of_le hlen]
  simp only [if_neg (Nat.not_lt.mpr hen), if_neg (Nat.not_lt.mpr hsev), hslot, answer] <;> rfl

theorem eventStatusBody_eq (c : Ctx) (p : List Byte) (v : View) (w : W) :
    eventStatusBody c p v w = (w, .ok (u16 (w.base v).ev.entries.length
      ++ u16 ((w.base v).ev.entries.filter isCritical).length ++ u32 (oldestSeq (w.base v).ev)
      ++ u32 (match (w.base v).ev.entries.getLast? with | some e => e.seq | none => (w.base v).ev.last))) := rfl

theorem eventReadBody_of_le {p : List Byte} (hlen : 5 ≤ p.length) (c : Ctx) (v : View) (w : W) :
    eventReadBody c p v w = (w, .ok ((((w.base v).ev.entries.filter
      (fun e => seqLe (leAt p 0 4) e.seq)).take (leAt p 4 1)).map eventRecord).flatten) := by
  rw [eventReadBody, need_of_le hlen]
  rfl

/-- Settles O3: bodies read the queue as the command found it, since the checks only count. -/
theorem eventFamilyAnswers : Obligations.EventFamilyAnswers := by
  refine ⟨?subscribe, ?unsubscribe, ?ack, ?status, ?read, ?delivery, ?resend, ?resentOn⟩
  case subscribe =>
    intro r s i h hlen hsev hen
    have hbody := eventSubscribeBody_of_slot (c := asked r i s) (v := s.base) (w := entered opEventSubscribe r i s) rfl
      hlen hsev (Nat.le_of_eq hen)
    simp only [hen, entered_ev, Nat.one_ne_zero, beq_iff_eq, if_false] at hbody
    exact accepted_ok h (Bool.and_false _) hbody
  case unsubscribe =>
    intro r s i h hlen hsev hen
    have hbody := eventSubscribeBody_of_slot (c := asked r i s) (v := s.base) (w := entered opEventSubscribe r i s) rfl
      hlen hsev (hen ▸ Nat.zero_le 1)
    simp only [hen, beq_self_eq_true, if_true] at hbody
    exact accepted_ok h (Bool.and_false _) hbody
  case ack =>
    intro r s i h hlen
    exact accepted_ok h (Bool.and_false _) (need_of_le hlen ..)
  case status =>
    intro r s i h
    have hbody := eventStatusBody_eq (asked r i s) r.payload s.base (entered opEventStatus r i s)
    simp only [entered_ev] at hbody
    exact accepted_ok h (Bool.and_false _) hbody
  case read =>
    intro r s i h hlen
    have hbody := eventReadBody_of_le hlen (asked r i s) s.base (entered opEventRead r i s)
    simp only [entered_ev] at hbody
    exact accepted_ok h (Bool.and_false _) hbody
  case delivery =>
    intro k s o hk hst hsub hm
    refine run_eq_after (decide_eq_true hk) ?_
    simp only [eventDeliveryCore, hsub, hst, hm, bne_self_eq_false, Bool.not_true, Bool.or_self, Bool.false_eq_true,
      if_false]
  case resend =>
    intro s hm hdue
    refine run_eq_after rfl ?_
    simp only [criticalResendCore, hm, (expired_iff ..).mpr hdue, Bool.not_true, Bool.or_self, Bool.false_eq_true,
      if_false]
  case resentOn =>
    intro i es m
    unfold resentOn
    dsimp only
    cases (slotAt m i).sub with
    | none => rfl
    | some o => by_cases hst : (slotAt m i).st = .opened <;> simp [hst]

/-! ### INFO -/

theorem infoStateBody_eq (c : Ctx) (p : List Byte) {v : View} {w : W} (hnow : (w.base v).now = v.now)
    (hev : (w.base v).ev = v.ev) :
    infoStateBody c p v w = (w, .ok (u8 w.m.mod.state.code ++ u8 w.m.mod.configSource ++ u8 w.m.mod.bootBank ++ u8 0
      ++ u64 v.now ++ u16 v.ev.entries.length ++ u16 (v.ev.entries.filter isCritical).length)) := by
  simp only [infoStateBody, answer, hnow, hev]

/-- Settles O4: no INFO body reads who asks. -/
theorem infoFamilyAnswers : Obligations.InfoFamilyAnswers :=
  ⟨fun _ _ _ h => accepted_ok h (Bool.and_false _) rfl,
    fun _ _ _ h => accepted_ok h (Bool.and_false _) rfl,
    fun r s i h => accepted_ok h (Bool.and_false _) (infoStateBody_eq _ _ (entered_now _ r i s) (entered_ev _ r i s)),
    fun _ _ _ h => accepted_ok h (Bool.and_false _) rfl,
    fun _ _ h => bare_ok h rfl,
    fun _ _ h => bare_ok h rfl,
    fun _ _ h => bare_ok h rfl,
    fun _ s h => bare_ok h (infoStateBody_eq _ _ (enteredBare_now s) (enteredBare_ev s))⟩

/-! ### Holds (R46, R68-R72, R99) -/

/-- Stated for variables, so that no check of it unfolds a parameter's value. -/
theorem ite_beq_zero (n a b : Nat) : (if (n == 0) = true then a else b) = if n = 0 then a else b := by
  simp only [beq_iff_eq]

/-- A hold past its end no longer counts (R71); stated for a time `t` that nothing unfolds. -/
theorem none_lasts {o : Option Hold} {t : Nat} (h : ∀ x, o = some x → x.until_ ≤ t) :
    o.any (fun x => decide (t < x.until_)) = false := by
  cases o with
  | none => rfl
  | some x => simpa using h x rfl

theorem paramHoldBody_ok {c : Ctx} {p : List Byte} {v : View} {w : W} {top : Nat} (hlen : 8 ≤ p.length)
    (hscope : holdScope (leAt p 0 1) = some top) (hinst : leAt p 1 1 ≤ top)
    (hspan : leAt p 4 4 ≤ prm w.m P.module_hold_max_duration)
    (hfree : ∀ x, findHold w.m (leAt p 0 1) (leAt p 1 1) = some x → x.until_ ≤ v.now)
    (hspeed : leAt p 0 1 ≠ 0 ∨ speedAllows w.m = true) :
    paramHoldBody c p v w =
      (let block := leAt p 0 1
       let inst := leAt p 1 1
       let us := leAt p 4 4
       let cleared := clearScope v block inst w
       let held := openHold v block inst ((if us = 0 then prm w.m P.module_hold_max_duration else us) * 1000) cleared
       if scopeBusy cleared.m v.now block inst then (held, .wait (.hold block inst) []) else (held, .ok [])) := by
  have hunheld := none_lasts hfree
  have hallowed : (leAt p 0 1 == 0 && !speedAllows w.m) = false := by
    rcases hspeed with h | h <;> simp [h]
  have hrange : ¬ (top < leAt p 1 1 ∨ prm w.m P.module_hold_max_duration < leAt p 4 4) :=
    not_or.mpr ⟨Nat.not_lt.mpr hinst, Nat.not_lt.mpr hspan⟩
  rw [paramHoldBody, need_of_le hlen]
  simp only [hscope, if_neg hrange, hunheld, hallowed, Bool.false_eq_true, if_false, ite_beq_zero, answer]

theorem paramReleaseBody_ok {c : Ctx} {p : List Byte} {v : View} {w : W} {top : Nat} {hold : Hold} (hlen : 4 ≤ p.length)
    (hscope : holdScope (leAt p 0 1) = some top) (hinst : leAt p 1 1 ≤ top)
    (hfind : findHold w.m (leAt p 0 1) (leAt p 1 1) = some hold) (hlive : v.now < hold.until_) :
    paramReleaseBody c p v w = (endHold v hold w, .ok []) := by
  rw [paramReleaseBody, need_of_le hlen]
  simp only [hscope, if_neg (Nat.not_lt.mpr hinst), hfind, hlive, if_true, answer]

/-- With no context draining, no port has one that runs its old program. -/
theorem any_draining_of_none {l : List ParseCtx} (h : ∀ c ∈ l, c.draining = false) (q : ParseCtx → Bool) :
    l.any (fun c => c.draining && q c) = false := by
  rw [List.any_eq_false]
  intro c hc
  simp [h c hc]

theorem all_not_draining {l : List ParseCtx} (h : ∀ c ∈ l, c.draining = false) :
    l.all (fun c => !c.draining) = true := by
  rw [List.all_eq_true]
  intro c hc
  simp [h c hc]

/-- Settles O6: a hold is answered at once or waits, as its scope is idle or busy. -/
theorem holdsOpenDrainAndEnd : Obligations.HoldsOpenDrainAndEnd := by
  refine ⟨?hold, ?release, ?drained, ?expiry, ?entryDrained, ?complete⟩
  case hold =>
    intro r s i top h hposted hlen hscope hinst hspan hfree hspeed
    have hpost : (r.posted && opParamHold.post) = false := by rw [hposted, Bool.false_and]
    have hbody : paramHoldBody (asked r i s) r.payload s.base (entered opParamHold r i s) = _ :=
      paramHoldBody_ok hlen hscope hinst hspan hfree hspeed
    show run true (request opParamHold r paramHoldBody) s = _
    dsimp only at hbody ⊢
    split at hbody
    · next hbusy => exact (accepted_wait h hpost hbody).trans (if_pos hbusy).symm
    · next hidle => exact (accepted_ok h hpost hbody).trans (if_neg hidle).symm
  case release =>
    intro r s i top hold h hlen hscope hinst hfind hlive
    exact accepted_ok h (Bool.and_false _) (paramReleaseBody_ok hlen hscope hinst hfind hlive)
  case drained =>
    intro block inst s h hfind hnew hidle
    refine run_eq_after rfl ?_
    simp only [holdDrainCompleteCore, hfind, hnew, hidle, Bool.or_self, Bool.false_eq_true, if_false]
  case expiry =>
    intro block inst s h hfind
    refine run_eq_ite rfl (fun hdue => ?_) (fun hearly => ?_)
    · simp only [holdExpiryCore, hfind, (expired_iff ..).mpr hdue, if_true]
    · simp only [holdExpiryCore, hfind, not_expired hearly, Bool.false_eq_true, if_false]
  case entryDrained =>
    intro port s hport hdone
    refine run_eq_after (decide_eq_true hport) ?_
    simp only [parseEntryDrainCompleteCore, any_draining_of_none hdone, all_not_draining hdone, Bool.false_eq_true,
      if_false, if_true]
  case complete =>
    intro sid tag s o hm hfind
    refine run_eq_after rfl ?_
    simp only [commandCompleteCore, hm, hfind, Bool.not_true, Bool.false_eq_true, if_false]

/-! ### The fast lane and the stages of the pipeline -/

/-- CLASSIFY of the oldest released frame, by the module as the memory errors leave it. -/
theorem classifyCore_of_released {errors : ReadErrors} {v : View} {w : W} {r : Released} {rest : List Released}
    (hrel : w.m.ing.released = r :: rest) (hpow : powered w.m = true) :
    classifyCore errors v w = if footService w.m
      then footpathLookup r.frame ((memoryErrors errors w).ing fun x => { x with released := rest })
      else classifyFrame v r ((memoryErrors errors w).ing fun x => { x with released := rest }) := by
  have hrel' : (memoryErrors errors w).m.ing.released = r :: rest := hrel
  have hpow' : powered (memoryErrors errors w).m = true := hpow
  simp only [classifyCore, hrel', hpow']
  rfl

/-- The working pair after LEARN_INSERT has taken the oldest request from the queue. -/
def unqueued (rest : List LearnReq) (w : W) : W := w.tab fun x => { x with learnQ := rest }

/-- LEARN_INSERT of a station that no hash entry holds. -/
theorem learnInsertCore_of_new {v : View} {w : W} {q : LearnReq} {rest : List LearnReq} {y : Tables} {n k : Nat}
    (hq : w.m.tab.learnQ = q :: rest) (hfull : fullService w.m = true)
    (hnone : w.m.tab.findSlot (seedOf w.m) q.key = none) (hlimit : learnLimit w.m q.port = none)
    (hins : ({ w.m.tab with learnQ := rest } : Tables).insertHash (seedOf w.m) (kicksOf w.m) q.key (learnedSp q.port) =
      some (y, n, k)) :
    learnInsertCore v w = lockEntries v 11 [(2, n)] ((w.tab fun _ => { y with
      learned := y.learned.put (freeLearnSlot y.learned) { key := q.key, port := q.port, index := n }
      hits := insertOnce n y.hits }).count C.learn_new q.port) := by
  have hnone' : (unqueued rest w).m.tab.findSlot (seedOf (unqueued rest w).m) q.key = none := hnone
  have hlimit' : learnLimit (unqueued rest w).m q.port = none := hlimit
  have hins' : (unqueued rest w).m.tab.insertHash (seedOf (unqueued rest w).m) (kicksOf (unqueued rest w).m) q.key
      (learnedSp q.port) = some (y, n, k) := hins
  simp only [unqueued] at hnone' hlimit' hins'
  simp only [learnInsertCore, hq, hfull, hnone', hlimit', hins']
  rfl

/-- LEARN_INSERT of a station that is learned already. -/
theorem learnInsertCore_of_known {v : View} {w : W} {q : LearnReq} {rest : List LearnReq} {n slot : Nat} {l : Learned}
    (hq : w.m.tab.learnQ = q :: rest) (hfull : fullService w.m = true)
    (hsome : w.m.tab.findSlot (seedOf w.m) q.key = some n) (hlearned : w.m.tab.learnedAt n = some (slot, l)) :
    learnInsertCore v w = lockEntries v 11 [(2, n)] (w.tab fun x =>
      { (({ x with learnQ := rest } : Tables).put 2 n (hashEntry q.key (learnedSp q.port))) with
        learned := (({ x with learnQ := rest } : Tables).put 2 n (hashEntry q.key (learnedSp q.port))).learned.put slot
          { l with port := q.port } }) := by
  have hsome' : (unqueued rest w).m.tab.findSlot (seedOf (unqueued rest w).m) q.key = some n := hsome
  have hlearned' : (unqueued rest w).m.tab.learnedAt n = some (slot, l) := hlearned
  simp only [unqueued] at hsome' hlearned'
  simp only [learnInsertCore, hq, hfull, hsome', hlearned']
  rfl

/-- Settles O14: each core by the condition under which it acts. -/
theorem laneAndPipelineCompletes : Obligations.LaneAndPipelineCompletes := by
  refine ⟨?canCut, ?canBuffered, ?ethCut, ?ethBuffered, ?injected, ?offered, ?classify, ?footpath, ?learnNew,
    ?learnKnown, ?sweep, ?j1939, ?isotp, ?stmin⟩
  case canCut =>
    intro ch seq x s hch hserved hnew hcut hmay hended
    refine run_eq_after (decide_eq_true hch) ?_
    simp only [fastlaneCanSofCore, hserved, hnew, hcut, hmay, hended, Bool.not_false, Bool.and_self, Bool.false_eq_true,
      if_false, if_true]
  case canBuffered =>
    intro ch seq x s hch hserved hnew hcut hmay hended
    refine run_eq_after (decide_eq_true hch) ?_
    simp only [fastlaneCanSofCore, hserved, hnew, hcut, hmay, hended, Bool.false_eq_true, if_false, if_true]
  case ethCut =>
    intro port seq x s hport hserved hnew hended hrate hlink hheld hwire hstop hsec hfwd hgate hcaptured
    refine run_eq_after (decide_eq_true hport) ?_
    simp only [fastlaneEthStartCore, hserved, hnew, hended, Nat.not_lt.mpr hrate, hlink, hheld, hwire, hstop, hsec,
      hfwd, hgate, hcaptured, decide_false, decide_true, bne_self_eq_false, Bool.or_self, Bool.not_false, Bool.and_self,
      Bool.false_eq_true, if_false, if_true]
  case ethBuffered =>
    intro port seq x s hport hserved hnew hended hrate hlink hheld hwire hstop hsec hfwd hgate
    refine run_eq_after (decide_eq_true hport) ?_
    simp only [fastlaneEthStartCore, hserved, hnew, hended, hrate, hlink, hheld, hwire, hstop, hsec, hfwd, hgate,
      decide_true, bne_self_eq_false, Bool.or_self, Bool.not_false, Bool.and_self, Bool.false_eq_true, if_false,
      if_true]
  case injected =>
    intro k f rest s hsw hfree hpow hinj
    refine run_eq_after rfl ?_
    simp only [parseAcceptCore, hsw, hfree, hpow, hinj, Bool.not_true, Bool.false_eq_true, if_false]
  case offered =>
    intro k s hsw hfree hpow hinj
    refine run_eq_after rfl ?_
    simp only [parseAcceptCore, hsw, hfree, hpow, hinj, Bool.not_true, Bool.false_eq_true, if_false]
  case classify =>
    intro errors r rest s herr hrel hpow hfoot
    refine run_eq_after herr ?_
    exact classifyCore_of_released hrel hpow |>.trans (if_neg (by simp [hfoot]))
  case footpath =>
    intro errors r rest s herr hrel hpow hfoot
    refine run_eq_after herr ?_
    exact classifyCore_of_released hrel hpow |>.trans (if_pos hfoot)
  case learnNew =>
    intro q rest y n k s hq hfull hnone hlimit hins
    refine run_eq_after rfl ?_
    exact learnInsertCore_of_new hq hfull hnone hlimit hins
  case learnKnown =>
    intro q rest n slot l s hq hfull hsome hlearned
    refine run_eq_after rfl ?_
    exact learnInsertCore_of_known hq hfull hsome hlearned
  case sweep =>
    intro s hpow
    refine run_eq_after rfl ?_
    simp only [ageSweepCore, hpow, Bool.not_true, Bool.false_eq_true, if_false]
  case j1939 =>
    intro k t s ht htimer hdue hlate
    refine run_eq_after rfl ?_
    simp only [j1939TpTimeoutCore, ht, bne_iff_ne.mpr htimer, (expired_iff ..).mpr hdue, hlate, Bool.not_false,
      Bool.and_self, if_true]
  case isotp =>
    intro k t s ht hwaits hdue hlate
    have hcond : (!t.sending || (t.waitFc && !t.inFlight)) = true := by simpa using hwaits
    refine run_eq_after rfl ?_
    simp only [isotpTimeoutCore, ht, hcond, (expired_iff ..).mpr hdue, hlate, Bool.not_false, Bool.and_self, if_true]
  case stmin =>
    intro k t g s ht hgap hdue
    refine run_eq_after rfl ?_
    simp only [isotpStminExpiryCore, ht, hgap, hdue, if_true]

end Sys2Proof.Proofs

/-! ## The parameter directory and the data-plane reset -/

namespace Sys2Proof.Proofs

open Sys2Proof Sys2Proof.Machine

/-! ### Reset (R67, R371, R492-R494, R530) -/

/-- A filter on keys hides the keys it refuses and leaves what the others hold. -/
theorem get?_filter_keys {α : Type} [DecidableEq α] {m : SMap α} {d : α} (h : m.wf d = true) (q : Nat → Bool) (i : Nat) :
    SMap.get? (m.filter fun p => q p.1) i = if q i then m.get? i else none := by
  induction m with
  | nil => simp [SMap.get?]
  | cons p r ih =>
    obtain ⟨k, v⟩ := p
    obtain ⟨-, habove, hr⟩ := (SMap.wf_cons d k v r).mp h
    specialize ih hr
    rcases Nat.lt_trichotomy i k with hlt | rfl | hgt
    · have hnone : SMap.get? r i = none := SMap.get?_above r k i habove (Nat.le_of_lt hlt)
      rw [hnone] at ih
      cases hk : q k <;> simp [hk, ih, SMap.get?, hlt, Nat.ne_of_gt hlt]
    · cases hk : q i <;> simp [hk, ih, SMap.get?]
    · cases hk : q k <;> simp [hk, ih, SMap.get?, Nat.lt_asymm hgt, Nat.ne_of_lt hgt]

theorem getD_filter_keys {α : Type} [DecidableEq α] {m : SMap α} {d : α} (h : m.wf d = true) (q : Nat → Bool) (i : Nat) :
    SMap.getD (m.filter fun p => q p.1) i d = if q i then m.getD i d else d := by
  unfold SMap.getD
  rw [get?_filter_keys h]
  split <;> rfl

theorem initial_full : ({} : TimeBase).full = 0 := by decide

/-- Settles O49: the module by the record that the reset writes, the counters by the filter that keeps those in MRAM. -/
theorem dataPlaneReset : Obligations.DataPlaneReset := by
  refine ⟨?module, ?logs, fun _ _ _ _ => initial_full⟩
  case module =>
    intro m cause
    simp [resetModule]
  case logs =>
    intro b hwf
    exact ⟨rfl, rfl, getD_filter_keys hwf isMramCounter⟩

/-- Settles O48: each field by the value it starts with; nothing is stored yet, so what is read is the default. -/
theorem resetState : Obligations.ResetState := by
  refine ⟨rfl, rfl, rfl, fun k => ?times, rfl, rfl, fun _ => rfl, fun i => ?slots, rfl, rfl, fun _ _ _ => rfl, rfl⟩
  case times =>
    have hinitial : State.reset.base.time.get k = {} := by
      unfold TimeUnit.get
      repeat' split
      all_goals rfl
    rw [hinitial]
    exact ⟨initial_full, rfl⟩
  case slots =>
    match i with
    | 0 | 1 | 2 | 3 => rfl
    | _ + 4 => rfl

/-! ### PARAM_WRITE (R64, R65, R99, R158) -/

/-- A PARAM_WRITE of a valid length that expects another generation than the current one (R65). -/
theorem paramWriteBody_of_stale {c : Ctx} {p : List Byte} {v : View} {w : W} (hone : 1 ≤ leAt p 0 2)
    (hmax : leAt p 0 2 ≤ 202) (hlen : p.length = 8 + 20 * leAt p 0 2) (hexpects : bit (leAt p 2 1) 0 = true)
    (hstale : leAt p 4 4 ≠ w.m.mod.generation) :
    paramWriteBody c p v w = (w, .fail St.counterStale (u16 0 ++ zeros 2 ++ u32 w.m.mod.generation)) := by
  rw [paramWriteBody, need_of_le (hlen ▸ Nat.le_add_right ..)]
  simp only [hone, hmax, hlen, hexpects, bne_iff_ne.mpr hstale, and_self, decide_true, bne_self_eq_false, Bool.not_true,
    Bool.or_self, Bool.and_self, Bool.false_eq_true, if_false, if_true, refuse]

/-- The checks before the body touch the session only. -/
theorem entered_mod (op : OpInfo) (r : Request) (i : Nat) (s : State) : (entered op r i s).m.mod = s.m.mod := rfl

/-- Settles O60: the body turns the request away before it reads an entry. -/
theorem staleGenerationWritesNothing : Obligations.StaleGenerationWritesNothing := by
  rintro r s i _ h rfl hone hmax hlen hexpects hstale
  exact ⟨accepted_fail h (Bool.and_false _) rfl (paramWriteBody_of_stale hone hmax hlen hexpects hstale),
    entered_mod ..⟩

/-- A PARAM_WRITE that every check passes stores its values, and is answered or waits as no context or some context
still runs an old program. -/
theorem paramWriteBody_ok {c : Ctx} {p : List Byte} {v : View} {w : W} (hone : 1 ≤ leAt p 0 2)
    (hmax : leAt p 0 2 ≤ 202) (hlen : p.length = 8 + 20 * leAt p 0 2)
    (hgen : bit (leAt p 2 1) 0 = false ∨ leAt p 4 4 = w.m.mod.generation) {es : List WEntry}
    (hes : writeEntries p (leAt p 0 2) = es)
    (hrole : firstRefused (fun _ x => roleCheck c.role x) [] es = none)
    (hfield : firstRefused (fieldCheck (wantedValues es) w.m (storeAll (wantedValues es) w.m)) [] es = none)
    (hstate : firstRefused (fun _ x => stateCheck w.m v.now x) [] es = none)
    (hplaced : unplaced (wantedValues es) w.m = 0) (hswitch : switching w.m = false) :
    paramWriteBody c p v w =
      (let stored := writeParams v (wantedValues es) (bridgePost true w)
       let ports := drainPorts w.m stored.m
       if ports.isEmpty then (stored, .ok (u32 stored.m.mod.generation))
       else (markDraining ports stored, .wait (.drain ports) (u32 stored.m.mod.generation))) := by
  have hexpected : (bit (leAt p 2 1) 0 && leAt p 4 4 != w.m.mod.generation) = false := by
    rcases hgen with h | h <;> simp [h]
  rw [paramWriteBody, need_of_le (hlen ▸ Nat.le_add_right ..)]
  simp only [hone, hmax, hlen, hexpected, hes, hrole, hfield, hstate, hplaced, hswitch, and_self, decide_true,
    bne_self_eq_false, Bool.not_true, Bool.or_self, Bool.false_eq_true, if_false, Option.orElse_none, answer]

/-! ### The other PARAM operations (R57, R61, R76, R537) -/

theorem paramReadBody_ok {c : Ctx} {p : List Byte} {v : View} {w : W} (hone : 1 ≤ leAt p 0 2)
    (hmax : leAt p 0 2 ≤ 168) (hlen : p.length = 4 + 4 * leAt p 0 2) :
    paramReadBody c p v w =
      (let read := readParams v ((List.range (leAt p 0 2)).map (fun k => leAt p (4 + 4 * k) 4)) w
       (read.1, .ok (u16 (leAt p 0 2) ++ zeros 2 ++ u32 read.1.m.mod.generation ++ read.2))) := by
  rw [paramReadBody, need_of_le (hlen ▸ Nat.le_add_right ..)]
  simp only [hone, hmax, hlen, and_self, decide_true, bne_self_eq_false, Bool.not_true, Bool.or_self, Bool.false_eq_true,
    if_false, answer]

theorem paramDescribeBody_of_found {c : Ctx} {p : List Byte} {v : View} {w : W} {row : PRef} {j e : Nat}
    (hlen : 4 ≤ p.length) (hfind : findParam (leAt p 0 4) = .found row j e) :
    paramDescribeBody c p v w =
      (w, .ok (u32 (leAt p 0 4) ++ u8 row.cls.code ++ u8 (b2n row.twin) ++ u8 row.ty.code ++ u8 0
        ++ u64 (twos 64 (bounds row j).1) ++ u64 (twos 64 (bounds row j).2)
        ++ u64 (twos 64 (row.default j e)) ++ paramName row e)) := by
  rw [paramDescribeBody, need_of_le hlen]
  simp only [hfind, answer]

theorem twinPairRewriteCore_of_failed {id : Nat} {v : View} {w : W} {row : PRef} {j e : Nat}
    (hrun : w.m.mod.firmwareRunning = true) (hfailed : id ∈ w.m.mod.twinFailed) (hfind : findParam id = .found row j e) :
    twinPairRewriteCore id v w =
      followParams v w.m (({ w with m := setPrm w.m row j e (bookValue w.m row j e) } : W).mod fun x => { x with
        twinFailed := x.twinFailed.filter (· != id), twinRewritten := x.twinRewritten.put id v.now }) := by
  simp only [twinPairRewriteCore, hrun, List.contains_iff_mem.mpr hfailed, hfind, Bool.not_true, Bool.or_self,
    Bool.false_eq_true, if_false]

/-- Settles O5: each body's answer; a write is answered at once or waits, as its ports have drained or not. -/
theorem paramFamilyAnswers : Obligations.ParamFamilyAnswers := by
  refine ⟨?read, ?write, ?describe, ?changed, ?rewrite⟩
  case read =>
    intro r s i h _ hone hmax hlen
    exact accepted_ok h (Bool.and_false _) (paramReadBody_ok hone hmax hlen)
  case write =>
    rintro r s i h hone hmax hlen hgen ⟨hrole, hfield, hstate, hplaced⟩ hswitch
    have hbody : paramWriteBody (asked r i s) r.payload s.base (entered opParamWrite r i s) = _ :=
      paramWriteBody_ok hone hmax hlen hgen rfl hrole hfield hstate hplaced hswitch
    show run true (request opParamWrite r paramWriteBody) s = _
    dsimp only at hbody ⊢
    split at hbody
    · next hdrained => exact (accepted_ok h (Bool.and_false _) hbody).trans (if_pos hdrained).symm
    · next hbusy => exact (accepted_wait h (Bool.and_false _) hbody).trans (if_neg hbusy).symm
  case describe =>
    intro r s i row j e h hlen hfind
    exact accepted_ok h (Bool.and_false _) (paramDescribeBody_of_found hlen hfind)
  case changed =>
    intro r s i h hlen
    exact accepted_ok h (Bool.and_false _) (need_of_le hlen ..)
  case rewrite =>
    intro id s row j e hrun hfailed hfind
    exact run_eq_after rfl (twinPairRewriteCore_of_failed hrun hfailed hfind)

end Sys2Proof.Proofs

/-! ## The parse instructions (R96-R113) -/

namespace Sys2Proof.Proofs

open Sys2Proof Sys2Proof.Machine

/-! ### The ways an instruction ends (R97, R98, R102) -/

section
variable {op i : Nat} {s : State} {f : ParseCtx → Nat → Issue}

theorem issue_goesOn (h : Issues op i s) {pc : Nat} {c : ParseCtx}
    (hf : f (issuedCtx s i) (wordAt s i) =
      .go pc { c with issued := (ctxAt s.m i).issued + 1, from_ := (ctxAt s.m i).pc }) :
    run (ctxOk i) (issue i op f noSide) s = goesOn s i pc c := by
  rw [issue_go h hf]
  rfl

theorem issue_stall (h : Issues op i s) {side : View → W → W} (hf : f (issuedCtx s i) (wordAt s i) = .stall) :
    run (ctxOk i) (issue i op f side) s = after s (fetched s i) := by
  rw [issue_other h, hf]

theorem issue_fault (h : Issues op i s) {side : View → W → W} {cause : Nat}
    (hf : f (issuedCtx s i) (wordAt s i) = .fault cause) :
    run (ctxOk i) (issue i op f side) s =
      after s fun v w => parseFault v i cause (ctxAt s.m i).pc (fetched s i v w) := by
  rw [issue_other h, hf]

theorem issue_waits (h : Issues op i s) {side : View → W → W} {c : ParseCtx}
    (hf : f (issuedCtx s i) (wordAt s i) = .waits c) :
    run (ctxOk i) (issue i op f side) s = after s fun v w => (fetched s i v w).ctx i fun _ => c := by
  rw [issue_other h, hf]

end

/-- An outcome depends on what its effect does to the state alone. -/
theorem after_congr {s : State} {f g : View → W → W} (h : f s.base ⟨s.m, []⟩ = g s.base ⟨s.m, []⟩) :
    after s f = after s g := by
  simp only [after, h]

theorem ctxOk_of_lt {i : Nat} (h : i < 64) : ctxOk i = true := decide_eq_true h

/-! ### The frame of an instruction that goes on -/

/-- An update that ignores the old element stores the new one. -/
theorem upd_const {α : Type} (l : List α) (i : Nat) (x : α) : upd l i (fun _ => x) = l.set i x := by
  refine List.ext_getElem? fun j => ?_
  rw [upd, List.getElem?_modify, List.getElem?_set']
  split
  · rfl
  · exact id_map _

theorem ctxAt_ctx {w : W} {i : Nat} (f : ParseCtx → ParseCtx) (h : i < w.m.ing.ctxs.length) :
    ctxAt (w.ctx i f).m i = f (ctxAt w.m i) := by
  simp [ctxAt, W.ctx, atD, upd, h]

theorem checkFetch_eq_self {v : View} {i : Nat} {w : W}
    (h : (ctxAt w.m i).pc ≤ 8191 ∨ (ctxAt w.m i).frame = none ∨
      prm w.m P.ingress_parse_budget ≤ (ctxAt w.m i).issued) : checkFetch v i w = w := by
  refine if_neg ?_
  rcases h with hpc | hnone | hspent
  · simp [Nat.not_lt.mpr hpc]
  · simp [hnone]
  · simp [Nat.not_lt.mpr hspent]

theorem checkFetch_of_above {v : View} {i : Nat} {w : W} (hbusy : (ctxAt w.m i).frame.isSome = true)
    (hpc : 8191 < (ctxAt w.m i).pc) (hbudget : (ctxAt w.m i).issued < prm w.m P.ingress_parse_budget) :
    checkFetch v i w = parseFault v i 4 (ctxAt w.m i).from_ w :=
  if_pos (by simp [hbusy, hpc, hbudget])

theorem fetched_sound {s : State} {i : Nat} (h : s.m.tab.faulty.contains (entryKey 8 ((ctxAt s.m i).pc / 4)) = false)
    (v : View) : fetched s i v ⟨s.m, []⟩ = ⟨s.m, []⟩ := fetch_sound h

/-- A fetch leaves the contexts alone, so the number of contexts bounds `i` after it as before. -/
theorem lt_ctxs_fetched {s : State} {i : Nat} (h : i < s.m.ing.ctxs.length) :
    i < (fetched s i s.base ⟨s.m, []⟩).m.ing.ctxs.length := by
  rw [fetched_ing]
  exact h

/-- Where the fetch finds no new memory error, replacing the context is all that happens. -/
theorem goesOn_frame {s : State} {i pc : Nat} {c : ParseCtx} (hi : i < s.m.ing.ctxs.length)
    (hsound : s.m.tab.faulty.contains (entryKey 8 ((ctxAt s.m i).pc / 4)) = false)
    (h : pc ≤ 8191 ∨ c.frame = none ∨ prm s.m P.ingress_parse_budget ≤ (ctxAt s.m i).issued + 1) :
    goesOn s i pc c = .next { s with m := { s.m with ing := { s.m.ing with
      ctxs := s.m.ing.ctxs.set i
        { c with pc := pc, issued := (ctxAt s.m i).issued + 1, from_ := (ctxAt s.m i).pc } } } } := by
  simp only [goesOn, after, fetched_sound hsound]
  rw [checkFetch_eq_self]
  · simp only [commit, W.ctx, W.ing, upd_const, List.foldl_nil]
  · rw [ctxAt_ctx _ hi]
    exact h

/-- A fetch from above 8,191 with budget left is a parse fault at the address of the instruction (R98). -/
theorem goesOn_above {s : State} {i pc : Nat} {c : ParseCtx} (hi : i < s.m.ing.ctxs.length) (hpc : 8191 < pc)
    (hsound : s.m.tab.faulty.contains (entryKey 8 ((ctxAt s.m i).pc / 4)) = false) (hbusy : c.frame.isSome = true)
    (hbudget : (ctxAt s.m i).issued + 1 < prm s.m P.ingress_parse_budget) :
    goesOn s i pc c = after s fun v w => parseFault v i 4 (ctxAt s.m i).pc (w.ctx i fun _ =>
      { c with pc := pc, issued := (ctxAt s.m i).issued + 1, from_ := (ctxAt s.m i).pc }) := by
  refine after_congr ?_
  simp only [fetched_sound hsound]
  rw [checkFetch_of_above] <;> rw [ctxAt_ctx _ hi]
  · exact hbusy
  · exact hpc
  · exact hbudget

/-- An instruction other than the next one, or one in a state in which the context issues none, changes nothing. -/
theorem issue_eq_self {s : State} {i op : Nat} (f : ParseCtx → Nat → Issue) (side : View → W → W)
    (h : powered s.m = false ∨ footService s.m = false ∧ ((ctxAt s.m i).frame = none ∨
      (ctxAt s.m i).waiting.isSome = true ∨ prm s.m P.ingress_parse_budget ≤ (ctxAt s.m i).issued ∨
      8191 < (ctxAt s.m i).pc ∨ opOf (wordAt s i) ≠ op)) :
    issue i op f side s.base ⟨s.m, []⟩ = ⟨s.m, []⟩ := by
  cases hpow : powered s.m with
  | false => simp only [issue, hpow, Bool.not_false, if_true]
  | true =>
    obtain ⟨hfoot, hwhy⟩ := h.resolve_left (by simp [hpow])
    have hidle : ((ctxAt s.m i).frame.isNone || (ctxAt s.m i).waiting.isSome ||
        decide (prm s.m P.ingress_parse_budget ≤ (ctxAt s.m i).issued) || decide (8191 < (ctxAt s.m i).pc) ||
        opOf (wordAt s i) != op) = true := by
      rcases hwhy with h | h | h | h | h <;> simp [h]
    simp only [issue, hpow, hfoot, Bool.not_true, Bool.false_eq_true, if_false]
    exact if_pos hidle

/-- Settles O11: the fetch, the check of the next address and the guards of the shared issue. -/
theorem parseStepFrame : Obligations.ParseStepFrame := by
  refine ⟨fun s i pc c => goesOn_frame, fun s i pc c => goesOn_above, ?noPrograms, ?idle⟩
  case noPrograms =>
    intro s i op f side hi hpow hfoot
    refine run_eq_after (ctxOk_of_lt hi) ?_
    simp only [issue, hpow, hfoot, Bool.not_true, Bool.false_eq_true, if_false, if_true]
  case idle =>
    intro s i op f side hi h
    exact run_eq_self (ctxOk_of_lt hi) (issue_eq_self f side h)

/-! ### ALU instructions (R103) -/

/-- Settles O7: each effect is a result in gd with its Z, or a comparison. -/
theorem aluInstructionsWriteGdAndFlags : Obligations.AluInstructionsWriteGdAndFlags := by
  refine ⟨?movi, ?movhi, ?mov, ?add, ?addi, ?sub, ?and, ?andi, ?or, ?ori, ?xor, ?shli, ?shri, ?ext, ?cmp, ?cmpi⟩
  case movi | movhi | mov | add | addi | sub | and | andi | or | ori | xor | shli | shri | ext | cmp | cmpi =>
    exact fun i s h => issue_goesOn h rfl

/-! ### Loads, LDM and the cursor (R103, R104) -/

theorem load_of_arrived {c : ParseCtx} {w n : Nat} (h : notArrived c (offOf w) n = false) (value : List Byte → Nat) :
    load c w n value = next { c.setReg (gdOf w) (BitVec.ofNat 32 (value (window c (offOf w) n))) with
      s := beyond c (offOf w) n } :=
  if_neg (by simp [h])

theorem load_of_not_arrived {c : ParseCtx} {w n : Nat} (h : notArrived c (offOf w) n = true) (value : List Byte → Nat) :
    load c w n value = .stall := if_pos h

/-- Length and flags of an Ethernet frame are known at its end. -/
theorem ldmIssue_of_unfinished {c : ParseCtx} {w : Nat} {f : Frame} (hf : c.frame = some f)
    (harriving : f.unfinished = true) (heth : f.fmt = 8) (hitem : fld w 0 8 = 0 ∨ fld w 0 8 = 4) :
    ldmIssue c w = .stall := by
  have hwait : (offOf w == 0 || offOf w == 4) = true := by simpa [offOf] using hitem
  simp only [ldmIssue, hf, harriving, heth, hwait, beq_self_eq_true, Bool.and_self, if_true]

theorem ldmIssue_of_known {c : ParseCtx} {w : Nat} {f : Frame} (hf : c.frame = some f)
    (h : f.unfinished = true → f.fmt = 8 → fld w 0 8 ≠ 0 ∧ fld w 0 8 ≠ 4) :
    ldmIssue c w = next (c.setReg (gdOf w) (BitVec.ofNat 32 (ldmItem f (fld w 0 8)))) := by
  have hknown : ¬ (f.unfinished && f.fmt == 8 && (offOf w == 0 || offOf w == 4)) = true := by
    simpa [offOf, and_assoc] using h
  simp only [ldmIssue, hf, if_neg hknown]
  rfl

/-- Settles O8: a load by whether its bytes have arrived, LDM by whether its item is known. -/
theorem loadAndCursorInstructions : Obligations.LoadAndCursorInstructions := by
  refine ⟨?ldb, ?ldh, ?ldw, ?ldhl, ?ldwl, ?ldbStalls, ?ldhStalls, ?ldwStalls, ?ldhlStalls, ?ldwlStalls, ?ldmStalls, ?ldm,
    ?advi, ?advr, ?setc, ?getc⟩
  case ldb | ldh | ldw | ldhl | ldwl =>
    exact fun i s h harrived => issue_goesOn h (load_of_arrived (c := issuedCtx s i) harrived _)
  case ldbStalls | ldhStalls | ldwStalls | ldhlStalls | ldwlStalls =>
    exact fun i s h hmissing => issue_stall h (load_of_not_arrived (c := issuedCtx s i) hmissing _)
  case ldmStalls =>
    exact fun i s f h hf harriving heth hitem => issue_stall h (ldmIssue_of_unfinished hf harriving heth hitem)
  case ldm => exact fun i s f h hf hknown => issue_goesOn h (ldmIssue_of_known hf hknown)
  case advi | advr | setc | getc => exact fun i s h => issue_goesOn h rfl

/-! ### Control (R97, R98) -/

theorem jumpIf_eq (b : Bool) (c : ParseCtx) (w : Nat) :
    jumpIf b c w = .go (if b = true then fld w 0 13 else c.pc + 1) c := by
  cases b <;> rfl

theorem jtabIssue_eq (c : ParseCtx) (w : Nat) :
    jtabIssue c w = .go (if (c.reg (gsOf w)).toNat < 256 then fld w 0 13 + (c.reg (gsOf w)).toNat else c.pc + 1) c := by
  by_cases hlt : (c.reg (gsOf w)).toNat < 256
  · simp only [jtabIssue, hlt, if_true, targetOf]
  · simp only [jtabIssue, hlt, if_false, next]

theorem retIssue_of_some {c : ParseCtx} {a : Nat} (h : c.ret = some a) (w : Nat) :
    retIssue c w = .go a { c with ret := none } := by
  simp only [retIssue, h]

theorem retIssue_of_none {c : ParseCtx} (h : c.ret = none) (w : Nat) : retIssue c w = .fault 1 := by
  simp only [retIssue, h]

theorem parseDoneAt_of_frame {i : Nat} {w : W} {f : Frame} (hf : (ctxAt w.m i).frame = some f) :
    parseDoneAt i w = freeCtx i (w.ing fun x => { x with done := x.done ++ [{
      frame := f, key := (ctxAt w.m i).key.toNat, ending := .key, mirror := (ctxAt w.m i).mirror
      noLearn := (ctxAt w.m i).noLearn }] }) := by
  simp only [parseDoneAt, hf]

theorem parseDropAt_of_frame {i : Nat} {w : W} {f : Frame} (hf : (ctxAt w.m i).frame = some f) :
    parseDropAt i w = freeCtx i ((discardFrame f w).count C.pf_program_drop f.port) := by
  simp only [parseDropAt, hf]

/-- Settles O9: the jumps by their conditions, the ends by the frame that the context holds. -/
theorem controlInstructions : Obligations.ControlInstructions := by
  refine ⟨?nop, ?jmp, ?bz, ?bnz, ?bc, ?bnc, ?bs, ?call, ?ret, ?retFault, ?done, ?drop, ?jtab⟩
  case nop | jmp | call => exact fun i s h => issue_goesOn h rfl
  case bz | bnz | bc | bnc | bs => exact fun i s h => issue_goesOn h (jumpIf_eq ..)
  case ret => exact fun i s a h hret => issue_goesOn h (retIssue_of_some (c := issuedCtx s i) hret _)
  case retFault => exact fun i s h hret => issue_fault h (retIssue_of_none (c := issuedCtx s i) hret _)
  case done =>
    intro i s f h hf
    refine (issue_other h).trans (after_congr ?_)
    refine (parseDoneAt_of_frame (f := f) ?_).trans ?_ <;> simp only [ctxAt_fetched]
    exact hf
  case drop =>
    intro i s f h hf
    refine (issue_other h).trans (after_congr (parseDropAt_of_frame (f := f) ?_))
    rw [ctxAt_fetched]
    exact hf
  case jtab => exact fun i s h => issue_goesOn h (jtabIssue_eq ..)

end Sys2Proof.Proofs

/-! ## KEYW to PARSE_OVERRUN (R97-R113) -/

namespace Sys2Proof.Proofs

open Sys2Proof Sys2Proof.Machine

/-! ### The key vector (R98, R103) -/

/-- The bits above the field, the field and the bits below it make up the number. -/
theorem setFld_eq (v lo len x : Nat) :
    setFld v lo len x = 2 ^ lo * (2 ^ len * (v / 2 ^ lo / 2 ^ len) + x % 2 ^ len) + v % 2 ^ lo := by
  have hv : v = 2 ^ lo * (2 ^ len * (v / 2 ^ lo / 2 ^ len)) + v % 2 ^ lo + fld v lo len * 2 ^ lo := by
    calc v = 2 ^ lo * (v / 2 ^ lo) + v % 2 ^ lo := (Nat.div_add_mod ..).symm
      _ = 2 ^ lo * (2 ^ len * (v / 2 ^ lo / 2 ^ len) + fld v lo len) + v % 2 ^ lo := by
        rw [fld, Nat.div_add_mod (v / 2 ^ lo)]
      _ = _ := by rw [Nat.mul_add, Nat.mul_comm (2 ^ lo) (fld v lo len)]; omega
  have hcut : v - fld v lo len * 2 ^ lo = 2 ^ lo * (2 ^ len * (v / 2 ^ lo / 2 ^ len)) + v % 2 ^ lo := by omega
  rw [setFld, hcut, Nat.mul_add, Nat.mul_comm (2 ^ lo) (x % 2 ^ len)]
  omega

/-- Bits of the field come from the new value, the others stay. -/
theorem testBit_setFld (v lo len x j : Nat) :
    (setFld v lo len x).testBit j = if lo ≤ j ∧ j < lo + len then x.testBit (j - lo) else v.testBit j := by
  rw [setFld_eq, Nat.testBit_two_pow_mul_add _ (Nat.mod_lt _ (Nat.two_pow_pos lo))]
  rcases Nat.lt_or_ge j lo with hbelow | hlo
  · simp [hbelow, Nat.not_le.mpr hbelow]
  · rw [if_neg (Nat.not_lt.mpr hlo), Nat.testBit_two_pow_mul_add _ (Nat.mod_lt _ (Nat.two_pow_pos len))]
    rcases Nat.lt_or_ge j (lo + len) with hin | habove
    · rw [if_pos (by omega), if_pos ⟨hlo, hin⟩, Nat.testBit_mod_two_pow]
      simp only [show j - lo < len by omega, decide_true, Bool.true_and]
    · rw [if_neg (by omega), if_neg (by omega), Nat.testBit_div_two_pow, Nat.testBit_div_two_pow]
      congr 1
      omega

/-- The key vector after KEYW or KEYI, bit by bit. -/
theorem getLsbD_setFld {key : BitVec 160} {p l x j : Nat} (hj : j < 160) :
    (BitVec.ofNat 160 (setFld key.toNat p (l + 1) x)).getLsbD j =
      if p ≤ j ∧ j ≤ p + l then x.testBit (j - p) else key.getLsbD j := by
  rw [BitVec.getLsbD_ofNat, testBit_setFld, decide_eq_true hj, Bool.true_and, BitVec.testBit_toNat]
  simp only [Nat.lt_add_one_iff, ← Nat.add_assoc]

theorem writeKey_of_lt {c : ParseCtx} {p l : Nat} (h : p + l - 1 < 154) (x : Nat) :
    writeKey c x p l = next { c with key := BitVec.ofNat 160 (setFld c.key.toNat p l x) } :=
  if_neg (Nat.not_le.mpr h)

theorem writeKey_of_ge {c : ParseCtx} {p l : Nat} (h : 154 ≤ p + l - 1) (x : Nat) : writeKey c x p l = .fault 3 :=
  if_pos h

theorem keyiIssue_of_long {w : Nat} (h : 12 < fld w 0 5 + 1) (c : ParseCtx) : keyiIssue c w = .fault 2 := if_pos h

theorem keyiIssue_of_fits {w : Nat} (h : fld w 0 5 + 1 ≤ 12) (c : ParseCtx) :
    keyiIssue c w = writeKey c (fld w 14 12) (fld w 5 8) (fld w 0 5 + 1) := if_neg (Nat.not_lt.mpr h)

theorem exec_keyw {i : Nat} {s : State} (h : Issues 0x30 i s)
    (hkey : fld (wordAt s i) 5 8 + (fld (wordAt s i) 0 5 + 1) - 1 < 154) :
    exec (.keyw i) s = goesOn s i ((ctxAt s.m i).pc + 1) { (ctxAt s.m i) with
      key := BitVec.ofNat 160 (setFld (ctxAt s.m i).key.toNat (fld (wordAt s i) 5 8) (fld (wordAt s i) 0 5 + 1)
        ((ctxAt s.m i).reg (gsOf (wordAt s i))).toNat) } :=
  issue_goesOn h (writeKey_of_lt (c := issuedCtx s i) hkey _)

theorem exec_keyi {i : Nat} {s : State} (h : Issues 0x31 i s) (hlen : fld (wordAt s i) 0 5 + 1 ≤ 12)
    (hkey : fld (wordAt s i) 5 8 + (fld (wordAt s i) 0 5 + 1) - 1 < 154) :
    exec (.keyi i) s = goesOn s i ((ctxAt s.m i).pc + 1) { (ctxAt s.m i) with
      key := BitVec.ofNat 160 (setFld (ctxAt s.m i).key.toNat (fld (wordAt s i) 5 8) (fld (wordAt s i) 0 5 + 1)
        (fld (wordAt s i) 14 12)) } :=
  issue_goesOn h ((keyiIssue_of_fits hlen _).trans (writeKey_of_lt (c := issuedCtx s i) hkey _))

theorem exec_hash {i : Nat} {s : State} (h : Issues 0x38 i s) :
    exec (.hash i) s = goesOn s i ((ctxAt s.m i).pc + 1) { (ctxAt s.m i) with
      g := upd (ctxAt s.m i).g (gdOf (wordAt s i)) (fun _ => crcRun ((ctxAt s.m i).reg (gdOf (wordAt s i)))
        (beBytes 4 ((ctxAt s.m i).reg (gsOf (wordAt s i))).toNat)) } :=
  issue_goesOn h rfl

theorem exec_mark {i : Nat} {s : State} (h : Issues 0x3C i s) :
    exec (.mark i) s = goesOn s i ((ctxAt s.m i).pc + 1) { (ctxAt s.m i) with
      mirror := (ctxAt s.m i).mirror || bit (wordAt s i) 0, noLearn := (ctxAt s.m i).noLearn || bit (wordAt s i) 1 } :=
  issue_goesOn h rfl

/-! ### NAME (R110) -/

theorem nameRefIssue_of_free {m : Module} {c : ParseCtx} {f : Frame} (hf : c.frame = some f)
    (hclaim : claimAhead m f = false) (w : Nat) :
    nameRefIssue m c w = next (c.setReg (gdOf w) (BitVec.ofNat 32 (nameValue m f ((c.reg (gsOf w)).toNat % 256)))) := by
  simp only [nameRefIssue, hf, hclaim, Bool.false_eq_true, if_false]

theorem nameRefIssue_of_claim {m : Module} {c : ParseCtx} {f : Frame} (hf : c.frame = some f)
    (hclaim : claimAhead m f = true) (w : Nat) :
    nameRefIssue m c w = .waits { c with waiting := some (gdOf w, (c.reg (gsOf w)).toNat % 256) } := by
  simp only [nameRefIssue, hf, hclaim, if_true]

theorem exec_nameRef_of_free {i : Nat} {s : State} {f : Frame} (h : Issues 0x39 i s) (hf : (ctxAt s.m i).frame = some f)
    (hclaim : claimAhead s.m f = false) :
    exec (.nameRef i) s = goesOn s i ((ctxAt s.m i).pc + 1) { (ctxAt s.m i) with
      g := upd (ctxAt s.m i).g (gdOf (wordAt s i)) (fun _ =>
        BitVec.ofNat 32 (nameValue s.m f (((ctxAt s.m i).reg (gsOf (wordAt s i))).toNat % 256))) } :=
  issue_goesOn h (nameRefIssue_of_free (c := issuedCtx s i) hf hclaim _)

theorem exec_nameRef_of_claim {i : Nat} {s : State} {f : Frame} (h : Issues 0x39 i s) (hf : (ctxAt s.m i).frame = some f)
    (hclaim : claimAhead s.m f = true) :
    exec (.nameRef i) s = after s fun v w => (fetched s i v w).ctx i fun _ => { (ctxAt s.m i) with
      issued := (ctxAt s.m i).issued + 1, from_ := (ctxAt s.m i).pc
      waiting := some (gdOf (wordAt s i), ((ctxAt s.m i).reg (gsOf (wordAt s i))).toNat % 256) } :=
  issue_waits h (nameRefIssue_of_claim (c := issuedCtx s i) hf hclaim _)

theorem resumeName_of_free {i : Nat} {w : W} {f : Frame} {gd sa : Nat} (hf : (ctxAt w.m i).frame = some f)
    (hwait : (ctxAt w.m i).waiting = some (gd, sa)) (hclaim : claimAhead w.m f = false) :
    resumeName i w = w.ctx i fun c => { c with
      g := upd c.g gd (fun _ => BitVec.ofNat 32 (nameValue w.m f sa)), waiting := none, pc := c.pc + 1 } := by
  simp only [resumeName, hf, hwait, hclaim, Bool.false_eq_true, if_false]
  rfl

theorem resumeName_of_claim {i : Nat} {w : W} {f : Frame} {gd sa : Nat} (hf : (ctxAt w.m i).frame = some f)
    (hwait : (ctxAt w.m i).waiting = some (gd, sa)) (hclaim : claimAhead w.m f = true) : resumeName i w = w := by
  simp only [resumeName, hf, hwait, hclaim, if_true]

theorem exec_nameWaitResume {i : Nat} {s : State} {f : Frame} {gd sa : Nat} (hi : i < 64)
    (hf : (ctxAt s.m i).frame = some f) (hwait : (ctxAt s.m i).waiting = some (gd, sa))
    (hclaim : claimAhead s.m f = false) :
    exec (.nameWaitResume i) s = after s fun v w => checkFetch v i (w.ctx i fun c => { c with
      g := upd c.g gd (fun _ => BitVec.ofNat 32 (nameValue s.m f sa)), waiting := none, pc := c.pc + 1 }) :=
  run_eq_after (ctxOk_of_lt hi) (congrArg (checkFetch s.base i) (resumeName_of_free hf hwait hclaim))

/-! ### TPSUB and ACSUB (R108, R111) -/

theorem tpsubIssue_of_ended {c : ParseCtx} {f : Frame} (hf : c.frame = some f) (hended : f.unfinished = false) (w : Nat) :
    tpsubIssue c w = next c := by
  simp only [tpsubIssue, submitWaits, hf, hended, Bool.false_eq_true, if_false]

theorem tpsubIssue_of_unfinished {c : ParseCtx} {f : Frame} (hf : c.frame = some f) (harriving : f.unfinished = true)
    (w : Nat) : tpsubIssue c w = .stall := by
  simp only [tpsubIssue, submitWaits, hf, harriving, if_true]

theorem acsubIssue_of_turn {m : Module} {c : ParseCtx} {f : Frame} (hf : c.frame = some f) (hended : f.unfinished = false)
    (hturn : f.marked = false ∨ claimAhead m f = false) (w : Nat) : acsubIssue m c w = next c := by
  have hgo : (f.unfinished || (f.marked && claimAhead m f)) = false := by
    rcases hturn with h | h <;> simp [hended, h]
  simp only [acsubIssue, hf, hgo, Bool.false_eq_true, if_false]

theorem acsubIssue_of_waits {m : Module} {c : ParseCtx} {f : Frame} (hf : c.frame = some f)
    (hwait : f.unfinished = true ∨ f.marked = true ∧ claimAhead m f = true) (w : Nat) : acsubIssue m c w = .stall := by
  have hstop : (f.unfinished || (f.marked && claimAhead m f)) = true := by simpa using hwait
  simp only [acsubIssue, hf, hstop, if_true]

theorem exec_tpsub {i : Nat} {s : State} {f : Frame} (h : Issues 0x3A i s) (hf : (ctxAt s.m i).frame = some f)
    (hended : f.unfinished = false) :
    exec (.tpsub i) s = after s fun v w => checkFetch v i (tpsubSide i v ((fetched s i v w).ctx i fun _ =>
      { (ctxAt s.m i) with pc := (ctxAt s.m i).pc + 1, issued := (ctxAt s.m i).issued + 1, from_ := (ctxAt s.m i).pc })) :=
  issue_side (c := issuedCtx s i) h (tpsubIssue_of_ended (c := issuedCtx s i) hf hended _)

theorem exec_acsub {i : Nat} {s : State} {f : Frame} (h : Issues 0x3B i s) (hf : (ctxAt s.m i).frame = some f)
    (hended : f.unfinished = false) (hturn : f.marked = false ∨ claimAhead s.m f = false) :
    exec (.acsub i) s = after s fun v w => checkFetch v i (acsubSide i v ((fetched s i v w).ctx i fun _ =>
      { (ctxAt s.m i) with pc := (ctxAt s.m i).pc + 1, issued := (ctxAt s.m i).issued + 1, from_ := (ctxAt s.m i).pc })) :=
  issue_side (c := issuedCtx s i) (f := acsubIssue s.m) h (acsubIssue_of_turn (c := issuedCtx s i) hf hended hturn _)

/-! ### PARSE_OVERRUN (R97, R98) -/

/-- Where programs run, the cause that keeps the next instruction from issuing is looked for in this order. -/
theorem parseOverrunCore_of_program {i : Nat} {v : View} {w : W} {f : Frame} (hf : (ctxAt w.m i).frame = some f)
    (hwait : (ctxAt w.m i).waiting = none) (hpow : powered w.m = true) (hfoot : footService w.m = false) :
    parseOverrunCore i v w =
      if prm w.m P.ingress_parse_budget ≤ (ctxAt w.m i).issued then
        overrunAction v i ((w.count C.pf_overrun f.port).limited v 0x0402 1 f.port 1000000000
          (fun n => u8 f.port ++ zeros 3 ++ u32 n))
      else if 8191 < (ctxAt w.m i).pc then parseFault v i 4 (ctxAt w.m i).from_ w
      else if reservedOp (opOf (parseWord (fetch v (ctxAt w.m i).pc w).m (ctxAt w.m i).pc)) then
        parseFault v i 0 (ctxAt w.m i).pc (fetch v (ctxAt w.m i).pc w)
      else w := by
  simp only [parseOverrunCore, hf, hwait, hpow, hfoot, Option.isSome_none, Bool.not_true, Bool.or_self, Bool.false_eq_true,
    if_false]

theorem exec_parseOverrun_of_spent {i : Nat} {s : State} {f : Frame} (hi : i < 64) (hf : (ctxAt s.m i).frame = some f)
    (hwait : (ctxAt s.m i).waiting = none) (hpow : powered s.m = true) (hfoot : footService s.m = false)
    (hspent : prm s.m P.ingress_parse_budget ≤ (ctxAt s.m i).issued) :
    exec (.parseOverrun i) s = after s fun v w => overrunAction v i ((w.count C.pf_overrun f.port).limited v 0x0402 1 f.port
      1000000000 (fun n => u8 f.port ++ zeros 3 ++ u32 n)) :=
  run_eq_after (ctxOk_of_lt hi) ((parseOverrunCore_of_program hf hwait hpow hfoot).trans (if_pos hspent))

/-- A context without a frame, one that waits and a module without power have no next instruction; elsewhere another
command takes it. -/
theorem parseOverrunCore_eq_self {i : Nat} {s : State} (h : (ctxAt s.m i).frame = none ∨
    (ctxAt s.m i).waiting.isSome = true ∨ powered s.m = false ∨
    footService s.m = false ∧ (ctxAt s.m i).issued < prm s.m P.ingress_parse_budget ∧ (ctxAt s.m i).pc ≤ 8191 ∧
      reservedOp (opOf (wordAt s i)) = false) : parseOverrunCore i s.base ⟨s.m, []⟩ = ⟨s.m, []⟩ := by
  cases hf : (ctxAt s.m i).frame with
  | none => simp only [parseOverrunCore, hf]
  | some f =>
    cases hstop : (ctxAt s.m i).waiting.isSome || !powered s.m with
    | true => simp only [parseOverrunCore, hf, hstop, if_true]
    | false =>
      obtain ⟨hwait, hpow⟩ : (ctxAt s.m i).waiting = none ∧ powered s.m = true := by simpa using hstop
      obtain ⟨hfoot, hbudget, hpc, hop⟩ : footService s.m = false ∧
          (ctxAt s.m i).issued < prm s.m P.ingress_parse_budget ∧ (ctxAt s.m i).pc ≤ 8191 ∧
          reservedOp (opOf (wordAt s i)) = false := by simpa [hf, hwait, hpow] using h
      rw [parseOverrunCore_of_program hf hwait hpow hfoot, if_neg (Nat.not_le.mpr hbudget), if_neg (Nat.not_lt.mpr hpc)]
      exact if_neg (Bool.eq_false_iff.mp hop)

/-- Settles O10: each instruction by the condition that picks its end, PARSE_OVERRUN by its order of causes. -/
theorem keyNameAndSubmitInstructions : Obligations.KeyNameAndSubmitInstructions := by
  refine ⟨fun i s => exec_keyw, ?keywFault, fun i s => exec_keyi, ?keyiLong, ?keyiFault, fun i s => exec_hash,
    fun i s => exec_mark, fun i s f => exec_nameRef_of_free, fun i s f => exec_nameRef_of_claim,
    fun i s f gd sa => exec_nameWaitResume, ?stillWaits, ?tpsubStalls, fun i s f => exec_tpsub, ?acsubStalls,
    fun i s f => exec_acsub, fun i s f => exec_parseOverrun_of_spent, ?reserved, ?above, ?noPrograms, ?idle⟩
  case keywFault => exact fun i s h hkey => issue_fault h (writeKey_of_ge (c := issuedCtx s i) hkey _)
  case keyiLong => exact fun i s h hlen => issue_fault h (keyiIssue_of_long hlen _)
  case keyiFault =>
    exact fun i s h hlen hkey =>
      issue_fault h ((keyiIssue_of_fits hlen _).trans (writeKey_of_ge (c := issuedCtx s i) hkey _))
  case stillWaits =>
    exact fun i s f gd sa hi hf hwait hclaim =>
      run_eq_after (ctxOk_of_lt hi) (congrArg (checkFetch s.base i) (resumeName_of_claim hf hwait hclaim))
  case tpsubStalls =>
    exact fun i s f h hf harriving => issue_stall h (tpsubIssue_of_unfinished (c := issuedCtx s i) hf harriving _)
  case acsubStalls =>
    exact fun i s f h hf hwait => issue_stall (f := acsubIssue s.m) h (acsubIssue_of_waits (c := issuedCtx s i) hf hwait _)
  case reserved =>
    intro i s f hi hf hwait hpow hfoot hbudget hpc hop
    refine run_eq_after (ctxOk_of_lt hi) ?_
    rw [parseOverrunCore_of_program hf hwait hpow hfoot, if_neg (Nat.not_le.mpr hbudget), if_neg (Nat.not_lt.mpr hpc)]
    exact if_pos hop
  case above =>
    intro i s f hi hf hwait hpow hfoot hbudget hpc
    refine run_eq_after (ctxOk_of_lt hi) ?_
    rw [parseOverrunCore_of_program hf hwait hpow hfoot, if_neg (Nat.not_le.mpr hbudget), if_pos hpc]
  case noPrograms =>
    intro i s f hi hf hwait hpow hfoot
    refine run_eq_after (ctxOk_of_lt hi) ?_
    simp only [parseOverrunCore, hf, hwait, hpow, hfoot, Option.isSome_none, Bool.not_true, Bool.or_self,
      Bool.false_eq_true, if_false, if_true]
  case idle => exact fun i s hi h => run_eq_self (ctxOk_of_lt hi) (parseOverrunCore_eq_self h)

end Sys2Proof.Proofs

/-! ## The results of KEYW to PARSE_OVERRUN (R97-R113) -/

namespace Sys2Proof.Proofs

open Sys2Proof Sys2Proof.Machine

/-! ### What stands in the context afterwards -/

/-- Below the last word address an instruction that goes on leaves its context as it says, memory error or not. -/
theorem goesOn_completes {s : State} {i pc : Nat} (c : ParseCtx) (hi : i < s.m.ing.ctxs.length) (hpc : pc ≤ 8191) :
    ∃ t, goesOn s i pc c = .next t ∧
      ctxAt t.m i = { c with pc := pc, issued := (ctxAt s.m i).issued + 1, from_ := (ctxAt s.m i).pc } := by
  refine ⟨_, rfl, ?_⟩
  show ctxAt (checkFetch _ _ _).m i = _
  rw [checkFetch_eq_self] <;> rw [ctxAt_ctx _ (lt_ctxs_fetched hi)]
  exact .inl hpc

/-- NAME leaves its answer in gd, or the wait for the claim frames ahead. -/
theorem exec_nameRef_completes {i : Nat} {s : State} {f : Frame} (h : Issues 0x39 i s) (hi : i < s.m.ing.ctxs.length)
    (hpc : (ctxAt s.m i).pc < 8191) (hf : (ctxAt s.m i).frame = some f) :
    ∃ t, exec (.nameRef i) s = .next t ∧ ctxAt t.m i =
      (let sa := ((ctxAt s.m i).reg (gsOf (wordAt s i))).toNat % 256
       if claimAhead s.m f = true then
         { (ctxAt s.m i) with
           issued := (ctxAt s.m i).issued + 1, from_ := (ctxAt s.m i).pc, waiting := some (gdOf (wordAt s i), sa) }
       else { (ctxAt s.m i) with
         pc := (ctxAt s.m i).pc + 1, issued := (ctxAt s.m i).issued + 1, from_ := (ctxAt s.m i).pc
         g := upd (ctxAt s.m i).g (gdOf (wordAt s i)) (fun _ => BitVec.ofNat 32 (nameValue s.m f sa)) }) := by
  cases hclaim : claimAhead s.m f with
  | true => exact ⟨_, exec_nameRef_of_claim h hf hclaim, ctxAt_ctx _ (lt_ctxs_fetched hi)⟩
  | false =>
    obtain ⟨t, ht, hctx⟩ := goesOn_completes _ hi hpc
    exact ⟨t, (exec_nameRef_of_free h hf hclaim).trans ht, hctx⟩

theorem exec_nameWaitResume_completes {i : Nat} {s : State} {f : Frame} {gd sa : Nat} (hnum : i < 64)
    (hi : i < s.m.ing.ctxs.length) (hpc : (ctxAt s.m i).pc < 8191) (hf : (ctxAt s.m i).frame = some f)
    (hwait : (ctxAt s.m i).waiting = some (gd, sa)) (hclaim : claimAhead s.m f = false) :
    ∃ t, exec (.nameWaitResume i) s = .next t ∧ ctxAt t.m i = { (ctxAt s.m i) with
      pc := (ctxAt s.m i).pc + 1, waiting := none
      g := upd (ctxAt s.m i).g gd (fun _ => BitVec.ofNat 32 (nameValue s.m f sa)) } := by
  refine ⟨_, exec_nameWaitResume hnum hf hwait hclaim, ?_⟩
  show ctxAt (checkFetch _ _ _).m i = _
  rw [checkFetch_eq_self] <;> rw [ctxAt_ctx _ hi]
  exact .inl hpc

/-! ### What the transport unit and the claim tracker are handed -/

theorem ctx_ctx (w : W) (i : Nat) (f g : ParseCtx → ParseCtx) : (w.ctx i f).ctx i g = w.ctx i fun c => g (f c) := by
  simp only [W.ctx, W.ing, upd, List.modify_modify_eq]
  rfl

/-- A TP.CM frame goes by its control byte: RTS and BAM open a session, CTS and the two ends steer one. -/
theorem tpControlByte_eq {w : W} (v : View) (f : Frame) (n : Nat) :
    (if n = 32 then tpOpen v f true w else if n = 16 then tpOpen v f false w
      else if (n = 17 ∨ n = 19) ∨ n = 255 then tpControl v f n w else w) =
      if n = 16 ∨ n = 32 then tpOpen v f (n == 32) w
      else if n = 17 ∨ n = 19 ∨ n = 255 then tpControl v f n w else w := by
  by_cases hbam : n = 32
  · simp [hbam]
  · by_cases hrts : n = 16
    · simp [hrts]
    · simp only [hbam, hrts, or_self, or_assoc, if_false]

/-- A frame of a J1939 channel goes to the part of the transport unit that its PDU format names. -/
theorem tpSubmit_eq (v : View) (f : Frame) (w : W) :
    tpSubmit v f w =
      (let first := leAt f.data 0 1
       if isCanPort f.port = true ∧ isExt f.fmt = true ∧ 2 ≤ jMode w.m (f.port - 14) then
         if jPf f.id = 0xEB then tpData v f w
         else if jPf f.id = 0xEC then
           if first = 16 ∨ first = 32 then tpOpen v f (first == 32) w
           else if first = 17 ∨ first = 19 ∨ first = 255 then tpControl v f first w
           else w
         else w
       else w) := by
  have hguard : ((isCanPort f.port = false ∨ isExt f.fmt = false) ∨ jMode w.m (f.port - 14) < 2) ↔
      ¬ (isCanPort f.port = true ∧ isExt f.fmt = true ∧ 2 ≤ jMode w.m (f.port - 14)) := by
    simp only [← Bool.not_eq_true, ← Nat.not_le, Decidable.not_and_iff_not_or_not, or_assoc]
  simp only [tpSubmit, Bool.or_eq_true, Bool.not_eq_true', decide_eq_true_eq, beq_iff_eq, hguard, ite_not,
    tpControlByte_eq]

theorem tpsubSide_of_frame {i : Nat} {w : W} {f : Frame} (hf : (ctxAt w.m i).frame = some f) (v : View) :
    tpsubSide i v w = tpSubmit v f (w.ctx i fun c => { c with tpDone := true }) := by
  simp only [tpsubSide, hf]

theorem acsubSide_of_frame {i : Nat} {w : W} {f : Frame} (hf : (ctxAt w.m i).frame = some f) (v : View) :
    acsubSide i v w =
      (let w := w.ctx i fun c => { c with acDone := true }
       if isCanPort f.port = true ∧ isClaimId f.fmt f.id = true ∧ 1 ≤ jMode w.m (f.port - 14) then claimFrame v f w
       else w) := by
  simp only [acsubSide, hf, Bool.and_eq_true, decide_eq_true_eq, and_assoc]

/-! ### The overrun action (R97) -/

/-- An event leaves the contexts as they are. -/
theorem ctxAt_limited (w : W) (v : View) (code sev src interval : Nat) (detail : Nat → List Byte) (i : Nat) :
    ctxAt (w.limited v code sev src interval detail).m i = ctxAt w.m i := by
  have hing := congrArg Module.ing (limited_same w v code sev src interval detail)
  exact congrArg (fun ing : Ingress => atD ing.ctxs i {}) hing

theorem overrunAction_of_frame {i : Nat} {v : View} {w : W} {f : Frame} (hf : (ctxAt w.m i).frame = some f) :
    overrunAction v i w =
      if portMode w.m f.port % 4 = 1 then freeCtx i (holdFrame v f 2 0 0 0xFFFF w)
      else if portMode w.m f.port % 4 = 2 then freeCtx i (w.ing fun x => { x with done := x.done ++
        [{ frame := f, key := (ctxAt w.m i).key.toNat, ending := .miss, mirror := (ctxAt w.m i).mirror
           noLearn := (ctxAt w.m i).noLearn }] })
      else freeCtx i (discardFrame f w) := by
  simp only [overrunAction, hf, beq_iff_eq]

/-- Settles O12: the outcomes of O10, each read in the context it leaves or followed into the unit it reaches. -/
theorem keyNameAndSubmitFormsComplete : Obligations.KeyNameAndSubmitFormsComplete := by
  refine ⟨?keyw, ?keyi, ?hash, ?mark, fun i s f => exec_nameRef_completes,
    fun i s f gd sa => exec_nameWaitResume_completes, ?tpsub, ?acsub, ?overrun⟩
  case keyw =>
    intro i s h hi hpc hkey
    obtain ⟨t, ht, hctx⟩ := goesOn_completes _ hi hpc
    refine ⟨t, (exec_keyw h hkey).trans ht, by rw [hctx], fun j hj => ?_⟩
    rw [hctx, ← BitVec.testBit_toNat]
    exact getLsbD_setFld hj
  case keyi =>
    intro i s h hi hpc hlen hkey
    obtain ⟨t, ht, hctx⟩ := goesOn_completes _ hi hpc
    refine ⟨t, (exec_keyi h hlen hkey).trans ht, by rw [hctx], fun j hj => ?_⟩
    rw [hctx]
    exact getLsbD_setFld hj
  case hash =>
    intro i s h hi hpc
    obtain ⟨t, ht, hctx⟩ := goesOn_completes _ hi hpc
    exact ⟨t, (exec_hash h).trans ht, hctx⟩
  case mark =>
    intro i s h hi hpc
    obtain ⟨t, ht, hctx⟩ := goesOn_completes _ hi hpc
    exact ⟨t, (exec_mark h).trans ht, hctx⟩
  case tpsub =>
    intro i s f h hi hf hended
    refine (exec_tpsub h hf hended).trans (after_congr (congrArg (checkFetch s.base i) ?_))
    rw [tpsubSide_of_frame (f := f), ctx_ctx, tpSubmit_eq]
    rw [ctxAt_ctx _ (lt_ctxs_fetched hi)]
    exact hf
  case acsub =>
    intro i s f h hi hf hended hturn
    refine (exec_acsub h hf hended hturn).trans (after_congr (congrArg (checkFetch s.base i) ?_))
    rw [acsubSide_of_frame (f := f), ctx_ctx]
    rw [ctxAt_ctx _ (lt_ctxs_fetched hi)]
    exact hf
  case overrun =>
    intro i s f hi hf hwait hpow hfoot hspent
    refine (exec_parseOverrun_of_spent hi hf hwait hpow hfoot hspent).trans (after_congr ?_)
    have hctx := ctxAt_limited (W.count ⟨s.m, []⟩ C.pf_overrun f.port) s.base 0x0402 1 f.port 1000000000
      (fun n => u8 f.port ++ zeros 3 ++ u32 n) i
    rw [overrunAction_of_frame (f := f) (by rw [hctx]; exact hf), hctx]
    rfl

end Sys2Proof.Proofs

/-! ## Frames that arrive (R69, R82-R92, R340-R349) -/

namespace Sys2Proof.Proofs

open Sys2Proof Sys2Proof.Machine

/-! ### The arrival of a frame -/

/-- Taking up the note of an arrival, or making it, concerns the ingress unit alone. -/
theorem takeArriving_fst (v : View) (port : Nat) (h : FrameHead) (w : W) :
    ∃ f, (takeArriving v port h w).1 = w.ing f := by
  unfold takeArriving
  split
  · exact ⟨fun x => { x with arriving := x.arriving.erase port }, rfl⟩
  · exact ⟨fun x => { x with seq := w.m.ing.seq + 1 }, rfl⟩

/-- The formats of a channel are set outside the ingress unit and the state of the channel. -/
theorem formatSendable_takeArriving (v : View) (port : Nat) (h : FrameHead) (w : W) (ch fmt : Nat) (g : CanCh → CanCh) :
    formatSendable ((takeArriving v port h w).1.can ch g).m ch fmt = formatSendable w.m ch fmt := by
  obtain ⟨f, hf⟩ := takeArriving_fst v port h w
  rw [hf]
  rfl

/-! ### ETH_FRAME_RECEIVE (R340, R342, R343, R348) -/

/-- What a receiving port holds of a frame at its end, its fragments counted. -/
def ethTaken (v : View) (port : Nat) (f : EthRx) (w : W) : W × Arriving :=
  let t := takeArriving v port { fmt := 8, id := 0, len := f.data.length } w
  (if port < 8 then t.1.count C.preempt_fragments_rx port f.fragments else t.1, t.2)

/-- Which frames are PAUSE frames rests on the port's address, which an arrival leaves as it is. -/
theorem isPause_ethTaken (v : View) (port : Nat) (f : EthRx) (w : W) (bs : List Byte) :
    isPause (ethTaken v port f w).1.m port bs = isPause w.m port bs := by
  obtain ⟨g, hg⟩ := takeArriving_fst v port { fmt := 8, id := 0, len := f.data.length } w
  unfold ethTaken
  split <;> simp only [hg] <;> rfl

/-- The checks of a receiving port, in their order. -/
theorem ethFrameReceiveCore_of_receives {port : Nat} {f : EthRx} {v : View} {w : W}
    (h : portReceives w.m v.now port = true) :
    ethFrameReceiveCore port f v w =
      (let t := ethTaken v port f w
       if f.data.length + 4 < 64 then
         badEnd v port t.2 (ethFrame port f.data false false t.2) (t.1.count C.eth_rx_runt port)
       else if (!f.fcsOk || f.stomped) = true then
         badEnd v port t.2 (ethFrame port f.data false false t.2) (t.1.count C.eth_rx_fcs_error port)
       else
         let w := (t.1.count C.eth_rx_frames port).count C.eth_rx_bytes port (f.data.length + 4)
         if isPause t.1.m port f.data = true then laneAbort v t.2.seq (receivePause v port f.data w)
         else if t.2.streamed then ethGood v f.ringFull port f.data false t.2 w
         else match macsecPass v port f.data w with
           | (w, none) => laneAbort v t.2.seq w
           | (w, some (p, ok)) =>
             let x := lateLane v port p t.2 w
             ethGood v f.ringFull port p ok x.2 x.1) := by
  simp only [ethFrameReceiveCore, h, Bool.not_true, Bool.false_eq_true, if_false] <;> rfl

theorem ethFrameReceiveCore_of_held {port : Nat} {f : EthRx} {v : View} {w : W}
    (h : portReceives w.m v.now port = false) :
    ethFrameReceiveCore port f v w = ethHeld v port f (dropArriving v port w) := by
  simp only [ethFrameReceiveCore, h, Bool.not_false, if_true]

/-! ### CAN_FRAME_RECEIVE (R258, R300, R309) -/

/-- A channel that receives and has its rate takes the frame by its format, then by its end. -/
theorem canFrameReceiveCore_of_receives {ch : Nat} {f : CanRx} {v : View} {w : W} (hmode : canMode w.m ch ≠ 3)
    (h : portReceives w.m v.now (canPort ch) = true) :
    canFrameReceiveCore ch f v w =
      (let t := takeArriving v (canPort ch) { fmt := f.fmt, id := f.id, len := f.data.length } w
       let x := t.1.can ch fun c => { c with load := addLoad c.load t.2.tb2 v.now }
       if formatSendable w.m ch f.fmt = false then
         canBad v ch .form false false f.flagErrors t.2 (canFrame (canPort ch) f t.2) x
       else match f.ending with
         | .good => canGood v ch f t.2 x
         | .bad e early dominant bitPos =>
           if early then
             canBad v ch e (inDataPhase f bitPos) dominant f.flagErrors t.2 (canFrame (canPort ch) f t.2) x
           else canGood v ch f t.2 x) := by
  simp only [canFrameReceiveCore, beq_false_of_ne hmode, h, Bool.false_and, Bool.not_true, Bool.false_eq_true, if_false,
    formatSendable_takeArriving, Bool.not_eq_true'] <;> rfl

theorem canFrameReceiveCore_of_detects {ch : Nat} {f : CanRx} {v : View} {w : W} (hmode : canMode w.m ch = 3)
    (hheld : portHeldAt w.m v.now (canPort ch) = false) :
    canFrameReceiveCore ch f v w = detectFrame v ch (countsForRate w.m ch f) w := by
  simp only [canFrameReceiveCore, hmode, hheld, beq_self_eq_true, Bool.not_false, Bool.and_self, if_true]

theorem canFrameReceiveCore_of_held {ch : Nat} {f : CanRx} {v : View} {w : W}
    (h : portReceives w.m v.now (canPort ch) = false)
    (hmode : canMode w.m ch = 3 → portHeldAt w.m v.now (canPort ch) = true) :
    canFrameReceiveCore ch f v w = canHeld v ch f (dropArriving v (canPort ch) w) := by
  have hno : (canMode w.m ch == 3 && !portHeldAt w.m v.now (canPort ch)) = false := by simpa using hmode
  simp only [canFrameReceiveCore, hno, h, Bool.not_false, Bool.false_eq_true, if_false, if_true]

/-! ### PRECLASSIFY (R91, R92) -/

/-- A frame that no MACsec engine holds is offered to the fast lane before its arrival is noted. -/
theorem preclassifyCore_of_offered {port : Nat} {h : FrameHead} {v : View} {w : W}
    (hrecv : portReceives w.m v.now port = true) (hsec : macsecHolds w.m port = false) :
    preclassifyCore port h v w =
      (let p := laneOffer v port h (arrivalOf v w.m port h) w
       laneTake v port h p.2.1 p.2.2 (noteArrival v port h p.2.1 p.1)) := by
  simp only [preclassifyCore, hrecv, hsec, Bool.not_true, Bool.false_eq_true, if_false]

theorem isCandidate_of_no_lane {m : Module} {now : Nat} (h : laneRuns m now = false) (port : Nat) (head : FrameHead) :
    isCandidate m now port head = false := by
  simp only [isCandidate, h, Bool.false_and]

theorem laneOffer_of_no_lane {v : View} {w : W} (hlane : laneRuns w.m v.now = false) (port : Nat) (h : FrameHead)
    (a : Arriving) : laneOffer v port h a w = (w, { a with cand := false }, none) := by
  simp only [laneOffer, hlane, isCandidate_of_no_lane hlane, Bool.false_eq_true, if_false, Bool.false_and]

theorem laneOffer_of_other {v : View} {port : Nat} {h : FrameHead} {w : W} (hlane : laneRuns w.m v.now = true)
    (hcand : isCandidate (touchLane v port w).m v.now port h = false) (a : Arriving) :
    laneOffer v port h a w = (touchLane v port w, { a with cand := false }, none) := by
  simp only [laneOffer, hlane, hcand, Bool.false_eq_true, if_false, if_true, Bool.false_and]

section
variable {v : View} {port k : Nat} {h : FrameHead} {w x y : W} (hlane : laneRuns w.m v.now = true)
  (hcand : isCandidate (touchLane v port w).m v.now port h = true)
  (hx : (touchLane v port w).count C.fl_candidates port = x)

include hlane hcand hx

/-- A candidate that matches no entry, or is Borul traffic, is only counted: by `hno` the match on both falls through. -/
theorem laneOffer_of_no_hit (hno : ∀ k, (!borulHead x.m port h) = true → laneHit x.m port h = some k → False)
    (a : Arriving) : laneOffer v port h a w = (x, { a with cand := true }, none) := by
  subst hx
  simp only [laneOffer, hlane, hcand, if_true, Bool.true_and]

/-- The lanes do not both decide to take the frame. -/
theorem laneOffer_of_refused (hforward : (!borulHead x.m port h) = true) (hhit : laneHit x.m port h = some k)
    (hdecide : laneDecision v k h.lanes x = (y, none)) (a : Arriving) :
    laneOffer v port h a w = (y, { a with cand := true }, none) := by
  subst hx
  simp only [laneOffer, hlane, hcand, if_true, Bool.true_and, hforward, hhit, hdecide]

theorem laneOffer_of_taken {mask : Nat} (hforward : (!borulHead x.m port h) = true) (hhit : laneHit x.m port h = some k)
    (hdecide : laneDecision v k h.lanes x = (y, some mask)) (a : Arriving) :
    laneOffer v port h a w = (y, { a with cand := true, taken := some k }, some mask) := by
  subst hx
  simp only [laneOffer, hlane, hcand, if_true, Bool.true_and, hforward, hhit, hdecide]

end

/-- Settles O13: a frame by the checks it meets at its end, a head by what the fast lane makes of it. -/
theorem frameReceptionCompletes : Obligations.FrameReceptionCompletes := by
  refine ⟨?ethBad, ?ethShort, ?ethPause, ?ethGood, ?ethHeld, ?canGood, ?canError, ?canFormat, ?canDetects, ?canHeld,
    ?secured, ?noLane, ?other, ?candidate, ?deaf, ?resend, ?quanta⟩
  case ethBad =>
    intro port f s hport hrecv hlen hbad
    refine run_eq_after (decide_eq_true hport) ?_
    rw [ethFrameReceiveCore_of_receives hrecv]
    exact (if_neg (by omega)).trans (if_pos (by simpa using hbad))
  case ethShort =>
    intro port f s hport hrecv hlen
    refine run_eq_after (decide_eq_true hport) ?_
    rw [ethFrameReceiveCore_of_receives hrecv]
    exact if_pos (by omega)
  case ethPause =>
    intro port f s hport hrecv hlen hfcs hstomp hpause
    refine run_eq_after (decide_eq_true hport) ?_
    rw [ethFrameReceiveCore_of_receives hrecv]
    refine (if_neg (by omega)).trans ((if_neg (by simp [hfcs, hstomp])).trans (if_pos ?_))
    rw [isPause_ethTaken]
    exact hpause
  case ethGood =>
    intro port f s hport hrecv hlen hfcs hstomp hpause
    refine run_eq_after (decide_eq_true hport) ?_
    rw [ethFrameReceiveCore_of_receives hrecv]
    refine (if_neg (by omega)).trans ((if_neg (by simp [hfcs, hstomp])).trans ((if_neg ?_).trans rfl))
    rw [isPause_ethTaken, hpause]
    exact Bool.false_ne_true
  case ethHeld =>
    exact fun port f s hport hdeaf => run_eq_after (decide_eq_true hport) (ethFrameReceiveCore_of_held hdeaf)
  case canGood =>
    intro ch f s hch hfmt hmode hrecv hsend hend
    refine run_eq_after (by simp [hch, hfmt]) ?_
    rw [canFrameReceiveCore_of_receives hmode hrecv]
    simp only [hsend, hend, Bool.true_eq_false, if_false]
  case canError =>
    intro ch f e early dominant bitPos s hch hfmt hmode hrecv hsend hend
    refine run_eq_after (by simp [hch, hfmt]) ?_
    rw [canFrameReceiveCore_of_receives hmode hrecv]
    simp only [hsend, hend, Bool.true_eq_false, if_false]
  case canFormat =>
    intro ch f s hch hfmt hmode hrecv hsend
    refine run_eq_after (by simp [hch, hfmt]) ?_
    rw [canFrameReceiveCore_of_receives hmode hrecv]
    exact if_pos hsend
  case canDetects =>
    exact fun ch f s hch hfmt hmode hheld =>
      run_eq_after (by simp [hch, hfmt]) (canFrameReceiveCore_of_detects hmode hheld)
  case canHeld =>
    exact fun ch f s hch hfmt hdeaf hmode => run_eq_after (by simp [hch, hfmt]) (canFrameReceiveCore_of_held hdeaf hmode)
  case secured =>
    intro port h s hport hrecv hsec
    refine run_eq_after hport ?_
    simp only [preclassifyCore, hrecv, hsec, Bool.not_true, Bool.false_eq_true, if_false, if_true]
  case noLane =>
    intro port h s hport hrecv hsec hlane
    refine run_eq_after hport ?_
    rw [preclassifyCore_of_offered hrecv hsec, laneOffer_of_no_lane hlane]
    rfl
  case other =>
    intro port h s hport hrecv hsec hlane hcand
    refine run_eq_after hport ?_
    rw [preclassifyCore_of_offered hrecv hsec, laneOffer_of_other hlane hcand]
    rfl
  case candidate =>
    intro port h s hport hrecv hsec hlane hcand
    refine run_eq_after hport ?_
    rw [preclassifyCore_of_offered hrecv hsec]
    dsimp only
    split
    · next k hforward hhit =>
      split
      · next y mask hdecide =>
        rw [laneOffer_of_taken hlane hcand rfl hforward hhit hdecide]
        rfl
      · next y hdecide =>
        rw [laneOffer_of_refused hlane hcand rfl hforward hhit hdecide]
        rfl
    · next hno =>
      rw [laneOffer_of_no_hit hlane hcand rfl hno]
      rfl
  case deaf =>
    intro port h s hport hdeaf
    refine run_eq_after hport ?_
    simp only [preclassifyCore, hdeaf, Bool.not_false, if_true]
  case resend =>
    intro port s hport hpow hxoff
    refine run_eq_after (decide_eq_true hport) ?_
    simp only [pauseResendCore, hpow, hxoff, Bool.and_self, if_true]
  case quanta => exact fun port s hport => run_eq_after (decide_eq_true hport) rfl

end Sys2Proof.Proofs

/-! ## The TABLE family (R145-R156, R583) -/

namespace Sys2Proof.Proofs

open Sys2Proof Sys2Proof.Machine

/-! ### What the body of an accepted request finds in the tables -/

theorem entered_tab (op : OpInfo) (r : Request) (i : Nat) (s : State) : (entered op r i s).m.tab = s.m.tab := rfl

theorem entered_staged {op : OpInfo} {r : Request} {s : State} {i : Nat} (h : Accepted op r s i) :
    (slotAt (entered op r i s).m i).staged = (slotAt s.m i).staged := by
  rw [entered_slot op r i s h.slot_lt]

/-! ### The shape of the family (R153, R524) -/

/-- An operation that is not posted is answered with its result. -/
theorem unposted {r : Request} (h : r.posted = false) (op : OpInfo) : (r.posted && op.post) = false := by
  rw [h, Bool.false_and]

section

variable {c : Ctx} {p : List Byte} {v : View} {w : W}

theorem tableOp_of_room (hroom : tableOpsInUse w.m < 16) (body : Body) : tableOp body c p v w = body c p v w :=
  if_neg (Nat.not_le.mpr hroom)

theorem whileSwitching_of_idle (hidle : switching w.m = false) (body : Body) :
    whileSwitching body c p v w = body c p v w := by
  unfold whileSwitching
  split
  · next heq => exact heq.symm
  · exact if_neg (Bool.eq_false_iff.mp hidle)

/-- A request that changes a table comes to its own checks: no switch waits, an operation is free, it is long enough. -/
theorem tableChange_eq {n : Nat} (hidle : switching w.m = false) (hroom : tableOpsInUse w.m < 16)
    (hlen : n ≤ p.length) (body : Body) :
    whileSwitching (tableOp (need n body)) c p v w = body c p v w := by
  rw [whileSwitching_of_idle hidle, tableOp_of_room hroom, need_of_le hlen]

/-! ### TABLE_INFO, TABLE_READ, TABLE_SEARCH and TABLE_DISCARD -/

theorem tableInfoBody_ok {size n : Nat} (hroom : tableOpsInUse w.m < 16) (hlen : 4 ≤ p.length)
    (hshape : tableShape (leAt p 0 1) = some (size, n)) :
    tableInfoBody c p v w = (bridgeFetch (bridgePost true w), .ok (u16 size ++ zeros 2 ++ u32 n
      ++ u32 (usedEntries w (leAt p 0 1))
      ++ u32 ((ownStaged w.m c).filter (fun o => o.op.table == leAt p 0 1)).length)) := by
  rw [tableInfoBody, tableOp_of_room hroom, need_of_le hlen]
  simp only [hshape, answer]

theorem tableReadBody_ok {t first count size n : Nat} (ht : leAt p 0 1 = t) (hfirst : leAt p 4 4 = first)
    (hcount : leAt p 8 2 = count) (hroom : tableOpsInUse w.m < 16) (hlen : 12 ≤ p.length)
    (hshape : tableShape t = some (size, n)) (hsome : count ≠ 0) (hrange : rangeStatus t n first count = none)
    (hfits : 8 + count * (4 + entrySize t first) ≤ 64896) :
    tableReadBody c p v w =
      (let idx := (List.range count).map (· + first)
       let read := touch v (idx.map (entryKey t)) (bridgeFetch (bridgePost true w))
       (read, .ok (u8 t ++ u8 0 ++ u16 count ++ u32 first ++ idx.flatMap (fun k =>
         u32 (sideWord v read.m (covered read.m) t k)
           ++ entryBytes (entrySize t first) (entryValue v read t k))))) := by
  rw [tableReadBody, tableOp_of_room hroom, need_of_le hlen]
  simp only [ht, hfirst, hcount, hshape, hrange, if_neg hsome, if_neg (Nat.not_lt.mpr hfits), answer]

/-- The key of a search follows the head of 4 bytes, and the longest key has 20. -/
theorem searchKey_fits (t : Nat) :
    4 + (if t == 2 || t == 7 then 8 else if t == 3 then 20 else if t == 4 then 6 else 18) ≤ 24 := by
  repeat' split
  all_goals decide

theorem tableSearchBody_ok {t : Nat} (ht : leAt p 0 1 = t) (hroom : tableOpsInUse w.m < 16)
    (htable : [2, 3, 4, 5, 7].contains t = true) (hlen : 24 ≤ p.length) :
    tableSearchBody c p v w =
      (let sent := bridgeFetch (bridgePost true w)
       let read := if t = 2 then touch v ((keySlots (seedOf sent.m) (leAt p 4 8)).map (entryKey 2)) sent
         else touchTable v t sent
       (read, .ok (match searchTable read.m t p with
         | none => zeros (12 + entrySize t 0)
         | some k => u8 1 ++ zeros 3 ++ u32 k ++ u32 (sideWord v read.m (covered read.m) t k)
           ++ entryBytes (entrySize t 0) (entryValue v read t k)))) := by
  have hkey := Nat.not_lt.mpr (Nat.le_trans (searchKey_fits t) hlen)
  rw [tableSearchBody, tableOp_of_room hroom, need_of_le (Nat.le_trans (by decide) hlen)]
  simp only [ht, htable, Bool.not_true, Bool.false_eq_true, if_false, if_neg hkey, answer]
  simp only [beq_iff_eq]
  split
  · next hnone => simp only [hnone]
  · next k hfound => simp only [hfound]

theorem tableDiscardBody_ok {i : Nat} (hroom : tableOpsInUse w.m < 16) (hown : ownSlot w.m c = some i) :
    tableDiscardBody c p v w =
      (w.slot i (fun x => { x with staged := [] }), .ok (u16 (slotAt w.m i).staged.length ++ zeros 2)) := by
  rw [tableDiscardBody, tableOp_of_room hroom]
  simp only [ownStaged, hown, answer]

end

/-- Settles O15: each body's answer once an operation is free; the checks before it leave the staged set alone. -/
theorem tableReadsAnswer : Obligations.TableReadsAnswer := by
  refine ⟨?info, ?read, ?search, ?discard⟩
  case info =>
    intro size n r s i h hroom hlen hshape
    exact accepted_ok h (Bool.and_false _) (tableInfoBody_ok hroom hlen hshape)
  case read =>
    intro size n r s i h hroom hlen hshape hsome hrange hfits
    exact accepted_ok h (Bool.and_false _) (tableReadBody_ok rfl rfl rfl hroom hlen hshape hsome hrange hfits)
  case search =>
    intro r s i h hroom _ htable hlen
    exact accepted_ok h (Bool.and_false _) (tableSearchBody_ok rfl hroom htable hlen)
  case discard =>
    intro r s i h hroom hown
    have hbody := tableDiscardBody_ok (p := r.payload) (v := s.base) hroom hown
    rw [entered_staged h] at hbody
    exact accepted_ok h (Bool.and_false _) hbody

section

variable {c : Ctx} {p : List Byte} {v : View} {w w' : W} {t : Nat}
  (hidle : switching w.m = false) (hroom : tableOpsInUse w.m < 16)

/-! ### TABLE_WRITE -/

/-- The ordered tables and the learning view take no TABLE_WRITE. -/
theorem takesWrite_of_plain (h : [2, 3, 4, 5, 7].contains t = false) : (t == 4 || t == 5 || t == 7) = false := by
  simp_all

theorem not_staged_of_plain (h : [2, 3, 4, 5, 7].contains t = false) : (t == 2 || t == 3) = false := by
  simp_all

theorem takesWrite_of_staged (h : t = 2 ∨ t = 3) : (t == 4 || t == 5 || t == 7) = false := by
  rcases h with rfl | rfl <;> rfl

include hidle hroom

/-- A TABLE_WRITE that every check passes stages its entries in the hash and the signpost table, and writes them in the
others. -/
theorem tableWriteBody_checked {first count size n : Nat} {es : List Nat} (ht : leAt p 0 1 = t)
    (hcount : leAt p 2 2 = count) (hfirst : leAt p 4 4 = first) (hlen : 8 ≤ p.length)
    (hshape : tableShape t = some (size, n)) (htable : (t == 4 || t == 5 || t == 7) = false) (hsome : count ≠ 0)
    (hrange : rangeStatus t n first count = none) (hwhole : p.length = 8 + count * entrySize t first)
    (hes : payloadEntries (entrySize t first) count p = es) (hchecked : checkAll v t first es w.m = none) :
    tableWriteBody c p v w =
      if t == 2 || t == 3 then
        match stage c (es.zipIdx.map (fun q => .write t (first + q.2)
          (clearBits (reservedOf w.m.tab t (first + q.2) q.1) q.1))) w with
        | (w, .error st) => refuse w st
        | (w, .ok _) => answer w (u16 count ++ zeros 2)
      else
        answer (modified ((dmaWrite v ((List.range count).map (fun k => (t, first + k))) w).each es.zipIdx
          fun q w => writeEntry v t (first + q.2) q.1 w)) (u16 count ++ zeros 2) := by
  rw [tableWriteBody, tableChange_eq hidle hroom hlen]
  simp only [ht, hcount, hfirst, hshape, htable, hrange, hes, hchecked, if_neg hsome, bne_eq_false_iff_eq.mpr hwhole,
    Bool.false_eq_true, if_false] <;> rfl

/-! ### TABLE_INSERT -/

theorem tableInsertBody_hash {e e0 k : Nat} (ht : leAt p 0 1 = 2) (hlen : 4 + entrySize 2 0 ≤ p.length)
    (he0 : leAt p 4 (entrySize 2 0) = e0) (he : clearBits (reservedOf w.m.tab 2 0 e0) e0 = e)
    (hvalid : Sp.valid.on (He.sp.get e) = true) (hsp : signpostOk (He.sp.get e) = true)
    (hstage : stage c [.insert 2 e] w = (w', .ok k)) :
    tableInsertBody c p v w = (w', .ok (u32 0xFFFFFFFF)) := by
  rw [tableInsertBody, tableChange_eq hidle hroom (Nat.le_trans (Nat.le_add_right ..) hlen)]
  simp [ht, if_neg (Nat.not_lt.mpr hlen), he0, he, hvalid, hsp, hstage, answer]

theorem tableInsertBody_route {e e0 k : Nat} {x : Tables} (ht : leAt p 0 1 = t) (hroute : t = 4 ∨ t = 5)
    (hlen : 4 + entrySize t 0 ≤ p.length) (he0 : leAt p 4 (entrySize t 0) = e0)
    (he : clearBits (reservedOf w.m.tab t 0 e0) e0 = e)
    (hvalid : Sp.valid.on (if t = 4 then L4.sp.get e else L6.sp.get e) = true)
    (hsp : signpostOk (if t = 4 then L4.sp.get e else L6.sp.get e) = true) (hstatus : lpmStatus t e = none)
    (hplace : w.m.tab.insertLpm t e = some (x, k)) :
    tableInsertBody c p v w =
      (modified (dmaWrite v (changedFrom w.m.tab x t).reverse (w.tab fun _ => x)), .ok (u32 k)) := by
  have hhash : (t == 2) = false := by rcases hroute with rfl | rfl <;> rfl
  have hlpm : (t != 2 && t != 4 && t != 5) = false := by rcases hroute with rfl | rfl <;> rfl
  rw [tableInsertBody, tableChange_eq hidle hroom (Nat.le_trans (Nat.le_add_right ..) hlen)]
  simp only [ht, hhash, hlpm, if_neg (Nat.not_lt.mpr hlen), he0, he, beq_iff_eq, hvalid, hsp, hstatus, hplace,
    Bool.not_true, Bool.or_self, Bool.false_eq_true, if_false, answer]

/-! ### TABLE_DELETE -/

theorem tableDeleteBody_hash {k : Nat} (ht : leAt p 0 1 = 2) (hlen : 12 ≤ p.length)
    (hstage : stage c [.delete 2 (leAt p 4 8)] w = (w', .ok k)) :
    tableDeleteBody c p v w = (w', .ok (u8 k ++ zeros 3)) := by
  rw [tableDeleteBody, tableChange_eq hidle hroom (Nat.le_trans (by decide) hlen)]
  simp [ht, if_neg (Nat.not_lt.mpr hlen), hstage, answer]

theorem tableDeleteBody_learned (ht : leAt p 0 1 = 7) (hlen : 12 ≤ p.length) :
    tableDeleteBody c p v w =
      match learnedByKey w.m.tab (macKey (leAt p 10 2 % 4096) (beAt p 4 6)) with
      | some (_, l) => (modified (dropLearned v l w), .ok (u8 1 ++ zeros 3))
      | none => (modified w, .ok (u8 0 ++ zeros 3)) := by
  rw [tableDeleteBody, tableChange_eq hidle hroom (Nat.le_trans (by decide) hlen)]
  simp [ht, if_neg (Nat.not_lt.mpr hlen), answer] <;> rfl

theorem tableDeleteBody_route {size e : Nat} (ht : leAt p 0 1 = t) (hroute : t = 4 ∨ t = 5)
    (hsize : (if t = 4 then 8 else 24) = size) (hlen : 4 + size ≤ p.length) (he : leAt p 4 size = e)
    (hstatus : lpmStatus t e = none) :
    tableDeleteBody c p v w =
      (modified (dmaWrite v (changedFrom w.m.tab (w.m.tab.deleteLpm t e).1 t)
        (w.tab fun _ => (w.m.tab.deleteLpm t e).1)), .ok (u8 (b2n (w.m.tab.deleteLpm t e).2) ++ zeros 3)) := by
  have hhash : (t == 2) = false := by rcases hroute with rfl | rfl <;> rfl
  have hlearned : (t == 7) = false := by rcases hroute with rfl | rfl <;> rfl
  have htable : [2, 4, 5, 7].contains t = true := by rcases hroute with rfl | rfl <;> rfl
  rw [tableDeleteBody, tableChange_eq hidle hroom (Nat.le_trans (Nat.le_add_right ..) hlen)]
  simp only [ht, hhash, hlearned, htable, Bool.false_or, Bool.or_false, beq_iff_eq, hsize, if_neg (Nat.not_lt.mpr hlen),
    he, hstatus, Bool.not_true, Bool.false_eq_true, if_false, answer]

/-! ### TABLE_COMMIT and TABLE_FLUSH -/

theorem tableCommitBody_ok {check gen : Nat} (hcheck : leAt p 0 1 = check) (hgen : leAt p 4 4 = gen)
    (hlen : 8 ≤ p.length) (hone : check ≤ 1) (hcurrent : check = 1 → gen = w.m.tab.generation) :
    tableCommitBody c p v w =
      match ownStaged w.m c with
      | [] => answer w (commitReply w.m.tab.generation 0 0)
      | _ => (w, .wait (.commit (if check = 1 then some gen else none)) []) := by
  have hstale : ¬ (check = 1 ∧ gen ≠ w.m.tab.generation) := fun h => h.2 (hcurrent h.1)
  rw [tableCommitBody, tableChange_eq hidle hroom hlen]
  simp only [hcheck, hgen, if_neg (Nat.not_lt.mpr hone), if_neg hstale] <;> rfl

theorem tableFlushBody_ok {mask vid : Nat} {hit : List (Nat × Learned)} (hmask : leAt p 0 8 = mask)
    (hvid : leAt p 8 2 = vid) (hlen : 16 ≤ p.length)
    (hhit : w.m.tab.learned.filter
      (fun q => bit mask q.2.port && (vid == 0xFFFF || fld q.2.key 48 12 == vid)) = hit) :
    tableFlushBody c p v w = (modified (w.each hit fun q w => dropLearned v q.2 w), .ok (u32 hit.length)) := by
  rw [tableFlushBody, tableChange_eq hidle hroom hlen]
  simp only [hmask, hvid, hhit, answer]

end

/-! ### COMMIT_APPLY -/

theorem commitApplyCore_of_current {v : View} {w : W} {o : Op} {gen : Option Nat}
    (hfind : w.m.borul.ops.find? (fun o => isCommit o.kind) = some o) (hkind : o.kind = .commit gen)
    (hcurrent : gen.any (· != w.m.tab.generation) = false) :
    commitApplyCore v w = applyCommit v o (commitSet w.m o) w := by
  simp only [commitApplyCore, hfind, hkind, hcurrent, Bool.false_eq_true, if_false]

/-- Settles O16: each body's answer once no switch waits and an operation is free. -/
theorem tableWritesComplete : Obligations.TableWritesComplete := by
  refine ⟨?write, ?stageWrite, ?stageInsert, ?stageDelete, ?insertRoute, ?deleteLearned, ?deleteUnknown, ?deleteRoute,
    ?commitNothing, ?commitWaits, ?flush, ?apply⟩
  case write =>
    intro size n r s i h hposted hroom hidle hlen hshape htable hsome hrange hwhole hchecked
    exact accepted_ok h (unposted hposted _) ((tableWriteBody_checked hidle hroom rfl rfl rfl hlen hshape
      (takesWrite_of_plain htable) hsome hrange hwhole rfl hchecked).trans
      (if_neg (Bool.eq_false_iff.mp (not_staged_of_plain htable))))
  case stageWrite =>
    intro size n w k r s i h hposted hroom hidle hlen hshape htable hsome hrange hwhole hchecked hstage
    have hbody := tableWriteBody_checked (c := asked r i s) hidle hroom rfl rfl rfl hlen hshape
      (takesWrite_of_staged htable) hsome hrange hwhole rfl hchecked
    rw [if_pos (by simpa using htable), entered_tab, hstage] at hbody
    exact accepted_ok h (unposted hposted _) hbody
  case stageInsert =>
    rintro w k r s i h hposted hroom hidle hlen ht ⟨hvalid, hsp, hstage⟩
    exact accepted_ok h (unposted hposted _) (tableInsertBody_hash hidle hroom ht hlen rfl rfl hvalid hsp hstage)
  case stageDelete =>
    intro w k r s i h hposted hroom hidle hlen ht hstage
    exact accepted_ok h (unposted hposted _) (tableDeleteBody_hash hidle hroom ht hlen hstage)
  case insertRoute =>
    rintro x k r s i h hposted hroom hidle hlen hroute ⟨hvalid, hsp, hstatus, hplace⟩
    exact accepted_ok h (unposted hposted _)
      (tableInsertBody_route hidle hroom rfl hroute hlen rfl rfl hvalid hsp hstatus hplace)
  case deleteLearned =>
    intro k l r s i h hposted hroom hidle hlen ht hfound
    have hbody := tableDeleteBody_learned (c := asked r i s) (v := s.base) (w := entered opTableDelete r i s) hidle
      hroom ht hlen
    rw [entered_tab, hfound] at hbody
    exact accepted_ok h (unposted hposted _) hbody
  case deleteUnknown =>
    intro r s i h hposted hroom hidle hlen ht hnone
    have hbody := tableDeleteBody_learned (c := asked r i s) (v := s.base) (w := entered opTableDelete r i s) hidle
      hroom ht hlen
    rw [entered_tab, hnone] at hbody
    exact accepted_ok h (unposted hposted _) hbody
  case deleteRoute =>
    intro r s i h hposted hroom hidle hroute hlen hstatus
    exact accepted_ok h (unposted hposted _) (tableDeleteBody_route hidle hroom rfl hroute rfl hlen rfl hstatus)
  case commitNothing =>
    intro r s i h hposted hroom hidle hlen hone hcurrent hnone
    have hbody := tableCommitBody_ok (c := asked r i s) (v := s.base) (w := entered opTableCommit r i s) hidle
      hroom rfl rfl hlen hone hcurrent
    rw [hnone] at hbody
    exact accepted_ok h (unposted hposted _) hbody
  case commitWaits =>
    intro x l r s i h hposted hroom hidle hlen hone hcurrent hsome
    have hbody := tableCommitBody_ok (c := asked r i s) (v := s.base) (w := entered opTableCommit r i s) hidle
      hroom rfl rfl hlen hone hcurrent
    rw [hsome] at hbody
    exact accepted_wait h (unposted hposted _) hbody
  case flush =>
    intro r s i h hposted hroom hidle hlen
    exact accepted_ok h (unposted hposted _) (tableFlushBody_ok hidle hroom rfl rfl hlen rfl)
  case apply =>
    exact fun o gen s hfind hkind hcurrent => run_eq_after rfl (commitApplyCore_of_current hfind hkind hcurrent)

end Sys2Proof.Proofs

/-! ## The FLOW family and the events of waypoints, layby and fabric (R165-R186, R204-R225, R538) -/

namespace Sys2Proof.Proofs

open Sys2Proof Sys2Proof.Machine

/-! ### An operation over a range of waypoint records (R185) -/

/-- An accepted request over a range that lies in the table comes to its own work: the records of the range have been
marked as read, and those that are valid and readable are left to it. -/
theorem flowRange_entered {n limit : Nat} {check : List Byte → Option Nat} {r : Request} (hlen : n ≤ r.payload.length)
    (hsome : 1 ≤ leAt r.payload 2 2) (hlimit : leAt r.payload 2 2 ≤ limit)
    (hrange : leAt r.payload 0 2 + leAt r.payload 2 2 ≤ 8192) (hcheck : check r.payload = none)
    (body : List Nat → List Byte → View → W → W × Ans) (op : OpInfo) (c : Ctx) (s : State) (i : Nat) :
    flowRange n limit check body c r.payload s.base (entered op r i s) =
      body (flowRecords op r i s) r.payload s.base (flowTouched op r i s) := by
  have hin : ¬ (leAt r.payload 2 2 = 0 ∨ limit < leAt r.payload 2 2 ∨
      8192 < leAt r.payload 0 2 + leAt r.payload 2 2) := by omega
  rw [flowRange, need_of_le hlen]
  simp only [if_neg hin, hcheck]
  rfl

/-- A request over a range is answered with what its own work answers on the records that are valid and readable. -/
theorem flowRange_accepted {op : OpInfo} {r : Request} {s : State} {i n limit : Nat} {check : List Byte → Option Nat}
    {body : List Nat → List Byte → View → W → W × Ans} {w : W} {p : List Byte} (h : Accepted op r s i)
    (hpost : op.post = false) (hlen : n ≤ r.payload.length) (hsome : 1 ≤ leAt r.payload 2 2)
    (hlimit : leAt r.payload 2 2 ≤ limit) (hrange : leAt r.payload 0 2 + leAt r.payload 2 2 ≤ 8192)
    (hcheck : check r.payload = none)
    (hbody : body (flowRecords op r i s) r.payload s.base (flowTouched op r i s) = (w, .ok p)) :
    run true (request op r (flowRange n limit check body)) s = repliedOk op r i s w p :=
  accepted_ok h (by rw [hpost, Bool.and_false])
    ((flowRange_entered hlen hsome hlimit hrange hcheck body op _ s i).trans hbody)

/-- The change reaches the records picked, and their number is answered. -/
theorem changeRecords_eq (l : List Nat) (pick : Nat → Bool) (f : Nat → W → W) (w : W) :
    changeRecords l pick f w =
      (w.each (l.filter fun k => pick (wpGet w.m k)) f, .ok (changed (l.filter fun k => pick (wpGet w.m k)).length)) :=
  rfl

/-- FLOW_LEARN takes a force flag of 0 or 1. -/
theorem learnCheck_none {p : List Byte} (hforce : leAt p 6 1 ≤ 1) :
    (if 1 < leAt p 6 1 then some St.badParam else none) = none :=
  if_neg (Nat.not_lt.mpr hforce)

/-- FLOW_FREEZE takes a mode of 0 or 1, and with a profile given one of the four kinds. -/
theorem freezeCheck_none {p : List Byte} (hmode : leAt p 6 1 ≤ 1) (hkind : leAt p 6 1 = 1 → leAt p 7 1 ≤ 3) :
    (if 1 < leAt p 6 1 || (leAt p 6 1 == 1 && decide (3 < leAt p 7 1)) then some St.badParam else none) = none := by
  refine if_neg ?_
  simp only [Bool.or_eq_true, Bool.and_eq_true, decide_eq_true_eq, beq_iff_eq]
  omega

/-! ### The layby operations (R183, R184) -/

section

variable {c : Ctx} {p : List Byte} {v : View} {w : W}

theorem flowLaybyListBody_ok (hlen : 8 ≤ p.length) (hsome : 1 ≤ leAt p 4 2) (hlimit : leAt p 4 2 ≤ 126) :
    flowLaybyListBody c p v w =
      (let l := (w.m.flow.layby.filter (fun h => decide (leAt p 0 4 ≤ h.id))).take (leAt p 4 2)
       (w, .ok (u16 l.length ++ u16 (laybyTiles w.m) ++ u16 w.m.flow.layby.length ++ zeros 2
         ++ l.flatMap (heldBytes w.m v.now)))) := by
  have hin : ¬ (leAt p 4 2 = 0 ∨ 126 < leAt p 4 2) := by omega
  rw [flowLaybyListBody, need_of_le hlen]
  simp only [if_neg hin, answer]

/-- Correcting single-bit errors on the way does not bear on whether the frame can be read. -/
theorem flowLaybyReadBody_ok {x : Held} (hlen : 8 ≤ p.length) (hheld : findHeld w.m (leAt p 0 4) = some x)
    (hsound : readFault w.m x.frame none = none) :
    flowLaybyReadBody c p v w =
      (let bs := slice (storedBytes x.frame) (leAt p 4 2) (leAt p 6 2)
       (corrected x.frame none w, .ok (u16 bs.length ++ zeros 2 ++ bs))) := by
  rw [flowLaybyReadBody, need_of_le hlen]
  simp only [hheld, corrected_m, hsound, answer]

theorem flowLaybyDisposeBody_ok {es : List (List Byte)} (hsome : 1 ≤ leAt p 0 2) (hlimit : leAt p 0 2 ≤ 64)
    (hwhole : p.length = 4 + 16 * leAt p 0 2)
    (hes : (List.range (leAt p 0 2)).map (fun k => slice p (4 + 16 * k) 16) = es)
    (hknown : es.any (fun e => decide (3 < leAt e 4 1)) = false) :
    flowLaybyDisposeBody c p v w =
      ((disposeAll v es w).1, .ok (u16 (leAt p 0 2) ++ zeros 2 ++ pad4 (disposeAll v es w).2)) := by
  have hin : ¬ (leAt p 0 2 = 0 ∨ 64 < leAt p 0 2 ∨ p.length ≠ 4 + 16 * leAt p 0 2) := by omega
  rw [flowLaybyDisposeBody, need_of_le (by omega)]
  simp only [if_neg hin, hes, hknown, Bool.false_eq_true, if_false, answer]

end

/-- Settles O17: the operations over a range by what each does with the records left to it, the others by their body. -/
theorem flowFamilyAnswers : Obligations.FlowFamilyAnswers := by
  refine ⟨?read, ?learn, ?watch, ?freeze, ?quarantineClear, ?kindsAck, ?list, ?laybyRead, ?dispose⟩
  case read =>
    intro r s i h hlen hsome hlimit hrange
    exact flowRange_accepted h rfl hlen hsome hlimit hrange rfl rfl
  case learn =>
    intro r s i h hlen hsome hlimit hrange hforce
    exact flowRange_accepted h rfl hlen hsome hlimit hrange (learnCheck_none hforce) (changeRecords_eq ..)
  case watch =>
    intro r s i h hlen hsome hlimit hrange
    exact flowRange_accepted h rfl hlen hsome hlimit hrange rfl (changeRecords_eq ..)
  case freeze =>
    intro r s i h hlen hsome hlimit hrange hmode hkind
    exact flowRange_accepted h rfl hlen hsome hlimit hrange (freezeCheck_none hmode hkind) (changeRecords_eq ..)
  case quarantineClear =>
    intro r s i h hlen hsome hlimit hrange
    exact flowRange_accepted h rfl hlen hsome hlimit hrange rfl (changeRecords_eq ..)
  case kindsAck =>
    intro r s i h hlen hsome hlimit hrange
    exact flowRange_accepted h rfl hlen hsome hlimit hrange rfl (changeRecords_eq ..)
  case list =>
    intro r s i h hlen hsome hlimit
    exact accepted_ok h (Bool.and_false _) (flowLaybyListBody_ok hlen hsome hlimit)
  case laybyRead =>
    intro x r s i h hlen hheld hsound
    exact accepted_ok h (Bool.and_false _) (flowLaybyReadBody_ok hlen hheld hsound)
  case dispose =>
    intro r s i h hsome hlimit hwhole hknown
    exact accepted_ok h (Bool.and_false _) (flowLaybyDisposeBody_ok hsome hlimit hwhole rfl hknown)

/-! ### Queues and drop-oldest (R209, R210) -/

theorem isCanPort_of_isEthPort {port : Nat} (h : isEthPort port = true) : isCanPort port = false := by
  have hlow : port < 11 := of_decide_eq_true h
  exact decide_eq_false (by omega)

theorem isQueue_of_eth {port q : Nat} (hport : isEthPort port = true) (hq : q < 8) : isQueue port q = true := by
  simp only [isQueue, hport, hq, decide_true, Bool.and_self, Bool.true_or]

theorem isQueue_of_can {port q : Nat} (hport : isCanPort port = true) (hq : q < 4) : isQueue port q = true := by
  simp only [isQueue, hport, hq, decide_true, Bool.and_self, Bool.or_true]

section

variable {port q : Nat} {v : View} {w : W}

/-- On an Ethernet port the head of the queue is dropped. -/
theorem dropOldestRemoveCore_of_eth {c : Copy} {rest : List Copy} (hport : isEthPort port = true)
    (hdrop : (updateBlocking v w).m.fab.dropOldest.contains (queueKey port q) = true)
    (hqueue : queueOf (updateBlocking v w).m port q = c :: rest) :
    dropOldestRemoveCore port q v w =
      settle v ((dropRef v c.frame.seq (setQueue port q rest (updateBlocking v w))).count C.bp_ceiling_drop
        (queueKey port q)) := by
  simp only [dropOldestRemoveCore, hdrop, isCanPort_of_isEthPort hport, hqueue, Bool.not_true, Bool.false_eq_true,
    if_false, List.isEmpty_nil]

/-- On a CAN port the queue's oldest copy is the one loaded first that has not begun transmission. -/
theorem dropOldestRemoveCore_of_can {n : Nat} {o : MsgObj} {c : Copy} (hport : isCanPort port = true)
    (hdrop : (updateBlocking v w).m.fab.dropOldest.contains (queueKey port q) = true)
    (hloaded : firstLoaded (canAt (updateBlocking v w).m (port - 14)) q = some n)
    (hobj : (canAt (updateBlocking v w).m (port - 14)).objs.get? n = some o) (hcopy : o.copy = some c) :
    dropOldestRemoveCore port q v w =
      settle v ((dropRef v c.frame.seq (emptyObj (port - 14) n (updateBlocking v w))).count C.bp_ceiling_drop
        (queueKey port q)) := by
  simp only [dropOldestRemoveCore, hdrop, hport, hloaded, hobj, hcopy, Option.bind_some, Bool.not_true,
    Bool.false_eq_true, if_false, if_true]

/-- A queue that has blocked for fabric.bp_ceiling enters drop-oldest. -/
theorem bpCeilingCore_of_due {since : Nat}
    (hblocked : (updateBlocking v w).m.fab.blocked.get? (queueKey port q) = some since)
    (hdue : since + prmNs (updateBlocking v w).m P.fabric_bp_ceiling ≤ v.now)
    (hnew : (updateBlocking v w).m.fab.dropOldest.contains (queueKey port q) = false) :
    bpCeilingCore port q v w =
      (let k := queueKey port q
       let w := updateBlocking v w
       ((w.fab fun x => { x with dropOldest := k :: x.dropOldest }).count C.bp_ceiling_episode k).event v 0x0705 1
         (u8 port ++ u8 q ++ zeros 2 ++ u32 ((v.now - since) / 1000) ++ u64 (maskOf (pausedSources w.m port q)))) := by
  simp only [bpCeilingCore, hblocked, hnew, Nat.not_lt.mpr hdue, decide_false, Bool.or_self, Bool.false_eq_true,
    if_false]

/-! ### FRAME_ENQUEUE (R204, R538) -/

/-- The frame taken leaves the list before what was met on the way decides: a failure of the queue manager's own memory,
or its copies enqueued. -/
theorem frameEnqueueCore_of_ready {t : Option TileFault} {ringFull : Bool} {x : Job} (hpow : powered w.m = true)
    (hready : w.m.flow.enq.find? (jobReady w.m) = some x) :
    frameEnqueueCore t ringFull v w =
      (let w := (w.flow fun y => { y with enq := y.enq.erase x }).fab fun y => { y with ringFull := ringFull }
       if t.any (fun y => y.cause == 3) = true then faultData v 0 (t.map TileFault.tile |>.getD 0) w
       else settle v (enqueueJob v t ringFull x w)) := by
  simp only [frameEnqueueCore, hpow, hready, Bool.not_true, Bool.false_eq_true, if_false]
  cases t <;> rfl

end

/-- Settles O18: each core by the condition under which it acts. -/
theorem waypointAndFabricEventsComplete : Obligations.WaypointAndFabricEventsComplete := by
  refine ⟨?evaluate, ?sweep, ?layby, ?enqueue, ?enqueueFault, ?hold, ?ceiling, ?dropEth, ?dropCan, ?milestone,
    ?watchdog, ?auditLost, ?auditWhole⟩
  case evaluate =>
    intro x s hpow hnext
    refine run_eq_after rfl ?_
    simp only [waypointEvaluateCore, hnext, hpow]
  case sweep => exact fun s => run_eq_after rfl rfl
  case layby =>
    intro id x s hheld hdue
    refine run_eq_after rfl ?_
    simp only [laybyExpiryCore, hheld, hdue, Bool.not_true, Bool.false_eq_true, if_false]
  case enqueue =>
    intro t ringFull x s hpow hready hmet
    have hno : ¬ t.any (fun y => y.cause == 3) = true := by
      rcases hmet with rfl | ⟨y, rfl, hy⟩
      · exact Bool.false_ne_true
      · simpa using hy
    have hcore := frameEnqueueCore_of_ready (t := t) (ringFull := ringFull) (v := s.base) (w := ⟨s.m, []⟩) hpow hready
    exact run_eq_after rfl (hcore.trans (if_neg hno))
  case enqueueFault =>
    intro t ringFull x s hpow hready ht
    have hyes : (some t).any (fun y => y.cause == 3) = true := by simpa using ht
    have hcore := frameEnqueueCore_of_ready (t := t) (ringFull := ringFull) (v := s.base) (w := ⟨s.m, []⟩) hpow hready
    exact run_eq_after rfl (hcore.trans (if_pos hyes))
  case hold => exact fun s => run_eq_after rfl rfl
  case ceiling =>
    exact fun port q since s hq hblocked hdue hnew => run_eq_after hq (bpCeilingCore_of_due hblocked hdue hnew)
  case dropEth =>
    exact fun port q c rest s hport hq hdrop hqueue =>
      run_eq_after (isQueue_of_eth hport hq) (dropOldestRemoveCore_of_eth hport hdrop hqueue)
  case dropCan =>
    exact fun port q n o c s hport hq hdrop hloaded hobj hcopy =>
      run_eq_after (isQueue_of_can hport hq) (dropOldestRemoveCore_of_can hport hdrop hloaded hobj hcopy)
  case milestone => exact fun d s hd => run_eq_after hd rfl
  case watchdog =>
    intro resource requester addrs c s hunit hopen
    refine run_eq_after (decide_eq_true hunit) ?_
    simp only [closureWatchdogCore, hopen]
  case auditLost =>
    intro lost s hlost hpow
    refine run_eq_after rfl ?_
    simp only [tileAuditCore, hlost, hpow, Bool.not_true, decide_false, Bool.or_self, Bool.false_eq_true, if_false]
  case auditWhole => exact fun s => run_eq_self rfl rfl

end Sys2Proof.Proofs

/-! ## The egress of the Ethernet ports and their gate lists (R204, R235-R247, R344) -/

namespace Sys2Proof.Proofs

open Sys2Proof Sys2Proof.Machine

section

variable {port : Nat} {v : View} {w : W}

/-! ### ETH_TX_START (R235, R344) -/

/-- Outside its PLCA opportunity a port begins no frame. -/
theorem ethTxStartCore_of_noOpportunity {t : Option TileFault} (hopp : takeOpportunity v port w = none) :
    ethTxStartCore port t v w = w := by
  simp only [ethTxStartCore, hopp, ite_self]

/-- With its opportunity taken, a port that is not held comes to the MAC. -/
theorem ethTxStartCore_of_opportunity {t : Option TileFault} {w' : W} (hpow : powered w.m = true)
    (hopp : takeOpportunity v port w = some w') (hheld : portHeld w'.m port = false) :
    ethTxStartCore port t v w = noteStart v port (beginFrame port t v w') := by
  simp only [ethTxStartCore, hpow, hopp, hheld, Bool.not_true, Bool.false_eq_true, if_false]

/-- A HOLD in force has made what runs give way (R243). -/
def heldBack (port : Nat) (v : View) (w : W) : W :=
  if holdInForce w.m port v.time.tb0.full then preemptNow v port w else w

/-- The classes whose head may start, the highest first: while a frame is under way, express ones only. -/
def readyClasses (port : Nat) (v : View) (w : W) : List Nat :=
  (List.range 8).reverse.filter fun q => headEligible w.m v (w.base v) port q &&
    !(((w.m.fab.preempted.get? port).isSome || (w.m.fab.tx.get? port).isSome) && preemptable w.m port q)

/-- What the MAC does on a wire that is free after the discards. -/
def startFirst (port : Nat) (t : Option TileFault) (v : View) (w : W) : List Nat → W
  | q :: _ => startHead v port q t (preemptNow v port w)
  | [] => if (w.m.fab.tx.get? port).isSome then w else resumeTx v port w

/-- On a wire that is free once the heads have been judged, the highest class that may start does, or the preempted
frame goes on. -/
theorem beginFrame_of_wireFree {t : Option TileFault} {judged : W}
    (hjudged : settle v (w.each (List.range 8) fun q w => discardHeads v port q (queueOf w.m port q).length w) = judged)
    (hfree : wireFree judged.m port v.now = true) :
    beginFrame port t v w =
      startFirst port t v (heldBack port v judged) (readyClasses port v (heldBack port v judged)) := by
  simp only [beginFrame, hjudged, hfree, Bool.not_true, Bool.false_eq_true, if_false, heldBack, readyClasses]
  generalize List.filter _ (List.range 8).reverse = classes
  cases classes <;> rfl

/-! ### ETH_TX_COMPLETE (R204, R213, R246, R255) -/

/-- The frame `x` has left the wire, and the credit of its class is settled (R241). -/
def offWire (v : View) (port : Nat) (x : EthTx) (w : W) : W :=
  creditIdle v port x.tc (chargeTx v port x (w.fab fun y => { y with tx := y.tx.erase port }))

section

variable {x : EthTx} (htx : w.m.fab.tx.get? port = some x) (hpow : powered w.m = true)

include htx hpow

/-- A whole frame of a queue whose tiles are all readable ends well. -/
theorem ethTxCompleteCore_of_good (hlane : x.fastLane = false) (hwhole : x.copy.frame.unfinished = false)
    (hsound : (chainOfFrame w.m x.copy.frame.seq).findSome? (badTile w.m.fab) = none) :
    ethTxCompleteCore port .good v w =
      settle v (dropRef v x.copy.frame.seq ((((offWire v port x w).send (.eth port x.bytes)).count C.egress_frames
        (queueKey port x.tc)).count C.egress_bytes port (x.bytes.length + 4))) := by
  simp only [ethTxCompleteCore, htx, hpow, hlane, hwhole, hsound, Bool.not_true, Bool.false_eq_true, if_false, offWire]

/-- A tile of the chain that fails, met on the wire or known before, cuts the frame short. -/
theorem ethTxCompleteCore_of_tile {e : EthTxEnd} {t : TileFault} (hlane : x.fastLane = false)
    (hend : e = .tile t ∨ e = .good ∧ (chainOfFrame w.m x.copy.frame.seq).findSome? (badTile w.m.fab) = some t)
    (hchain : (chainOfFrame w.m x.copy.frame.seq).contains t.tile = true) :
    ethTxCompleteCore port e v w =
      settle v (dropRef v x.copy.frame.seq (tileFail v 7 x.copy.frame t (stompTx v port x (offWire v port x w)))) := by
  rcases hend with rfl | ⟨rfl, hbad⟩
  · simp only [ethTxCompleteCore, htx, hpow, hlane, hchain, Bool.not_true, Bool.false_eq_true, if_false, offWire]
  · simp only [ethTxCompleteCore, htx, hpow, hlane, hbad, hchain, Bool.not_true, Bool.false_eq_true, if_false, offWire]

/-- Only a frame that still arrives can run short of bytes. -/
theorem ethTxCompleteCore_of_underrun (hlane : x.fastLane = false) (hpart : x.copy.frame.unfinished = true) :
    ethTxCompleteCore port .underrun v w =
      settle v (dropRef v x.copy.frame.seq (underrun v port (stompTx v port x (offWire v port x w)))) := by
  simp only [ethTxCompleteCore, htx, hpow, hlane, hpart, Bool.not_true, Bool.false_eq_true, if_false, offWire]

/-- An output of the fast lane that no longer waits for its input's outcome is done. -/
theorem ethTxCompleteCore_of_lane (hlane : x.fastLane = true) (hheard : laneWaits w.m port x.copy.frame.seq = false) :
    ethTxCompleteCore port .good v w = laneTxDone v port x w := by
  simp only [ethTxCompleteCore, htx, hpow, hlane, hheard, beq_self_eq_true, Bool.not_true, Bool.not_false,
    Bool.and_self, Bool.false_eq_true, if_false, if_true]

end

/-! ### Gate lists (R237, R239, R240, R243) -/

/-- The entry of TB0's present time and its HOLD come into force; a HOLD that was not in force before, as `held` says,
preempts what runs. -/
def enterEntry (port : Nat) (held : Bool) (v : View) (w : W) : W :=
  let hold := holdInForce w.m port v.time.tb0.full
  let w := w.gate port fun g => { g with entry := (statesAt w.m port v.time.tb0.full).2, hold := hold }
  if hold && !held then preemptNow v port w else w

/-- A port with a list, operative or pending, is not idle. -/
theorem gate_listed {g : GateList} (hlist : g.gating = true ∨ g.pending.isSome = true) :
    (!g.gating && g.pending.isNone) = false := by
  rcases hlist with h | h
  · rw [h, Bool.not_true, Bool.false_and]
  · rw [← Option.not_isSome, h, Bool.not_true, Bool.and_false]

/-- States that are not frozen, or that stay frozen past the present time, are left as they are. -/
theorem gateEntryChangeCore_of_running
    (hlist : (gateOf w.m port).gating = true ∨ (gateOf w.m port).pending.isSome = true)
    (hrun : ∀ f u, (gateOf w.m port).frozen = some (f, u) → v.time.tb0.full < u) :
    gateEntryChangeCore port v w = enterEntry port (gateOf w.m port).hold v w := by
  cases hfrozen : (gateOf w.m port).frozen with
  | none =>
    simp only [gateEntryChangeCore, gate_listed hlist, hfrozen, Bool.false_eq_true, if_false]
    rfl
  | some p =>
    simp only [gateEntryChangeCore, gate_listed hlist, hfrozen, Nat.not_le.mpr (hrun p.1 p.2 hfrozen),
      Bool.false_eq_true, if_false]
    rfl

/-- A freeze that has ended is taken off first, with the credit settled by the states that it kept (R240, R241). -/
theorem gateEntryChangeCore_of_thawed {f u : Nat}
    (hlist : (gateOf w.m port).gating = true ∨ (gateOf w.m port).pending.isSome = true)
    (hfrozen : (gateOf w.m port).frozen = some (f, u)) (hover : u ≤ v.time.tb0.full) :
    gateEntryChangeCore port v w = enterEntry port (gateOf w.m port).hold v
      ((settleCredit v port w).gate port fun g => { g with frozen := none, since := u, hold0 := g.hold }) := by
  simp only [gateEntryChangeCore, gate_listed hlist, hfrozen, hover, Bool.false_eq_true, if_false, if_true]
  rfl

end

/-- Settles O19: each core by the condition under which it acts. -/
theorem ethernetEgressCompletes : Obligations.EthernetEgressCompletes := by
  refine ⟨?start, ?noOpportunity, ?good, ?badTile, ?tile, ?underrun, ?lane, ?entry, ?thaw, ?activated⟩
  case start =>
    intro port t w s hport hpow hopp hheld hfree
    refine run_eq_after (decide_eq_true hport) ?_
    dsimp only
    generalize hjudged : settle s.base (w.each (List.range 8) _) = judged at hfree ⊢
    rw [ethTxStartCore_of_opportunity hpow hopp hheld, beginFrame_of_wireFree hjudged hfree]
    simp only [heldBack, readyClasses]
    generalize List.filter _ (List.range 8).reverse = classes
    cases classes <;> rfl
  case noOpportunity =>
    intro port t s hport _ hopp
    exact run_eq_self (decide_eq_true hport) (ethTxStartCore_of_noOpportunity hopp)
  case good =>
    intro port x s hport htx hlane hpow hwhole hsound
    exact run_eq_after (decide_eq_true hport) (ethTxCompleteCore_of_good htx hpow hlane hwhole hsound)
  case badTile =>
    intro port x t s hport htx hlane hpow hbad hchain
    exact run_eq_after (decide_eq_true hport) (ethTxCompleteCore_of_tile htx hpow hlane (.inr ⟨rfl, hbad⟩) hchain)
  case tile =>
    intro port x t s hport htx hlane hpow hchain
    exact run_eq_after (decide_eq_true hport) (ethTxCompleteCore_of_tile htx hpow hlane (.inl rfl) hchain)
  case underrun =>
    intro port x s hport htx hlane hpow hpart
    exact run_eq_after (decide_eq_true hport) (ethTxCompleteCore_of_underrun htx hpow hlane hpart)
  case lane =>
    intro port x s hport htx hlane hpow hheard
    exact run_eq_after (decide_eq_true hport) (ethTxCompleteCore_of_lane htx hpow hlane hheard)
  case entry =>
    intro port s hport hlist hrun
    exact run_eq_after (decide_eq_true hport) (gateEntryChangeCore_of_running hlist hrun)
  case thaw =>
    intro port f u s hport hlist hfrozen hover
    exact run_eq_after (decide_eq_true hport) (gateEntryChangeCore_of_thawed hlist hfrozen hover)
  case activated =>
    intro port at_ start s hport hpending hstart
    refine run_eq_after (decide_eq_true hport) ?_
    simp only [gateListActivatedCore, hpending, Nat.not_lt.mpr hstart, if_false]

end Sys2Proof.Proofs

/-! ## Transmission on the CAN channels (R249, R309, R315, R318, R320, R325) -/

namespace Sys2Proof.Proofs

open Sys2Proof Sys2Proof.Machine

section

variable {ch : Nat} {v : View} {w : W}

/-! ### CAN_OBJECT_LOAD (R249, R310) -/

/-- Queues 0 to 3 fill the pool objects. -/
theorem canObjectLoadCore_of_queue {q : Nat} (hq : q < 4) (t : Option TileFault) (v : View) (w : W) :
    canObjectLoadCore ch q t v w = settle v (loadPool v ch q t (queueOf w.m (canPort ch) q).length w) :=
  if_pos hq

/-! ### Attempts (R249, R255, R315) -/

/-- On a channel without an attempt, where the fast lane does not come first, the best object begins. -/
theorem canTxAttemptStartCore_of_startable {n : Nat} {o : MsgObj} (hidle : (canAt w.m ch).attempt = none)
    (hlane : laneFirst w.m ch = false) (hbest : startable w.m v.now ch = some (n, o)) :
    canTxAttemptStartCore ch v w =
      (let w := (dataPhase ch o.fmt o.brs w).can ch fun c => { c with attempt := some (.obj n), sof := txCapture v ch }
       noteSof ch n (txCapture v ch) (stampObj ch n (txCapture v ch).1 (w.obj ch n fun o => { o with st := 2 }))) := by
  simp only [canTxAttemptStartCore, hidle, hlane, hbest, Option.isSome_none, Bool.or_self, Bool.false_eq_true, if_false]

/-- Only the cut-through transmitter trails an input. -/
theorem trailing_of_obj {m : Module} {n : Nat} (h : (canAt m ch).attempt = some (.obj n)) (e : CanTxEnd) :
    trailing m ch e = false := by
  simp only [trailing, h]

/-- No SYNC of a CTS pair is sent by the cut-through transmitter. -/
theorem forgetSof_of_fast (ch q : Nat) (e : CanTxEnd) (w : W) : forgetSof ch (.fast q) e w = w := rfl

theorem canTxAttemptEndCore_of_obj {n : Nat} (h : (canAt w.m ch).attempt = some (.obj n)) (e : CanTxEnd) :
    canTxAttemptEndCore ch e v w =
      settle v (endObj v ch n e (forgetSof ch (.obj n) e (endAttempt v ch (e != .lost) w))) := by
  simp only [canTxAttemptEndCore, trailing_of_obj h, h]

theorem canTxAttemptEndCore_of_fast {q : Nat} {e : CanTxEnd} (h : (canAt w.m ch).attempt = some (.fast q))
    (hwhole : trailing w.m ch e = false) :
    canTxAttemptEndCore ch e v w = endFast v ch q e (endAttempt v ch (e != .lost) w) := by
  simp only [canTxAttemptEndCore, h, hwhole, forgetSof_of_fast]

/-! ### Collisions, bus-off, rate detection and line states (R309, R318, R320, R325) -/

/-- A suspended object whose hold is over is given up. -/
theorem collisionHoldExpiryCore_of_due {n : Nat} (hheld : (objAt (canAt w.m ch) n).st = 3)
    (hdue : (objAt (canAt w.m ch) n).since + prmNs w.m P.can_collision_hold ch + 1200 ≤ v.now) :
    collisionHoldExpiryCore ch n v w =
      if n < 64 then releasePool v ch n (w.count C.can_cancel ch)
      else dropFunction v ch n (w.count C.can_cancel ch) := by
  simp only [collisionHoldExpiryCore, hheld, (expired_iff v _).mpr hdue, bne_self_eq_false, Bool.not_true,
    Bool.or_self, Bool.false_eq_true, if_false]

/-- A recovering controller that is not held comes back error active. -/
theorem busOffRecoveredCore_of_recovering (hoff : (canAt w.m ch).conf = 2) (hrec : (canAt w.m ch).recovering = true)
    (hfree : portHeldAt w.m v.now (canPort ch) = false) :
    busOffRecoveredCore ch v w =
      claimOwn v ch (checkSuspension v ch
        ((w.can ch fun c => { c with conf := 0, recovering := false, tec := 0, rec_ := 0 }).event v 0x0A03 0
          (u8 (canPort ch) ++ zeros 3 ++ u32 ((v.now - (canAt w.m ch).busOffAt) / 1000000)))) := by
  simp only [busOffRecoveredCore, hoff, hrec, hfree, bne_self_eq_false, Bool.not_true, Bool.or_self,
    Bool.false_eq_true, if_false]

theorem rateDetectTimeoutCore_of_detecting {p n u : Nat} (h : (canAt w.m ch).detect = some (p, n, u)) :
    rateDetectTimeoutCore ch v w = if v.expired u then endDetect v ch 0 w else w := by
  simp only [rateDetectTimeoutCore, h]

/-- Lines that differ from the recorded ones are recorded while the module is powered. -/
theorem trailerLineCore_of_changed {lines : Nat}
    (hnew : setFld (canAt w.m ch).transceiver 8 3 lines ≠ (canAt w.m ch).transceiver) (hpow : powered w.m = true) :
    trailerLineCore ch lines v w =
      (w.can ch fun c => { c with transceiver := setFld (canAt w.m ch).transceiver 8 3 lines }).event v 0x0A06 1
        (u8 (canPort ch) ++ u8 0 ++ u16 (setFld (canAt w.m ch).transceiver 8 3 lines % 65536)) := by
  simp only [trailerLineCore, beq_eq_false_iff_ne.mpr hnew, hpow, Bool.not_true, Bool.or_self, Bool.false_eq_true,
    if_false]

end

/-- Settles O20: each core by the condition under which it acts; a rate detection acts at its deadline only. -/
theorem canTransmissionCompletes : Obligations.CanTransmissionCompletes := by
  refine ⟨?queue, ?backlog, ?start, ?endObject, ?endFast, ?holdExpiry, ?recovered, ?detect, ?line⟩
  case queue =>
    intro ch q t s hch hq
    exact run_eq_after (decide_eq_true ⟨hch, by omega⟩) (canObjectLoadCore_of_queue hq t s.base ⟨s.m, []⟩)
  case backlog => exact fun ch t s hch => run_eq_after (decide_eq_true ⟨hch, by decide⟩) rfl
  case start =>
    intro ch n o s hch hidle hlane hbest
    exact run_eq_after (decide_eq_true hch) (canTxAttemptStartCore_of_startable hidle hlane hbest)
  case endObject =>
    intro ch n e s hch hobj
    exact run_eq_after (decide_eq_true hch) (canTxAttemptEndCore_of_obj hobj e)
  case endFast =>
    intro ch q e s hch hfast hwhole
    exact run_eq_after (decide_eq_true hch) (canTxAttemptEndCore_of_fast hfast hwhole)
  case holdExpiry =>
    intro ch n s hch hn hheld hdue
    exact run_eq_after (decide_eq_true ⟨hch, hn⟩) (collisionHoldExpiryCore_of_due hheld hdue)
  case recovered =>
    intro ch s hch hoff hrec hfree
    exact run_eq_after (decide_eq_true hch) (busOffRecoveredCore_of_recovering hoff hrec hfree)
  case detect =>
    intro ch p n u s hch hdetect
    have hcore := rateDetectTimeoutCore_of_detecting (v := s.base) (w := ⟨s.m, []⟩) hdetect
    refine run_eq_ite (decide_eq_true hch) (fun hdue => ?_) (fun hearly => ?_)
    · exact hcore.trans (if_pos ((expired_iff s.base u).mpr hdue))
    · exact hcore.trans (if_neg (ne_true_of_eq_false (not_expired hearly)))
  case line =>
    intro ch lines s hlow hhigh hlines hnew hpow
    exact run_eq_after (decide_eq_true ⟨hlow, hhigh, hlines⟩) (trailerLineCore_of_changed hnew hpow)

end Sys2Proof.Proofs

/-! ## Links, beacons, MACsec, TC10 and preemption verification (R243, R338, R345, R351-R353) -/

namespace Sys2Proof.Proofs

open Sys2Proof Sys2Proof.Machine

section

variable {port : Nat} {v : View} {w : W}

/-! ### LINK_CHANGE (R241, R338) -/

section

variable {rate sqi : Nat} {master : Bool}

/-- The PHY of the port is powered, in use and awake, and can train at this rate and in this role. -/
def canLink (m : Module) (port rate : Nat) (master : Bool) : Bool :=
  ethPowered m port && prm m P.eth_phy_mode port != 0 && !(ethAt m port).sleeping && !portAsleep m port
    && trains m port rate master

theorem canLink_of {m : Module} (hphy : ethPowered m port = true) (hmode : prm m P.eth_phy_mode port ≠ 0)
    (hwoken : (ethAt m port).sleeping = false) (hawake : portAsleep m port = false)
    (htrains : trains m port rate master = true) : canLink m port rate master = true := by
  simp only [canLink, hphy, bne_iff_ne.mpr hmode, hwoken, hawake, htrains, Bool.not_false, Bool.and_self]

/-- A link that can come up does, and its shapers are checked. -/
theorem linkChangeCore_of_comesUp (hcan : canLink w.m port rate master = true) (hpow : powered w.m = true)
    (hdown : (ethAt w.m port).up = false) :
    linkChangeCore port true rate master sqi v w =
      judgeStatic v ([port].filter (· < 10)) (checkShapers v port (linkTo v port true rate master sqi w)) := by
  simp only [canLink] at hcan
  simp only [linkChangeCore, hcan, hpow, hdown, Bool.not_true, Bool.and_false, Bool.or_self, Bool.false_eq_true,
    Bool.false_beq, if_false, if_true]

/-- A link that is up already has its quality recorded. -/
theorem linkChangeCore_of_staysUp (hcan : canLink w.m port rate master = true) (hpow : powered w.m = true)
    (hup : (ethAt w.m port).up = true) :
    linkChangeCore port true rate master sqi v w = w.eth port fun e => { e with sqi := sqi } := by
  simp only [canLink] at hcan
  simp only [linkChangeCore, hcan, hpow, hup, Bool.not_true, Bool.and_false, Bool.or_self, Bool.false_eq_true,
    beq_self_eq_true, if_false, if_true]

/-- A link goes down whatever its PHY could do. -/
theorem linkChangeCore_of_goesDown (hpow : powered w.m = true) (hup : (ethAt w.m port).up = true) :
    linkChangeCore port false rate master sqi v w = linkTo v port false rate master sqi w := by
  simp only [linkChangeCore, hpow, hup, Bool.not_true, Bool.false_and, Bool.or_self, Bool.false_eq_true,
    beq_iff_eq, Bool.true_eq_false, if_false]

end

/-! ### PLCA_BEACON_LOSS (R345) -/

section

variable (hplca : prmB w.m P.eth_plca_enable port = true) (hfollows : prm w.m P.eth_plca_node_id port ≠ 0)
  (hpow : powered w.m = true)

include hplca hfollows hpow

/-- Beacons that are lost, or come back after a loss, are recorded; only the loss is counted. -/
theorem plcaBeaconLossCore_of_change {present : Bool} (hchange : (ethAt w.m port).beaconLost = present) :
    plcaBeaconLossCore port present v w =
      (let w := w.eth port fun e => { e with beacons := present, beaconLost := !present }
       (if present then w else w.count C.plca_beacon_loss port).event v 0x0B05 (if present then 0 else 1)
         (u8 port ++ u8 (b2n present) ++ zeros 2)) := by
  simp only [plcaBeaconLossCore, hplca, bne_iff_ne.mpr hfollows, hpow, hchange, Bool.and_not_self, bne_self_eq_false,
    Bool.and_self, Bool.not_true, Bool.or_self, Bool.false_eq_true, if_false]

/-- Beacons that had not been lost are noted without an event. -/
theorem plcaBeaconLossCore_of_seen (hheld : (ethAt w.m port).beaconLost = false) :
    plcaBeaconLossCore port true v w = w.eth port fun e => { e with beacons := true } := by
  simp only [plcaBeaconLossCore, hplca, bne_iff_ne.mpr hfollows, hpow, hheld, Bool.and_self, Bool.not_true,
    Bool.not_false, Bool.or_self, Bool.false_eq_true, if_false, if_true]

end

/-! ### MKA_LIFE_TIMEOUT and MKA_HELLO (R351, R352) -/

/-- A MACsec port without live peers has none, and its state says so. -/
theorem mkaLifeTimeoutCore_of_macsec (hmacsec : prmB w.m P.eth_macsec_enable port = true) (hrun : managed w.m = true) :
    mkaLifeTimeoutCore port v w = macsecState v port 3 (w.eth port fun e => { e with peers := 0 }) := by
  simp only [mkaLifeTimeoutCore, hmacsec, hrun, Bool.not_true, Bool.or_self, Bool.false_eq_true, if_false]

/-- While the firmware runs in full service, MKA settles the eight ports that can run MACsec. -/
theorem mkaHelloCore_of_fullService {l : List MkaReport} (hrun : managed w.m = true) (hfull : fullService w.m = true) :
    mkaHelloCore l v w = w.each (List.range 8) fun p w => mkaPort v l p w := by
  simp only [mkaHelloCore, hrun, hfull, Bool.not_true, Bool.or_self, Bool.false_eq_true, if_false]

/-! ### TC10 (R353) -/

/-- An awake TC10 port whose link is up accepts or rejects a sleep request. -/
theorem tc10SleepRequestCore_of_awake (htc10 : tc10Port w.m port = true) (hup : (ethAt w.m port).up = true)
    (hwoken : (ethAt w.m port).sleeping = false) (hpow : powered w.m = true) :
    tc10SleepRequestCore port v w =
      if (prmB w.m P.eth_tc10_sleep_accept port && egressEmpty w.m port) = true then
        tc10State v port 1 (w.eth port fun e => { e with sleeping := true })
      else tc10State v port 3 w := by
  simp only [tc10SleepRequestCore, htc10, hup, hwoken, hpow, Bool.not_true, Bool.or_self, Bool.false_eq_true, if_false]

/-- In a state other than SLEEP a sleeping PHY is woken. -/
theorem tc10WakeCore_of_sleepingPhy {ticks : Nat} (htc10 : tc10Port w.m port = true) (hstate : w.m.mod.state ≠ .sleep)
    (hphy : (ethAt w.m port).sleeping = true) :
    tc10WakeCore port ticks v w =
      (let w := tc10State v port 2 (w.eth port fun e => { e with sleeping := false })
       latchSources v [{ code := 5, inst := port }] ticks
         (if (ethAt w.m port).up then linkTo v port false 0 false 0 w else w)) := by
  simp only [tc10WakeCore, htc10, beq_eq_false_iff_ne.mpr hstate, hphy, Bool.not_true, Bool.false_eq_true, if_false]

/-- In SLEEP the wake-up is a wake source and nothing more. -/
theorem tc10WakeCore_of_sleepState {ticks : Nat} (htc10 : tc10Port w.m port = true) (hstate : w.m.mod.state = .sleep) :
    tc10WakeCore port ticks v w = latchSources v [{ code := 5, inst := port }] ticks w := by
  simp only [tc10WakeCore, htc10, hstate, beq_self_eq_true, Bool.not_true, Bool.false_eq_true, if_false, if_true]

/-! ### PREEMPTION_VERIFICATION (R243) -/

/-- A new result of a verification that is enabled is recorded: preemption is active once it has succeeded. -/
theorem preemptionVerificationCore_of_new {status : Nat} (henabled : Ge.preEnable.on (gateRow w.m port 516) = true)
    (hverify : Ge.verifyOff.on (gateRow w.m port 516) = false) (hup : (ethAt w.m port).up = true)
    (hnew : (gateOf w.m port).verify ≠ status) :
    preemptionVerificationCore port status v w =
      (w.gate port fun g => { g with verify := status, active := status == 3 }).event v 0x0808
        (if status == 4 then 1 else 0) (u8 port ++ u8 status ++ u8 (b2n (status == 3)) ++ u8 0) := by
  simp only [preemptionVerificationCore, henabled, hverify, hup, beq_eq_false_iff_ne.mpr hnew, Bool.not_true,
    Bool.or_self, Bool.false_eq_true, if_false]

end

/-- The operands of a LINK_CHANGE that brings a port up are in range. -/
theorem linkChange_operands {port rate sqi : Nat} (hport : port < 11) (hsqi : sqi < 8) (hrate : rateCode rate ≠ 0) :
    (isEthPort port && decide (sqi < 8) && (!true || rateCode rate != 0)) = true := by
  simp only [isEthPort, hport, hsqi, bne_iff_ne.mpr hrate, decide_true, Bool.or_true, Bool.and_self]

/-- Settles O25: each core by the condition under which it acts. -/
theorem ethernetLinkEventsComplete : Obligations.EthernetLinkEventsComplete := by
  refine ⟨?comesUp, ?staysUp, ?goesDown, ?beaconLoss, ?beaconReturn, ?beaconSeen, ?lifeTimeout, ?sleepAccepted,
    ?sleepRejected, ?wakePhy, ?wakeModule, ?verification, ?hello⟩
  case comesUp =>
    intro port rate master sqi s hport hsqi hrate hphy hmode hwoken hpow hdown hawake htrains
    exact run_eq_after (linkChange_operands hport hsqi hrate)
      (linkChangeCore_of_comesUp (canLink_of hphy hmode hwoken hawake htrains) hpow hdown)
  case staysUp =>
    intro port rate master sqi s hport hsqi hrate hphy hmode hwoken hpow hup hawake htrains
    exact run_eq_after (linkChange_operands hport hsqi hrate)
      (linkChangeCore_of_staysUp (canLink_of hphy hmode hwoken hawake htrains) hpow hup)
  case goesDown =>
    intro port rate master sqi s hport hsqi hpow hup
    have hrange : (isEthPort port && decide (sqi < 8) && (!false || rateCode rate != 0)) = true := by
      simp only [isEthPort, hport, hsqi, decide_true, Bool.not_false, Bool.true_or, Bool.and_self]
    exact run_eq_after hrange (linkChangeCore_of_goesDown hpow hup)
  case beaconLoss =>
    intro port s hport hplca hfollows hpow hheld
    exact run_eq_after (decide_eq_true hport) (plcaBeaconLossCore_of_change hplca hfollows hpow hheld)
  case beaconReturn =>
    intro port s hport hplca hfollows hpow hlost
    exact run_eq_after (decide_eq_true hport) (plcaBeaconLossCore_of_change hplca hfollows hpow hlost)
  case beaconSeen =>
    intro port s hport hplca hfollows hpow hheld
    exact run_eq_after (decide_eq_true hport) (plcaBeaconLossCore_of_seen hplca hfollows hpow hheld)
  case lifeTimeout =>
    intro port s hport hmacsec hrun
    exact run_eq_after (decide_eq_true hport) (mkaLifeTimeoutCore_of_macsec hmacsec hrun)
  case sleepAccepted =>
    intro port s hport htc10 hup hwoken hpow hallowed hempty
    exact run_eq_after (decide_eq_true hport) ((tc10SleepRequestCore_of_awake htc10 hup hwoken hpow).trans
      (if_pos (Bool.and_eq_true_iff.mpr ⟨hallowed, hempty⟩)))
  case sleepRejected =>
    intro port s hport htc10 hup hwoken hpow hbarred
    exact run_eq_after (decide_eq_true hport) ((tc10SleepRequestCore_of_awake htc10 hup hwoken hpow).trans
      (if_neg (ne_true_of_eq_false (Bool.and_eq_false_iff.mpr hbarred))))
  case wakePhy =>
    intro port ticks s hport htc10 hstate hphy
    exact run_eq_after (decide_eq_true hport) (tc10WakeCore_of_sleepingPhy htc10 hstate hphy)
  case wakeModule =>
    intro port ticks s hport htc10 hstate
    exact run_eq_after (decide_eq_true hport) (tc10WakeCore_of_sleepState htc10 hstate)
  case verification =>
    intro port status s hport hlow hhigh henabled hverify hup hnew
    exact run_eq_after (decide_eq_true ⟨hport, hlow, hhigh⟩)
      (preemptionVerificationCore_of_new henabled hverify hup hnew)
  case hello => exact fun l s hports hrun hfull => run_eq_after hports (mkaHelloCore_of_fullService hrun hfull)

end Sys2Proof.Proofs

/-! ## The junction engine (R274, R284, R287, R288, R290, R292, R296) -/

namespace Sys2Proof.Proofs

open Sys2Proof Sys2Proof.Machine

section

variable {v : View} {w : W}

/-! ### JUNCTION_PROCESS (R274) -/

/-- What the engine does with a copy of key `key`: no map entry knows it, or the one that does handles it. -/
def mappedCopy (v : View) (key : Nat) (f : Frame) (bad : List Nat) (w : W) : W :=
  match findMap w.m key with
  | none => w.count C.junction_no_map f.port
  | some i => matchedCopy v i f bad w

/-- The working pair once the engine has taken the oldest copy off I1 and corrected its tiles. -/
def copyTaken (f : Frame) (t : Option TileFault) (rest : List Copy) (w : W) : W :=
  corrected f t (w.fab fun x => { x with i1 := rest })

theorem copyTaken_m (f : Frame) (t : Option TileFault) (rest : List Copy) (w : W) :
    (copyTaken f t rest w).m = { w.m with fab := { w.m.fab with i1 := rest } } := corrected_m ..

/-- Whether the engine runs does not depend on the copies that wait for it. -/
theorem junctionRuns_copyTaken (f : Frame) (t : Option TileFault) (rest : List Copy) (w : W) (now : Nat) :
    junctionRuns (copyTaken f t rest w).m now = junctionRuns w.m now := by
  rw [copyTaken_m]
  rfl

/-- A frame's key does not depend on the copies that wait for the engine. -/
theorem junctionKey_copyTaken (f : Frame) (t : Option TileFault) (rest : List Copy) (w : W) (g : Frame) :
    junctionKey (copyTaken f t rest w).m g = junctionKey w.m g := by
  rw [copyTaken_m]
  rfl

/-- The oldest copy, where nothing holds it back and its tiles can be read, is mapped and released. -/
theorem junctionProcessCore_of_readable {t : Option TileFault} {bad : List Nat} {c : Copy} {rest : List Copy}
    (hnext : w.m.fab.i1 = c :: rest) (hfree : heldAllAt w.m v.now = false) (hpow : powered w.m = true)
    (hrun : junctionRuns w.m v.now = true) (hdecided : heldForDeadline w.m v c.frame = false)
    (hread : readFault (copyTaken c.frame t rest w).m c.frame t = none) :
    junctionProcessCore t bad v w =
      settle v (dropRef v c.frame.seq (mappedCopy v (junctionKey w.m c.frame) c.frame bad
        (touch v ((mapSlots (junctionKey w.m c.frame)).map (entryKey 0x0E)) (copyTaken c.frame t rest w)))) := by
  have hruns := (junctionRuns_copyTaken c.frame t rest w v.now).trans hrun
  have hkey := junctionKey_copyTaken c.frame t rest w c.frame
  simp only [copyTaken] at hread hruns hkey ⊢
  simp only [junctionProcessCore, hnext, hfree, hpow, hrun, hdecided, hruns, hread, hkey, mappedCopy,
    Bool.not_true, Bool.and_false, Bool.or_self, Bool.false_eq_true, if_false]
  cases findMap (touch v ((mapSlots (junctionKey w.m c.frame)).map (entryKey 0x0E))
    (corrected c.frame t (w.fab fun x => { x with i1 := rest }))).m (junctionKey w.m c.frame) with
  | none => rfl
  | some i => rfl

/-! ### Deadlines, grids, gaps and tunnels (R284, R287, R288, R292) -/

theorem pduTimeoutCore_of_due {k d : Nat} (hdeadline : (mapState w.m k).deadline = some d)
    (hwaits : (mapState w.m k).timedOut = false) (hvalid : mapValid w.m k = true) (hfull : fullService w.m = true)
    (hdue : d + 1200 ≤ v.now) (hlast : earlierMatch w.m v k d = false) :
    pduTimeoutCore k v w = fireTimeout v k d w := by
  simp only [pduTimeoutCore, hdeadline, hwaits, hvalid, hfull, (expired_iff v d).mpr hdue, hlast, Bool.not_true,
    Bool.or_self, Bool.false_eq_true, if_false]

/-- The grid of a template moves on to its first instant after now. -/
theorem templateGridSendCore_of_due {t : Nat} (hvalid : tplValid w.m t = true)
    (hmode : Tp.mode.get (tplGet w.m t) = 1 ∨ Tp.mode.get (tplGet w.m t) = 2)
    (hperiod : Tp.period.get (tplGet w.m t) ≠ 0)
    (hdue : (tplState w.m t).start + Tp.phase.get (tplGet w.m t) * 1000000
      + (tplState w.m t).grid * (Tp.period.get (tplGet w.m t) * 1000) ≤ v.now)
    (hrun : junctionRuns w.m v.now = true) :
    templateGridSendCore t v w = sendTpl v t (w.tpl t fun x => { x with
      grid := (v.now - ((tplState w.m t).start + Tp.phase.get (tplGet w.m t) * 1000000))
        / (Tp.period.get (tplGet w.m t) * 1000) + 1
      pending := false }) := by
  have hgrid : (Tp.mode.get (tplGet w.m t) == 1 || Tp.mode.get (tplGet w.m t) == 2) = true := by simpa using hmode
  have hstep : Tp.period.get (tplGet w.m t) * 1000 ≠ 0 := Nat.mul_ne_zero hperiod (by decide)
  have hrun' (f : TplState → TplState) : junctionRuns (w.tpl t f).m v.now = true := hrun
  simp only [templateGridSendCore, hvalid, hgrid, hstep, Nat.not_lt.mpr hdue, hrun', Bool.not_true, decide_false,
    Bool.or_self, Bool.false_eq_true, if_false, if_true]

theorem templateDeferredSendCore_of_due {t : Nat} (hpending : (tplState w.m t).pending = true)
    (hgap : ∀ g, gapEnd w.m t = some g → g ≤ v.now) (hrun : junctionRuns w.m v.now = true)
    (hvalid : tplValid w.m t = true) (hpow : powered w.m = true) :
    templateDeferredSendCore t v w = sendTpl v t (w.tpl t fun x => { x with pending := false }) := by
  have hsends (f : TplState → TplState) : (junctionRuns (w.tpl t f).m v.now && tplValid (w.tpl t f).m t) = true :=
    Bool.and_eq_true_iff.mpr ⟨hrun, hvalid⟩
  simp only [templateDeferredSendCore, hpending, hpow, hsends, Bool.not_true, Bool.or_false, Bool.false_or, if_true]
  cases hend : gapEnd w.m t with
  | none => rfl
  | some g => simp only [decide_eq_true (hgap g hend), Bool.not_true, Bool.false_eq_true, if_false]

theorem tunnelFlushCore_of_due {k : Nat} (hopen : (tunnelAt w.m k).open_ ≠ [])
    (hdue : (tunnelAt w.m k).first + prmNs w.m P.junction_tunnel_flush_time 0 k ≤ v.now)
    (hrun : junctionRuns w.m v.now = true) : tunnelFlushCore k v w = sendTunnel v k w := by
  simp only [tunnelFlushCore, List.isEmpty_eq_false_iff.mpr hopen, Nat.not_lt.mpr hdue, hrun, Bool.not_true,
    decide_false, Bool.or_self, Bool.false_eq_true, if_false]

/-! ### POSTED_WRITE_FAIL (R290) -/

theorem postedWriteFailCore_of_late {target inst id : Nat} (hlate : w.m.jn.posted.any (fun p =>
      p.target == target && p.inst == inst && p.id == id && p.failed v.now) = true) :
    postedWriteFailCore target inst id v w =
      ((w.jn fun x => { x with posted := x.posted.filter (fun p =>
        !(p.target == target && p.inst == inst && p.id == id && p.failed v.now)) }).count C.junction_post_fail).event v
        0x0905 2 (u8 target ++ u8 inst ++ zeros 2 ++ u32 id) := by
  simp only [postedWriteFailCore, hlate, Bool.not_true, Bool.false_eq_true, if_false]

/-! ### Requests (R296) -/

theorem junctionStatusBody_eq (c : Ctx) (p : List Byte) (v : View) (w : W) :
    junctionStatusBody c p v w =
      (w, .ok (u16 w.m.fab.i1.length ++ u16 (w.m.jn.maps.filter (fun p => p.2.timedOut)).length
        ++ u16 (w.m.jn.groups.filter (fun p => p.2.st == 1)).length ++ zeros 2
        ++ u32 (junctionOps v 0 w).m.jn.opsLast)) := rfl

variable {c : Ctx} {p : List Byte}

theorem junctionMapStatusBody_ok (hlen : 4 ≤ p.length) (hsome : 1 ≤ leAt p 2 2) (hlimit : leAt p 2 2 ≤ 250)
    (hrange : leAt p 0 2 + leAt p 2 2 ≤ 4096) :
    junctionMapStatusBody c p v w =
      (w, .ok (u16 (leAt p 2 2) ++ zeros 2
        ++ (List.range (leAt p 2 2)).flatMap (fun k => mapBytes w.m (leAt p 0 2 + k)))) := by
  have hin : ¬ (leAt p 2 2 = 0 ∨ 250 < leAt p 2 2 ∨ 4096 < leAt p 0 2 + leAt p 2 2) := by omega
  rw [junctionMapStatusBody, need_of_le hlen]
  simp only [if_neg hin, answer]

theorem junctionGroupReadBody_ok (hlen : 4 ≤ p.length) (hsome : 1 ≤ leAt p 2 2) (hlimit : leAt p 2 2 ≤ 500)
    (hrange : leAt p 0 2 + leAt p 2 2 ≤ 1024) :
    junctionGroupReadBody c p v w =
      (w, .ok (u16 (leAt p 2 2) ++ zeros 2
        ++ (List.range (leAt p 2 2)).flatMap (fun k => groupBytes w.m (leAt p 0 2 + k)))) := by
  have hin : ¬ (leAt p 2 2 = 0 ∨ 500 < leAt p 2 2 ∨ 1024 < leAt p 0 2 + leAt p 2 2) := by omega
  rw [junctionGroupReadBody, need_of_le hlen]
  simp only [if_neg hin, answer]

/-- An operation on a template comes to its own work where the template is valid. -/
theorem tplOp_of_valid (hlen : 4 ≤ p.length) (hin : leAt p 0 2 < 8192) (hvalid : tplValid w.m (leAt p 0 2) = true)
    (f : Nat → View → W → W × Ans) : tplOp f c p v w = f (leAt p 0 2) v w := by
  rw [tplOp, need_of_le hlen]
  simp only [if_neg (Nat.not_le.mpr hin), hvalid, Bool.not_true, Bool.false_eq_true, if_false]

theorem junctionTemplateSendBody_ok (hlen : 4 ≤ p.length) (hin : leAt p 0 2 < 8192)
    (hvalid : tplValid w.m (leAt p 0 2) = true) (hrun : junctionRuns w.m v.now = true) :
    junctionTemplateSendBody c p v w = (sendTpl v (leAt p 0 2) w, .ok []) := by
  rw [junctionTemplateSendBody, tplOp_of_valid hlen hin hvalid]
  simp only [hrun, if_true, answer]

theorem junctionSignalReadBody_ok (hlen : 4 ≤ p.length) (hbase : baseRoute w.m (leAt p 0 2) = true) :
    junctionSignalReadBody c p v w =
      (w, .ok (let x := sigState w.m (leAt p 0 2)
       let r := routeGet w.m (leAt p 0 2)
       let g := Sr.groupEn.on r && (sigGroup w.m (Sr.group.get r)).st == 1
       s64 x.value ++ u8 (b2n x.valid + 2 * b2n x.saturated + 4 * b2n x.substituted + 8 * b2n g) ++ zeros 3
         ++ u32 x.update)) := by
  rw [junctionSignalReadBody, need_of_le hlen]
  simp only [hbase, Bool.not_true, Bool.false_eq_true, if_false, answer]

/-- A value written to a base route that ends in a template is limited, noted as the signal's value, put into the
template and reported as its update. -/
theorem junctionSignalWriteBody_ok (hlen : 12 ≤ p.length) (hbase : baseRoute w.m (leAt p 0 2) = true)
    (htpl : Sr.destKind.get (routeGet w.m (leAt p 0 2)) = 0) :
    junctionSignalWriteBody c p v w =
      (let x := routeGet w.m (leAt p 0 2)
       let y := limitTo x (signed 64 (leAt p 4 8))
       let t := writeTpl v x (twos (dstLength x) y.1) (w.sig (leAt p 0 2) fun _ =>
         { value := y.1, valid := true, saturated := y.2, update := v.time.tb2.n.toNat })
       (updated v (Sr.destIndex.get x) t.2 t.1, .ok [])) := by
  rw [junctionSignalWriteBody, need_of_le hlen]
  simp only [hbase, htpl, bne_self_eq_false, Bool.and_false, Bool.not_true, Bool.false_eq_true, if_false, answer]

end

/-- Settles O23: each core by the condition under which it acts. -/
theorem junctionEventsComplete : Obligations.JunctionEventsComplete := by
  refine ⟨?process, ?timeout, ?grid, ?deferred, ?flush, ?fail⟩
  case process =>
    intro t bad c rest s hnext hfree hpow hrun hdecided hread
    exact run_eq_after rfl (junctionProcessCore_of_readable hnext hfree hpow hrun hdecided hread)
  case timeout =>
    intro k d s hk hdeadline hwaits hvalid hfull hdue hlast
    exact run_eq_after (decide_eq_true hk) (pduTimeoutCore_of_due hdeadline hwaits hvalid hfull hdue hlast)
  case grid =>
    intro t s ht hvalid hmode hperiod hdue hrun
    exact run_eq_after ht (templateGridSendCore_of_due hvalid hmode hperiod hdue hrun)
  case deferred =>
    intro t s ht hpending hgap hrun hvalid hpow
    have hover (g : Nat) (hend : gapEnd s.m t = some g) : g ≤ s.base.now := by
      simp only [hend] at hgap
      exact of_decide_eq_true hgap
    exact run_eq_after ht (templateDeferredSendCore_of_due hpending hover hrun hvalid hpow)
  case flush =>
    intro k s hk hopen hdue hrun
    exact run_eq_after (decide_eq_true hk) (tunnelFlushCore_of_due hopen hdue hrun)
  case fail =>
    intro target inst id s htarget hlate
    exact run_eq_after (decide_eq_true htarget) (postedWriteFailCore_of_late hlate)

/-- Settles O24: each body's answer once its operands are in range; the checks before it leave the engine alone. -/
theorem junctionRequestsAnswer : Obligations.JunctionRequestsAnswer := by
  refine ⟨?status, ?mapStatus, ?groupRead, ?templateRead, ?templateSend, ?templateRestore, ?signalRead,
    ?signalWrite⟩
  case status => exact fun r s i h => accepted_ok h (Bool.and_false _) (junctionStatusBody_eq ..)
  case mapStatus =>
    intro r s i h hlen hsome hlimit hrange
    exact accepted_ok h (Bool.and_false _) (junctionMapStatusBody_ok hlen hsome hlimit hrange)
  case groupRead =>
    intro r s i h hlen hsome hlimit hrange
    exact accepted_ok h (Bool.and_false _) (junctionGroupReadBody_ok hlen hsome hlimit hrange)
  case templateRead =>
    intro r s i h hlen hin hvalid
    exact accepted_ok h (Bool.and_false _) (tplOp_of_valid hlen hin hvalid _)
  case templateSend =>
    intro r s i h hlen hin hvalid hrun
    exact accepted_ok h (Bool.and_false _) (junctionTemplateSendBody_ok hlen hin hvalid hrun)
  case templateRestore =>
    intro r s i h hlen hin hvalid
    exact accepted_ok h (Bool.and_false _) (tplOp_of_valid hlen hin hvalid _)
  case signalRead =>
    intro r s i h hlen hbase
    exact accepted_ok h (Bool.and_false _) (junctionSignalReadBody_ok hlen hbase)
  case signalWrite =>
    intro r s i h hlen hbase htpl
    exact accepted_ok h (Bool.and_false _) (junctionSignalWriteBody_ok hlen hbase htpl)

end Sys2Proof.Proofs

/-! ## Requests on CAN and LIN channels (R309-R321, R327, R330, R331) -/

namespace Sys2Proof.Proofs

open Sys2Proof Sys2Proof.Machine

section

variable {c : Ctx} {p : List Byte} {v : View} {w : W}

/-! ### Requests on a CAN channel -/

theorem expertObj_of_expert {n : Nat} (hlow : 96 ≤ n) (hhigh : n < 128) (ch : Nat) (f : MsgObj → W → W × Ans) :
    expertObj ch n f w = f (objAt (canAt w.m ch) n) w := by
  simp only [expertObj, if_neg (Nat.not_le.mpr hhigh), if_neg (Nat.not_lt.mpr hlow)]

section

variable {ch : Nat} (hport : ch < 22 ∧ leAt p 0 1 = canPort ch)

include hport

/-- A payload that names the port of a CAN channel is the operation's own on that channel. -/
theorem canOp_of_channel {n : Nat} (hlen : n ≤ p.length) (f : Nat → Body) : canOp n f c p v w = f ch c p v w := by
  obtain ⟨hch, hname⟩ := hport
  have hcan : isCanPort (ch + 14) = true := decide_eq_true ⟨Nat.le_add_left .., Nat.add_lt_add_right hch 14⟩
  rw [canOp, need_of_le hlen]
  simp only [hname, canPort, hcan, if_true, Nat.add_sub_cancel]

theorem objectStatusBody_ok (hlen : 4 ≤ p.length) :
    objectStatusBody c p v w =
      (let t := transceiverStatus v ch w
       let x := canAt w.m ch
       (t.1, .ok (u32 (controllerState t.1.m ch) ++ u32 x.detectedRate ++ u32 t.2
         ++ u8 (x.objs.filter (fun q => decide (q.1 < 64) && q.2.copy.isSome)).length
         ++ u8 (x.objs.filter (fun q => decide (96 ≤ q.1) && q.2.kind != 0)).length ++ u8 x.ownAddr ++ u8 0
         ++ u16 (busLoad x.load v.now) ++ zeros 2))) := by
  rw [objectStatusBody, canOp_of_channel hport hlen]
  rfl

theorem objectReadBody_ok (hlen : 4 ≤ p.length) (hobj : leAt p 1 1 < 128) :
    objectReadBody c p v w = (w, .ok (objSnapshot w.m ch (leAt p 1 1))) := by
  rw [objectReadBody, canOp_of_channel hport hlen]
  exact if_neg (Nat.not_le.mpr hobj)

/-- The acknowledgement of what an object has received clears its marks. -/
theorem objectAckBody_of_current (hlen : 4 ≤ p.length) (hobj : leAt p 1 1 < 128)
    (hseq : (objAt (canAt w.m ch) (leAt p 1 1)).rxSeq = leAt p 2 2)
    (hheld : ((canAt w.m ch).objs.get? (leAt p 1 1)).isSome = true) :
    objectAckBody c p v w =
      (w.obj ch (leAt p 1 1) fun o => { o with newData := false, msgLost := false }, .ok []) := by
  rw [objectAckBody, canOp_of_channel hport hlen]
  simp only [Nat.not_le.mpr hobj, hseq, Option.isNone_eq_false_iff.mpr hheld, bne_self_eq_false, Bool.false_eq_true,
    if_false, answer]

/-- A waiting object gives its frame up: one of the pool is released, an expert object stays configured. -/
theorem objectCancelBody_of_waiting (hlen : 4 ≤ p.length)
    (hobj : leAt p 1 1 < 64 ∨ 96 ≤ leAt p 1 1 ∧ leAt p 1 1 < 128)
    (hwaits : (objAt (canAt w.m ch) (leAt p 1 1)).st = 1 ∨ (objAt (canAt w.m ch) (leAt p 1 1)).st = 3) :
    objectCancelBody c p v w =
      if leAt p 1 1 < 64 then (releasePool v ch (leAt p 1 1) (w.count C.can_cancel ch), .ok [])
      else (w.obj ch (leAt p 1 1) fun o => { o with st := 0 }, .ok []) := by
  have hin : ¬ 128 ≤ leAt p 1 1 := by omega
  have hkept : (decide (64 ≤ leAt p 1 1) && decide (leAt p 1 1 < 96)) = false := by
    simp only [Bool.and_eq_false_iff, decide_eq_false_iff_not]
    omega
  have hst : ((objAt (canAt w.m ch) (leAt p 1 1)).st == 1 || (objAt (canAt w.m ch) (leAt p 1 1)).st == 3) = true := by
    simpa only [Bool.or_eq_true, beq_iff_eq] using hwaits
  rw [objectCancelBody, canOp_of_channel hport hlen]
  simp only [if_neg hin, hkept, hst, Bool.not_true, Bool.or_self, Bool.false_eq_true, if_false, answer]

theorem objectRecoverBody_of_busOff (hlen : 4 ≤ p.length) (hoff : (canAt w.m ch).conf = 2)
    (hidle : (canAt w.m ch).recovering = false) :
    objectRecoverBody c p v w = (w.can ch fun x => { x with recovering := true }, .ok []) := by
  rw [objectRecoverBody, canOp_of_channel hport hlen]
  simp only [hoff, hidle, bne_self_eq_false, Bool.false_eq_true, if_false, answer]

theorem objectRateDetectBody_of_idle (hlen : 4 ≤ p.length) (hfree : portHeld w.m (canPort ch) = false)
    (hfoot : onFootRecords w.m = false) (hidle : (canAt w.m ch).detect = none) :
    objectRateDetectBody c p v w =
      (w.can ch fun x => { x with detect := some (0, 0, v.now + prmNs w.m P.can_rate_detect_timeout ch) }, .ok []) := by
  rw [objectRateDetectBody, canOp_of_channel hport hlen]
  simp only [hfree, hfoot, hidle, Option.isSome_none, Bool.or_self, Bool.false_eq_true, if_false, answer]

theorem objectCollisionsBody_ok (hlen : 4 ≤ p.length) :
    objectCollisionsBody c p v w =
      (w, .ok (u16 (canAt w.m ch).colls.length ++ zeros 2 ++ ((canAt w.m ch).colls.map collBytes).flatten)) := by
  rw [objectCollisionsBody, canOp_of_channel hport hlen, answer]

/-! ### Expert objects (R311, R313, R314) -/

section

variable (hlow : 96 ≤ leAt p 1 1) (hhigh : leAt p 1 1 < 128)

include hlow hhigh

/-- An idle expert object is emptied by kind 0 and configured by the others. -/
theorem objectConfigBody_of_idle (hlen : 12 ≤ p.length) (hkind : leAt p 2 1 ≤ 2)
    (hidle : (objAt (canAt w.m ch) (leAt p 1 1)).st = 0) :
    objectConfigBody c p v w =
      if leAt p 2 1 = 0 then (emptyObj ch (leAt p 1 1) w, .ok [])
      else (w.obj ch (leAt p 1 1) fun _ => withWord (leAt p 4 4)
        { kind := leAt p 2 1, singleShot := bit (leAt p 3 1) 0, acceptRemote := bit (leAt p 3 1) 1
          mask := fld (leAt p 8 4) 0 30 }, .ok []) := by
  rw [objectConfigBody, canOp_of_channel hport hlen]
  simp only [expertObj_of_expert hlow hhigh, if_neg (Nat.not_lt.mpr hkind), hidle, bne_self_eq_false,
    Bool.false_eq_true, if_false, answer]

/-- An idle transmit object is loaded with a frame that its channel can send, behind those loaded before it. -/
theorem objectSendBody_of_idle (hlen : 12 + leAt p 8 1 ≤ p.length) (hdata : leAt p 8 1 ≤ 64)
    (hlength : canLength (withWord (leAt p 4 4) {}).fdf (leAt p 8 1) = true)
    (hformat : formatSendable w.m ch
      (b2n (withWord (leAt p 4 4) {}).ide + 2 * b2n (withWord (leAt p 4 4) {}).fdf) = true)
    (hkind : (objAt (canAt w.m ch) (leAt p 1 1)).kind = 2) (hidle : (objAt (canAt w.m ch) (leAt p 1 1)).st = 0) :
    objectSendBody c p v w =
      (w.can ch fun x =>
        let new := withWord (leAt p 4 4) {}
        { x with
          objs := x.objs.put (leAt p 1 1) { objAt (canAt w.m ch) (leAt p 1 1) with
            id := new.id, ide := new.ide, fdf := new.fdf, brs := new.brs && new.fdf, st := 1, length := leAt p 8 1
            data := slice p 12 (leAt p 8 1), order := x.loads }
          loads := x.loads + 1 }, .ok []) := by
  rw [objectSendBody, canOp_of_channel hport hlen]
  simp only [expertObj_of_expert hlow hhigh, if_neg (Nat.not_lt.mpr hdata), hlength, hformat, hkind, hidle,
    bne_self_eq_false, Bool.not_true, Bool.or_self, Bool.false_eq_true, if_false, answer]

theorem objectRetryBody_of_suspended (hlen : 4 ≤ p.length) (hheld : (objAt (canAt w.m ch) (leAt p 1 1)).st = 3) :
    objectRetryBody c p v w =
      (w.obj ch (leAt p 1 1) fun o => { o with st := 1, collisions := 0 }, .ok []) := by
  rw [objectRetryBody, canOp_of_channel hport hlen]
  simp only [expertObj_of_expert hlow hhigh, hheld, bne_self_eq_false, Bool.false_eq_true, if_false, answer]

end

end

/-! ### Requests on a LIN channel (R327, R330) -/

section

variable {n : Nat} (hport : n < 8 ∧ leAt p 0 1 = n + 36)

include hport

/-- A payload that names the port of a LIN channel is the operation's own on that channel. -/
theorem linOp_of_channel {k : Nat} (hlen : k ≤ p.length) (f : Nat → Body) : linOp k f c p v w = f n c p v w := by
  obtain ⟨hn, hname⟩ := hport
  have hlin : isLinPort (n + 36) = true := decide_eq_true ⟨Nat.le_add_left .., Nat.add_lt_add_right hn 36⟩
  rw [linOp, need_of_le hlen]
  simp only [hname, hlin, if_true, Nat.add_sub_cancel]

/-- Valid entries that fit into the memory replace a table that neither runs nor is requested. -/
theorem objectLinScheduleWriteBody_of_idle (hlen : 4 ≤ p.length) (hcount : leAt p 2 2 ≤ 512)
    (hwhole : p.length = 4 + 8 * leAt p 2 2) (htable : leAt p 1 1 ≤ 31)
    (hroom : entriesUsed (linAt w.m n) - (linTable (linAt w.m n) (leAt p 1 1)).length + leAt p 2 2 ≤ 512)
    (hform : ((List.range (leAt p 2 2)).map (fun k => leMask (leAt p (4 + 8 * k) 8))).all leForm = true)
    (hranges : ((List.range (leAt p 2 2)).map (fun k => leMask (leAt p (4 + 8 * k) 8))).all leRanges = true)
    (hidle : ((linAt w.m n).running && (linAt w.m n).active == leAt p 1 1) = false)
    (hunasked : (linAt w.m n).pending ≠ some (leAt p 1 1)) :
    objectLinScheduleWriteBody c p v w =
      (let w := w.lin n fun l => { l with
         tables := l.tables.set [] (leAt p 1 1)
           ((List.range (leAt p 2 2)).map (fun k => leMask (leAt p (4 + 8 * k) 8)))
         generation := (l.generation + 1) % 2 ^ 32 }
       (w, .ok (u16 (entriesUsed (linAt w.m n)) ++ zeros 2))) := by
  have hsize : ¬ (4 ≤ p.length ∧ (512 < leAt p 2 2 ∨ p.length ≠ 4 + 8 * leAt p 2 2)) := by omega
  simp only [objectLinScheduleWriteBody, if_neg hsize, linOp_of_channel hport hlen, Nat.not_lt.mpr htable,
    Nat.not_lt.mpr hroom, hform, hranges, hidle, beq_eq_false_iff_ne.mpr hunasked, decide_false, Bool.not_true,
    Bool.or_self, Bool.false_eq_true, if_false, answer]

theorem objectLinScheduleSelectBody_of_table {w' : W} (hlen : 4 ≤ p.length) (htable : leAt p 1 1 ≤ 31)
    (hrequest : requestTable n (leAt p 1 1) w = some w') :
    objectLinScheduleSelectBody c p v w = (w', .ok []) := by
  rw [objectLinScheduleSelectBody, linOp_of_channel hport hlen]
  simp only [if_neg (Nat.not_lt.mpr htable), hrequest, answer]

theorem objectLinBufferReadBody_ok (hlen : 4 ≤ p.length) (hid : leAt p 1 1 ≤ 63) :
    objectLinBufferReadBody c p v w =
      (w, .ok (let b := ((linAt w.m n).bufs.get? (leAt p 1 1)).getD {}
       u8 (leAt p 1 1) ++ u8 b.data.length ++ u8 (b2n (linUpdated w.m n (leAt p 1 1) v.now)) ++ u8 0
         ++ (b.data ++ zeros 8).take 8 ++ u32 b.ts)) := by
  rw [objectLinBufferReadBody, linOp_of_channel hport hlen]
  simp only [if_neg (Nat.not_lt.mpr hid), answer]

end

end

/-- Settles O21: each body's answer once its channel and operands are in range and what it names is in the state it
asks for; the checks before it leave the controllers alone. -/
theorem objectRequestsAnswer : Obligations.ObjectRequestsAnswer := by
  refine ⟨?status, ?configEmpty, ?configKind, ?read, ?ack, ?send, ?cancelPool, ?cancelExpert, ?retry, ?recover,
    ?rateDetect, ?collisions, ?scheduleWrite, ?scheduleSelect, ?bufferRead⟩
  case status =>
    exact fun ch r s i h hport hlen => accepted_ok h (Bool.and_false _) (objectStatusBody_ok hport hlen)
  case configEmpty =>
    intro ch r s i h hport hlen hlow hhigh hkind hidle
    exact accepted_ok h (Bool.and_false _)
      ((objectConfigBody_of_idle hport hlow hhigh hlen (by omega) hidle).trans (if_pos hkind))
  case configKind =>
    intro ch r s i h hport hlen hlow hhigh hkind hidle
    exact accepted_ok h (Bool.and_false _)
      ((objectConfigBody_of_idle hport hlow hhigh hlen (by omega) hidle).trans (if_neg (by omega)))
  case read =>
    exact fun ch r s i h hport hlen hobj => accepted_ok h (Bool.and_false _) (objectReadBody_ok hport hlen hobj)
  case ack =>
    intro ch r s i h hport hlen hobj hseq hheld
    exact accepted_ok h (Bool.and_false _) (objectAckBody_of_current hport hlen hobj hseq hheld)
  case send =>
    intro ch r s i h hport hlen hlow hhigh hdata hlength hformat hkind hidle
    exact accepted_ok h (Bool.and_false _)
      (objectSendBody_of_idle hport hlow hhigh hlen hdata hlength hformat hkind hidle)
  case cancelPool =>
    intro ch r s i h hport hlen hobj hwaits
    exact accepted_ok h (Bool.and_false _)
      ((objectCancelBody_of_waiting hport hlen (.inl hobj) hwaits).trans (if_pos hobj))
  case cancelExpert =>
    intro ch r s i h hport hlen hlow hhigh hwaits
    exact accepted_ok h (Bool.and_false _)
      ((objectCancelBody_of_waiting hport hlen (.inr ⟨hlow, hhigh⟩) hwaits).trans (if_neg (by omega)))
  case retry =>
    intro ch r s i h hport hlen hlow hhigh hheld
    exact accepted_ok h (Bool.and_false _) (objectRetryBody_of_suspended hport hlow hhigh hlen hheld)
  case recover =>
    intro ch r s i h hport hlen hoff hidle
    exact accepted_ok h (Bool.and_false _) (objectRecoverBody_of_busOff hport hlen hoff hidle)
  case rateDetect =>
    intro ch r s i h hport hlen hfree hfoot hidle
    exact accepted_ok h (Bool.and_false _) (objectRateDetectBody_of_idle hport hlen hfree hfoot hidle)
  case collisions =>
    exact fun ch r s i h hport hlen => accepted_ok h (Bool.and_false _) (objectCollisionsBody_ok hport hlen)
  case scheduleWrite =>
    intro n r s i h hport hlen hcount hwhole htable hroom hform hranges hidle hunasked
    exact accepted_ok h (Bool.and_false _) (objectLinScheduleWriteBody_of_idle hport hlen hcount hwhole htable hroom
      hform hranges hidle hunasked)
  case scheduleSelect =>
    intro n r s i w h hport hlen htable hrequest
    exact accepted_ok h (Bool.and_false _) (objectLinScheduleSelectBody_of_table hport hlen htable hrequest)
  case bufferRead =>
    intro n r s i h hport hlen hid
    exact accepted_ok h (Bool.and_false _) (objectLinBufferReadBody_ok hport hlen hid)

end Sys2Proof.Proofs

/-! ## Address claims, LIN slots and LIN responses (R322, R323, R328, R329) -/

namespace Sys2Proof.Proofs

open Sys2Proof Sys2Proof.Machine

section

variable {v : View} {w : W}

/-! ### Address claims (R322, R323) -/

/-- A claim without a contest on its way holds 250 ms after its frame. -/
theorem addressClaimConfirmCore_of_uncontested {ch t : Nat} (hsof : (canAt w.m ch).claimSof = some t)
    (haddr : (canAt w.m ch).ownAddr ≤ 253) (hnew : (canAt w.m ch).claimed = false)
    (hdue : t + 250000000 + 1200 ≤ v.now) (hsole : contestOnTheWay w.m v ch (t + 250000000) = false) :
    addressClaimConfirmCore ch v w = w.can ch fun c => { c with claimed := true } := by
  simp only [addressClaimConfirmCore, hsof, haddr, hnew, (expired_iff v _).mpr hdue, hsole, decide_true,
    Bool.not_false, Bool.and_self, if_true]

theorem cannotClaimSendCore_of_due {ch lost u : Nat} (hcannot : (canAt w.m ch).cannot = some (lost, u))
    (hdue : u + 1200 ≤ v.now) (hready : ownClaimReady w.m ch = true) :
    cannotClaimSendCore ch v w =
      (let name := prm w.m P.can_own_name ch
       let w := w.can ch fun c => { c with ownAddr := 254, cannot := none }
       let w := match findName w.m ch name with
         | some k => w.name k fun e => { e with address := 254, claimed := false }
         | none => w
       (sendClaim ch 254 w).event v 0x0A09 1 (u8 (canPort ch) ++ u8 254 ++ u8 lost ++ u8 0 ++ u64 name)) := by
  simp only [cannotClaimSendCore, hcannot, (expired_iff v u).mpr hdue, hready, Bool.not_true, Bool.false_eq_true,
    if_false] <;> rfl

/-! ### LIN_SLOT_START (R328) -/

section

variable {n : Nat} (hruns : linRuns w.m n = true)

section

variable (hover : (linAt w.m n).running = true →
  (linAt w.m n).slotEnd ≤ v.now ∧ (linAt w.m n).await = none ∧ (linAt w.m n).busyUntil ≤ v.now)

include hover

/-- A slot may start where none runs, or where the one that runs has ended with its frame. -/
theorem linSlot_over :
    ((linAt w.m n).running && decide (v.now < (linAt w.m n).slotEnd)) = false ∧
      ((linAt w.m n).running && ((linAt w.m n).await.isSome || decide (v.now < (linAt w.m n).busyUntil))) = false := by
  cases hrunning : (linAt w.m n).running with
  | false => exact ⟨rfl, rfl⟩
  | true =>
    obtain ⟨hended, hanswered, hsent⟩ := hover hrunning
    simp only [hanswered, Nat.not_lt.mpr hended, Nat.not_lt.mpr hsent, Option.isSome_none, decide_false, Bool.or_self,
      Bool.and_false, and_self]

include hruns

/-- The schedule goes on to its next entry, which begins its slot. -/
theorem linSlotStartCore_of_entry {e : Nat}
    (hentry : (linTable (linAt (nextEntry v n w).m n) (linAt (nextEntry v n w).m n).active)[
      (linAt (nextEntry v n w).m n).entry]? = some e) :
    linSlotStartCore n v w =
      (let late := if (linAt w.m n).running then v.now - (linAt w.m n).slotEnd else 0
       runEntry v n e ((nextEntry v n w).lin n fun l => { l with
         overrun := false, headerDelay := max l.headerDelay (late / 1000)
         slotEnd := v.now + Le.slotTime.get e * 100000 })) := by
  obtain ⟨hended, hfree⟩ := linSlot_over hover
  simp only [linSlotStartCore, hruns, hended, hfree, hentry, Bool.not_true, Bool.or_self, Bool.false_eq_true, if_false]

/-- A table without an entry for the slot ends it at once. -/
theorem linSlotStartCore_of_noEntry
    (hnone : (linTable (linAt (nextEntry v n w).m n) (linAt (nextEntry v n w).m n).active)[
      (linAt (nextEntry v n w).m n).entry]? = none) :
    linSlotStartCore n v w = (nextEntry v n w).lin n fun l => { l with slotEnd := v.now } := by
  obtain ⟨hended, hfree⟩ := linSlot_over hover
  simp only [linSlotStartCore, hruns, hended, hfree, hnone, Bool.not_true, Bool.or_self, Bool.false_eq_true, if_false]

end

include hruns

/-- A slot that ends before its frame has is an overrun. -/
theorem linSlotStartCore_of_overrun (hrunning : (linAt w.m n).running = true) (hended : (linAt w.m n).slotEnd ≤ v.now)
    (hbusy : ((linAt w.m n).await.isSome || decide (v.now < (linAt w.m n).busyUntil)) = true)
    (hnew : (linAt w.m n).overrun = false) :
    linSlotStartCore n v w = (w.lin n fun l => { l with overrun := true }).count C.lin_slot_overrun n := by
  simp only [linSlotStartCore, hruns, hrunning, Nat.not_lt.mpr hended, hbusy, hnew, decide_false, Bool.not_true,
    Bool.and_false, Bool.and_self, Bool.or_self, Bool.false_eq_true, if_false, if_true]

end

/-! ### Responses (R329) -/

section

variable {n id len u : Nat} {event : Bool}

/-- A correct response of the awaited length is a good one, whatever header asked for it. -/
theorem linResponseReceiveCore_of_whole {data : List Byte} (hawait : (linAt w.m n).await = some (id, len, event, u))
    (hin : v.now ≤ u) (hwhole : data.length = len) :
    linResponseReceiveCore n data .good v w = linGood v n id data (w.lin n fun l =>
      { l with await := none, load := addLoad l.load l.breakTb2 v.now }) := by
  simp only [linResponseReceiveCore, hawait, Nat.not_lt.mpr hin, hwhole, bne_self_eq_false, Bool.and_false,
    beq_self_eq_true, Bool.false_eq_true, if_false, if_true]

/-- A wrong response to a header that is not event-triggered is an error. -/
theorem linResponseReceiveCore_of_wrong {e : LinEnd} (hawait : (linAt w.m n).await = some (id, len, false, u))
    (hin : v.now ≤ u) (hwrong : e ≠ .good) (data : List Byte) :
    linResponseReceiveCore n data e v w = linError v n id e (w.lin n fun l =>
      { l with await := none, load := addLoad l.load l.breakTb2 v.now }) := by
  simp only [linResponseReceiveCore, hawait, Nat.not_lt.mpr hin, beq_eq_false_iff_ne.mpr hwrong, Bool.false_and,
    Bool.false_eq_true, if_false]

theorem linResponseTimeoutCore_of_late (hawait : (linAt w.m n).await = some (id, len, event, u)) (hlate : u < v.now) :
    linResponseTimeoutCore n v w =
      (let k := (linAt w.m n).fails.getD id 0 + 1
       let w := (w.lin n fun l => { l with
         await := none, fails := l.fails.put id k, lastError := 1 + id * 256
         load := addLoad l.load l.breakTb2 (l.breakTb2 + linHeaderTime w.m n) }).count C.lin_no_response n
       if k == prm w.m P.lin_no_response_limit n then
         w.event v 0x0A07 1 (u8 (n + 36) ++ u8 id ++ zeros 2 ++ u32 k)
       else w) := by
  simp only [linResponseTimeoutCore, hawait, Nat.not_le.mpr hlate, if_false]

end

end

/-- Settles O22: each core by the condition under which it acts; a slot by whether the schedule has an entry for it. -/
theorem claimAndLinEventsComplete : Obligations.ClaimAndLinEventsComplete := by
  refine ⟨?confirm, ?cannot, ?slotEntry, ?slotEmpty, ?slotOverrun, ?whole, ?wrong, ?missing⟩
  case confirm =>
    intro ch t s hch hsof haddr hnew hdue hsole
    exact run_eq_after (decide_eq_true hch) (addressClaimConfirmCore_of_uncontested hsof haddr hnew hdue hsole)
  case cannot =>
    intro ch lost u s hch hcannot hdue hready
    exact run_eq_after (decide_eq_true hch) (cannotClaimSendCore_of_due hcannot hdue hready)
  case slotEntry =>
    intro n e s hn hruns hover hentry
    exact run_eq_after (decide_eq_true hn) (linSlotStartCore_of_entry hruns hover hentry)
  case slotEmpty =>
    intro n s hn hruns hover hnone
    exact run_eq_after (decide_eq_true hn) (linSlotStartCore_of_noEntry hruns hover hnone)
  case slotOverrun =>
    intro n s hn hruns hrunning hended hbusy hnew
    exact run_eq_after (decide_eq_true hn) (linSlotStartCore_of_overrun hruns hrunning hended hbusy hnew)
  case whole =>
    intro n data id len event u s hn hawait hin hwhole
    exact run_eq_after (decide_eq_true hn) (linResponseReceiveCore_of_whole hawait hin hwhole)
  case wrong =>
    intro n data e id len u s hn hawait hin hwrong
    exact run_eq_after (decide_eq_true hn) (linResponseReceiveCore_of_wrong hawait hin hwrong data)
  case missing =>
    intro n id len event u s hn hawait hlate
    exact run_eq_after (decide_eq_true hn) (linResponseTimeoutCore_of_late hawait hlate)

end Sys2Proof.Proofs

/-! ## The DoIP edge node (R355-R358, R498) -/

namespace Sys2Proof.Proofs

open Sys2Proof Sys2Proof.Machine

section

variable {v : View} {w : W}

/-! ### DOIP_ACTIVATION_CHANGE and DOIP_DEACTIVATION (R355) -/

theorem powered_io (w : W) (f : Io → Io) : powered (w.io f).m = powered w.m := rfl

/-- The activation input at a new level, in a state that forwards: the service opens or its links drop, and 0x0B06
tells the level. -/
theorem doipActTurns_of_change {asserted : Bool} (hchange : bit w.m.io.din 12 = !asserted)
    (hon : w.m.mod.state ≠ .off) (hawake : w.m.mod.state ≠ .sleep) (hpow : powered w.m = true) :
    doipActTurns asserted v w =
      (let y := w.io fun io => { io with din := setFld io.din 12 1 (b2n asserted) }
       let y := if asserted then
           openService v (if fullService y.m then startDoip v y else y.doip fun d => { d with deassertedAt := none })
         else dropLinks v (y.doip fun d => { d with deassertedAt := if d.active then some v.now else none })
       inputChanged v w.m (y.event v 0x0B06 0 (u8 (b2n asserted) ++ zeros 3 ++ u32 (doipAddress y.m)))) := by
  simp only [doipActTurns, hchange, beq_eq_false_iff_ne.mpr hon, beq_eq_false_iff_ne.mpr hawake, powered_io, hpow,
    Bool.not_beq_self, Bool.false_and, Bool.or_self, Bool.not_true, Bool.false_eq_true, if_false]

section

variable {x : Level} (hon : w.m.mod.state ≠ .off) (hawake : w.m.mod.state ≠ .sleep) (hpow : powered w.m = true)

include hon hawake hpow

theorem doipActivationChangeCore_of_asserted
    (hlevel : debounced false (prm w.m P.io_doip_act_debounce) x = some true) (hwas : bit w.m.io.din 12 = false) :
    doipActivationChangeCore x v w =
      (let y := w.io fun io => { io with din := setFld io.din 12 1 1 }
       let y := openService v
         (if fullService y.m then startDoip v y else y.doip fun d => { d with deassertedAt := none })
       inputChanged v w.m (y.event v 0x0B06 0 (u8 1 ++ zeros 3 ++ u32 (doipAddress y.m)))) := by
  simp only [doipActivationChangeCore, hlevel, doipActTurns_of_change (asserted := true) hwas hon hawake hpow, b2n,
    if_true]

theorem doipActivationChangeCore_of_deasserted
    (hlevel : debounced false (prm w.m P.io_doip_act_debounce) x = some false) (hwas : bit w.m.io.din 12 = true) :
    doipActivationChangeCore x v w =
      (let y := w.io fun io => { io with din := setFld io.din 12 1 0 }
       let y := dropLinks v (y.doip fun d => { d with deassertedAt := if d.active then some v.now else none })
       inputChanged v w.m (y.event v 0x0B06 0 (u8 0 ++ zeros 3 ++ u32 (doipAddress y.m)))) := by
  simp only [doipActivationChangeCore, hlevel, doipActTurns_of_change (asserted := false) hwas hon hawake hpow, b2n,
    Bool.false_eq_true, if_false]

end

/-- The input that activates the service ends it once it has been de-asserted for the delay. -/
theorem doipDeactivationCore_of_due {t : Nat} (hsince : w.m.doip.deassertedAt = some t)
    (hmode : prm w.m P.eth_doip_activation_mode 10 ≠ 1)
    (hdue : t + prmNs w.m P.eth_doip_deactivation_delay 10 + 1200 ≤ v.now) :
    doipDeactivationCore v w =
      dropLinks v ((closeDoip (fun _ => true) w).doip fun d => { d with active := false, deassertedAt := none }) := by
  simp only [doipDeactivationCore, hsince, beq_eq_false_iff_ne.mpr hmode, (expired_iff v _).mpr hdue, Bool.not_true,
    Bool.or_self, Bool.false_eq_true, if_false]

/-! ### Requests while DoIP is served (R355-R358) -/

/-- A message on a connection changes no parameter. -/
theorem prm_touchConn (v : View) (conn : Nat) (w : W) (r : PRef) (i e : Nat) :
    prm (touchConn v conn w).m r i e = prm w.m r i e := rfl

section

variable (hserved : doipServed w.m = true)

include hserved

theorem vehicleAnnouncementCore_of_served (hmore : w.m.doip.announced < announceNum) :
    vehicleAnnouncementCore v w = (w.send (.doipUdp (doipMsg 0x0004 (announcement w.m)))).doip fun d =>
      { d with announced := d.announced + 1 } := by
  simp only [vehicleAnnouncementCore, hserved, Nat.not_le.mpr hmore, decide_false, Bool.not_true, Bool.or_self,
    Bool.false_eq_true, if_false]

/-- A request for any vehicle, for this EID or for this VIN is answered. -/
theorem vehicleIdentificationRequestCore_of_meant {type : Nat} {payload : List Byte}
    (hmeant : type = 1 ∨ type = 2 ∧ payload = eidBytes w.m ∨ type = 3 ∧ payload = vinBytes w.m) :
    vehicleIdentificationRequestCore type payload v w = w.send (.doipUdp (doipMsg 0x0004 (announcement w.m))) := by
  have hcond : (doipServed w.m
      && (type == 1 || (type == 2 && payload == eidBytes w.m) || (type == 3 && payload == vinBytes w.m))) = true := by
    simpa only [hserved, Bool.true_and, Bool.or_eq_true, Bool.and_eq_true, beq_iff_eq, or_assoc] using hmeant
  exact if_pos hcond

/-- A tester that is routed is answered 0x10 and registered on its connection. -/
theorem routingActivationRequestCore_of_routed {conn sa type : Nat} (hcode : routingCode w.m conn sa type = 0x10) :
    routingActivationRequestCore conn sa type v w =
      ((touchConn v conn w).send (.doip conn (doipMsg 0x0006 (beBytes 2 sa
        ++ beBytes 2 (prm w.m P.eth_doip_logical_address 10) ++ u8 0x10 ++ zeros 4)))).doip fun d => { d with
          conns := if d.conns.any (fun c => c.conn == conn && c.tester == sa) then d.conns
            else d.conns ++ [⟨conn, sa, v.now⟩] } := by
  simp only [routingActivationRequestCore, hserved, hcode, Bool.not_true, Bool.false_eq_true, beq_self_eq_true,
    prm_touchConn, if_false, if_true]

/-- A tester that is refused is answered the code; the refusal is counted and raises 0x0B07. -/
theorem routingActivationRequestCore_of_refused {conn sa type : Nat} (hcode : routingCode w.m conn sa type ≠ 0x10) :
    routingActivationRequestCore conn sa type v w =
      (let code := routingCode w.m conn sa type
       let x := ((touchConn v conn w).send (.doip conn (doipMsg 0x0006 (beBytes 2 sa
         ++ beBytes 2 (prm w.m P.eth_doip_logical_address 10) ++ u8 code ++ zeros 4)))).count C.doip_routing_refused 10
       x.event v 0x0B07 1 (u8 code ++ u8 0 ++ u16 sa ++ u8 x.m.doip.conns.length ++ zeros 3)) := by
  simp only [routingActivationRequestCore, hserved, beq_eq_false_iff_ne.mpr hcode, Bool.not_true, Bool.false_eq_true,
    prm_touchConn, Laws.count_m, if_false]

section

variable {conn sa ta : Nat} {data : List Byte}

theorem diagnosticMessageCore_of_refused {code : Nat}
    (hcode : diagRefused (touchConn v conn w).m conn sa ta data.length = some code) :
    diagnosticMessageCore conn sa ta data v w = doipNack conn ta sa code (touchConn v conn w) := by
  simp only [diagnosticMessageCore, hserved, hcode, Bool.not_true, Bool.false_eq_true, if_false]

/-- A message that nothing refuses goes to every target that can send, and is acknowledged. -/
theorem diagnosticMessageCore_of_taken
    (hfree : diagRefused (touchConn v conn w).m conn sa ta data.length = none) :
    diagnosticMessageCore conn sa ta data v w =
      (let x := touchConn v conn w
       let l := (diagTargets x.m sa ta).filter (fun t => canSends x.m t.1)
       ((x.each l fun t x => startTp v (.diag conn) t.1 (diagFmt x.m t.1) t.2.1 t.2.2 data x).send
         (.doip conn (doipMsg 0x8002 (beBytes 2 ta ++ beBytes 2 sa ++ u8 0)))).count C.doip_messages 10) := by
  simp only [diagnosticMessageCore, hserved, hfree, Bool.not_true, Bool.false_eq_true, if_false]

end

end

end

/-- Settles O26: each core by the condition under which it acts; the answers by DoIP being served. -/
theorem doipEventsComplete : Obligations.DoipEventsComplete := by
  refine ⟨?asserted, ?deasserted, ?deactivation, ?announcement, ?identification, ?entityStatus, ?powerMode,
    ?aliveCheck, ?routed, ?routingRefused, ?messageRefused, ?messageTaken, ?inactivity, ?close⟩
  case asserted =>
    intro x s hlevel hwas hon hawake hpow
    exact run_eq_after rfl (doipActivationChangeCore_of_asserted hon hawake hpow hlevel hwas)
  case deasserted =>
    intro x s hlevel hwas hon hawake hpow
    exact run_eq_after rfl (doipActivationChangeCore_of_deasserted hon hawake hpow hlevel hwas)
  case deactivation =>
    intro t s hsince hmode hdue
    exact run_eq_after rfl (doipDeactivationCore_of_due hsince hmode hdue)
  case announcement => exact fun s hserved hmore => run_eq_after rfl (vehicleAnnouncementCore_of_served hserved hmore)
  case identification =>
    intro type payload s hserved hmeant
    exact run_eq_after rfl (vehicleIdentificationRequestCore_of_meant (w := ⟨s.m, []⟩) hserved hmeant)
  case entityStatus => exact fun s hserved => run_eq_after rfl (if_pos hserved)
  case powerMode => exact fun s hserved => run_eq_after rfl (if_pos hserved)
  case aliveCheck => exact fun conn s hserved => run_eq_after rfl (if_pos hserved)
  case routed =>
    intro conn sa type s hserved hsa hcode
    exact run_eq_after (decide_eq_true hsa) (routingActivationRequestCore_of_routed (w := ⟨s.m, []⟩) hserved hcode)
  case routingRefused =>
    intro conn sa type s hserved hsa hcode
    exact run_eq_after (decide_eq_true hsa) (routingActivationRequestCore_of_refused (w := ⟨s.m, []⟩) hserved hcode)
  case messageRefused =>
    intro conn sa ta data code s hserved hsa hta hcode
    exact run_eq_after (decide_eq_true ⟨hsa, hta⟩)
      (diagnosticMessageCore_of_refused (w := ⟨s.m, []⟩) hserved hcode)
  case messageTaken =>
    intro conn sa ta data s hserved hsa hta hfree
    exact run_eq_after (decide_eq_true ⟨hsa, hta⟩)
      (diagnosticMessageCore_of_taken (w := ⟨s.m, []⟩) hserved hfree)
  case inactivity => exact fun s => run_eq_after rfl rfl
  case close => exact fun conn s => run_eq_after rfl rfl

end Sys2Proof.Proofs

/-! ## Counters, the time base clock and TB3 (R362, R363, R372, R530, R531) -/

namespace Sys2Proof.Proofs

open Sys2Proof Sys2Proof.Machine

/-! ### Counters (R530, R531) -/

theorem getD_count_le {b : Base} (h : b.Inv) (id n j : Nat) : b.cnt.getD j 0 ≤ (b.count id n).cnt.getD j 0 := by
  have hself := getD_count_self (b := b) id 0 h.counters h.saturated
  rw [count_getD b id n j h.counters h.saturated]
  split
  · next hj =>
    subst hj
    simp only [Base.count, if_true] at hself
    omega
  · exact Nat.le_refl _

/-- A new entry counts at most the one that it drops. -/
theorem enqueueEvent_count (b : Base) (e : Event) :
    ∃ n, (b.enqueueEvent e).cnt = (b.count (C.event_dropped.id 0) n).cnt := by
  unfold Base.enqueueEvent
  by_cases hfull : queueBound ≤ b.ev.entries.length
  · simp only [hfull, decide_true, if_true]
    split
    · exact ⟨0, rfl⟩
    · exact ⟨1, rfl⟩
  · simp only [hfull, decide_false, Bool.false_eq_true, if_false]
    exact ⟨0, rfl⟩

theorem getD_event_le {b : Base} (h : b.Inv) (code sev tb : Nat) (d : List Byte) (j : Nat) :
    b.cnt.getD j 0 ≤ (b.event code sev tb d).cnt.getD j 0 := by
  have hbump : ∀ p, Base.Inv { b with ev := { b.ev with entries := bumpLast p b.ev.entries } } := fun p =>
    ⟨Nat.le_trans (Nat.le_of_eq (bumpLast_length p _)) h.bounded, bumpLast_ok p _ h.entries, h.next, h.counters,
      h.saturated, h.damaged⟩
  unfold Base.event
  dsimp only
  split
  · exact Nat.le_refl _
  · split
    · exact getD_count_le (hbump _) ..
    · obtain ⟨n, hn⟩ := enqueueEvent_count b (mkEvent b code sev tb d)
      exact hn ▸ getD_count_le h ..

/-- What is left of the counters once those of a list have been erased, in the shape of `applyEff`. -/
theorem getD_erase_all (ids : List Nat) (j : Nat) {c : SMap Nat} (h : c.wf 0 = true) :
    SMap.getD (ids.foldl (fun c i => c.erase i) c) j 0 = if ids.contains j then 0 else c.getD j 0 := by
  induction ids generalizing c with
  | nil => simp
  | cons i ids ih =>
    rw [List.foldl_cons, ih (SMap.wf_erase c 0 i h), List.contains_cons]
    have hread : (c.erase i).getD j 0 = if j = i then 0 else c.getD j 0 := by
      unfold SMap.getD
      rw [SMap.get?_erase c 0 i j h]
      split <;> rfl
    rw [hread]
    by_cases hj : j = i <;> simp [hj]

/-- Settles O52: an effect other than a clear and a reset leaves the counters alone, or counts. -/
theorem countersRiseAndSaturate : Obligations.CountersRiseAndSaturate := by
  refine ⟨fun b id n j h => count_getD b id n j h.counters h.saturated, fun b e j h hclear hreset => ?rise,
    fun b ids j h => getD_erase_all ids j h.counters⟩
  case rise =>
    cases e with
    | count id n => exact getD_count_le h id n j
    | event code sev tb d => exact getD_event_le h code sev tb d j
    | clear ids => exact absurd rfl (hclear ids)
    | resetLogs => exact absurd rfl hreset
    | _ => exact Nat.le_of_eq (by rw [applyEff_cnt b _ trivial])

/-! ### One clock edge (R362, R363) -/

/-- n and the fraction as one number. -/
theorem toNat_append_32 (n f : BitVec 32) : (n ++ f).toNat = n.toNat * 2 ^ 32 + f.toNat := by
  rw [BitVec.toNat_append, ← Nat.shiftLeft_add_eq_or_of_lt f.isLt, Nat.shiftLeft_eq]

/-- The number that n and the fraction of `t` come to after `k` edges, before the carry is taken off. -/
def edgeSum (t : TimeBase) (k : Nat) : Nat := t.n.toNat * 2 ^ 32 + t.frac.toNat + k * t.incr.toNat

theorem edges_m_toNat (t : TimeBase) (k : Nat) :
    (t.edges k).m.toNat = (t.m.toNat + edgeSum t k / 2 ^ 64) % 2 ^ 32 := BitVec.toNat_ofNat ..

theorem edges_n_toNat (t : TimeBase) (k : Nat) : (t.edges k).n.toNat = edgeSum t k / 2 ^ 32 % 2 ^ 32 :=
  BitVec.toNat_ofNat ..

theorem edges_frac_toNat (t : TimeBase) (k : Nat) : (t.edges k).frac.toNat = edgeSum t k % 2 ^ 32 :=
  BitVec.toNat_ofNat ..

/-- Stated for variables, so that no check of it unfolds the sums of an edge. -/
theorem incr_with (t : TimeBase) (m n f : BitVec 32) : ({ t with m := m, n := n, frac := f } : TimeBase).incr = t.incr := rfl

theorem edges_incr (t : TimeBase) (k : Nat) : (t.edges k).incr = t.incr := incr_with t _ _ _

theorem edgeSum_succ (t : TimeBase) (k : Nat) : edgeSum t (k + 1) = edgeSum t k + t.incr.toNat := by
  simp only [edgeSum, Nat.succ_mul, Nat.add_assoc]

theorem edgeSum_zero (t : TimeBase) : edgeSum t 0 = t.n.toNat * 2 ^ 32 + t.frac.toNat := by
  simp only [edgeSum, Nat.zero_mul, Nat.add_zero]

theorem timeBase_ext {a b : TimeBase} (hm : a.m.toNat = b.m.toNat) (hn : a.n.toNat = b.n.toNat)
    (hf : a.frac.toNat = b.frac.toNat) (hi : a.incr = b.incr) : a = b := by
  obtain ⟨m, n, f, i⟩ := a
  obtain ⟨m', n', f', i'⟩ := b
  cases BitVec.eq_of_toNat_eq hm
  cases BitVec.eq_of_toNat_eq hn
  cases BitVec.eq_of_toNat_eq hf
  cases hi
  rfl

theorem edgeSum_one (t : TimeBase) :
    edgeSum t 1 = t.n.toNat * 2 ^ 32 + t.frac.toNat + t.incr.toNat := by
  simp only [edgeSum, Nat.one_mul]

/-- What one edge more starts from: the carry is off, the rest stands. -/
theorem edgeSum_edges (t : TimeBase) (k : Nat) : edgeSum (t.edges k) 0 = edgeSum t k % 2 ^ 64 := by
  rw [edgeSum_zero, edges_n_toNat, edges_frac_toNat]
  omega

theorem edges_succ (t : TimeBase) (k : Nat) : t.edges (k + 1) = (t.edges k).edges 1 := by
  have hstart := edgeSum_edges t k
  have hnext := edgeSum_succ t k
  have hlast := edgeSum_succ (t.edges k) 0
  rw [edges_incr, Nat.zero_add] at hlast
  refine timeBase_ext ?_ ?_ ?_ ((edges_incr ..).trans ((edges_incr ..).trans (edges_incr ..)).symm)
  · simp only [edges_m_toNat]
    omega
  · simp only [edges_n_toNat]
    omega
  · simp only [edges_frac_toNat]
    omega

theorem edges_one_sum (t : TimeBase) :
    (t.edges 1).n ++ (t.edges 1).frac = (t.n ++ t.frac) + t.incr.setWidth 64 := by
  have hsum := edgeSum_one t
  have hincr := t.incr.isLt
  refine BitVec.eq_of_toNat_eq ?_
  rw [BitVec.toNat_add, toNat_append_32, toNat_append_32, edges_n_toNat, edges_frac_toNat, BitVec.toNat_setWidth]
  omega

theorem edges_one_carry (t : TimeBase) :
    (t.edges 1).m = if 2 ^ 64 ≤ (t.n ++ t.frac).toNat + t.incr.toNat then t.m + 1 else t.m := by
  have hsum := edgeSum_one t
  have hn := t.n.isLt
  have hf := t.frac.isLt
  have hincr := t.incr.isLt
  have hm := t.m.isLt
  have hone : (1 : BitVec 32).toNat = 1 := rfl
  refine BitVec.eq_of_toNat_eq ?_
  rw [toNat_append_32, edges_m_toNat]
  split
  · rw [BitVec.toNat_add, hone]
    omega
  · omega

/-- Settles O53: by the number that n and the fraction come to before the carry is taken off. -/
theorem timeBaseEdge : Obligations.TimeBaseEdge :=
  ⟨fun t => ⟨edges_one_sum t, edges_one_carry t, edges_incr t 1, rfl⟩, edges_succ⟩

/-- Settles O43: the clock runs, or its state stops it. -/
theorem idleStepIsOneClockEdge : Obligations.IdleStepIsOneClockEdge := by
  refine ⟨fun s hempty hruns => ?runs, fun s hempty hstopped => ?stopped⟩
  case runs =>
    simp only [step, hempty, idle, hruns, if_true]
    rfl
  case stopped =>
    have hstill : clockRuns s.m = false := by
      rcases hstopped with h | h <;> simp only [clockRuns, h]
    simp only [step, hempty, idle, hstill, Bool.false_eq_true, if_false]

/-! ### TB3 (R371, R372) -/

theorem count_time (b : Base) (id n : Nat) : (b.count id n).time = b.time := by
  unfold Base.count
  split <;> rfl

theorem enqueueEvent_time (b : Base) (e : Event) : (b.enqueueEvent e).time = b.time := by
  unfold Base.enqueueEvent
  by_cases hfull : queueBound ≤ b.ev.entries.length
  · simp only [hfull, decide_true, if_true]
    split
    · rfl
    · exact count_time ..
  · simp only [hfull, decide_false, Bool.false_eq_true, if_false]

theorem event_time (b : Base) (code sev tb : Nat) (d : List Byte) : (b.event code sev tb d).time = b.time := by
  unfold Base.event
  dsimp only
  split
  · rfl
  · split
    · exact count_time ..
    · exact enqueueEvent_time ..

theorem full_setFull (t : TimeBase) {x : Nat} (h : x < 2 ^ 64) : (t.setFull x).full = x := by
  simp only [TimeBase.full, TimeBase.setFull, BitVec.toNat_ofNat]
  omega

theorem full_le_raiseTb3 (t : TimeBase) (x : Nat) : t.full ≤ (raiseTb3 t x).full := by
  unfold raiseTb3
  split
  · next h =>
    rw [full_setFull t h.2]
    exact Nat.le_of_lt h.1
  · exact Nat.le_refl _

/-- Steps and increments reach TB0 and TB1 only. -/
theorem mapTb_tb3 (t : TimeUnit) (i : Nat) (f : TimeBase → TimeBase) : (mapTb t i f).tb3 = t.tb3 := by
  unfold mapTb
  split
  · rfl
  · split <;> rfl

/-- Clock edges short of the end of the 64-bit full time add up. -/
theorem edges_full {t : TimeBase} {k : Nat} (h : t.full * 2 ^ 32 + t.frac.toNat + k * t.incr.toNat < 2 ^ 96) :
    (t.edges k).full * 2 ^ 32 + (t.edges k).frac.toNat = t.full * 2 ^ 32 + t.frac.toNat + k * t.incr.toNat := by
  have hsum0 : edgeSum t k = t.n.toNat * 2 ^ 32 + t.frac.toNat + k * t.incr.toNat := rfl
  unfold TimeBase.full at h ⊢
  rw [edges_m_toNat, edges_n_toNat, edges_frac_toNat]
  generalize k * t.incr.toNat = advance at *
  omega

/-- Settles O54: only an advance, a reset and clock edges reach TB3. -/
theorem tb3NeverDecreases : Obligations.Tb3NeverDecreases := by
  refine ⟨fun b e hclock => ?effects, fun t k h => ?clock⟩
  case effects =>
    cases e with
    | edges k => exact absurd rfl (hclock k)
    | count id n => exact Nat.le_of_eq (congrArg (fun t : TimeUnit => t.tb3.full) (count_time b id n)).symm
    | event code sev tb d =>
      exact Nat.le_of_eq (congrArg (fun t : TimeUnit => t.tb3.full) (event_time b code sev tb d)).symm
    | step tb off => exact Nat.le_of_eq (congrArg TimeBase.full (mapTb_tb3 b.time tb _)).symm
    | setIncr tb i => exact Nat.le_of_eq (congrArg TimeBase.full (mapTb_tb3 b.time tb _)).symm
    | tb3To x => exact full_le_raiseTb3 b.time.tb3 x
    | restart t0 t1 t3 => exact full_le_raiseTb3 b.time.tb3 t3
    | _ => exact Nat.le_refl _
  case clock =>
    have hsum := edges_full h
    have hfrac := t.frac.isLt
    have hfrac' := (t.edges k).frac.isLt
    refine ⟨?_, hsum⟩
    omega

end Sys2Proof.Proofs

/-! ## Clocks, gPTP, CAN time synchronization and the TIME family (R363-R385, R538) -/

namespace Sys2Proof.Proofs

open Sys2Proof Sys2Proof.Machine

/-- A command with its operands in range commits the working pair that its effect comes to. -/
theorem run_eq_next {ok : Bool} {s : State} {f : View → W → W} {w : W} (hok : ok = true)
    (h : f s.base ⟨s.m, []⟩ = w) : run ok f s = .next (commit s w) := by
  simp only [run, hok, if_true, h]

/-! ### What leaves the parameters alone -/

/-- Time control holds no parameter. -/
@[simp] theorem prm_tc (w : W) (f : TimeCtl → TimeCtl) (r : PRef) (i e : Nat) : prm (w.tc f).m r i e = prm w.m r i e := rfl

section

variable {v : View} {w : W}

/-! ### gPTP and the servos (R374-R380) -/

section

variable {g : GptpSync} (hrun : gptpRunning w.m = true) (hslave : gptpRole w.m g.port = 2)
  (hcapable : asCapable w.m g.port = true)

include hrun hslave hcapable

/-- A Sync of domain 0 feeds the servo where TB0 follows one, and is relayed. -/
theorem syncReceiveCore_of_domain0 (hdomain : g.domain = 0) (hmode : prm w.m P.time_tb0_mode ≠ 2) :
    syncReceiveCore g v w =
      (let l := moved v.now (rxAdjust w.m g.port)
       let master := g.master + (linkDelay w.m g.port).getD 0
       let x := (w.count C.gptp_sync_rx g.port).tc fun t => { t with
         ports := t.ports.put g.port { gptpPort w.m g.port with lastSync := l % 2 ^ 32 } }
       let x := noteGm v false 0 g.gm x
       let x := if prm x.m P.time_tb0_mode == 1
         then servoSample v 0 ((v.time.tb0.full : Int) + rxAdjust w.m g.port - master) master l x else x
       relaySync v 0 l master (g.rate + (gptpPort x.m g.port).ratioPpb) x) := by
  have hdomain' : (g.domain == 0) = true := beq_iff_eq.mpr hdomain
  simp only [syncReceiveCore, hrun, hslave, hcapable, hdomain', prm_tc, Laws.count_m, beq_eq_false_iff_ne.mpr hmode,
    bne_self_eq_false, Bool.not_true, Bool.or_self, Bool.false_eq_true, if_false, if_true] <;> rfl

/-- A grandmaster takes no time of its own domain. -/
theorem syncReceiveCore_of_grandmaster (hdomain : g.domain = 0) (hmode : prm w.m P.time_tb0_mode = 2) :
    syncReceiveCore g v w = (w.count C.gptp_sync_rx g.port).tc fun t => { t with
      ports := t.ports.put g.port
        { gptpPort w.m g.port with lastSync := moved v.now (rxAdjust w.m g.port) % 2 ^ 32 } } := by
  have hdomain' : (g.domain == 0) = true := beq_iff_eq.mpr hdomain
  simp only [syncReceiveCore, hrun, hslave, hcapable, hdomain', prm_tc, Laws.count_m, beq_iff_eq.mpr hmode,
    bne_self_eq_false, Bool.not_true, Bool.or_self, Bool.false_eq_true, if_false, if_true]

theorem syncReceiveCore_of_domainB (hother : g.domain ≠ 0) (hdomain : g.domain = prm w.m P.time_gptp_domain_b) :
    syncReceiveCore g v w =
      (let master := g.master + (linkDelay w.m g.port).getD 0
       let x := noteGm v true g.domain g.gm (w.count C.gptp_sync_rx g.port)
       relaySync v g.domain (moved v.now (rxAdjust w.m g.port)) master (g.rate + (gptpPort x.m g.port).ratioPpb)
         (x.tc fun t => { t with
           offsetB := satS 32 ((v.time.tb0.full : Int) + rxAdjust w.m g.port - master) })) := by
  have hknown : (prm w.m P.time_gptp_domain_b != 0) = true := bne_iff_ne.mpr (hdomain ▸ hother)
  have hsame : (g.domain == prm w.m P.time_gptp_domain_b) = true := beq_iff_eq.mpr hdomain
  simp only [syncReceiveCore, hrun, hslave, hcapable, beq_eq_false_iff_ne.mpr hother, hknown, hsame, Laws.count_m,
    bne_self_eq_false, Bool.not_true, Bool.or_self, Bool.and_self, Bool.false_eq_true, if_false, if_true]

end

theorem gptpSyncSendCore_of_grandmaster (hrun : gptpRunning w.m = true) (hmode : prm w.m P.time_tb0_mode = 2) :
    gptpSyncSendCore v w = sendSync 0 (clockQuality w.m) (fun p w =>
      let c := gptpCapture v w p 0
      (w, c.1, c)) w := by
  simp only [gptpSyncSendCore, hrun, beq_iff_eq.mpr hmode, Bool.and_self, if_true]

theorem gptpPdelayExchangeCore_of_measured {port : Nat} {answer : Option (Nat × Int)} (hrun : gptpRunning w.m = true)
    (hrole : gptpRole w.m port ≠ 0) (hup : (ethAt w.m port).up = true) (hmode : prm w.m P.time_gptp_pdelay_mode ≠ 1) :
    gptpPdelayExchangeCore port answer v w =
      (let old := gptpPort w.m port
       let blocked := gptpBlocked w.m port
       let x := if blocked then w
         else (w.send (.gptp port 0 1 (gptpCapture v w port 0).1 (gptpCapture v w port 0))).count C.gptp_pdelay_tx port
       let cause : Option Nat := if blocked then some 1 else match answer with
         | none => some 2
         | some a => if prm w.m P.time_gptp_pdelay_thresh < a.1 then some 0 else none
       judgePort v port cause (match answer with | some a => a.1 | none => 0) (x.tc fun t => { t with
         ports := t.ports.put port { old with
           delay := if blocked then none else answer.map Prod.fst
           ratioPpb := match answer with
             | some a => if blocked then old.ratioPpb else satS 32 a.2
             | none => old.ratioPpb } })) := by
  simp only [gptpPdelayExchangeCore, hrun, beq_eq_false_iff_ne.mpr hrole, hup, beq_eq_false_iff_ne.mpr hmode,
    Bool.not_true, Bool.or_self, Bool.false_eq_true, if_false]
  cases gptpBlocked w.m port <;> cases answer <;> rfl

section

variable {tb : Nat} (hmanaged : managed w.m = true) (hfull : fullService w.m = true)

include hmanaged hfull

/-- A locked servo that runs, by whether its last sample is older than the timeout. -/
theorem syncReceiptTimeoutCore_of_locked {o : Int} {l : Nat} (hactive : servoActive w.m tb = true)
    (hlocked : (servoOf w.m tb).st = 2) (hlast : (servoOf w.m tb).prev = some (o, l)) :
    syncReceiptTimeoutCore tb v w = if v.expired (l + syncTimeoutNs w.m) then enterHoldover v tb w else w := by
  simp only [syncReceiptTimeoutCore, hmanaged, hfull, hactive, hlocked, hlast, bne_self_eq_false, Bool.not_true,
    Bool.or_self, Bool.false_eq_true, if_false]

variable (hheld : (servoOf w.m tb).st = 3)
  (hdue : (servoOf w.m tb).heldAt + prmNs w.m P.time_holdover_limit + 1200 ≤ v.now)

include hheld hdue

/-- TB0 has nothing to fail over to, or goes on at the nominal rate, or follows TB1. -/
theorem holdoverLimitCore_eq :
    holdoverLimitCore tb v w =
      if tb == 1 then setTbState v 1 0 (w.servo 1 fun x => { x with prev := none })
      else if prm w.m P.time_tb0_failover == 1 && (prm w.m P.time_tb1_mode == 2 && w.m.tc.s1.st == 2) then
        (let x := setTbState v 0 4 w
         let b := x.base v
         let x := stepTb v 0 ((b.time.tb1.full : Int) + (servoOf w.m tb).heldOffset - b.time.tb0.full) 2 x
         (setIncr 0 b.time.tb1.incr.toNat x).servo 0 fun y => { y with follow := true })
      else if prm w.m P.time_tb0_failover == 2 then setIncr 0 nominalIncr (setTbState v 0 4 w)
      else setTbState v 0 4 w := by
  simp only [holdoverLimitCore, hmanaged, hfull, hheld, (expired_iff v _).mpr hdue, bne_self_eq_false, Bool.not_true,
    Bool.or_self, Bool.false_eq_true, if_false]

end

/-! ### Counting, checkpoints and slews (R363, R372) -/

theorem milestoneWrapCore_of_running {tb : Nat} (hruns : clockRuns w.m = true) :
    milestoneWrapCore tb v w = w.eff (.edges (v.time.get tb).toWrap) := by
  simp only [milestoneWrapCore, hruns, if_true]

theorem tb3CheckpointCore_of_awake (hon : w.m.mod.state ≠ .off) (hawake : w.m.mod.state ≠ .sleep) :
    tb3CheckpointCore v w = takeCheckpoint v w := by
  unfold tb3CheckpointCore
  split
  · exact absurd ‹_› hon
  · exact absurd ‹_› hawake
  · rfl

theorem timeSlewEndCore_of_due {tb rate u : Nat} (hslew : (servoOf w.m tb).slew = some (rate, u))
    (hdue : u + 1200 ≤ v.now) (hmanaged : managed w.m = true) :
    timeSlewEndCore tb v w = (setIncr tb rate w).servo tb fun x => { x with slew := none } := by
  simp only [timeSlewEndCore, hslew, (expired_iff v u).mpr hdue, hmanaged, Bool.and_self, if_true]

end

/-- Settles O27: each core by the condition under which it acts. -/
theorem timeEventsComplete : Obligations.TimeEventsComplete := by
  refine ⟨?wrap, ?domain0, ?grandmaster, ?domainB, ?send, ?pdelay, ?timeout, ?limit1, ?limitNominal, ?limitNone,
    ?limitFollow, ?checkpoint, ?slewEnd, ?parity⟩
  case wrap =>
    intro tb s htb hruns
    exact run_eq_after (decide_eq_true htb) (milestoneWrapCore_of_running hruns)
  case domain0 =>
    intro g s hport hrun hslave hcapable hdomain hmode
    exact run_eq_after (decide_eq_true hport) (syncReceiveCore_of_domain0 hrun hslave hcapable hdomain hmode)
  case grandmaster =>
    intro g s hport hrun hslave hcapable hdomain hmode
    exact run_eq_after (decide_eq_true hport) (syncReceiveCore_of_grandmaster hrun hslave hcapable hdomain hmode)
  case domainB =>
    intro g s hport hrun hslave hcapable hother hdomain
    exact run_eq_after (decide_eq_true hport) (syncReceiveCore_of_domainB hrun hslave hcapable hother hdomain)
  case send => exact fun s hrun hmode => run_eq_after rfl (gptpSyncSendCore_of_grandmaster hrun hmode)
  case pdelay =>
    intro port answer s hport hrun hrole hup hmode
    exact run_eq_after (decide_eq_true hport) (gptpPdelayExchangeCore_of_measured hrun hrole hup hmode)
  case timeout =>
    intro tb o l s htb hmanaged hfull hactive hlocked hlast
    have hcore : syncReceiptTimeoutCore tb s.base ⟨s.m, []⟩ = _ :=
      syncReceiptTimeoutCore_of_locked hmanaged hfull hactive hlocked hlast
    refine run_eq_ite (decide_eq_true htb) (fun hdue => ?_) (fun hearly => ?_)
    · exact hcore.trans (if_pos ((expired_iff ..).mpr hdue))
    · exact hcore.trans (if_neg (by rw [not_expired hearly]; exact Bool.false_ne_true))
  case limit1 =>
    intro s hheld hmanaged hfull hdue
    exact run_eq_after rfl (holdoverLimitCore_eq (tb := 1) hmanaged hfull hheld hdue)
  case limitNominal =>
    intro s hheld hmanaged hfull hdue hsrc
    refine run_eq_after rfl ((holdoverLimitCore_eq (tb := 0) hmanaged hfull hheld hdue).trans ?_)
    simp only [hsrc]
    rfl
  case limitNone =>
    intro s hheld hmanaged hfull hdue hone htwo
    refine run_eq_after rfl ((holdoverLimitCore_eq (tb := 0) hmanaged hfull hheld hdue).trans ?_)
    simp only [beq_eq_false_iff_ne.mpr hone, beq_eq_false_iff_ne.mpr htwo]
    rfl
  case limitFollow =>
    intro s hheld hmanaged hfull hdue hsrc hmode hlocked
    refine run_eq_after rfl ((holdoverLimitCore_eq (tb := 0) hmanaged hfull hheld hdue).trans ?_)
    simp only [hsrc, hmode, hlocked]
    rfl
  case checkpoint => exact fun s hon hawake => run_eq_after rfl (tb3CheckpointCore_of_awake hon hawake)
  case slewEnd =>
    intro tb rate u s htb hslew hdue hmanaged
    exact run_eq_after (decide_eq_true htb) (timeSlewEndCore_of_due hslew hdue hmanaged)
  case parity => exact fun tb s htb => run_eq_after (decide_eq_true htb) rfl

/-! ### CAN time synchronization (R382, R383) -/

section

variable {v : View} {w : W}

theorem ctsSyncSendCore_of_master {ch : Nat} (hmaster : ctsMaster w.m ch = true)
    (hfree : (canAt w.m ch).objs.get? 71 = none) :
    ctsSyncSendCore ch v w =
      (let seq := (w.m.tc.ctsSeq.getD ch 15 + 1) % 16
       let sec := v.time.tb1.full / nanosPerS
       let bs := syncBytes w.m seq (sec % 2 ^ 32)
       let p : CtsPair := { seq := seq, seconds := sec, sync := bs, at_ := v.now }
       sendFrom ch 71 71 (funcObj (prmB w.m P.time_cts_ide) false false (prm w.m P.time_cts_sync_id) bs)
         (w.tc fun x => { x with ctsSeq := x.ctsSeq.put ch seq, ctsTx := x.ctsTx.put ch p })) := by
  simp only [ctsSyncSendCore, hmaster, hfree, Option.isSome_none, Bool.not_true, Bool.or_self, Bool.false_eq_true,
    if_false]
  rfl

/-- The SYNC's capture is known and its attempt over: the follow-up goes out with its CMAC. -/
theorem ctsFupSendCore_of_captured {ch t : Nat} {p : CtsPair} {w' : W} {c : List Byte}
    (hpair : w.m.tc.ctsTx.get? ch = some p) (hsof : p.sof = some t)
    (hover : ((canAt w.m ch).attempt == some (.obj 71)) = false) (hmaster : ctsMaster w.m ch = true)
    (hcmac : let x := w.tc fun x => { x with ctsTx := x.ctsTx.erase ch }
      fupCmac v p.sync (u8 (0x20 + p.seq) ++ beBytes 4 (t - p.seconds * nanosPerS))
        (if prm x.m P.time_cts_fup_format == 1 then 8 else 3) x = (w', some c)) :
    ctsFupSendCore ch v w =
      (let long := prm w.m P.time_cts_fup_format == 1
       let bs := u8 (0x20 + p.seq) ++ beBytes 4 (t - p.seconds * nanosPerS) ++ (if long then zeros 3 else []) ++ c
       let x := (w'.tc fun x => { x with ctsLast := p.seq }).count C.cts_sync_tx ch
       sendFrom ch 72 72 (funcObj (prmB x.m P.time_cts_ide) long (long && sentBrs x.m ch) (prm x.m P.time_cts_fup_id) bs)
         x) := by
  have hmaster' (f : TimeCtl → TimeCtl) : ctsMaster (w.tc f).m ch = true := hmaster
  simp only [ctsFupSendCore, hpair, hsof, hover, hmaster', hcmac, Bool.not_true, Bool.false_eq_true, if_false]
  rfl

/-- A SYNC that has not started in time is given up. -/
theorem ctsSyncCancelCore_of_due {ch : Nat} {p : CtsPair} (hpair : w.m.tc.ctsTx.get? ch = some p) (hsof : p.sof = none)
    (hdue : p.at_ + prmNs w.m P.time_cts_fup_timeout + 1200 ≤ v.now) :
    ctsSyncCancelCore ch v w =
      (let x := (w.tc fun x => { x with ctsTx := x.ctsTx.erase ch }).can ch fun c => { c with
         backlog := c.backlog.filter (fun x => x.1 != 71) }
       if ((canAt x.m ch).objs.get? 71).isSome then drainBacklog ch (emptyObj ch 71 x) else x) := by
  simp only [ctsSyncCancelCore, hpair, hsof, (expired_iff v _).mpr hdue, Option.isSome_none, Bool.not_true,
    Bool.or_self, Bool.false_eq_true, if_false]

/-- A pair in order, newer than the last and with its CMAC feeds the servo of TB1. -/
theorem ctsPairReceiveCore_of_valid {p : CtsPair} {fup : List Byte} {at_ : Nat} {w' : W}
    (hpair : w.m.tc.ctsRx = some p) (hfup : p.fup = some (fup, at_)) (hch : prm w.m P.time_cts_follower_channel < 22)
    (hfollows : ctsFollows w.m (prm w.m P.time_cts_follower_channel) = true)
    (hinTime : at_ < p.tb2 + prmNs w.m P.time_cts_fup_timeout) (hseq : leAt fup 0 1 % 16 = p.seq)
    (hns : beAt fup 1 4 ≤ 3999999999) (hdomain : leAt p.sync 1 1 % 16 = prm w.m P.time_cts_domain)
    (hlater : (match w.m.tc.ctsLastMaster with
      | some t => decide (t < p.seconds * nanosPerS + beAt fup 1 4) | none => true) = true)
    (hverify : ctsVerify v p.sync fup (w.tc fun x => { x with ctsRx := none }) = (w', true)) :
    ctsPairReceiveCore v w =
      (let ch := prm w.m P.time_cts_follower_channel
       let master := p.seconds * nanosPerS + beAt fup 1 4
       let t : Int := master + prmI w.m P.time_can_rx_adjust 0 ch
       servoSample v 1 ((p.sof.getD 0 : Int) - t) t.toNat p.tb2 ((w'.tc fun x => { x with
         ctsFailing := false, ctsLast := p.seq, ctsLastMaster := some master }).count C.cts_sync_rx ch)) := by
  have hlast : (w.tc fun x => { x with ctsRx := none }).m.tc.ctsLastMaster = w.m.tc.ctsLastMaster := rfl
  have hspan (f : TimeCtl → TimeCtl) : ¬ p.tb2 + prmNs (w.tc f).m P.time_cts_fup_timeout ≤ at_ := Nat.not_le.mpr hinTime
  have hknown : ¬ (22 ≤ prm w.m P.time_cts_follower_channel) := Nat.not_le.mpr hch
  simp only [ctsPairReceiveCore, hpair, hfup, hknown, hfollows, prm_tc, hspan, hseq, hdomain, hlast,
    Nat.not_lt.mpr hns, decide_false, bne_self_eq_false, Bool.not_true, Bool.or_self,
    Bool.false_eq_true, or_self, if_false]
  rw [if_neg (by rw [Bool.not_eq_true]; exact congrArg Bool.not hlater), hverify]
  rfl

theorem ctsFupTimeoutCore_of_due {p : CtsPair} (hpair : w.m.tc.ctsRx = some p) (hfup : p.fup = none)
    (hdue : p.tb2 + prmNs w.m P.time_cts_fup_timeout + 1200 ≤ v.now)
    (hnone : fupArriving w.m (p.tb2 + prmNs w.m P.time_cts_fup_timeout) = false) :
    ctsFupTimeoutCore v w = (w.tc fun x => { x with ctsRx := none }).count C.cts_fup_timeout
      (prm w.m P.time_cts_follower_channel % 22) := by
  simp only [ctsFupTimeoutCore, hpair, hfup, (expired_iff v _).mpr hdue, hnone, Option.isSome_none, Bool.not_true,
    Bool.or_self, Bool.false_eq_true, if_false]

end

/-- Settles O28: each core by the condition under which it acts. -/
theorem ctsEventsComplete : Obligations.CtsEventsComplete := by
  refine ⟨?send, ?followUp, ?cancel, ?pair, ?missing⟩
  case send =>
    intro ch s hch hmaster hfree
    exact run_eq_after (decide_eq_true hch) (ctsSyncSendCore_of_master hmaster hfree)
  case followUp =>
    intro ch p t w1 c s hch hpair hsof hover hmaster hcmac
    exact run_eq_next (decide_eq_true hch) (ctsFupSendCore_of_captured hpair hsof hover hmaster hcmac)
  case cancel =>
    intro ch p s hch hpair hsof hdue
    exact run_eq_after (decide_eq_true hch) (ctsSyncCancelCore_of_due hpair hsof hdue)
  case pair =>
    intro p fup at_ w1 s hpair hfup hch hfollows hinTime hseq hns hdomain hlater hverify
    exact run_eq_next rfl
      (ctsPairReceiveCore_of_valid hpair hfup hch hfollows hinTime hseq hns hdomain hlater hverify)
  case missing =>
    intro p s hpair hfup hdue hnone
    exact run_eq_after rfl (ctsFupTimeoutCore_of_due hpair hfup hdue hnone)

/-! ### The TIME family (R366, R372, R385) -/

section

variable {c : Ctx} {p : List Byte} {v : View} {w : W}

theorem timeAdjustBody_step (hlen : 12 ≤ p.length) (htb : leAt p 0 1 < 2) (hmode : leAt p 1 1 = 0)
    (hmay : hostMayAdjust w.m (leAt p 0 1) true = true) :
    timeAdjustBody c p v w =
      (let x := stepTb v (leAt p 0 1) (signed 64 (leAt p 4 8)) 1 w
       (x, .ok (nowOf v x (leAt p 0 1)))) := by
  have hin : ¬ (2 ≤ leAt p 0 1 ∨ 2 ≤ leAt p 1 1) := by omega
  have hstep : (leAt p 1 1 == 0) = true := beq_iff_eq.mpr hmode
  have hnoSlew : (leAt p 1 1 == 1) = false := by rw [hmode]; rfl
  rw [timeAdjustBody, need_of_le hlen]
  simp only [if_neg hin, hstep, hnoSlew, hmay, Bool.false_and, Bool.not_true, Bool.false_eq_true, if_false, if_true,
    answer]

/-- A slew goes on from the rate in force before any slew. -/
theorem timeAdjustBody_slew {rate : Nat} (hlen : 12 ≤ p.length) (htb : leAt p 0 1 < 2) (hmode : leAt p 1 1 = 1)
    (hrate : rate = (match (servoOf w.m (leAt p 0 1)).slew with
      | some (x, _) => x
      | none => (v.time.get (leAt p 0 1)).incr.toNat))
    (hvalid : incrValid (slewIncr w.m rate (signed 64 (leAt p 4 8))) = true)
    (hmay : hostMayAdjust w.m (leAt p 0 1) false = true) :
    timeAdjustBody c p v w =
      (let x := (setIncr (leAt p 0 1) (slewIncr w.m rate (signed 64 (leAt p 4 8))).toNat w).servo (leAt p 0 1)
         fun x => { x with slew := some (rate, v.now + prmNs w.m P.time_slew_window) }
       (x, .ok (nowOf v x (leAt p 0 1)))) := by
  have hin : ¬ (2 ≤ leAt p 0 1 ∨ 2 ≤ leAt p 1 1) := by omega
  have hslew : (leAt p 1 1 == 1) = true := beq_iff_eq.mpr hmode
  have hnoStep : (leAt p 1 1 == 0) = false := by rw [hmode]; rfl
  subst hrate
  rw [timeAdjustBody, need_of_le hlen]
  simp only [if_neg hin, hslew, hnoStep]
  rw [if_neg (by rw [Bool.true_and, Bool.not_eq_true', Bool.not_eq_false]; exact hvalid)]
  simp only [hmay, Bool.not_true, Bool.false_eq_true, if_false, answer] <;> rfl

theorem timeSetRateBody_ok (hlen : 12 ≤ p.length) (htb : leAt p 0 1 < 2) (hvalid : incrValid (leAt p 4 8) = true)
    (hmay : hostMayAdjust w.m (leAt p 0 1) false = true) :
    timeSetRateBody c p v w =
      ((setIncr (leAt p 0 1) (leAt p 4 8) w).servo (leAt p 0 1) fun x => { x with slew := none }, .ok []) := by
  rw [timeSetRateBody, need_of_le hlen]
  simp only [if_neg (Nat.not_le.mpr htb), hvalid, hmay, Bool.not_true, Bool.false_eq_true, if_false, answer]

theorem timeTb3AdvanceBody_ok (hlen : 8 ≤ p.length) (hsome : 1 ≤ leAt p 0 8)
    (hlimit : leAt p 0 8 ≤ prm w.m P.time_tb3_max_step) :
    timeTb3AdvanceBody c p v w =
      (let x := w.eff (.tb3To (v.time.tb3.full + leAt p 0 8))
       (x.event v 0x0C06 1 (u64 (leAt p 0 8) ++ u32 (x.base v).time.tb3.m.toNat ++ u32 (x.base v).time.tb3.n.toNat),
         .ok (nowOf v x 3))) := by
  have hin : ¬ (leAt p 0 8 = 0 ∨ prm w.m P.time_tb3_max_step < leAt p 0 8) :=
    not_or.mpr ⟨Nat.one_le_iff_ne_zero.mp hsome, Nat.not_lt.mpr hlimit⟩
  rw [timeTb3AdvanceBody, need_of_le hlen]
  simp only [if_neg hin, answer]

end

/-- Settles O29: each body's answer once its operands are in range; the checks before it leave time control alone. -/
theorem timeRequestsAnswer : Obligations.TimeRequestsAnswer := by
  refine ⟨fun _ _ _ h => accepted_ok h (Bool.and_false _) rfl, ?step, ?slew, ?rate, ?advance,
    fun _ _ _ h => accepted_ok h (Bool.and_false _) rfl⟩
  case step =>
    intro r s i h hlen htb hmode hmay
    exact accepted_ok h (Bool.and_false _)
      (timeAdjustBody_step (w := entered opTimeAdjust r i s) hlen htb hmode hmay)
  case slew =>
    intro rate r s i h hlen htb hmode hrate hvalid hmay
    exact accepted_ok h (Bool.and_false _)
      (timeAdjustBody_slew (w := entered opTimeAdjust r i s) hlen htb hmode hrate hvalid hmay)
  case rate =>
    intro r s i h hlen htb hvalid hmay
    exact accepted_ok h (Bool.and_false _)
      (timeSetRateBody_ok (w := entered opTimeSetRate r i s) hlen htb hvalid hmay)
  case advance =>
    intro r s i h hlen hsome hlimit
    exact accepted_ok h (Bool.and_false _)
      (timeTb3AdvanceBody_ok (w := entered opTimeTb3Advance r i s) hlen hsome hlimit)

end Sys2Proof.Proofs

/-! ## Sleep, wake and the keep-awake ledger (R389-R403) -/

namespace Sys2Proof.Proofs

open Sys2Proof Sys2Proof.Machine

section

variable {v : View} {w : W}

/-! ### Groups and their reasons (R394-R397) -/

theorem nmTimeoutCore_of_due {port node : Nat} {x : Reason}
    (hfound : w.m.slp.reasons.find?
      (fun r => r.kind == 0 && r.unit == port && r.node == node && v.expired r.until_) = some x) :
    nmTimeoutCore port node v w = followGroup v x.group
      (dropReasons (fun r => r.kind == 0 && r.unit == port && r.node == node && v.expired r.until_) w) := by
  simp only [nmTimeoutCore, hfound]

theorem minAwakeExpiryCore_of_due {g t : Nat} (hwoke : atD w.m.slp.woke g none = some t)
    (hdue : t + prmNs w.m P.sleep_min_awake_time + 1200 ≤ v.now) :
    minAwakeExpiryCore g v w = followGroup v g (dropReasons (fun r => r.kind == 3 && r.group == g)
      (w.slp fun x => { x with woke := upd x.woke g (fun _ => none) })) := by
  simp only [minAwakeExpiryCore, hwoke, (expired_iff v _).mpr hdue, if_true]

/-- The module's own NM frame goes out on the CAN ports of a group that it holds awake itself. -/
theorem nmSendCore_of_holding {g : Nat} (hcontrol : bit (prm w.m P.sleep_nm_control) 24 = true)
    (henabled : nmEnabled w.m = true) (hstate : w.m.mod.state = .run) (hfirmware : w.m.mod.firmwareRunning = true)
    (hholds : (inputHolds w.m || heldBy w.m g 2 || (atD w.m.slp.woke g none).isSome) = true) :
    nmSendCore g v w =
      (let ctl := prm w.m P.sleep_nm_control
       let id := prm w.m P.sleep_nm_can_id
       let mask := prm w.m P.sleep_nm_can_mask
       let nid := (id % 2 ^ 29 &&& mask) ||| (fld ctl 16 8 &&& (2 ^ 29 - 1 - mask))
       let data := (List.range 8).map fun k => BitVec.ofNat 8
         (if k == fld ctl 0 3 then fld ctl 16 8 else if k == fld ctl 4 3 then 2 ^ fld ctl 8 3 else 0)
       w.each ((groupPorts w.m g).filter isCanPort) fun p w =>
         sendFrom (p - 14) 73 73 (funcObj (bit id 29) false false nid data) w) := by
  simp only [nmSendCore, hcontrol, henabled, hstate, hfirmware, hholds, bne_self_eq_false, Bool.not_true, Bool.or_self,
    Bool.false_eq_true, if_false]

theorem linWakeStartCore_of_due {n t : Nat} (hpulse : w.m.slp.linWake.get? n = some t) (hdue : t ≤ v.now) :
    linWakeStartCore n v w =
      (w.slp fun x => { x with linWake := x.linWake.erase n }).lin n fun l => { l with asleep := false } := by
  simp only [linWakeStartCore, hpulse, Nat.not_lt.mpr hdue, if_false]

/-! ### The sleep agreement (R398-R400) -/

/-- Every group not awake, nothing that holds, and sleep enabled: RUN is left for SLEEP_PREP. -/
theorem sleepPrepEntryCore_of_quiet (hstate : w.m.mod.state = .run) (hfirmware : w.m.mod.firmwareRunning = true)
    (henabled : prmB w.m P.sleep_sleep_enable = true) (hreason : internalReason w.m = false)
    (hholds : w.m.mod.holds = []) (hgroups : w.m.slp.groups.all (fun g => g != 0) = true) :
    sleepPrepEntryCore v w =
      (let x := (w.mod fun x => { x with state := .sleepPrep }).slp fun x => { x with
         prepAt := v.now, latched := [], commitMarker := false }
       takeCheckpoint v (x.each (List.range 8) fun g w => sleepGroup v g w)) := by
  simp only [sleepPrepEntryCore, hstate, hfirmware, henabled, hreason, hholds, hgroups, List.isEmpty_nil,
    bne_self_eq_false, Bool.not_true, Bool.or_self, Bool.false_eq_true, if_false]

/-- A wake that waits for its confirmation and has a record is judged false. -/
theorem judgeFalse_of_record {t : Nat} {x : WakeRec} {rest : List WakeRec} (hconfirm : w.m.slp.confirm = some t)
    (hrecords : w.m.slp.records = x :: rest) :
    judgeFalse v w =
      (let k := 256 * x.source + x.inst
       let n := w.m.slp.falseRuns.getD k 0 + 1
       let y := w.slp fun y => { y with
         confirm := none, falseRuns := y.falseRuns.put k n, records := { x with falseWake := true } :: rest }
       (y.count C.false_wake k).event v 0x0D03 (if prm y.m P.sleep_false_wake_limit ≤ n then 2 else 1)
         (u8 x.source ++ u8 x.inst ++ zeros 2 ++ u32 n)) := by
  simp only [judgeFalse, hconfirm, hrecords]

theorem falseWakeCore_of_due {t : Nat} (hconfirm : w.m.slp.confirm = some t) (hdue : t + 1200 ≤ v.now) :
    falseWakeCore v w = judgeFalse v w := by
  rw [falseWakeCore, hconfirm, Option.any_some, if_pos ((expired_iff v t).mpr hdue)]

theorem sleepCommitCore_of_due (hstate : w.m.mod.state = .sleepPrep) (hdue : prepEnd w.m + 1200 ≤ v.now) :
    sleepCommitCore v w =
      (let x := enterSleep (closeAccounts v (sealSleep v ((judgeFalse v w).slp fun x => { x with commitMarker := true })))
       wakeModule v x.m.slp.latched 0 true x) := by
  simp only [sleepCommitCore, hstate, (expired_iff v _).mpr hdue, bne_self_eq_false, Bool.not_true, Bool.or_self,
    Bool.false_eq_true, if_false]

theorem safeSleepCore_of_due (hstate : w.m.mod.state = .safe) (hinputs : inputHolds w.m = false)
    (hdue : w.m.slp.quietSince + 2 * prmNs w.m P.sleep_nm_timeout + 1200 ≤ v.now) :
    safeSleepCore v w = enterSleep ((takeCheckpoint v (sealSleep v (closeAccounts v (judgeFalse v w)))).mod fun x =>
      { x with safeWake := true }) := by
  simp only [safeSleepCore, hstate, hinputs, (expired_iff v _).mpr hdue, bne_self_eq_false, Bool.not_true,
    Bool.or_self, Bool.false_eq_true, if_false]

/-! ### The ledger (R401) -/

theorem ledgerAccrueCore_of_running (hruns : groupsRun w.m = true) :
    ledgerAccrueCore v w =
      ((accrueInputs w).each (w.m.slp.reasons.filter (fun r => !(groupPorts w.m r.group).isEmpty)) fun x y =>
        accrueReason v w.m.slp.accruedAt (w.m.slp.recent.all (fun k => k == reasonKey x)) x y).slp fun x => { x with
          accruedAt := v.now, recent := x.reasons.map reasonKey } := by
  simp only [ledgerAccrueCore, hruns, Bool.not_true, Bool.false_eq_true, if_false]

end

/-- Settles O30: each core by the condition under which it acts. -/
theorem sleepEventsComplete : Obligations.SleepEventsComplete := by
  refine ⟨?latch, ?nmTimeout, ?minAwake, fun s => run_eq_after rfl rfl, ?nmSend, ?linWake, ?prep, ?commit, ?safe,
    ?falseWake, fun s hruns => run_eq_after rfl (ledgerAccrueCore_of_running hruns)⟩
  case latch => exact fun l ticks s hcodes => run_eq_after hcodes rfl
  case nmTimeout =>
    intro port node x s hport hfound
    exact run_eq_after (decide_eq_true hport) (nmTimeoutCore_of_due hfound)
  case minAwake =>
    intro g t s hg hwoke hdue
    exact run_eq_after (decide_eq_true hg) (minAwakeExpiryCore_of_due hwoke hdue)
  case nmSend =>
    intro g s hg hcontrol henabled hstate hfirmware hholds
    exact run_eq_after (decide_eq_true hg) (nmSendCore_of_holding hcontrol henabled hstate hfirmware hholds)
  case linWake =>
    intro n t s hn hpulse hdue
    exact run_eq_after (decide_eq_true hn) (linWakeStartCore_of_due hpulse hdue)
  case prep =>
    intro s hstate hfirmware henabled hreason hholds hgroups
    exact run_eq_after rfl (sleepPrepEntryCore_of_quiet hstate hfirmware henabled hreason hholds hgroups)
  case commit => exact fun s hstate hdue => run_eq_after rfl (sleepCommitCore_of_due hstate hdue)
  case safe => exact fun s hstate hinputs hdue => run_eq_after rfl (safeSleepCore_of_due hstate hinputs hdue)
  case falseWake =>
    intro t x rest s hconfirm hrecords hdue
    exact run_eq_after rfl ((falseWakeCore_of_due hconfirm hdue).trans (judgeFalse_of_record hconfirm hrecords))

/-! ### The SLEEP family (R403) -/

section

variable {c : Ctx} {p : List Byte} {v : View} {w : W}

section

variable {i : Nat} (hslot : c.slot = some i) (hlen : 8 ≤ p.length)

include hslot hlen

/-- A span of 0 takes the session's own reasons back. -/
theorem sleepKeepAwakeBody_of_zero (hspan : leAt p 4 4 = 0) :
    sleepKeepAwakeBody c p v w = (followGroups v (dropReasons (fun x =>
      x.kind == 2 && x.unit == i && (bitsOf 8 (leAt p 0 1)).contains x.group) (confirmWake v.now w)), .ok []) := by
  have hzero : (leAt p 4 4 == 0) = true := beq_iff_eq.mpr hspan
  rw [sleepKeepAwakeBody, need_of_le hlen]
  simp only [hslot, hzero, if_true, answer]

theorem sleepKeepAwakeBody_of_span (hspan : leAt p 4 4 ≠ 0) :
    sleepKeepAwakeBody c p v w =
      (let gs := bitsOf 8 (leAt p 0 1)
       let x := (confirmWake v.now w).each gs fun g w => putReason v
         { kind := 2, unit := i, node := c.sid, group := g, until_ := v.now + leAt p 4 4 * 1000, since := v.now } w
       let x := if gs.isEmpty then x else reasonArisen v v.now x
       if x.m.mod.state == .sleepPrep then x else x.each gs fun g w => followGroup v g (wakeGroup v [] g w),
        .ok []) := by
  rw [sleepKeepAwakeBody, need_of_le hlen]
  simp only [hslot, beq_eq_false_iff_ne.mpr hspan, Bool.false_eq_true, if_false, answer]
  exact (apply_ite (fun x : W => (x, Ans.ok [])) _ _ _).symm

end

section

variable (hlen : 4 ≤ p.length)

include hlen

theorem sleepWakeRecordsBody_ok (hsome : 1 ≤ leAt p 0 1) (hlimit : leAt p 0 1 ≤ 16) :
    sleepWakeRecordsBody c p v w = (w, .ok (u8 (w.m.slp.records.take (leAt p 0 1)).length ++ zeros 3
      ++ ((w.m.slp.records.take (leAt p 0 1)).map WakeRec.bytes).flatten)) := by
  have hin : ¬ (leAt p 0 1 < 1 ∨ 16 < leAt p 0 1) := by omega
  rw [sleepWakeRecordsBody, need_of_le hlen]
  simp only [if_neg hin, answer]

theorem sleepFilterReadBody_ok (hk : leAt p 0 1 ≤ 7) :
    sleepFilterReadBody c p v w = (w, .ok (atD w.m.slp.filters (leAt p 0 1) (zeros 24))) := by
  rw [sleepFilterReadBody, need_of_le hlen]
  simp only [if_neg (Nat.not_lt.mpr hk), answer]

theorem sleepLedgerReadBody_ok (hfirst : leAt p 0 1 ≤ 63) (hsome : 1 ≤ leAt p 1 1) (hlimit : leAt p 1 1 ≤ 64) :
    sleepLedgerReadBody c p v w = (w, .ok (let l := (w.m.slp.ledger.drop (leAt p 0 1)).take (leAt p 1 1)
      u8 l.length ++ zeros 3 ++ (l.map Ledger.bytes).flatten)) := by
  rw [sleepLedgerReadBody, need_of_le hlen]
  simp only [Nat.not_lt.mpr hfirst, Nat.not_lt.mpr hsome, Nat.not_lt.mpr hlimit, decide_false, Bool.or_self,
    Bool.false_eq_true, if_false, answer]

end

theorem sleepFilterWriteBody_ok (hlen : 28 ≤ p.length) (hk : leAt p 0 1 ≤ 7) (hdlc : leAt p 12 1 % 16 ≤ 8) :
    sleepFilterWriteBody c p v w = (w.slp fun x => { x with
      filters := upd x.filters (leAt p 0 1) (fun _ => maskFilter (slice p 4 24)) }, .ok []) := by
  rw [sleepFilterWriteBody, need_of_le hlen]
  simp only [Nat.not_lt.mpr hk, Nat.not_lt.mpr hdlc, decide_false, Bool.or_self, Bool.false_eq_true, if_false, answer]

end

/-- Settles O31: each body's answer once its operands are in range; the checks before it leave the sleep state alone. -/
theorem sleepRequestsAnswer : Obligations.SleepRequestsAnswer := by
  refine ⟨fun _ _ _ h => accepted_ok h (Bool.and_false _) rfl, ?release, ?hold, ?records, ?filterWrite, ?filterRead,
    ?ledgerRead, fun _ _ _ h => accepted_ok h (Bool.and_false _) rfl⟩
  case release =>
    intro r s i h hlen hspan
    exact accepted_ok h (Bool.and_false _) (sleepKeepAwakeBody_of_zero rfl hlen hspan)
  case hold =>
    intro r s i h hlen hspan
    exact accepted_ok h (Bool.and_false _) (sleepKeepAwakeBody_of_span (c := asked r i s) rfl hlen hspan)
  case records =>
    intro r s i h hlen hsome hlimit
    exact accepted_ok h (Bool.and_false _) (sleepWakeRecordsBody_ok hlen hsome hlimit)
  case filterWrite =>
    intro r s i h hlen hk hdlc
    exact accepted_ok h (Bool.and_false _) (sleepFilterWriteBody_ok hlen hk hdlc)
  case filterRead =>
    intro r s i h hlen hk
    exact accepted_ok h (Bool.and_false _) (sleepFilterReadBody_ok hlen hk)
  case ledgerRead =>
    intro r s i h hlen hfirst hsome hlimit
    exact accepted_ok h (Bool.and_false _) (sleepLedgerReadBody_ok hlen hfirst hsome hlimit)

end Sys2Proof.Proofs

/-! ## The protected switch channels (R410-R427) -/

namespace Sys2Proof.Proofs

open Sys2Proof Sys2Proof.Machine

section

variable {v : View} {w : W}

/-! ### Heartbeat (R410, R412, R421) -/

/-- A frame goes out, and a die that finds its CRC good takes it. -/
theorem heartbeatFrameCore_of_running {d : Nat} (hruns : hbRuns w.m d v.now = true) (bad : Option (List Nat)) :
    heartbeatFrameCore d bad v w =
      (let x := (w.send (.heartbeat d (hbBytes w.m d))).die d fun x => { x with seq := x.seq + 1 }
       match bad with
       | none => x
       | some l => dieReceives v d l x) := by
  simp only [heartbeatFrameCore, hruns, Bool.not_true, Bool.false_eq_true, if_false] <;> rfl

theorem heartbeatTimeoutCore_of_due {d : Nat} (hvariant : w.m.ident.variantG = false) (hheard : (dieAt w.m d).lost = false)
    (hdue : (dieAt w.m d).last + 20000000 + 1200 ≤ v.now) :
    heartbeatTimeoutCore d v w =
      ((dieLoss v d w).count C.ch_heartbeat_loss d).event v 0x0E04 3 (u8 (2 ^ d) ++ u8 1 ++ zeros 2) := by
  simp only [heartbeatTimeoutCore, hvariant, hheard, (expired_iff v _).mpr hdue, Bool.not_true, Bool.or_self,
    Bool.false_eq_true, if_false]

/-! ### Trips (R415-R419) -/

/-- What a trip by `cause` does with channel `k`: off, counted, logged and reported, and latched off when its retries are
used up. -/
def tripBy (v : View) (k cause current : Nat) (temp : Int) (w : W) : W :=
  let c := chanAt w.m k
  let inrush := inWindow v c
  let count := if cause == 4 then c.trips else c.trips + 1
  let latched := cause != 4 && decide (chanPrm w.m P.switch_retry_count k < count)
  let retry := if latched then none else some (if cause == 4 then 0 else v.now + chanPrmNs w.m P.switch_retry_delay k)
  let w := (outOff v k w).chan k fun x => { x with
    trips := count, total := x.total + 1, cause := cause, retryAt := retry, latched := latched
    cleared := x.cleared || latched, hardTrip := if cause ≤ 2 then some v.now else x.hardTrip }
  let e := tripEntry v k cause count latched inrush current temp
  let w := ((logTrip e w).count (tripCounter cause) k).event v 0x0E01 1 e
  if latched then (w.count C.ch_latched k).event v 0x0E02 2 (u8 k ++ u8 cause ++ zeros 2 ++ u32 (chanAt w.m k).total)
  else w

section

variable {k : Nat} {temp : Int} (hon : (chanAt (chanTwins v k w).m k).on = true)

include hon

/-- A channel that is on trips; a thermal trip beside one of cause 1 or 2 is a sympathetic one. -/
theorem trip_of_on (cause current : Nat) :
    trip v k cause current temp w =
      tripBy v k (if cause == 3 && sympathetic (chanTwins v k w).m k v.now then 4 else cause) current temp
        (chanTwins v k w) := by
  simp only [trip, hon, Bool.not_true, Bool.false_eq_true, if_false, tripBy]

theorem fastTripCore_of_held {current : ChanSample} (hlimit : limitInForce v w.m k ≤ current.mA)
    (hspan : chanPrm w.m P.switch_fast_trip_time k ≤ current.us)
    (hlong : onFor v (chanAt w.m k) current.us 0 = true) :
    fastTripCore k current temp v w = tripBy v k 1 current.mA temp (chanTwins v k w) := by
  simp only [fastTripCore, Nat.not_lt.mpr hlimit, Nat.not_lt.mpr hspan, hlong, decide_false, Bool.not_true,
    Bool.or_self, Bool.false_eq_true, if_false]
  exact trip_of_on hon 1 current.mA

theorem overloadTripCore_of_held {current : ChanSample} (hlimit : chanPrm w.m P.switch_overload_current k < current.mA)
    (hspan : chanPrm w.m P.switch_overload_time k ≤ current.us)
    (hlong : onFor v (chanAt w.m k) current.us 0 = true) :
    overloadTripCore k current temp v w = tripBy v k 2 current.mA temp (chanTwins v k w) := by
  simp only [overloadTripCore, Nat.not_le.mpr hlimit, Nat.not_lt.mpr hspan, hlong, decide_false, Bool.not_true,
    Bool.or_self, Bool.false_eq_true, if_false]
  exact trip_of_on hon 2 current.mA

theorem thermalShutdownCore_of_hot {current : Nat} (hhot : 1750 < temp) :
    thermalShutdownCore k current temp v w =
      tripBy v k (if sympathetic (chanTwins v k w).m k v.now then 4 else 3) current temp (chanTwins v k w) := by
  rw [thermalShutdownCore, if_neg (Int.not_le.mpr hhot)]
  exact trip_of_on hon 3 current

end

/-! ### Retries, loads and PWM (R411, R415, R417-R419) -/

section

variable {k : Nat}

theorem inrushWindowEndCore_of_due {t : Nat} (hwindow : (chanAt w.m k).inrushEnd = some t) (hdue : t ≤ v.now) :
    inrushWindowEndCore k v w = w.chan k fun c => { c with inrushEnd := none } := by
  simp only [inrushWindowEndCore, hwindow, Nat.not_lt.mpr hdue, if_false]

theorem sympatheticRetryCore_of_waiting (hwaits : (chanAt w.m k).retryAt.isSome = true)
    (hcause : (chanAt w.m k).cause = 4) : sympatheticRetryCore k v w = retryChan v k w := by
  simp only [sympatheticRetryCore, hwaits, beq_iff_eq.mpr hcause, Bool.and_self, if_true]

theorem channelRetryCore_of_due {t : Nat} (hretry : (chanAt w.m k).retryAt = some t) (hcause : (chanAt w.m k).cause ≠ 4)
    (hdue : t ≤ v.now) : channelRetryCore k v w = retryChan v k w := by
  simp only [channelRetryCore, hretry, beq_eq_false_iff_ne.mpr hcause, Nat.not_lt.mpr hdue, decide_false, Bool.or_self,
    Bool.false_eq_true, if_false]

theorem tripCountResetCore_of_due (hon : (chanAt w.m k).on = true)
    (hdue : (chanAt w.m k).onSince + 1000000000 ≤ v.now) :
    tripCountResetCore k v w = w.chan k fun c => { c with trips := 0 } := by
  simp only [tripCountResetCore, hon, hdue, decide_true, Bool.and_self, if_true]

theorem openLoadCore_of_low {current : ChanSample} (hon : (chanAt w.m k).on = true)
    (hnew : (chanAt w.m k).openLoad = false) (hwindow : inWindow v (chanAt w.m k) = false)
    (hlow : current.mA < chanPrm w.m P.switch_open_load_threshold k)
    (hspan : chanPrm w.m P.switch_open_load_time k ≤ current.us)
    (hlong : onFor v (chanAt w.m k) current.us (max 200000 (chanPrmNs w.m P.switch_inrush_time k)) = true) :
    openLoadCore k current v w =
      ((w.chan k fun c => { c with openLoad := true }).count C.ch_open_load k).event v 0x0E03 1
        (u8 k ++ u8 1 ++ zeros 2 ++ u32 current.mA) := by
  simp only [openLoadCore, hon, hnew, hwindow, Nat.not_le.mpr hlow, Nat.not_lt.mpr hspan, hlong, decide_false,
    Bool.not_true, Bool.or_self, Bool.false_eq_true, if_false]

theorem openLoadClearCore_of_high {current : Nat} (hon : (chanAt w.m k).on = true)
    (hflag : (chanAt w.m k).openLoad = true) (hhigh : chanPrm w.m P.switch_open_load_threshold k < current) :
    openLoadClearCore k current v w =
      (w.chan k fun c => { c with openLoad := false }).event v 0x0E03 0 (u8 k ++ u8 0 ++ zeros 2 ++ u32 current) := by
  simp only [openLoadClearCore, hon, hflag, Nat.not_le.mpr hhigh, decide_false, Bool.not_true, Bool.or_self,
    Bool.false_eq_true, if_false]

theorem pwmPeriodStartCore_of_running (hout : (chanAt w.m k).out = 2) (hmode : cmdMode (chanAt w.m k).word = 2)
    (hphase : phaseOk w.m k v.now = true) :
    pwmPeriodStartCore k v w = takeWord v k (w.chan k fun c => { c with periodAt := some v.now }) := by
  simp only [pwmPeriodStartCore, beq_iff_eq.mpr hout, beq_iff_eq.mpr hmode, hphase, Bool.and_self, if_true]

end

/-! ### The end of a supply inhibit (R423) -/

theorem supplyInhibitReleaseCore_of_due {d : Nat} (hover : w.m.sw.inhibit = none)
    (hinhibited : (dieAt w.m d).inhibited = true) (hdue : w.m.sw.inhibitEnd + 2000000 * d ≤ v.now) :
    supplyInhibitReleaseCore d v w =
      (w.die d fun x => { x with inhibited := false }).each (dieChans d) fun k w =>
        if (dieAt w.m d).lost then w else takeIfFree v k w := by
  simp only [supplyInhibitReleaseCore, hover, hinhibited, Nat.not_lt.mpr hdue, Option.isSome_none, decide_false,
    Bool.not_true, Bool.or_self, Bool.false_eq_true, if_false]

end

/-- Settles O32: each core by the condition under which it acts; the three trips by what their cause does. -/
theorem channelEventsComplete : Obligations.ChannelEventsComplete := by
  refine ⟨?frame, ?badFrame, fun d s hd => run_eq_after (decide_eq_true hd) rfl, ?timeout, ?window, ?fast, ?overload,
    ?thermal, ?sympathetic, ?retry, ?countReset, ?openLoad, ?openLoadClear, ?pwm, ?release⟩
  case frame =>
    intro d bad s hd hbad hruns
    have hok : (decide (d < 5) && (some bad).all (fun l => l.all (fun k => k / 4 == d))) = true :=
      Bool.and_eq_true_iff.mpr ⟨decide_eq_true hd, hbad⟩
    exact run_eq_after hok (heartbeatFrameCore_of_running hruns (some bad))
  case badFrame =>
    intro d s hd hruns
    have hok : (decide (d < 5) && (none : Option (List Nat)).all (fun l => l.all (fun k => k / 4 == d))) = true :=
      Bool.and_eq_true_iff.mpr ⟨decide_eq_true hd, rfl⟩
    exact run_eq_after hok (heartbeatFrameCore_of_running hruns none)
  case timeout =>
    intro d s hd hvariant hheard hdue
    exact run_eq_after (decide_eq_true hd) (heartbeatTimeoutCore_of_due hvariant hheard hdue)
  case window =>
    intro ch t s hch hwindow hdue
    exact run_eq_after hch (inrushWindowEndCore_of_due hwindow hdue)
  case fast =>
    intro ch current temp s hch hon hlimit hspan hlong
    exact run_eq_after hch (fastTripCore_of_held hon hlimit hspan hlong)
  case overload =>
    intro ch current temp s hch hon hlimit hspan hlong
    exact run_eq_after hch (overloadTripCore_of_held hon hlimit hspan hlong)
  case thermal =>
    intro ch current temp s hch hon hhot
    exact run_eq_after hch (thermalShutdownCore_of_hot hon hhot)
  case sympathetic =>
    intro ch s hch hwaits hcause
    exact run_eq_after hch (sympatheticRetryCore_of_waiting hwaits hcause)
  case retry =>
    intro ch t s hch hretry hcause hdue
    exact run_eq_after hch (channelRetryCore_of_due hretry hcause hdue)
  case countReset =>
    intro ch s hch hon hdue
    exact run_eq_after hch (tripCountResetCore_of_due hon hdue)
  case openLoad =>
    intro ch current s hch hon hnew hwindow hlow hspan hlong
    exact run_eq_after hch (openLoadCore_of_low hon hnew hwindow hlow hspan hlong)
  case openLoadClear =>
    intro ch current s hch hon hflag hhigh
    exact run_eq_after hch (openLoadClearCore_of_high hon hflag hhigh)
  case pwm =>
    intro ch s hch hout hmode hphase
    exact run_eq_after hch (pwmPeriodStartCore_of_running hout hmode hphase)
  case release =>
    intro d s hd hover hinhibited hdue
    exact run_eq_after (decide_eq_true hd) (supplyInhibitReleaseCore_of_due hover hinhibited hdue)

/-! ### The CHANNEL family (R425-R427) -/

section

variable {c : Ctx} {p : List Byte} {v : View} {w : W} (hvariant : w.m.ident.variantG = false)

include hvariant

theorem pOnly_of_p (body : Body) : pOnly body c p v w = body c p v w := by
  simp only [pOnly, hvariant, Bool.false_eq_true, if_false]

theorem channelStatusBody_ok (hlen : 4 ≤ p.length) (hsome : 1 ≤ leAt p 1 1) (hrange : leAt p 0 1 + leAt p 1 1 ≤ 20) :
    channelStatusBody c p v w =
      (let x := chanEntries v ((List.range (leAt p 1 1)).map (· + leAt p 0 1)) w
       (x.1, .ok (u8 (leAt p 1 1) ++ zeros 3 ++ x.2))) := by
  have hin : ¬ (leAt p 1 1 = 0 ∨ 20 < leAt p 1 1 ∨ 20 < leAt p 0 1 + leAt p 1 1) := by omega
  rw [channelStatusBody, need_of_le hlen]
  simp only [if_neg hin, pOnly_of_p hvariant, answer]

theorem channelTripLogBody_ok (hlen : 4 ≤ p.length) (hsome : 1 ≤ leAt p 0 1) (hlimit : leAt p 0 1 ≤ 32) :
    channelTripLogBody c p v w = (w, .ok (u8 (w.m.sw.log.take (leAt p 0 1)).length ++ zeros 3
      ++ (w.m.sw.log.take (leAt p 0 1)).flatten)) := by
  have hin : ¬ (leAt p 0 1 = 0 ∨ 32 < leAt p 0 1) := by omega
  rw [channelTripLogBody, need_of_le hlen]
  simp only [if_neg hin, pOnly_of_p hvariant, answer]

theorem channelAllOffBody_ok (hstate : (hostCommands w.m || w.m.mod.state == .safe) = true) :
    channelAllOffBody c p v w = (w.each (List.range 20) fun k w => acceptCmd k 0 false w, .ok []) := by
  simp only [channelAllOffBody, pOnly_of_p hvariant, hstate, if_true, answer]

variable (hhost : hostCommands w.m = true)

include hhost

/-- Entries that all pass are accepted, and wait for the heartbeat of their dies. -/
theorem channelSetBody_of_passed {n : Nat} (hn : n = leAt p 0 1) (hsome : 1 ≤ n) (hlimit : n ≤ 20)
    (hlen : p.length = 4 + 12 * n) (hfields : firstFail setCheck [] (setEntries p n) = none)
    (hstates : firstFail (setState w.m) [] (setEntries p n) = none) :
    channelSetBody c p v w =
      ((w.each (setEntries p n) fun e w => acceptCmd e.1 (e.2.1 % 2 ^ 22) false w),
        .wait (.heartbeat (((setEntries p n).map (fun e => e.1 / 4)).eraseDups)) (u8 n ++ zeros 3)) := by
  have hshort : 4 ≤ p.length := by omega
  have hin : ¬ (n = 0 ∨ 20 < n ∨ p.length ≠ 4 + 12 * n) := by omega
  rw [channelSetBody, need_of_le hshort]
  simp only [← hn, if_neg hin, hfields, hvariant, hhost, hstates, Bool.not_true, Bool.or_self, Bool.false_eq_true, if_false]

theorem channelClearBody_ok (hlen : 4 ≤ p.length) (hmask : leAt p 0 4 < 2 ^ 20) :
    channelClearBody c p v w = (w.each (bitsOf 20 (leAt p 0 4)) fun k w => w.chan k fun c => { c with
      latched := false, trips := 0, openLoad := false }, .ok (u32 (leAt p 0 4))) := by
  rw [channelClearBody, need_of_le hlen]
  simp only [if_neg (Nat.not_le.mpr hmask), hvariant, hhost, Bool.not_true, Bool.or_self, Bool.false_eq_true, if_false,
    answer]

end

/-- Settles O33: each body's answer once its operands are in range; the checks before it leave the channels alone. -/
theorem channelRequestsAnswer : Obligations.ChannelRequestsAnswer := by
  refine ⟨?status, ?tripLog, ?set, ?clear, ?allOff⟩
  case status =>
    intro r s i h hlen hsome hrange hvariant
    exact accepted_ok h (Bool.and_false _) (channelStatusBody_ok hvariant hlen hsome hrange)
  case tripLog =>
    intro r s i h hlen hsome hlimit hvariant
    exact accepted_ok h (Bool.and_false _) (channelTripLogBody_ok hvariant hlen hsome hlimit)
  case set =>
    intro r s i h hsome hlimit hlen hfields hvariant hhost hstates
    exact accepted_wait h (Bool.and_false _)
      (channelSetBody_of_passed hvariant hhost rfl hsome hlimit hlen hfields hstates)
  case clear =>
    intro r s i h hlen hmask hvariant hhost
    exact accepted_ok h (Bool.and_false _) (channelClearBody_ok hvariant hhost hlen hmask)
  case allOff =>
    intro r s i h hvariant hstate
    exact accepted_ok h (Bool.and_false _) (channelAllOffBody_ok hvariant hstate)

end Sys2Proof.Proofs

/-! ## Keys and secured traffic (R436-R452) -/

namespace Sys2Proof.Proofs

open Sys2Proof Sys2Proof.Machine

section

variable {c : Ctx} {p : List Byte} {v : View} {w : W}

/-! ### The KEY family (R439, R443, R452) -/

/-- A KEY operation comes to its own work while one of the 8 key operations is free. -/
theorem keyOp_of_room (hroom : keyOpsInUse w.m < 8) (body : Body) : keyOp body c p v w = body c p v w := by
  simp only [keyOp, if_neg (Nat.not_le.mpr hroom)]

theorem keyStatusBody_ok {n : Nat} (hn : n = if leAt p 1 1 == 0 then 256 else leAt p 1 1) (hroom : keyOpsInUse w.m < 8)
    (hlen : 4 ≤ p.length) (hrange : leAt p 0 1 + n ≤ 256) :
    keyStatusBody c p v w = (w, .ok (u16 n ++ zeros 2 ++ keyEntries w.m (leAt p 0 1) n)) := by
  rw [keyStatusBody, need_of_le hlen]
  simp only [← hn, if_neg (Nat.not_lt.mpr hrange), keyOp_of_room hroom, answer]

theorem keyCertReadBody_ok (hroom : keyOpsInUse w.m < 8) :
    keyCertReadBody c p v w =
      (w, .ok (u16 w.m.ident.certificate.length ++ zeros 2 ++ w.m.ident.certificate)) := by
  simp only [keyCertReadBody, keyOp_of_room hroom, answer]

theorem keyAttestBody_ok (hroom : keyOpsInUse w.m < 8) (hlen : 32 ≤ p.length)
    (henabled : prm w.m P.security_attest_enable ≠ 0) :
    keyAttestBody c p v w =
      (w, .ok (let head := u64 w.m.ident.uniqueId ++ u32 w.m.keys.generation ++ u32 (firmwareVersion w.m)
          ++ sha (keyEntries w.m 0 256)
        head ++ sealSign w.m (head ++ p.take 32))) := by
  rw [keyAttestBody, need_of_le hlen, keyOp_of_room hroom]
  simp only [beq_eq_false_iff_ne.mpr henabled, Bool.false_eq_true, if_false, answer]

/-- A KEY_UPDATE for this module that nothing holds up comes to the checks under its parent's key. -/
theorem keyUpdateBody_of_parent {x y : W} {pk : List Byte} (hlen : 108 ≤ p.length)
    (hmine : leAt p 0 8 = w.m.ident.uniqueId) (hx : useTwin v P.security_key_update_enable 0 0 w = x)
    (henabled : (prm x.m P.security_key_update_enable == 0) = false)
    (hidle : keyUpdating x.m (keyMsg p).slot = false) (hroom : keyOpsInUse x.m < 8) (hop : (keyMsg p).op ≤ 2)
    (hfits : parentFits x.m (keyMsg p) = true)
    (hy : (if decide ((keyMsg p).parent < 256) && (keyMsg p).parent != (keyMsg p).slot
      then readRecord v (keyMsg p).parent x else x) = y)
    (hparent : parentKey y.m (keyMsg p) = some pk) :
    keyUpdateBody c p v w = checkKey v c (keyMsg p) pk y := by
  rw [keyUpdateBody, need_of_le hlen]
  simp only [hmine, bne_self_eq_false, hx, henabled, hidle, if_neg (Nat.not_le.mpr hroom), Nat.not_lt.mpr hop, hfits,
    hy, hparent, decide_false, Bool.not_true, Bool.or_self, Bool.false_eq_true, if_false]

/-! ### Orphans and the ZSP engine (R437, R444-R447) -/

theorem orphanSweepCore_of_powered (hpow : powered w.m = true) :
    orphanSweepCore v w = w.each (orphans w.m) fun k w => writeRecord k (sweptSlot (keySlot w.m k)) w := by
  simp only [orphanSweepCore, hpow, Bool.not_true, Bool.false_eq_true, if_false]

/-- The oldest frame, where its flow is valid and of the engine's mode: its tiles are read, and the engine works on it. -/
theorem zspNext_of_flow {sign : Bool} {work : Nat → Job → W → W} {x : Job} {rest : List Job}
    (hnext : w.m.flow.zsp = x :: rest)
    (hvalid : flowValid (touch v [entryKey 0x0D (Sp.securedFlow.get x.sp)] w).m (Sp.securedFlow.get x.sp) = true)
    (hmode : Sf.sign.on (flowGet (touch v [entryKey 0x0D (Sp.securedFlow.get x.sp)] w).m (Sp.securedFlow.get x.sp)) = sign)
    (hsecured : zspIgnored ((touch v [entryKey 0x0D (Sp.securedFlow.get x.sp)] w).flow fun y =>
      { y with zsp := rest }).m x = false) :
    zspNext sign work v w =
      (let k := Sp.securedFlow.get x.sp
       let y := corrected x.frame none (zspOps v ((touch v [entryKey 0x0D k] w).flow fun y => { y with zsp := rest }))
       match readFault y.m x.frame none with
       | some z => discardFrame x.frame (tileFail v 10 x.frame z y)
       | none => work k x y) := by
  simp only [zspNext, hnext, hvalid, hmode, hsecured, bne_self_eq_false, Bool.and_false, Bool.false_eq_true, if_false,
    if_true] <;> rfl

theorem zspCounterSendCore_of_signing {k : Nat} {w' : W} {key : List Byte} (hfull : fullService w.m = true)
    (hvalid : flowValid w.m k = true) (hsign : Sf.sign.on (flowGet w.m k) = true) (hcounts : countsOn (flowGet w.m k) = true)
    (hfits : internalFits w.m 13 12 = true) (hkey : useKey v (Sf.keySlot.get (flowGet w.m k)) 0 Attr.encrypt w = (w', some key)) :
    zspCounterSendCore k v w =
      (let e := flowGet w.m k
       let F := Sf.freshness.get e
       enterInternal v 13 (2 + b2n (Sf.counterIde.on e)) (Sf.counterId.get e) (beBytes 8 F ++ counterMac e key F) w') := by
  simp only [zspCounterSendCore, hfull, hvalid, hsign, hcounts, hfits, hkey, Bool.not_true, Bool.or_self,
    Bool.false_eq_true, if_false]

end

/-- Settles O34: each body's answer once a key operation is free, each core by the condition under which it acts. -/
theorem keyAndSecuredTrafficCompletes : Obligations.KeyAndSecuredTrafficCompletes := by
  refine ⟨?status, ?certRead, ?attest, ?update, ?sweep, ?verify, ?sign, ?counterFrame, ?counterSend⟩
  case status =>
    intro r s i h hroom hlen hrange
    exact accepted_ok h (Bool.and_false _) (keyStatusBody_ok rfl hroom hlen hrange)
  case certRead => exact fun r s i h hroom => accepted_ok h (Bool.and_false _) (keyCertReadBody_ok hroom)
  case attest =>
    intro r s i h hroom hlen henabled
    exact accepted_ok h (Bool.and_false _) (keyAttestBody_ok (w := entered opKeyAttest r i s) hroom hlen henabled)
  case update =>
    intro pk w p r s i h hposted hlen hmine henabled hidle hroom hop hfits hparent hcheck
    have hbody := keyUpdateBody_of_parent (c := asked r i s) (w := entered opKeyUpdate r i s) hlen hmine rfl henabled
      hidle hroom hop hfits rfl hparent
    exact accepted_ok h (unposted hposted _) (hbody.trans hcheck)
  case sweep => exact fun s hpow => run_eq_after rfl (orphanSweepCore_of_powered hpow)
  case verify =>
    intro x rest s hnext hvalid hmode hsecured
    exact run_eq_after rfl (zspNext_of_flow hnext hvalid hmode hsecured)
  case sign =>
    intro x rest s hnext hvalid hmode hsecured
    exact run_eq_after rfl (zspNext_of_flow hnext hvalid hmode hsecured)
  case counterFrame =>
    intro ch f s hch hfmt hid hlen hfull hport
    have hfree : ¬ (!fullService s.m || !zspPort s.m (canPort ch) 0 || f.data.length != 12) = true := by
      simp [hfull, hport, hlen]
    exact run_eq_after (decide_eq_true ⟨hch, hfmt, hid⟩) (if_neg hfree)
  case counterSend =>
    intro k w1 key s hk hfull hvalid hsign hcounts hfits hkey
    exact run_eq_next (decide_eq_true hk) (zspCounterSendCore_of_signing hfull hvalid hsign hcounts hfits hkey)

end Sys2Proof.Proofs

/-! ## The milestone journal (R456-R471) -/

namespace Sys2Proof.Proofs

open Sys2Proof Sys2Proof.Machine

section

variable {c : Ctx} {p : List Byte} {v : View} {w : W}

theorem journalSampleCore_of_powered (hpow : powered w.m = true) :
    journalSampleCore v w =
      (let y := if w.m.jr.acc.minute < tb3Minute v then closeMinute v false (tb3Minute v) w else w
       let y := useTwin v P.journal_pulse_k 0 0 y
       let x := sampleOf y.m v.now
       let y := checkHoldSpeed v (watchStep v x.pulse x.canTenth x.gnss (y.jr (noteSample x)))
       y.jr (accumulate x y.m)) := by
  simp only [journalSampleCore, hpow, Bool.not_true, Bool.false_eq_true, if_false]

theorem minuteRecordCore_of_over (hover : w.m.jr.acc.minute < tb3Minute v) (hpow : powered w.m = true) :
    minuteRecordCore v w = closeMinute v false (tb3Minute v) w := by
  simp only [minuteRecordCore, hover, hpow, decide_true, Bool.and_self, if_true]

/-- The records from the one named on, as many whole ones as fit. -/
theorem journalReadBody_ok {l : List JRecord} (hlen : 8 ≤ p.length) (hmin : 64 ≤ leAt p 4 4) (hmax : leAt p 4 4 ≤ 64896)
    (hl : l = if leAt p 0 4 = 0 then w.m.jr.ring else w.m.jr.ring.dropWhile (fun x => x.seq != leAt p 0 4))
    (hfound : leAt p 0 4 ≠ 0 → l ≠ []) :
    journalReadBody c p v w = (w, .ok (u16 (fitRecords (leAt p 4 4) l).length ++ zeros 2
      ++ (fitRecords (leAt p 4 4) l).flatMap JRecord.bytes)) := by
  have hin : ¬ (leAt p 4 4 < 64 ∨ 64896 < leAt p 4 4) := by omega
  have hsome : ¬ (leAt p 0 4 != 0 && l.isEmpty) = true := by simpa using hfound
  rw [journalReadBody, need_of_le hlen]
  simp only [← hl, if_neg hin, if_neg hsome, answer]

theorem journalGnssBody_of_fix (hlen : 4 ≤ p.length) (hfix : 1 ≤ leAt p 2 1) (hkind : leAt p 2 1 ≤ 2) :
    journalGnssBody c p v w =
      ((w.jr fun x => { x with gnssSpeed := some (leAt p 0 2, v.now) }).count C.journal_gnss_rx, .ok []) := by
  rw [journalGnssBody, need_of_le hlen]
  simp only [if_neg (Nat.not_lt.mpr hkind), if_neg (Nat.one_le_iff_ne_zero.mp hfix), answer]

theorem journalAnnotateBody_ok (hsome : 1 ≤ leAt p 0 1) (hlimit : leAt p 0 1 ≤ 76) (hlen : p.length = 4 + leAt p 0 1)
    (henabled : prmB w.m P.journal_enable = true) :
    journalAnnotateBody c p v w =
      ((journalEvent v 0x1005 0 (slice p 4 (leAt p 0 1)) w).event v 0x1005 0
        (u32 w.m.jr.next ++ u8 (leAt p 0 1) ++ zeros 3 ++ (slice p 4 (leAt p 0 1)).take 40), .ok (u32 w.m.jr.next)) := by
  have hshort : 4 ≤ p.length := by omega
  have hin : ¬ (leAt p 0 1 = 0 ∨ 76 < leAt p 0 1 ∨ p.length ≠ 4 + leAt p 0 1) := by omega
  rw [journalAnnotateBody, need_of_le hshort]
  simp only [if_neg hin, henabled, Bool.not_true, Bool.false_eq_true, if_false, answer]

theorem journalSealNowBody_ok (henabled : prmB w.m P.journal_enable = true) :
    journalSealNowBody c p v w = (writeSeal v (if w.m.jr.deferred then 4 else 0) w, .ok (u32 w.m.jr.next)) := by
  simp only [journalSealNowBody, henabled, Bool.not_true, Bool.false_eq_true, if_false, answer]

end

/-- Settles O35: the cores by the condition under which they act, each body's answer once its operands are in range. -/
theorem journalCompletes : Obligations.JournalCompletes := by
  refine ⟨fun s hpow => run_eq_after rfl (journalSampleCore_of_powered hpow),
    fun s hover hpow => run_eq_after rfl (minuteRecordCore_of_over hover hpow),
    fun _ _ _ h => accepted_ok h (Bool.and_false _) rfl, ?read, ?gnss, ?annotate, ?sealNow⟩
  case read =>
    intro l r s i h hlen hmin hmax hl hfound
    exact accepted_ok h (Bool.and_false _) (journalReadBody_ok hlen hmin hmax hl hfound)
  case gnss =>
    intro r s i h hlen hfix hkind
    exact accepted_ok h (Bool.and_false _) (journalGnssBody_of_fix hlen hfix hkind)
  case annotate =>
    intro r s i h hsome hlimit hlen henabled
    exact accepted_ok h (Bool.and_false _)
      (journalAnnotateBody_ok (w := entered opJournalAnnotate r i s) hsome hlimit hlen henabled)
  case sealNow =>
    intro r s i h henabled
    exact accepted_ok h (Bool.and_false _) (journalSealNowBody_ok (w := entered opJournalSealNow r i s) henabled)

end Sys2Proof.Proofs

/-! ## Inputs and the sensor supply (R558-R561) -/

namespace Sys2Proof.Proofs

open Sys2Proof Sys2Proof.Machine

section

variable {v : View} {w : W}

theorem discreteInputChangeCore_of_change {n : Nat} {x : Level} {asserted : Bool}
    (hlevel : dinState w.m n x = some asserted) (hsampled : inputSampled w.m n = true)
    (hchange : bit w.m.io.din n ≠ asserted) :
    discreteInputChangeCore n x v w =
      (let y := w.io fun y => { y with din := setFld y.din n 1 (b2n asserted) }
       if powered y.m then inputChanged v w.m y else y) := by
  simp only [discreteInputChangeCore, hlevel, dinTurns, hsampled, beq_eq_false_iff_ne.mpr hchange, Bool.not_true,
    Bool.or_self, Bool.false_eq_true, if_false]

theorem freqEdgeCore_of_accepted {p : Pulse} (hpow : powered w.m = true) (hedge : edgeAccepted w.m p = true) :
    freqEdgeCore p v w = w.io fun x => { x with freq := upd x.freq p.input (addEdge v.now) } := by
  simp only [freqEdgeCore, hpow, hedge, Bool.not_true, Bool.or_self, Bool.false_eq_true, if_false]

theorem analogueInputSampleCore_of_powered {n : Nat} {mv : Int} (hpow : powered w.m = true) :
    analogueInputSampleCore n mv v w = w.io fun x => { x with ain := upd x.ain n (fun l => (mv :: l).take 10) } := by
  simp only [analogueInputSampleCore, hpow, Bool.not_true, Bool.false_eq_true, if_false]

theorem sensorSupplyTripCore_of_on {battery : Bool} {mv : Nat} (hon : sensorOn w.m = true) :
    sensorSupplyTripCore battery mv v w = w.io fun x => { x with
      sensorLimited := true, sensorOffAt := v.now, sensorShort := battery, sensorMv := mv } := by
  simp only [sensorSupplyTripCore, hon, if_true]

theorem sensorSupplyRetryCore_of_due {battery : Bool} {mv : Nat} (hlimited : w.m.io.sensorLimited = true)
    (hwanted : sensorWanted w.m = true) (hdue : w.m.io.sensorOffAt + 1000000000 ≤ v.now) :
    sensorSupplyRetryCore battery mv v w = w.io fun x => { x with
      sensorLimited := false, sensorShort := battery, sensorMv := mv } := by
  simp only [sensorSupplyRetryCore, hlimited, hwanted, hdue, decide_true, Bool.and_self, if_true]

end

/-- Settles O41: each core by the condition under which it acts. -/
theorem inputEventsComplete : Obligations.InputEventsComplete := by
  refine ⟨?change, ?edge, ?sample, ?trip, ?retry⟩
  case change =>
    intro n x asserted s hn hlevel hsampled hchange
    exact run_eq_after (decide_eq_true hn) (discreteInputChangeCore_of_change hlevel hsampled hchange)
  case edge =>
    intro p s hp hpow hedge
    exact run_eq_after (decide_eq_true hp) (freqEdgeCore_of_accepted hpow hedge)
  case sample =>
    intro n mv s hn hpow
    exact run_eq_after (decide_eq_true hn) (analogueInputSampleCore_of_powered hpow)
  case trip =>
    intro battery mv s hmv hon
    exact run_eq_after (decide_eq_true hmv) (sensorSupplyTripCore_of_on hon)
  case retry =>
    intro battery mv s hmv hlimited hwanted hdue
    exact run_eq_after (decide_eq_true hmv) (sensorSupplyRetryCore_of_due hlimited hwanted hdue)

end Sys2Proof.Proofs

/-! ## Supply, temperature and power (R476-R491) -/

namespace Sys2Proof.Proofs

open Sys2Proof Sys2Proof.Machine

section

variable {v : View} {w : W}

/-! ### Supply ranges and warnings (R476, R480) -/

/-- Whether the module forwards does not depend on what the supply monitor measures. -/
theorem powered_supply (w : W) (f : Supply → Supply) : powered (w.supply f).m = powered w.m := rfl

section

variable {mv : Nat} (hvalid : 6500 < mv)

include hvalid

theorem supplyValidCore_of_off {deep : Bool} {ticks : Nat} (hstate : w.m.mod.state = .off) :
    supplyValidCore deep mv ticks v w = supplyReset v (if deep then 0 else 1) mv false w := by
  simp only [supplyValidCore, if_neg (Nat.not_le.mpr hvalid), hstate]

variable {ticks : Nat} (hstate : w.m.mod.state = .sleep)

include hstate

theorem supplyValidCore_of_deepLoss : supplyValidCore true mv ticks v w = supplyReset v 0 mv true w := by
  simp only [supplyValidCore, if_neg (Nat.not_le.mpr hvalid), hstate, if_true]

theorem supplyValidCore_of_dip (hdip : w.m.supply.sleepDip = true) :
    supplyValidCore false mv ticks v w =
      latchSources v [{ code := 9 }] ticks ((noteVbat mv w).supply fun x => { x with range := rangeAt mv }) := by
  simp only [supplyValidCore, if_neg (Nat.not_le.mpr hvalid), hstate, hdip, Bool.false_eq_true, if_false, if_true]

end

theorem brownOutCore_of_asleep (hstate : w.m.mod.state = .sleep) :
    brownOutCore v w = w.supply fun x => { x with sleepDip := true } := by
  simp only [brownOutCore, hstate]

section

variable (hon : w.m.mod.state ≠ .off) (hawake : w.m.mod.state ≠ .sleep)

include hon hawake

/-- The range is recorded and reported; the low range begins, or FOOTPATH may end. -/
theorem supplyRangeChangeCore_of_change {range : Nat} {x : VbatSamples}
    (hchange : rangeChanges w.m w.m.supply.range range x = true) :
    supplyRangeChangeCore range x v w =
      (let y := (noteSamples x (chargeLow v w)).supply fun y => { y with range := range }
       let y := followInhibit v (y.event v 0x1101 (if range == 0 then 0 else 1)
         (u8 w.m.supply.range ++ u8 range ++ zeros 2 ++ u32 x.mean))
       let y := if range == 3 then y.count C.supply_ov_entries else y
       leaveFootpath v (if range == 1 then enterLow v y else y)) := by
  simp only [supplyRangeChangeCore, hchange, beq_eq_false_iff_ne.mpr hon, beq_eq_false_iff_ne.mpr hawake,
    Bool.not_true, Bool.or_self, Bool.false_eq_true, if_false]

theorem vbatWarningCore_of_awake {mv : Nat} :
    vbatWarningCore mv v w =
      (let y := useTwin v P.supply_vbat_warn_high 0 0 (useTwin v P.supply_vbat_warn_low 0 0 (noteVbat mv w))
       let lo := prm y.m P.supply_vbat_warn_low
       let hi := prm y.m P.supply_vbat_warn_high
       let hyst := prm y.m P.supply_vbat_warn_hysteresis
       let x := y.m.supply
       let low := if x.warnLow then decide (mv < lo + hyst) else decide (mv < lo)
       let high := if x.warnHigh then decide (hi < mv + hyst) else decide (hi < mv)
       let y := y.supply fun y => { y with warnLow := low, warnHigh := high }
       let y := if low == x.warnLow then y else vbatWarn v 0 mv low y
       if high == x.warnHigh then y else vbatWarn v 1 mv high y) := by
  rw [vbatWarningCore, beq_eq_false_iff_ne.mpr hon, beq_eq_false_iff_ne.mpr hawake]
  exact if_neg Bool.false_ne_true

theorem brownOutCore_of_awake : brownOutCore v w = powerDown v false w := by
  unfold brownOutCore
  split
  · exact absurd ‹_› hon
  · exact absurd ‹_› hawake
  · rfl

theorem groundLossCore_of_high {offset : Int}
    (hhigh : ((prm w.m P.supply_ground_loss_threshold : Nat) : Int) < offset) :
    groundLossCore offset v w = powerDown v true (w.supply fun x => { x with groundOffset := offset }) := by
  unfold groundLossCore
  dsimp only [Laws.supply_mod]
  split
  · exact absurd ‹_› hon
  · exact absurd ‹_› hawake
  · exact if_neg (Int.not_le.mpr hhigh)

theorem dieOvertempCore_of_hot {temp : Int} (hnew : w.m.mod.heldHot = false) (hhot : 150000 ≤ temp) :
    dieOvertempCore temp v w =
      faultData v 4 0 ((w.supply fun x => { x with dieTemp := temp }).mod fun x => { x with heldHot := true }) := by
  simp only [dieOvertempCore, Laws.supply_mod, hnew, Int.not_lt.mpr hhot, beq_eq_false_iff_ne.mpr hon,
    beq_eq_false_iff_ne.mpr hawake, decide_false, Bool.or_self, Bool.false_eq_true, if_false]

end

/-! ### Temperatures and channel power (R487, R488, R491) -/

section

variable (hpow : powered w.m = true)

include hpow

section

variable {temp : Int} {x : W}
  (hx : useTwin v P.supply_thermal_shed_enable 0 0 (w.supply fun y => { y with dieTemp := temp }) = x)

include hx

theorem thermalShedCore_of_hot (hnew : x.m.supply.shed = false) (hhot : 135000 ≤ temp)
    (henabled : prmB x.m P.supply_thermal_shed_enable = true) :
    thermalShedCore temp v w =
      (dropLinks v ((x.supply fun y => { y with shed := true }).count C.thermal_shed)).event v 0x1105 2
        (u8 1 ++ zeros 3 ++ s32 temp) := by
  simp only [thermalShedCore, powered_supply, hpow, hx, hnew, hhot, henabled, decide_true, Bool.not_true,
    Bool.not_false, Bool.and_self, Bool.false_eq_true, if_false, if_true]

theorem thermalShedCore_of_cool (hshed : x.m.supply.shed = true) (hcool : temp < 125000) :
    thermalShedCore temp v w =
      (x.supply fun y => { y with shed := false }).event v 0x1105 0 (u8 0 ++ zeros 3 ++ s32 temp) := by
  simp only [thermalShedCore, powered_supply, hpow, hx, hshed, hcool, decide_true, Bool.not_true, Bool.false_and,
    Bool.and_self, Bool.false_eq_true, if_false, if_true]

end

theorem basePlateWarningCore_of_hot {temp : Int} {x : W}
    (hx : useTwin v P.supply_base_plate_warning 0 0 (w.supply fun y => { y with basePlate := temp }) = x)
    (hnew : x.m.supply.basePlateWarn = false) (hhot : prmI x.m P.supply_base_plate_warning < temp) :
    basePlateWarningCore temp v w =
      (x.supply fun y => { y with basePlateWarn := true }).event v 0x1106 1 (u8 1 ++ zeros 3 ++ s32 temp) := by
  have hdiffer : (true == false) = false := rfl
  simp only [basePlateWarningCore, powered_supply, hpow, hx, hnew, hhot, decide_true, hdiffer, b2n, Bool.not_true,
    Bool.false_eq_true, if_false, if_true]

variable {mw : Nat} (hvariant : w.m.ident.variantG = false)

include hvariant

theorem channelPowerLimitCore_of_excess (hover : powerLimit w.m < mw) (hnew : w.m.supply.powerOver = false) :
    channelPowerLimitCore mw v w =
      ((w.supply fun x => { x with channelPower := mw, powerOver := true }).count C.channel_power_exceeded).event v
        0x1107 1 (u32 mw ++ u32 (powerLimit w.m)) := by
  simp only [channelPowerLimitCore, hpow, hvariant, hover, hnew, decide_true, Bool.not_true, Bool.not_false,
    Bool.and_self, Bool.or_self, Bool.false_eq_true, if_false, if_true]

theorem channelPowerLimitCore_of_within (hwithin : mw ≤ powerLimit w.m) :
    channelPowerLimitCore mw v w = w.supply fun x => { x with channelPower := mw, powerOver := false } := by
  simp only [channelPowerLimitCore, hpow, hvariant, Nat.not_lt.mpr hwithin, decide_false, Bool.not_true,
    Bool.false_and, Bool.or_self, Bool.false_eq_true, if_false]

end

end

/-- Settles O36: each core by the condition under which it acts. -/
theorem supplyEventsComplete : Obligations.SupplyEventsComplete := by
  refine ⟨?startOff, ?deepLoss, ?dip, ?range, ?vbat, ?brownOut, ?brownOutAsleep, ?ground, ?shed, ?shedEnd, ?overtemp,
    ?basePlate, ?excess, ?within⟩
  case startOff =>
    intro deep mv ticks s hvalid hstate
    exact run_eq_after rfl (supplyValidCore_of_off hvalid hstate)
  case deepLoss =>
    intro mv ticks s hvalid hstate
    exact run_eq_after rfl (supplyValidCore_of_deepLoss hvalid hstate)
  case dip =>
    intro mv ticks s hvalid hstate hdip
    exact run_eq_after rfl (supplyValidCore_of_dip hvalid hstate hdip)
  case range =>
    intro range x s hrange hchange hon hawake
    exact run_eq_after (decide_eq_true hrange) (supplyRangeChangeCore_of_change hon hawake hchange)
  case vbat => exact fun mv s hon hawake => run_eq_after rfl (vbatWarningCore_of_awake hon hawake)
  case brownOut => exact fun s hon hawake => run_eq_after rfl (brownOutCore_of_awake hon hawake)
  case brownOutAsleep => exact fun s hstate => run_eq_after rfl (brownOutCore_of_asleep hstate)
  case ground =>
    intro offset s hon hawake hhigh
    exact run_eq_after rfl (groundLossCore_of_high hon hawake hhigh)
  case shed =>
    intro temp s hpow hnew hhot henabled
    exact run_eq_after rfl (thermalShedCore_of_hot (w := ⟨s.m, []⟩) hpow rfl hnew hhot henabled)
  case shedEnd =>
    intro temp s hpow hshed hcool
    exact run_eq_after rfl (thermalShedCore_of_cool (w := ⟨s.m, []⟩) hpow rfl hshed hcool)
  case overtemp =>
    intro temp s hnew hhot hon hawake
    exact run_eq_after rfl (dieOvertempCore_of_hot hon hawake hnew hhot)
  case basePlate =>
    intro temp s hpow hnew hhot
    exact run_eq_after rfl (basePlateWarningCore_of_hot (w := ⟨s.m, []⟩) hpow rfl hnew hhot)
  case excess =>
    intro mw s hpow hvariant hover hnew
    exact run_eq_after rfl (channelPowerLimitCore_of_excess hpow hvariant hover hnew)
  case within =>
    intro mw s hpow hvariant hwithin
    exact run_eq_after rfl (channelPowerLimitCore_of_within hpow hvariant hwithin)

end Sys2Proof.Proofs

/-! ## Bring-up and restarts (R495, R505-R510, R536, R539) -/

namespace Sys2Proof.Proofs

open Sys2Proof Sys2Proof.Machine

section

variable {v : View} {w : W}

/-! ### BRING_UP (R495, R539) -/

section

variable {b : BringUp} (hstate : w.m.mod.state = .waking) (hcool : w.m.mod.heldHot = false)

include hstate hcool

theorem bringUpCore_of_unreadable (hmram : b.mramOk = false) :
    bringUpCore b v w = enterSafe v 2 0 (bringUpFoot v b w) := by
  simp only [bringUpCore, hstate, hcool, hmram, bne_self_eq_false, Bool.or_self, Bool.not_false, Bool.false_eq_true,
    if_false, if_true]

variable (hmram : b.mramOk = true)

include hmram

theorem bringUpCore_of_badFuses (hfuses : b.fuses % 8 ≠ 7) :
    bringUpCore b v w = enterSafe v 2 1 (bringUpFoot v b w) := by
  simp only [bringUpCore, hstate, hcool, hmram, bne_iff_ne.mpr hfuses, bne_self_eq_false, Bool.or_self,
    Bool.not_true, Bool.false_eq_true, if_false, if_true]

/-- A unit that can be read and did not sleep in SAFE starts its first image, a trial past its bound being over. -/
theorem bringUpCore_of_readable (hfuses : b.fuses % 8 = 7) (hwake : (bringUpFoot v b w).m.mod.safeWake = false) :
    bringUpCore b v w =
      (let x := bringUpFoot v b w
       let x := if x.m.upd.st == 3 && x.m.upd.trialOver then endTrial 3 (atD ((bootOrder x.m).drop 1) 0 2) late x else x
       startImage v b.starts (nextImages x.m) x) := by
  simp only [bringUpCore, hstate, hcool, hmram, hfuses, hwake, bne_self_eq_false, Bool.or_self, Bool.not_true,
    Bool.false_eq_true, if_false]

end

theorem bringUpDeadlineCore_of_due {starts : Bool} {k : Nat} (hbooting : w.m.mod.booting = some k)
    (hdue : w.m.mod.mgmtStart + 500000000 ≤ v.now) :
    bringUpDeadlineCore starts v w =
      (let x := w.mod fun x => { x with booting := none, bootTried := x.bootTried ++ [k], mgmtStart := v.now }
       startImage v starts (nextImages x.m) (late 0x1308 2 (u8 k ++ u8 3 ++ zeros 2) x)) := by
  simp only [bringUpDeadlineCore, hbooting, if_neg (Nat.not_lt.mpr hdue)]

/-! ### What restarts the management processor (R508, R510, R536) -/

theorem mgmtWatchdogExpiryCore_of_due (hfirmware : w.m.mod.firmwareRunning = true)
    (hdue : v.expired (w.m.mod.mgmtStart + prmNs w.m P.module_mgmt_watchdog_timeout) = true) :
    mgmtWatchdogExpiryCore v w = faultRestart v 1 w := by
  simp only [mgmtWatchdogExpiryCore, hfirmware, hdue, Bool.and_self, if_true]

/-- A memory error of the processor in service: counted where it was corrected, a restart where not. -/
theorem mgmtMemoryErrorCore_of_up (hup : mgmtUp w.m = true) (correctable : Bool) (addr : Nat) :
    mgmtMemoryErrorCore correctable addr v w =
      if correctable then w.count C.mgmt_ecc_corrected else faultRestart v 4 (w.event v 0x1404 2 (u32 addr)) := by
  simp only [mgmtMemoryErrorCore, hup, Bool.not_true, Bool.false_eq_true, if_false]

theorem mramTimeoutCore_of_powered (hpow : powered w.m = true) (hstate : w.m.mod.state ≠ .safe) :
    mramTimeoutCore v w = enterSafe v 2 0 w := by
  simp only [mramTimeoutCore, hpow, bne_iff_ne.mpr hstate, Bool.and_self, if_true]

section

variable (hfirmware : w.m.mod.firmwareRunning = false)

include hfirmware

theorem unmanagedLimitCore_of_due (hsince : w.m.mod.unmanagedSince.isSome = true)
    (hdue : v.expired (w.m.mod.restartAt + 120000000) = true) : unmanagedLimitCore v w = faultRestart v 1 w := by
  have hnone : w.m.mod.unmanagedSince.isNone = false := by rw [← Option.not_isSome, hsince]; rfl
  simp only [unmanagedLimitCore, hfirmware, hnone, hdue, Bool.not_true, Bool.or_self, Bool.false_eq_true, if_false]

/-! ### FIRMWARE_RUNNING (R478, R505) -/

/-- In a range that is not low, UNMANAGED ends in RUN. -/
theorem firmwareRunningCore_of_unmanaged {t : Nat} (hstate : w.m.mod.state = .unmanaged)
    (hsince : w.m.mod.unmanagedSince = some t) (hrange : lowRange w.m = false) :
    firmwareRunningCore v w =
      (let x := (w.count C.unmanaged_time 0 ((v.now - t) / 1000)).mod fun x => { x with
         firmwareRunning := true, mgmtStart := v.now }
       activateWanted v (restartDone v (enterRun v x))) := by
  have hrange' (f : Mod → Mod) : lowRange ((w.count C.unmanaged_time 0 ((v.now - t) / 1000)).mod f).m = false := hrange
  simp only [firmwareRunningCore, hfirmware, hstate, chargeUnmanaged, hsince, hrange', Bool.false_eq_true, if_false]

theorem firmwareRunningCore_of_booting {k : Nat} (hstate : w.m.mod.state = .footpath)
    (hbooting : w.m.mod.booting = some k) :
    firmwareRunningCore v w = firmwareUp v (w.mod fun x => { x with runAt := 0 }) := by
  simp only [firmwareRunningCore, hfirmware, hstate, hbooting, Option.isSome_some, Bool.false_eq_true, if_false, if_true]

theorem firmwareRunningCore_of_safe (hstate : w.m.mod.state = .safe) :
    firmwareRunningCore v w = openService v (restartDone v (w.mod fun x => { x with
      firmwareRunning := true, mgmtStart := v.now })) := by
  simp only [firmwareRunningCore, hfirmware, hstate, Bool.false_eq_true, if_false]

end

end

/-- Settles O37: each core by the condition under which it acts; FIRMWARE_RUNNING by the state it finds. -/
theorem restartEventsComplete : Obligations.RestartEventsComplete := by
  refine ⟨?readable, ?unreadable, ?badFuses, ?deadline, fun s => run_eq_after rfl rfl, ?watchdog,
    fun s => run_eq_after rfl rfl, ?corrected, ?uncorrected, ?limit, ?unmanaged, ?booting, ?safe, ?mram⟩
  case readable =>
    intro b s hkeys hstate hcool hmram hfuses hwake
    exact run_eq_after hkeys (bringUpCore_of_readable hstate hcool hmram hfuses hwake)
  case unreadable =>
    intro b s hkeys hstate hcool hmram
    exact run_eq_after hkeys (bringUpCore_of_unreadable hstate hcool hmram)
  case badFuses =>
    intro b s hkeys hstate hcool hmram hfuses
    exact run_eq_after hkeys (bringUpCore_of_badFuses hstate hcool hmram hfuses)
  case deadline =>
    intro starts k s hbooting hdue
    exact run_eq_after rfl (bringUpDeadlineCore_of_due hbooting hdue)
  case watchdog => exact fun s hfirmware hdue => run_eq_after rfl (mgmtWatchdogExpiryCore_of_due hfirmware hdue)
  case corrected => exact fun addr s hup => run_eq_after rfl (mgmtMemoryErrorCore_of_up hup true addr)
  case uncorrected => exact fun addr s hup => run_eq_after rfl (mgmtMemoryErrorCore_of_up hup false addr)
  case limit =>
    intro s hfirmware hsince hdue
    exact run_eq_after rfl (unmanagedLimitCore_of_due hfirmware hsince hdue)
  case unmanaged =>
    intro t s hfirmware hstate hsince hrange
    exact run_eq_after rfl (firmwareRunningCore_of_unmanaged hfirmware hstate hsince hrange)
  case booting =>
    intro k s hfirmware hstate hbooting
    exact run_eq_after rfl (firmwareRunningCore_of_booting hfirmware hstate hbooting)
  case safe =>
    intro s hfirmware hstate
    exact run_eq_after rfl (firmwareRunningCore_of_safe hfirmware hstate)
  case mram => exact fun s hpow hstate => run_eq_after rfl (mramTimeoutCore_of_powered hpow hstate)

end Sys2Proof.Proofs

/-! ## Route books (R523-R527) -/

namespace Sys2Proof.Proofs

open Sys2Proof Sys2Proof.Machine

section

variable {c : Ctx} {p : List Byte} {v : View} {w : W}

section

variable (hlen : 4 ≤ p.length) (hslot : leAt p 0 1 ≤ 1)

include hlen hslot

/-- An operation on one of the two slots comes to its own work. -/
theorem slotOp_of_slot (f : Nat → Body) : slotOp f c p v w = f (leAt p 0 1) c p v w := by
  rw [slotOp, need_of_le hlen]
  exact if_neg (Nat.not_lt.mpr hslot)

theorem routebookVerifyBody_ok {x : W} {cause : Nat} (hcause : bookUsable v (leAt p 0 1) w = (x, cause)) :
    routebookVerifyBody c p v w =
      (x.bookSlot (leAt p 0 1) fun b => { b with st := if cause = 0 then 1 else if b.st = 0 then 0 else 2 },
       .ok (u8 (b2n (cause == 0)) ++ u8 cause ++ zeros 2)) := by
  rw [routebookVerifyBody, slotOp_of_slot hlen hslot]
  simp only [hcause, answer]

/-- A header written whole is read as it stands: none of its bytes are free. -/
theorem routebookHeaderReadBody_ok (hwritten : 128 ≤ (bookSlot w.m (leAt p 0 1)).bytes.length) :
    routebookHeaderReadBody c p v w = (w, .ok ((bookSlot w.m (leAt p 0 1)).bytes.take 128)) := by
  have hwhole : 128 - ((bookSlot w.m (leAt p 0 1)).bytes.take 128).length = 0 := by
    rw [List.length_take, Nat.min_eq_left hwritten]
  rw [routebookHeaderReadBody, slotOp_of_slot hlen hslot]
  simp only [hwhole, if_true, List.append_nil, answer]

section

variable {x : W} (hidle : switching w.m = false) (husable : bookUsable v (leAt p 0 1) w = (x, 0))

include hidle husable

theorem routebookActivateBody_of_free (hfree : busyContexts x.m = false) :
    routebookActivateBody c p v w = ((switchBook v (leAt p 0 1) x).1, .ok (switchBook v (leAt p 0 1) x).2) := by
  rw [routebookActivateBody, slotOp_of_slot hlen hslot]
  simp only [hidle, activateBook, husable, hfree, bne_self_eq_false, Bool.false_eq_true, if_false]

theorem routebookActivateBody_of_busy (hbusy : busyContexts x.m = true) :
    routebookActivateBody c p v w =
      (x.ing fun y => { y with ctxs := y.ctxs.map (fun c => { c with draining := c.draining || c.frame.isSome }) },
       .wait (.book (leAt p 0 1)) []) := by
  rw [routebookActivateBody, slotOp_of_slot hlen hslot]
  simp only [hidle, activateBook, husable, hbusy, bne_self_eq_false, Bool.false_eq_true, if_false, if_true]

end

end

/-- Bytes that continue a slot, or begin it anew, are stored while neither a commit nor a trial protects it. -/
theorem routebookWriteBody_ok {all : List Byte} (hlen : 8 ≤ p.length) (hslot : leAt p 0 1 ≤ 1)
    (hfits : leAt p 4 4 + (p.drop 8).length ≤ slotSize)
    (hat : leAt p 4 4 = 0 ∨ leAt p 4 4 = (bookSlot w.m (leAt p 0 1)).bytes.length)
    (hopen : w.m.upd.committed ≠ some (leAt p 0 1)) (hfree : protected_ w.m (leAt p 0 1) = false)
    (hidle : switching w.m = false)
    (hall : (if leAt p 4 4 = 0 then p.drop 8 else (bookSlot w.m (leAt p 0 1)).bytes ++ p.drop 8) = all) :
    routebookWriteBody c p v w =
      (w.bookSlot (leAt p 0 1) fun _ => { st := if all.isEmpty then 2 else 3, bytes := all }, .ok (u32 all.length)) := by
  have hplace : (leAt p 4 4 != 0 && leAt p 4 4 != (bookSlot w.m (leAt p 0 1)).bytes.length) = false := by
    rcases hat with h | h <;> simp [h]
  rw [routebookWriteBody, need_of_le hlen, slotOp_of_slot (by omega) hslot]
  simp only [if_neg (Nat.not_lt.mpr hfits), hplace, beq_eq_false_iff_ne.mpr hopen, hfree, hidle, hall, Bool.or_self,
    Bool.false_eq_true, if_false, answer]

end

/-- Settles O38: each body's answer for a slot that exists, under what lets the operation through. -/
theorem routebookRequestsAnswer : Obligations.RoutebookRequestsAnswer := by
  refine ⟨?status, ?write, ?verify, ?activate, ?wait, ?header⟩
  case status => exact fun r s i h => accepted_ok h (Bool.and_false _) rfl
  case write =>
    intro r s i h hposted hlen hslot hfits hat hopen hfree hidle
    exact accepted_ok h (unposted hposted _)
      (routebookWriteBody_ok (w := entered opRoutebookWrite r i s) hlen hslot hfits hat hopen hfree hidle rfl)
  case verify =>
    intro w cause r s i h hposted hlen hslot hcause
    exact accepted_ok h (unposted hposted _) (routebookVerifyBody_ok hlen hslot hcause)
  case activate =>
    intro w r s i h hposted hlen hslot hidle husable hfree
    exact accepted_ok h (unposted hposted _) (routebookActivateBody_of_free hlen hslot hidle husable hfree)
  case wait =>
    intro w r s i h hposted hlen hslot hidle husable hbusy
    exact accepted_wait h (unposted hposted _) (routebookActivateBody_of_busy hlen hslot hidle husable hbusy)
  case header =>
    intro r s i h hlen hslot hwritten
    exact accepted_ok h (Bool.and_false _)
      (routebookHeaderReadBody_ok (w := entered opRoutebookHeaderRead r i s) hlen hslot hwritten)

end Sys2Proof.Proofs

/-! ## Firmware updates and their trial (R513-R522) -/

namespace Sys2Proof.Proofs

open Sys2Proof Sys2Proof.Machine

section

variable {c : Ctx} {p : List Byte} {v : View} {w : W}

/-! ### Writing the target bank (R515-R517) -/

theorem updateBeginBody_ok (hlen : 128 ≤ p.length) (hidle : w.m.upd.st = 0) :
    updateBeginBody c p v w =
      ((w.bank (updateTarget w.m) fun _ => {}).update fun u => { u with
        st := 1, target := updateTarget w.m, header := p.take 128, chunks := 0, lastChunk := [] },
       .ok (u8 (updateTarget w.m) ++ zeros 3)) := by
  have hother : ∀ n, n ≠ 0 → (w.m.upd.st == n) = false := fun n hn => beq_eq_false_iff_ne.mpr (hidle ▸ hn.symm)
  rw [updateBeginBody, need_of_le hlen]
  simp only [hother 1 (by decide), hother 2 (by decide), hother 3 (by decide), Bool.or_self, Bool.false_eq_true,
    if_false, answer]

/-- A chunk that continues the image, of a delta against the running image or of literals only, is appended. -/
theorem updateChunkBody_ok {recs : List DeltaRec} {bs : List Byte} (hlen : 40 ≤ p.length)
    (hrecs : deltaRecords p.length (p.drop 40) = .ok recs) (hst : w.m.upd.st = 1)
    (hbase : slice p 8 32 = targetHash (runningBank w.m).header
      ∨ slice p 8 32 = zeros 32 ∧ recs.all (fun r => !r.isCopy) = true)
    (hnew : w.m.upd.chunks = 0 ∨ p ≠ w.m.upd.lastChunk) (hindex : leAt p 0 4 = w.m.upd.chunks)
    (hoff : leAt p 4 4 = (bankAt w.m w.m.upd.target).image.length)
    (hbytes : applyDelta (runningBank w.m).image recs = some bs)
    (hfits : (bankAt w.m w.m.upd.target).image.length + bs.length ≤ min (headerSize w.m.upd.header) 25165696) :
    updateChunkBody c p v w =
      (((w.bank w.m.upd.target fun b => { b with image := b.image ++ bs }).update fun u => { u with
        chunks := u.chunks + 1, lastChunk := p }).count C.update_chunks,
       .ok (u32 ((bankAt w.m w.m.upd.target).image.length + bs.length))) := by
  have hhash : (slice p 8 32 != targetHash (runningBank w.m).header
      && !(slice p 8 32 == zeros 32 && recs.all (fun r => !r.isCopy))) = false := by
    rcases hbase with h | ⟨h, hall⟩
    · simp only [h, bne_self_eq_false, Bool.false_and]
    · simp only [h, hall, beq_self_eq_true, Bool.and_self, Bool.not_true, Bool.and_false]
  have hfresh : (w.m.upd.chunks != 0 && p == w.m.upd.lastChunk) = false := by
    rcases hnew with h | h <;> simp [h]
  rw [updateChunkBody, need_of_le hlen]
  simp only [hrecs, hst, hhash, hfresh, hindex, hoff, hbytes, if_neg (Nat.not_lt.mpr hfits), bne_self_eq_false,
    Bool.or_self, Bool.false_eq_true, if_false, answer]

theorem updateFinishBody_ok (hst : w.m.upd.st = 1)
    (hsize : (bankAt w.m w.m.upd.target).image.length = headerSize w.m.upd.header)
    (hheader : headerOk w.m w.m.upd.header = true)
    (hhash : sha (bankAt w.m w.m.upd.target).image = targetHash w.m.upd.header)
    (hfuse : w.m.ident.fuseVersion ≤ headerSecurity w.m.upd.header) :
    updateFinishBody c p v w =
      (((w.bank w.m.upd.target fun b => { b with st := 1, header := w.m.upd.header }).update fun u => { u with
        st := 2 }).event v 0x1301 0 (u32 (headerVersion w.m.upd.header) ++ u16 (headerSecurity w.m.upd.header)
          ++ u16 (headerCompat w.m.upd.header)), .ok []) := by
  simp only [updateFinishBody, hst, hsize, hheader, hhash, if_neg (Nat.not_lt.mpr hfuse), bne_self_eq_false,
    Bool.not_true, Bool.or_self, Bool.false_eq_true, if_false, answer]

/-! ### The trial (R518-R522) -/

/-- An image that reads the active route book and keeps the data plane's layout is tried by a management restart. -/
theorem updateActivateBody_of_compatible {x : W} (hlen : 4 ≤ p.length) (hmode : leAt p 0 1 ≤ 1) (hst : w.m.upd.st = 2)
    (hx : x = useTwin v P.update_allow_dp_reset 0 0 (useTwin v P.update_update_enable 0 0 w))
    (hfits : activeFits x.m w.m.upd.header = true) (henabled : prmB x.m P.update_update_enable = true)
    (hcompat : headerCompat w.m.upd.header = w.m.upd.dpCompat) :
    updateActivateBody c p v w = (afterReply 3 (beginTrial v false none x), .ok []) := by
  rw [updateActivateBody, need_of_le hlen]
  simp only [if_neg (Nat.not_lt.mpr hmode), hst, ← hx, hfits, henabled, hcompat, bne_self_eq_false, Bool.not_true,
    Bool.false_and, Bool.or_self, Bool.false_eq_true, if_false, if_true, answer]

theorem updateConfirmBody_ok (hst : w.m.upd.st = 3) (hself : w.m.upd.selfConfirmed = true) :
    updateConfirmBody c p v w =
      (confirmTrial v (useTwin v P.update_fuse_advance 0 0 w),
       .ok (u16 (confirmedFuse (useTwin v P.update_fuse_advance 0 0 w)) ++ zeros 2)) := by
  simp only [updateConfirmBody, hst, hself, bne_self_eq_false, Bool.not_true, Bool.or_self, Bool.false_eq_true,
    if_false, answer]

/-- The event that ends the trial touches neither the update nor the fuses. -/
theorem confirmTrial_result (v : View) (w : W) :
    (confirmTrial v w).m.upd.confirmed = w.m.upd.target ∧ (confirmTrial v w).m.upd.st = 0 ∧
      (confirmTrial v w).m.ident.fuseVersion = confirmedFuse w := by
  unfold confirmTrial
  dsimp only
  refine ⟨?confirmed, ?st, ?fuse⟩
  case confirmed => rw [(event_same ..).upd]; rfl
  case st => rw [(event_same ..).upd]; rfl
  case fuse => exact congrArg (fun m : Module => m.ident.fuseVersion) (event_same ..)

theorem updateAbortBody_ok (hst : w.m.upd.st = 1 ∨ w.m.upd.st = 2) :
    updateAbortBody c p v w =
      ((w.bank w.m.upd.target fun b => { b with st := 2 }).update fun u => { u with st := 0, result := 5 }, .ok []) := by
  have hunder : (w.m.upd.st != 1 && w.m.upd.st != 2) = false := by
    rcases hst with h | h <;> simp [h]
  simp only [updateAbortBody, hunder, Bool.false_eq_true, if_false, answer]

theorem selfConfirmCore_of_due {t : Nat} (hsince : w.m.upd.runSince = some t) (hst : w.m.upd.st = 3)
    (hbank : w.m.mod.bootBank = w.m.upd.target) (hstate : w.m.mod.state = .run)
    (hfirmware : w.m.mod.firmwareRunning = true)
    (hdue : v.expired (t + prmNs w.m P.update_self_confirm_time) = true) :
    selfConfirmCore v w = w.update fun u => { u with selfConfirmed := true } := by
  simp only [selfConfirmCore, hsince, hst, hbank, hstate, hfirmware, hdue, bne_self_eq_false, Bool.not_true,
    Bool.or_self, Bool.false_eq_true, if_false]

theorem trialWindowExpiryCore_of_over {x : W} (hx : x = accrueTrial v w) (hst : x.m.upd.st = 3)
    (hpow : powered x.m = true) (hsafe : x.m.mod.state ≠ .safe) (hover : prmNs x.m P.update_trial_window ≤ x.m.upd.trialNs) :
    trialWindowExpiryCore v w = fallback v 2 x := by
  simp only [trialWindowExpiryCore, ← hx, hst, hpow, beq_eq_false_iff_ne.mpr hsafe, Nat.not_lt.mpr hover, decide_false,
    bne_self_eq_false, Bool.not_true, Bool.or_self, Bool.false_eq_true, if_false]

end

/-- Settles O39: each body's answer in the state of the update that it asks for, and the two timers when they are due. -/
theorem updateCommandsComplete : Obligations.UpdateCommandsComplete := by
  refine ⟨?status, ?begin, ?chunk, ?finish, ?activate, ?confirm, confirmTrial_result, ?abort, ?selfConfirm, ?window⟩
  case status => exact fun r s i h => accepted_ok h (Bool.and_false _) rfl
  case begin =>
    intro r s i h hlen hidle
    exact accepted_ok h (Bool.and_false _) (updateBeginBody_ok (w := entered opUpdateBegin r i s) hlen hidle)
  case chunk =>
    intro recs bs r s i h hposted hlen hrecs hst hbase hnew hindex hoff hbytes hfits
    exact accepted_ok h (unposted hposted _) (updateChunkBody_ok (w := entered opUpdateChunk r i s) hlen hrecs hst hbase
      hnew hindex hoff hbytes hfits)
  case finish =>
    intro r s i h hposted hst hsize hheader hhash hfuse
    exact accepted_ok h (unposted hposted _)
      (updateFinishBody_ok (w := entered opUpdateFinish r i s) hst hsize hheader hhash hfuse)
  case activate =>
    intro w r s i h hposted hlen hmode hst hw hfits henabled hcompat
    exact accepted_then h (unposted hposted _) (updateActivateBody_of_compatible
      (w := entered opUpdateActivate r i s) hlen hmode hst hw hfits henabled hcompat)
  case confirm =>
    intro r s i h hst hself
    exact accepted_ok h (Bool.and_false _) (updateConfirmBody_ok (w := entered opUpdateConfirm r i s) hst hself)
  case abort =>
    intro r s i h hst
    exact accepted_ok h (Bool.and_false _) (updateAbortBody_ok (w := entered opUpdateAbort r i s) hst)
  case selfConfirm =>
    intro t s hsince hst hbank hstate hfirmware hdue
    exact run_eq_after rfl (selfConfirmCore_of_due hsince hst hbank hstate hfirmware hdue)
  case window =>
    intro w s hw hst hpow hsafe hover
    exact run_eq_next rfl (trialWindowExpiryCore_of_over hw hst hpow hsafe hover)

end Sys2Proof.Proofs

/-! ## Counters and tests (R530-R535, R545, R546) -/

namespace Sys2Proof.Proofs

open Sys2Proof Sys2Proof.Machine

section

variable {c : Ctx} {p : List Byte} {v : View} {w : W}

theorem counterReadBody_ok (hlen : 4 ≤ p.length) (hids : counterLengthOk p = true) :
    counterReadBody c p v w =
      (snapFragments (w.base v) (counterIds p) (bridgeRead w),
       .ok (counterHead (w.base v) (counterIds p).length ++ (counterIds p).flatMap (counterEntry (w.base v)))) := by
  rw [counterReadBody, need_of_le hlen]
  simp only [hids, Bool.not_true, Bool.false_eq_true, if_false, answer]

/-- IDs that all pass their check are cleared together, and the clear is reported. -/
theorem counterClearBody_ok {x : W} {b : List Byte} (hlen : 4 ≤ p.length) (hids : counterLengthOk p = true)
    (hpass : firstIndex (fun id => (clearStatus id).isSome) (counterIds p) = none)
    (hclear : clearAll v (counterIds p) w = (x, b)) :
    counterClearBody c p v w =
      (x.event v 0x1405 0 (u32 c.sid ++ u16 (counterIds p).length ++ zeros 2 ++ u32 (atD (counterIds p) 0 0)),
       .ok (counterHead (w.base v) (counterIds p).length ++ b)) := by
  rw [counterClearBody, need_of_le hlen]
  simp only [hids, hpass, hclear, Bool.not_true, Bool.false_eq_true, if_false, answer]

theorem counterDescribeBody_ok {x : CRef} (hlen : 4 ≤ p.length)
    (hrow : counterRef (leAt p 0 4 / 16777216) (leAt p 0 4 / 65536 % 256) = some x) :
    counterDescribeBody c p v w =
      (w, .ok (u32 (x.id 0) ++ u8 x.scope ++ u8 (b2n x.mram) ++ u16 x.count ++ ascii 32 x.name)) := by
  rw [counterDescribeBody, need_of_le hlen]
  simp only [hrow, answer]

theorem testFullResetBody_ok (hlen : 8 ≤ p.length) (hmine : leAt p 0 8 = w.m.ident.uniqueId)
    (henabled : prmB w.m P.module_full_reset_enable = true) :
    testFullResetBody c p v w = (afterReply 2 w, .ok []) := by
  rw [testFullResetBody, need_of_le hlen]
  simp only [hmine, henabled, bne_self_eq_false, Bool.not_true, Bool.false_eq_true, if_false, answer]

theorem testSafeExitBody_ok (hstate : w.m.mod.state = .safe) (hmode : prm w.m P.module_safe_exit_mode ≠ 0) :
    testSafeExitBody c p v w = (afterReply 2 w, .ok []) := by
  simp only [testSafeExitBody, hstate, beq_eq_false_iff_ne.mpr hmode, bne_self_eq_false, Bool.or_self,
    Bool.false_eq_true, if_false, answer]

/-- A kind that is not pending is armed on a valid target, counted and reported. -/
theorem testInjectBody_ok (hlen : 8 ≤ p.length) (htarget : injectStatus w.m (leAt p 0 1) (leAt p 4 4) = none)
    (hstate : w.m.mod.state = .run) (hspeed : speedAllows w.m = true)
    (hfree : bit (pendingKinds w.m v.now) (leAt p 0 1) = false) :
    testInjectBody c p v w =
      ((((inject v (leAt p 0 1) (leAt p 4 4) w).mod fun x => { x with injected := x.injected + 1 }).count
        C.test_injections (leAt p 0 1)).event v 0x1406 1
          (u8 (leAt p 0 1) ++ zeros 3 ++ u32 (leAt p 4 4) ++ u32 c.sid), .ok []) := by
  rw [testInjectBody, need_of_le hlen]
  simp only [htarget, hstate, hspeed, hfree, bne_self_eq_false, Bool.not_true, Bool.or_self, Bool.false_eq_true,
    if_false, answer]

end

/-- Settles O40: each body's answer; a restart or a reset follows its reply, and so does what an armed fault asks for. -/
theorem counterAndTestRequestsAnswer : Obligations.CounterAndTestRequestsAnswer := by
  refine ⟨?read, ?clear, ?describe, ?status, ?restart, ?fullReset, ?safeExit, ?inject⟩
  case read =>
    intro r s i h hlen hids
    exact accepted_ok h (Bool.and_false _) (counterReadBody_ok hlen hids)
  case clear =>
    intro w b r s i h hlen hids hpass hclear
    exact accepted_ok h (Bool.and_false _) (counterClearBody_ok hlen hids hpass hclear)
  case describe =>
    intro x r s i h hlen hrow
    exact accepted_ok h (Bool.and_false _) (counterDescribeBody_ok hlen hrow)
  case status => exact fun r s i h => accepted_ok h (Bool.and_false _) rfl
  case restart => exact fun r s i h => accepted_then h (Bool.and_false _) rfl
  case fullReset =>
    intro r s i h hlen hmine henabled
    exact accepted_then h (Bool.and_false _)
      (testFullResetBody_ok (w := entered opTestFullReset r i s) hlen hmine henabled)
  case safeExit =>
    intro r s i h hstate hmode
    exact accepted_then h (Bool.and_false _) (testSafeExitBody_ok (w := entered opTestSafeExit r i s) hstate hmode)
  case inject =>
    intro r s i h hlen htarget hstate hspeed hfree
    have hbody := testInjectBody_ok (c := asked r i s) (v := s.base) (w := entered opTestInject r i s) hlen htarget
      hstate hspeed hfree
    have hreq := request_ok h (Bool.and_false _) hbody
    show run true (fun v w => useFaultOut v (requestThen opTestInject r testInjectBody v w)) s = _
    simp only [run, if_true, requestThen, hreq]

end Sys2Proof.Proofs
